-- ==== Sys2Proof/Word.lean ====
section
/-! DEFINITION. The word types of the device: a register word (32 bits) and a byte. -/

namespace Sys2Proof

/-- A 32-bit register word. -/
abbrev Word := BitVec 32

/-- One byte of a packet, a tile or a memory. -/
abbrev Byte := BitVec 8

/-- A string of bytes, lowest address first. -/
abbrev Bytes := List Byte

end Sys2Proof
end

