-- ==== Sys2Proof/Config.lean ====
section
/-! DEFINITION. What an implementation fixes and the values the specification leaves open. An open
value is an `opaque` constant without a body: no proof can see it (notes/assumptions lists each). -/

namespace Sys2Proof.Config

/-- A fresh value the specification does not state, as bits; the state's `free` counter picks the
draw. -/
opaque freeBits (w : Nat) : Nat → BitVec w

/-- A fresh byte string of a length, for a value the specification does not state (a nonce, a
signature). -/
opaque freeBytes : Nat → Nat → List Byte

/-- What a frame of the SDI word stream holds (R158), from its bytes and the byte ranges missing: the format its payload ID and
raster give, the picture in pixel groups, the ancillary packets in ST 2110-40 form, the embedded audio by channel, and whether the
payload ID is missing. The serial interface's standards lie outside the text. -/
opaque sdiDecode : List Byte → List (Nat × Nat) → BitVec 8 × List Byte × List (List Byte) × List (Nat × List (BitVec 32)) × Bool

/-- The byte ranges of a picture that byte ranges missing from its SDI word stream leave out (R115, R158); not stated. -/
opaque sdiLost : Nat → List (Nat × Nat) → List (Nat × Nat)

/-- The DRAM bank within its channel that holds a tile (R213); the text does not give the mapping. -/
opaque tileBank : Nat → BitVec 4

/-- The DRAM row that holds a tile (R213); the text does not give the mapping. -/
opaque tileRow : Nat → BitVec 19

/-- IPv4 type of service of the frames firmware's templates send (R148); not stated. -/
opaque ipTos : Byte

/-- IPv4 time to live of the frames firmware's templates send (R148); not stated. -/
opaque ipTtl : Byte

/-- 802.1Q priority of tagged frames (R148); not stated. -/
opaque vlanPcp : BitVec 3

/-- The Ethernet destination of a unicast IPv4 address (R148); not stated. -/
opaque unicastMac : Nat → BitVec 48

/-- The vertical scaler's result for a phase in 1/64 and its 4 taps (R330); the coefficient tables are fixed in the
device and not stated. -/
opaque scaleV : Nat → List Nat → BitVec 12

/-- The horizontal scaler's result for the averaging exponent, a phase in 1/64 and its 8 taps of averaged pixels
(R331); the coefficient tables are not stated. -/
opaque scaleH : Nat → Nat → List (List Nat) → BitVec 12

/-- A chroma sample between two of 4:2:2 in the internal 4:4:4 form (R329); the interpolation is not stated. -/
opaque chromaUp : Nat → Nat → BitVec 12

/-- YCbCr at narrow range, 12 bits a component, of R, G and B (R339): BT.2020 or BT.709, full or narrow range, the
component's bits. The matrices are the standards' and their rounding is not stated. -/
opaque rgbToYcc : Bool → Bool → Nat → Nat → Nat → Nat → BitVec 36

/-- R, G and B at 12 bits of a YCbCr pixel (R339), for an output sampled as RGB. -/
opaque yccToRgb : Bool → Nat → Nat → Nat → BitVec 36

/-- The colour of a vertical bar of a test pattern (R317): pattern, bar 0 to 7 and sampling give three components of 12
bits in the order the pixel group stores them; the text names the bars without their levels. -/
opaque barColour : Nat → Nat → Nat → BitVec 36

/-- Entry of the scaler's coefficient tables (R331): table, phase, tap. -/
opaque scalerCoef : Nat → Nat → Nat → BitVec 16

/-- A sample of an equal-power crossfade (R283, R371): length, samples done, former and new source sample; the curve's
rounding is not stated. -/
opaque crossfade : Nat → Nat → BitVec 32 → BitVec 32 → BitVec 32

/-- Parameter bytes, state bytes and code bytes of a vendor library module by slot, inputs and outputs; not stated. -/
opaque libSize : Nat → Nat → Nat → Nat × Nat × Nat

/-- The key engine's HMAC key for slot tags, derived from the fused device secret (R555). -/
opaque tagKey : List Byte

/-- The public half of the device identity key, x then y, 48 bytes each (R563). -/
opaque devicePub : Nat → Byte

/-- DEVICE_ID (R563): its 16 bytes. -/
opaque deviceId : Nat → Byte

/-- The certificate of the device identity key, in vendor OTP (R563). -/
opaque certificate : List Byte

/-- SHA-384 measurement of the boot ROM (R566). -/
opaque romDigest : Nat → Byte

/-- SHA-384 measurement of firmware image A (0) or B (1) (R566). -/
opaque fwDigest : Nat → Nat → Byte

/-- SHA-384 measurement of a vendor library image by slot (R566). -/
opaque libDigest : Nat → Nat → Byte

/-- The firmware version IDENT reports, by image; not stated. -/
opaque fwVersion : Nat → BitVec 32

/-- Option bytes 36 to 63 of the factory defaults: the vendor's FLASH values (R533); not stated. -/
opaque flashDefault : Nat → Byte

/-- The VDD_CORE setpoint the vendor trims hold for the die, in mV above 700 (R599); within 0.70 to 0.80 V. -/
opaque vddTrim : Fin 101

/-- Whether an ancillary packet cannot stand at a line, horizontal offset and width in words of a format: it collides with the
payload ID, with embedded audio or with generated timecode, or does not fit its line (R305). The interface standards that place
those words lie outside the specification. -/
opaque ancBlocked : Nat → Bool → Nat × Nat × Nat → Bool

/-- A readback entry whose layout is not stated (R495, R499): object class and the numbers it shows. -/
opaque readEntry : Nat → List Nat → List Byte

end Sys2Proof.Config
end

