-- ==== Sys2Proof/Machine/RegMap.lean ====
section
/-! DEFINITION. The register map: one `Fld` per named register field (chapters 00 to 22, section
"Registers" of each) and one `RegRow` per register word, with access code (R7), reset value, legal
values (R6) and reset domain (R592 or the register's own table). -/

namespace Sys2Proof.Machine

/-- A register field: the register-space offset of instance (0, 0) (R575), the two instance strides,
and the bit range. -/
structure Fld where
  off : Nat
  st1 : Nat
  st2 : Nat
  hi : Nat
  lo : Nat
  deriving DecidableEq, Repr

/-- Access codes of R7. `cnt` is a W1C count of which writing 1 to any bit clears all. -/
inductive Acc where
  | ro | rw | w1c | w1s | wo | rws | cnt
  deriving DecidableEq, Repr

/-- Reset domains (R11): backup, always-on, control, data plane, host. -/
inductive Dom where
  | b | a | c | p | h
  deriving DecidableEq, Repr

/-- One field of a register word: bits, access, reset value and, for a field whose encoding leaves
values undefined, the legal ranges (empty: every value is legal; R6). -/
structure FieldRow where
  hi : Nat
  lo : Nat
  acc : Acc
  rst : Nat
  legal : List (Nat × Nat)
  deriving DecidableEq, Repr

/-- One register word: offset of instance (0, 0), strides and counts, domain, whether its own chapter
makes it writable in Melt only (R589), and its fields. Bits no field names are reserved (R5). -/
structure RegRow where
  off : Nat
  st1 : Nat
  n1 : Nat
  st2 : Nat
  n2 : Nat
  dom : Dom
  meltOnly : Bool
  fields : List FieldRow
  deriving DecidableEq, Repr

/-- The format codes of R64. -/
def legalFormats : List (Nat × Nat) := [(0x10, 0x17), (0x20, 0x29), (0x30, 0x32), (0x40, 0x41)]

/-- The format codes of R64, or 0 for none. -/
def legalFormats0 : List (Nat × Nat) := (0, 0) :: legalFormats

namespace F

def SYS_DEVID_PART : Fld := ⟨0x0, 0x0, 0x0, 31, 16⟩
def SYS_DEVID_FAMILY : Fld := ⟨0x0, 0x0, 0x0, 15, 12⟩
def SYS_DEVID_REV_MAJOR : Fld := ⟨0x0, 0x0, 0x0, 11, 8⟩
def SYS_DEVID_REV_MINOR : Fld := ⟨0x0, 0x0, 0x0, 7, 4⟩
def SYS_MODE_LAST_CAUSE : Fld := ⟨0x8, 0x0, 0x0, 23, 20⟩
def SYS_MODE_MELT_READY : Fld := ⟨0x8, 0x0, 0x0, 19, 19⟩
def SYS_MODE_ROLE : Fld := ⟨0x8, 0x0, 0x0, 17, 16⟩
def SYS_MODE_TRANS_PEND : Fld := ⟨0x8, 0x0, 0x0, 11, 11⟩
def SYS_MODE_TARGET : Fld := ⟨0x8, 0x0, 0x0, 10, 8⟩
def SYS_MODE_MODE : Fld := ⟨0x8, 0x0, 0x0, 2, 0⟩
def SYS_RESUME_VALID : Fld := ⟨0x50, 0x0, 0x0, 31, 31⟩
def SYS_RESUME_NONE : Fld := ⟨0x50, 0x0, 0x0, 30, 30⟩
def SYS_RESUME_FIRST_TILE : Fld := ⟨0x50, 0x0, 0x0, 24, 0⟩
def SYS_RESUME_LEN_TILES : Fld := ⟨0x54, 0x0, 0x0, 31, 0⟩
def SYS_CAST_SRC : Fld := ⟨0x20, 0x0, 0x0, 31, 31⟩
def SYS_CAST_LAST_LEN : Fld := ⟨0x20, 0x0, 0x0, 16, 0⟩
def SYS_EPOCH_LO_EPOCH : Fld := ⟨0x10, 0x0, 0x0, 31, 0⟩
def SYS_EPOCH_HI_EPOCH : Fld := ⟨0x14, 0x0, 0x0, 31, 0⟩
def SYS_MODE_EPOCH_LO_MODE_EPOCH : Fld := ⟨0x18, 0x0, 0x0, 31, 0⟩
def SYS_MODE_EPOCH_HI_MODE_EPOCH : Fld := ⟨0x1C, 0x0, 0x0, 31, 0⟩
def TIM_TICK_LO_TICK : Fld := ⟨0x500000, 0x0, 0x0, 31, 0⟩
def TIM_TICK_HI_TICK : Fld := ⟨0x500004, 0x0, 0x0, 31, 0⟩
def TIM_STEP_THR_THR : Fld := ⟨0x500040, 0x0, 0x0, 29, 0⟩
def TIM_STEP_PEND_LO_PEND : Fld := ⟨0x500048, 0x0, 0x0, 31, 0⟩
def TIM_STEP_PEND_HI_PEND : Fld := ⟨0x50004C, 0x0, 0x0, 31, 0⟩
def TIM_STATUS_SERVO : Fld := ⟨0x500050, 0x0, 0x0, 11, 8⟩
def TIM_STATUS_STEP_PEND : Fld := ⟨0x500050, 0x0, 0x0, 4, 4⟩
def TIM_STATUS_TICK_BACKUP : Fld := ⟨0x500050, 0x0, 0x0, 3, 3⟩
def TIM_STATUS_TXQ_OVF_ANY : Fld := ⟨0x500050, 0x0, 0x0, 2, 2⟩
def TIM_STATUS_STEP_REFUSED : Fld := ⟨0x500050, 0x0, 0x0, 1, 1⟩
def TIM_STATUS_TIME_VALID : Fld := ⟨0x500050, 0x0, 0x0, 0, 0⟩
def TIM_TXQ_OVF_OVF : Fld := ⟨0x500060, 0x0, 0x0, 31, 0⟩
def TIM_TXQ_VALID : Fld := ⟨0x501000, 0x20, 0x0, 31, 31⟩
def TIM_TXQ_ID : Fld := ⟨0x501000, 0x20, 0x0, 15, 0⟩
def TIM_TXQ_NS : Fld := ⟨0x501004, 0x20, 0x0, 31, 0⟩
def TIM_TXQ_SEC_LO : Fld := ⟨0x501008, 0x20, 0x0, 31, 0⟩
def TIM_TXQ_SEC_HI : Fld := ⟨0x50100C, 0x20, 0x0, 15, 0⟩
def TIM_TXQ_DEPTH : Fld := ⟨0x501010, 0x20, 0x0, 6, 0⟩
def TIM_TXQ_DROP_CNT : Fld := ⟨0x501014, 0x20, 0x0, 15, 0⟩
def REF_RAS_CFG_EN : Fld := ⟨0x680000, 0x100, 0x0, 31, 31⟩
def REF_RAS_CFG_FORMAT : Fld := ⟨0x680000, 0x100, 0x0, 23, 16⟩
def REF_RAS_OFS_OFS : Fld := ⟨0x680004, 0x100, 0x0, 23, 0⟩
def REF_RAS_STAT_FORMAT_ACTIVE : Fld := ⟨0x680008, 0x100, 0x0, 23, 16⟩
def REF_RAS_STAT_WAIT_TIME : Fld := ⟨0x680008, 0x100, 0x0, 2, 2⟩
def REF_RAS_STAT_ALIGNED : Fld := ⟨0x680008, 0x100, 0x0, 1, 1⟩
def REF_RAS_STAT_RUN : Fld := ⟨0x680008, 0x100, 0x0, 0, 0⟩
def REF_RAS_POS_LINE : Fld := ⟨0x680010, 0x100, 0x0, 31, 16⟩
def REF_RAS_POS_SLOT : Fld := ⟨0x680010, 0x100, 0x0, 7, 0⟩
def REF_RAS_POS_FRAME : Fld := ⟨0x680014, 0x100, 0x0, 31, 0⟩
def REF_RAS_POS_LINE_TICK_W2 : Fld := ⟨0x680018, 0x100, 0x0, 31, 0⟩
def REF_RAS_POS_LINE_TICK_W3 : Fld := ⟨0x68001C, 0x100, 0x0, 31, 0⟩
def REF_IN_CFG_EN : Fld := ⟨0x600000, 0x40, 0x0, 31, 31⟩
def REF_IN_CFG_KIND : Fld := ⟨0x600000, 0x40, 0x0, 25, 24⟩
def REF_IN_CFG_WIN : Fld := ⟨0x600000, 0x40, 0x0, 23, 16⟩
def REF_IN_CFG_QUAL : Fld := ⟨0x600000, 0x40, 0x0, 15, 8⟩
def REF_IN_CFG_TRI_FMT : Fld := ⟨0x600000, 0x40, 0x0, 7, 0⟩
def REF_IN_STAT_FREQ : Fld := ⟨0x600004, 0x40, 0x0, 31, 16⟩
def REF_IN_STAT_OUTLIER : Fld := ⟨0x600004, 0x40, 0x0, 15, 8⟩
def REF_IN_STAT_DISQ_SEEN : Fld := ⟨0x600004, 0x40, 0x0, 7, 7⟩
def REF_IN_STAT_LOS_SEEN : Fld := ⟨0x600004, 0x40, 0x0, 6, 6⟩
def REF_IN_STAT_PRESENT : Fld := ⟨0x600004, 0x40, 0x0, 2, 2⟩
def REF_IN_STAT_IN_WIN : Fld := ⟨0x600004, 0x40, 0x0, 1, 1⟩
def REF_IN_STAT_QUALIFIED : Fld := ⟨0x600004, 0x40, 0x0, 0, 0⟩
def REF_DPLL_CFG_REVERTIVE : Fld := ⟨0x640000, 0x200, 0x0, 31, 31⟩
def REF_DPLL_CFG_BW : Fld := ⟨0x640000, 0x200, 0x0, 30, 28⟩
def REF_DPLL_CFG_ABS : Fld := ⟨0x640000, 0x200, 0x0, 27, 25⟩
def REF_DPLL_CFG_FORCE_EN : Fld := ⟨0x640000, 0x200, 0x0, 24, 24⟩
def REF_DPLL_CFG_FORCE_IN : Fld := ⟨0x640000, 0x200, 0x0, 23, 20⟩
def REF_DPLL_CFG_PEER_THR : Fld := ⟨0x640000, 0x200, 0x0, 19, 12⟩
def REF_DPLL_CFG_WTR : Fld := ⟨0x640000, 0x200, 0x0, 11, 0⟩
def REF_DPLL_HO_HO_TOL : Fld := ⟨0x640004, 0x200, 0x0, 23, 16⟩
def REF_DPLL_HO_HO_AVG : Fld := ⟨0x640004, 0x200, 0x0, 15, 0⟩
def REF_DPLL_CAND_EN : Fld := ⟨0x640010, 0x200, 0x4, 31, 31⟩
def REF_DPLL_CAND_FAMILY_BAD : Fld := ⟨0x640010, 0x200, 0x4, 30, 30⟩
def REF_DPLL_CAND_RANK : Fld := ⟨0x640010, 0x200, 0x4, 3, 0⟩
def REF_DPLL_STAT_CUR_IN : Fld := ⟨0x640080, 0x200, 0x0, 11, 8⟩
def REF_DPLL_STAT_STATE : Fld := ⟨0x640080, 0x200, 0x0, 3, 0⟩
def REF_DPLL_STAT_ABS_REM : Fld := ⟨0x640084, 0x200, 0x0, 31, 0⟩
def REF_DPLL_STAT_HO_FREQ : Fld := ⟨0x640088, 0x200, 0x0, 31, 0⟩
def REF_OSC_OSC_FAIL : Fld := ⟨0x670000, 0x0, 0x0, 9, 9⟩
def REF_OSC_OSC_OK : Fld := ⟨0x670000, 0x0, 0x0, 8, 8⟩
def REF_OSC_OSC : Fld := ⟨0x670000, 0x0, 0x0, 1, 0⟩
def HLN_LANE_CFG_EN : Fld := ⟨0x700000, 0x40, 0x0, 31, 31⟩
def HLN_LANE_CFG_USE : Fld := ⟨0x700000, 0x40, 0x0, 30, 28⟩
def HLN_LANE_CFG_RATE : Fld := ⟨0x700000, 0x40, 0x0, 27, 26⟩
def HLN_LANE_CFG_OWNER : Fld := ⟨0x700000, 0x40, 0x0, 25, 21⟩
def HLN_LANE_CFG_POS : Fld := ⟨0x700000, 0x40, 0x0, 20, 17⟩
def HLN_LANE_CFG_SPARE : Fld := ⟨0x700000, 0x40, 0x0, 16, 16⟩
def HLN_LANE_CFG_TX_INV : Fld := ⟨0x700000, 0x40, 0x0, 15, 15⟩
def HLN_LANE_CFG_RX_INV : Fld := ⟨0x700000, 0x40, 0x0, 14, 14⟩
def HLN_LANE_STAT_H_MARGIN : Fld := ⟨0x700004, 0x40, 0x0, 31, 24⟩
def HLN_LANE_STAT_V_MARGIN : Fld := ⟨0x700004, 0x40, 0x0, 23, 16⟩
def HLN_LANE_STAT_MARGIN_LOW : Fld := ⟨0x700004, 0x40, 0x0, 7, 7⟩
def HLN_LANE_STAT_FAIL_SEEN : Fld := ⟨0x700004, 0x40, 0x0, 6, 6⟩
def HLN_LANE_STAT_TX_TRAINED : Fld := ⟨0x700004, 0x40, 0x0, 4, 4⟩
def HLN_LANE_STAT_TX_IDLE : Fld := ⟨0x700004, 0x40, 0x0, 3, 3⟩
def HLN_LANE_STAT_DESKEWED : Fld := ⟨0x700004, 0x40, 0x0, 2, 2⟩
def HLN_LANE_STAT_BLOCK_LOCK : Fld := ⟨0x700004, 0x40, 0x0, 1, 1⟩
def HLN_LANE_STAT_CDR_LOCK : Fld := ⟨0x700004, 0x40, 0x0, 0, 0⟩
def HLN_FEC_CNT_CORR : Fld := ⟨0x700008, 0x40, 0x0, 31, 0⟩
def HLN_FEC_CNT_UNCORR : Fld := ⟨0x70000C, 0x40, 0x0, 31, 0⟩
def HLN_MARGIN_CFG_H_THR : Fld := ⟨0x2300000, 0x0, 0x0, 31, 24⟩
def HLN_MARGIN_CFG_V_THR : Fld := ⟨0x2300000, 0x0, 0x0, 23, 16⟩
def HLN_MARGIN_CFG_HYST : Fld := ⟨0x2300000, 0x0, 0x0, 15, 12⟩
def HLN_MARGIN_CFG_CONSEC : Fld := ⟨0x2300000, 0x0, 0x0, 11, 8⟩
def HLN_MARGIN_CFG_PERIOD : Fld := ⟨0x2300000, 0x0, 0x0, 7, 0⟩
def SLN_LANE_CFG_RX_EN : Fld := ⟨0x800000, 0x40, 0x0, 31, 31⟩
def SLN_LANE_CFG_TX_EN : Fld := ⟨0x800000, 0x40, 0x0, 30, 30⟩
def SLN_LANE_CFG_USE : Fld := ⟨0x800000, 0x40, 0x0, 29, 28⟩
def SLN_LANE_CFG_RX_RATE : Fld := ⟨0x800000, 0x40, 0x0, 27, 24⟩
def SLN_LANE_CFG_TX_RATE : Fld := ⟨0x800000, 0x40, 0x0, 23, 20⟩
def SLN_LANE_CFG_MGMT_PORT : Fld := ⟨0x800000, 0x40, 0x0, 19, 19⟩
def SLN_LANE_STAT_DET_RATE : Fld := ⟨0x800004, 0x40, 0x0, 31, 28⟩
def SLN_LANE_STAT_TX_TRAINED : Fld := ⟨0x800004, 0x40, 0x0, 4, 4⟩
def SLN_LANE_STAT_RATE_CHG : Fld := ⟨0x800004, 0x40, 0x0, 3, 3⟩
def SLN_LANE_STAT_LOS_SEEN : Fld := ⟨0x800004, 0x40, 0x0, 2, 2⟩
def SLN_LANE_STAT_TRS_LOCK : Fld := ⟨0x800004, 0x40, 0x0, 1, 1⟩
def SLN_LANE_STAT_CDR_LOCK : Fld := ⟨0x800004, 0x40, 0x0, 0, 0⟩
def SPR_LINK_CFG_EN : Fld := ⟨0x900000, 0x10000, 0x0, 31, 31⟩
def SPR_LINK_CFG_TYPE : Fld := ⟨0x900000, 0x10000, 0x0, 30, 30⟩
def SPR_LINK_CFG_LANES : Fld := ⟨0x900000, 0x10000, 0x0, 27, 23⟩
def SPR_LINK_CFG_REVERT : Fld := ⟨0x900000, 0x10000, 0x0, 22, 22⟩
def SPR_LINK_CFG_WTR : Fld := ⟨0x900000, 0x10000, 0x0, 21, 12⟩
def SPR_LINK_CFG_LINK_ID : Fld := ⟨0x900000, 0x10000, 0x0, 7, 0⟩
def SPR_LINK_STAT_UP : Fld := ⟨0x900004, 0x10000, 0x0, 31, 31⟩
def SPR_LINK_STAT_DEGRADED : Fld := ⟨0x900004, 0x10000, 0x0, 30, 30⟩
def SPR_LINK_STAT_SPARE_BAD : Fld := ⟨0x900004, 0x10000, 0x0, 29, 29⟩
def SPR_LINK_STAT_RX_SEL : Fld := ⟨0x900004, 0x10000, 0x0, 28, 24⟩
def SPR_LINK_STAT_TX_BRIDGE : Fld := ⟨0x900004, 0x10000, 0x0, 23, 19⟩
def SPR_LINK_STAT_FAR_STBY : Fld := ⟨0x900004, 0x10000, 0x0, 18, 18⟩
def SPR_LINK_STAT_FAR_QUENCH : Fld := ⟨0x900004, 0x10000, 0x0, 17, 17⟩
def SPR_LINK_STAT_ID_MISMATCH : Fld := ⟨0x900004, 0x10000, 0x0, 16, 16⟩
def SPR_LINK_STAT_SKEW_NS : Fld := ⟨0x900004, 0x10000, 0x0, 15, 0⟩
def SPR_AKS_DROP_DROP : Fld := ⟨0x900008, 0x10000, 0x0, 31, 0⟩
def MAC_LINK_STAT_VERIFY : Fld := ⟨0xA00010, 0x4000, 0x0, 7, 6⟩
def MAC_LINK_STAT_MERGE_ACTIVE : Fld := ⟨0xA00010, 0x4000, 0x0, 5, 5⟩
def MAC_LINK_STAT_LINK_DOWN_SEEN : Fld := ⟨0xA00010, 0x4000, 0x0, 4, 4⟩
def MAC_LINK_STAT_TX_IDLE : Fld := ⟨0xA00010, 0x4000, 0x0, 3, 3⟩
def MAC_LINK_STAT_LINK_UP : Fld := ⟨0xA00010, 0x4000, 0x0, 0, 0⟩
def MAC_GATE_CFG_EN : Fld := ⟨0xA00100, 0x4000, 0x0, 31, 31⟩
def MAC_GATE_CFG_DEFAULT_OPEN : Fld := ⟨0xA00100, 0x4000, 0x0, 30, 30⟩
def MAC_GATE_CFG_DOMAIN : Fld := ⟨0xA00100, 0x4000, 0x0, 29, 28⟩
def MAC_TBL_USE_FILTER_USED : Fld := ⟨0xA80000, 0x0, 0x0, 31, 16⟩
def MAC_TBL_USE_TPL_USED : Fld := ⟨0xA80000, 0x0, 0x0, 15, 0⟩
def LAD_UNIT_STAT_IN_SERVICE : Fld := ⟨0xB00000, 0x100, 0x0, 31, 31⟩
def LAD_UNIT_STAT_SPARE : Fld := ⟨0xB00000, 0x100, 0x0, 30, 30⟩
def LAD_UNIT_STAT_SHADOW : Fld := ⟨0xB00000, 0x100, 0x0, 29, 29⟩
def LAD_UNIT_STAT_VIDEO_FLOWS : Fld := ⟨0xB00000, 0x100, 0x0, 23, 16⟩
def LAD_UNIT_STAT_ANC_FLOWS : Fld := ⟨0xB00000, 0x100, 0x0, 15, 8⟩
def LAD_UNIT_STAT_AUDIO_STREAMS : Fld := ⟨0xB00000, 0x100, 0x0, 7, 0⟩
def LAD_UNIT_LOAD_WRITE_RATE : Fld := ⟨0xB00004, 0x100, 0x0, 31, 16⟩
def LAD_UNIT_LOAD_INTAKE : Fld := ⟨0xB00004, 0x100, 0x0, 15, 0⟩
def LAD_FLOW_CFG_EN : Fld := ⟨0xB40000, 0x20, 0x0, 31, 31⟩
def LAD_FLOW_CFG_COPE_EN : Fld := ⟨0xB40000, 0x20, 0x0, 30, 30⟩
def LAD_FLOW_CFG_DRAG_EN : Fld := ⟨0xB40000, 0x20, 0x0, 29, 29⟩
def LAD_FLOW_CFG_RXTYPE : Fld := ⟨0xB40000, 0x20, 0x0, 28, 27⟩
def LAD_FLOW_CFG_DOMAIN : Fld := ⟨0xB40000, 0x20, 0x0, 26, 25⟩
def LAD_FLOW_CFG_DEPTH : Fld := ⟨0xB40000, 0x20, 0x0, 23, 16⟩
def LAD_FLOW_CFG_LADLE : Fld := ⟨0xB40000, 0x20, 0x0, 6, 0⟩
def LAD_FLOW_CFG_MERGE_HOLD : Fld := ⟨0xB40004, 0x20, 0x0, 31, 16⟩
def LAD_FLOW_CFG_SYNC_MARGIN : Fld := ⟨0xB40004, 0x20, 0x0, 15, 8⟩
def LAD_FLOW_CFG_LOSS_FRAMES : Fld := ⟨0xB40004, 0x20, 0x0, 4, 0⟩
def LAD_FLOW_CFG_RING_TILES : Fld := ⟨0xB40008, 0x20, 0x0, 24, 0⟩
def LAD_FLOW_CFG_SRC : Fld := ⟨0xB4000C, 0x20, 0x0, 31, 28⟩
def LAD_FLOW_CFG_LINK : Fld := ⟨0xB4000C, 0x20, 0x0, 27, 24⟩
def LAD_FLOW_CFG_PORT : Fld := ⟨0xB4000C, 0x20, 0x0, 23, 12⟩
def LAD_FLOW_CFG_ANC_FLOW : Fld := ⟨0xB40010, 0x20, 0x0, 31, 16⟩
def LAD_FLOW_CFG_ANC_TPF : Fld := ⟨0xB40010, 0x20, 0x0, 3, 0⟩
def LAD_FLOW_STAT_ADOPTED : Fld := ⟨0xB60000, 0x20, 0x0, 31, 31⟩
def LAD_FLOW_STAT_LOSS : Fld := ⟨0xB60000, 0x20, 0x0, 30, 30⟩
def LAD_FLOW_STAT_FMT_MISMATCH : Fld := ⟨0xB60000, 0x20, 0x0, 29, 29⟩
def LAD_FLOW_STAT_RELOCK : Fld := ⟨0xB60000, 0x20, 0x0, 28, 28⟩
def LAD_FLOW_STAT_COPE_UP : Fld := ⟨0xB60000, 0x20, 0x0, 27, 27⟩
def LAD_FLOW_STAT_DRAG_UP : Fld := ⟨0xB60000, 0x20, 0x0, 26, 26⟩
def LAD_FLOW_STAT_LOSS_SEEN : Fld := ⟨0xB60000, 0x20, 0x0, 23, 23⟩
def LAD_FLOW_STAT_FMT_SEEN : Fld := ⟨0xB60000, 0x20, 0x0, 22, 22⟩
def LAD_FLOW_STAT_SKEW_OVER : Fld := ⟨0xB60000, 0x20, 0x0, 21, 21⟩
def LAD_FLOW_STAT_CLASH_SEEN : Fld := ⟨0xB60000, 0x20, 0x0, 20, 20⟩
def LAD_FLOW_STAT_AVAIL : Fld := ⟨0xB60000, 0x20, 0x0, 7, 0⟩
def LAD_FLOW_STAT_BASE_FRAME : Fld := ⟨0xB60004, 0x20, 0x0, 31, 0⟩
def LAD_FLOW_STAT_SKEW : Fld := ⟨0xB60008, 0x20, 0x0, 31, 16⟩
def LAD_FLOW_CNT_FRAMES_ADOPTED : Fld := ⟨0xB80000, 0x40, 0x0, 31, 0⟩
def LAD_FLOW_CNT_REPEATS : Fld := ⟨0xB80004, 0x40, 0x0, 31, 0⟩
def LAD_FLOW_CNT_DROPS : Fld := ⟨0xB80008, 0x40, 0x0, 31, 0⟩
def LAD_FLOW_CNT_TILES_LOST : Fld := ⟨0xB8000C, 0x40, 0x0, 31, 0⟩
def LAD_FLOW_CNT_PKT_COPE : Fld := ⟨0xB80010, 0x40, 0x0, 31, 0⟩
def LAD_FLOW_CNT_PKT_DRAG : Fld := ⟨0xB80014, 0x40, 0x0, 31, 0⟩
def LAD_FLOW_CNT_PKT_DUP : Fld := ⟨0xB80018, 0x40, 0x0, 31, 0⟩
def LAD_FLOW_CNT_PKT_LATE : Fld := ⟨0xB8001C, 0x40, 0x0, 31, 0⟩
def LAD_FLOW_CNT_PKT_BAD : Fld := ⟨0xB80020, 0x40, 0x0, 31, 0⟩
def LAD_FLOW_CNT_RING_CLASH : Fld := ⟨0xB80024, 0x40, 0x0, 31, 0⟩
def LAD_FLOW_CNT_ANC_OVF : Fld := ⟨0xB80028, 0x40, 0x0, 31, 0⟩
def POOL_CFG_SCRUB_PERIOD : Fld := ⟨0xC00000, 0x0, 0x0, 21, 12⟩
def POOL_CFG_RIDDLE_EN : Fld := ⟨0xC00000, 0x0, 0x0, 1, 1⟩
def POOL_CFG_RETIRE_EN : Fld := ⟨0xC00000, 0x0, 0x0, 0, 0⟩
def POOL_STAT_PPR_OVF : Fld := ⟨0xC00004, 0x0, 0x0, 4, 4⟩
def POOL_STAT_INIT_DONE : Fld := ⟨0xC00004, 0x0, 0x0, 3, 3⟩
def POOL_STAT_RESERVE_LOW : Fld := ⟨0xC00004, 0x0, 0x0, 2, 2⟩
def POOL_STAT_MAP_BAD_ANY : Fld := ⟨0xC00004, 0x0, 0x0, 1, 1⟩
def POOL_STAT_SUSPECT_OVF : Fld := ⟨0xC00004, 0x0, 0x0, 0, 0⟩
def POOL_FREE_FREE_TILES : Fld := ⟨0xC00010, 0x0, 0x0, 24, 0⟩
def POOL_FREE_LARGEST : Fld := ⟨0xC00014, 0x0, 0x0, 24, 0⟩
def POOL_FREE_EXTENTS_USED : Fld := ⟨0xC00018, 0x0, 0x0, 31, 16⟩
def POOL_FREE_FREE_EXTENTS : Fld := ⟨0xC00018, 0x0, 0x0, 15, 0⟩
def POOL_FREE_REMAPS_USED : Fld := ⟨0xC0001C, 0x0, 0x0, 31, 16⟩
def POOL_FREE_RESERVE_MIN : Fld := ⟨0xC0001C, 0x0, 0x0, 15, 0⟩
def POOL_CH_CNT_CRC_FAIL : Fld := ⟨0xC10000, 0x40, 0x0, 31, 0⟩
def POOL_CH_CNT_ECC_CORR : Fld := ⟨0xC10004, 0x40, 0x0, 31, 0⟩
def POOL_CH_CNT_RETRY_OK : Fld := ⟨0xC10008, 0x40, 0x0, 31, 0⟩
def POOL_CH_CNT_LATE_DISC : Fld := ⟨0xC1000C, 0x40, 0x0, 31, 0⟩
def POOL_CH_CNT_FLOW_MISM : Fld := ⟨0xC10010, 0x40, 0x0, 31, 0⟩
def POOL_CH_CNT_RETIRED : Fld := ⟨0xC10014, 0x40, 0x0, 31, 0⟩
def POOL_CH_CNT_TAG_PEAK_PAT : Fld := ⟨0xC10018, 0x40, 0x0, 31, 24⟩
def POOL_CH_CNT_TAG_PEAK_REC : Fld := ⟨0xC10018, 0x40, 0x0, 23, 16⟩
def POOL_CH_CNT_RESERVE_FREE : Fld := ⟨0xC10018, 0x40, 0x0, 15, 0⟩
def POOL_RIDDLE_POSITION : Fld := ⟨0xC00040, 0x0, 0x0, 24, 0⟩
def POOL_RIDDLE_PASS_DONE_EPOCH_W1 : Fld := ⟨0xC00044, 0x0, 0x0, 31, 0⟩
def POOL_RIDDLE_PASS_DONE_EPOCH_W2 : Fld := ⟨0xC00048, 0x0, 0x0, 31, 0⟩
def POOL_PPR_Q_VALID : Fld := ⟨0xC20000, 0x8, 0x0, 31, 31⟩
def POOL_PPR_Q_NO_SPARE : Fld := ⟨0xC20000, 0x8, 0x0, 30, 30⟩
def POOL_PPR_Q_CHANNEL : Fld := ⟨0xC20000, 0x8, 0x0, 29, 23⟩
def POOL_PPR_Q_BANK : Fld := ⟨0xC20000, 0x8, 0x0, 22, 19⟩
def POOL_PPR_Q_ROW : Fld := ⟨0xC20000, 0x8, 0x0, 18, 0⟩
def POOL_PPR_Q_TILE : Fld := ⟨0xC20004, 0x8, 0x0, 24, 0⟩
def POOL_WIN_CFG_EN : Fld := ⟨0xC30000, 0x20, 0x0, 31, 31⟩
def POOL_WIN_CFG_RING : Fld := ⟨0xC30000, 0x20, 0x0, 30, 30⟩
def POOL_WIN_CFG_AUTO_TRAILER : Fld := ⟨0xC30000, 0x20, 0x0, 29, 29⟩
def POOL_WIN_CFG_SIZE : Fld := ⟨0xC30000, 0x20, 0x0, 21, 16⟩
def POOL_WIN_CFG_FLOW : Fld := ⟨0xC30000, 0x20, 0x0, 15, 0⟩
def POOL_WIN_CFG_OFFSET : Fld := ⟨0xC30004, 0x20, 0x0, 31, 0⟩
def POOL_WIN_CFG_BASE : Fld := ⟨0xC30008, 0x20, 0x0, 24, 0⟩
def POOL_WIN_CFG_CRC_BAD : Fld := ⟨0xC3000C, 0x20, 0x0, 1, 1⟩
def POOL_WIN_CFG_WR_REFUSED : Fld := ⟨0xC3000C, 0x20, 0x0, 0, 0⟩
def POOL_WIN_CFG_ERR_TILE : Fld := ⟨0xC30010, 0x20, 0x0, 24, 0⟩
def POOL_WIN_CFG_WR_REFUSED_CNT : Fld := ⟨0xC30014, 0x20, 0x0, 31, 0⟩
def POOL_WIN_CFG_FLUSH : Fld := ⟨0xC30018, 0x20, 0x0, 25, 25⟩
def POOL_WIN_CFG_FLUSH_POS : Fld := ⟨0xC30018, 0x20, 0x0, 24, 0⟩
def PAT_DOM_CFG_TAG_SHARE : Fld := ⟨0xD00000, 0x100, 0x0, 30, 24⟩
def PAT_DOM_CFG_BW_SHARE : Fld := ⟨0xD00000, 0x100, 0x0, 22, 16⟩
def PAT_DOM_CFG_SLIP_THR : Fld := ⟨0xD00000, 0x100, 0x0, 15, 8⟩
def PAT_DOM_CFG_SLIP_WIN : Fld := ⟨0xD00000, 0x100, 0x0, 7, 0⟩
def PAT_BANK_ACTIVE : Fld := ⟨0xD00004, 0x100, 0x0, 31, 31⟩
def PAT_BANK_FLIP_PEND : Fld := ⟨0xD00004, 0x100, 0x0, 30, 30⟩
def PAT_BANK_COPY_BUSY : Fld := ⟨0xD00004, 0x100, 0x0, 29, 29⟩
def PAT_BANK_FMT_IDLE : Fld := ⟨0xD00004, 0x100, 0x0, 28, 28⟩
def PAT_BANK_RUNNING : Fld := ⟨0xD00004, 0x100, 0x0, 27, 27⟩
def PAT_BANK_FMT_B : Fld := ⟨0xD00004, 0x100, 0x0, 15, 8⟩
def PAT_BANK_FMT_A : Fld := ⟨0xD00004, 0x100, 0x0, 7, 0⟩
def PAT_FLIP_EPOCH_LO_FLIP_EPOCH : Fld := ⟨0xD00008, 0x100, 0x0, 31, 0⟩
def PAT_FLIP_EPOCH_HI_FLIP_EPOCH : Fld := ⟨0xD0000C, 0x100, 0x0, 31, 0⟩
def PAT_FLIP_FRAME_FRAME : Fld := ⟨0xD00010, 0x100, 0x0, 31, 0⟩
def PAT_SLIP_CNT_READ : Fld := ⟨0xD00020, 0x100, 0x0, 31, 0⟩
def PAT_SLIP_CNT_WRITE : Fld := ⟨0xD00024, 0x100, 0x0, 31, 0⟩
def PAT_SLIP_CNT_IN_WIN : Fld := ⟨0xD00028, 0x100, 0x0, 7, 0⟩
def PAT_USE_ENT_A : Fld := ⟨0xD00030, 0x100, 0x0, 30, 16⟩
def PAT_USE_ENT_B : Fld := ⟨0xD00030, 0x100, 0x0, 14, 0⟩
def PAT_USE_RUNS_A : Fld := ⟨0xD00034, 0x100, 0x0, 28, 16⟩
def PAT_USE_RUNS_B : Fld := ⟨0xD00034, 0x100, 0x0, 12, 0⟩
def PAT_USE_TAG_ADM : Fld := ⟨0xD00038, 0x100, 0x0, 30, 24⟩
def PAT_USE_BW_ADM : Fld := ⟨0xD00038, 0x100, 0x0, 15, 0⟩
def PAT_STAT_GUARD_ERR : Fld := ⟨0xD10000, 0x0, 0x0, 31, 16⟩
def PAT_STAT_WR_ACTIVE : Fld := ⟨0xD10000, 0x0, 0x0, 1, 1⟩
def PAT_STAT_GUARD_SEEN : Fld := ⟨0xD10000, 0x0, 0x0, 0, 0⟩
def PAT_SCHED_STAT_FULL_SEEN : Fld := ⟨0xD10010, 0x0, 0x0, 31, 31⟩
def PAT_SCHED_STAT_PENDING : Fld := ⟨0xD10010, 0x0, 0x0, 12, 0⟩
def PAT_ROUTE_SRC : Fld := ⟨0xD20000, 0x10, 0x0, 31, 16⟩
def PAT_ROUTE_DELAY : Fld := ⟨0xD20000, 0x10, 0x0, 15, 8⟩
def PAT_ROUTE_AFV : Fld := ⟨0xD20000, 0x10, 0x0, 7, 7⟩
def PAT_ROUTE_ANC_FOLLOW : Fld := ⟨0xD20000, 0x10, 0x0, 6, 6⟩
def PAT_ROUTE_SHORT : Fld := ⟨0xD20000, 0x10, 0x0, 5, 5⟩
def PAT_ROUTE_SHORT_SEEN : Fld := ⟨0xD20000, 0x10, 0x0, 4, 4⟩
def PAT_ROUTE_SRC_PEND : Fld := ⟨0xD20004, 0x10, 0x0, 31, 16⟩
def PAT_ROUTE_DELAY_PEND : Fld := ⟨0xD20004, 0x10, 0x0, 15, 8⟩
def PAT_ROUTE_AFV_PEND : Fld := ⟨0xD20004, 0x10, 0x0, 7, 7⟩
def PAT_ROUTE_ANC_PEND : Fld := ⟨0xD20004, 0x10, 0x0, 6, 6⟩
def PAT_ROUTE_PEND : Fld := ⟨0xD20004, 0x10, 0x0, 0, 0⟩
def PAT_ROUTE_CHG_EPOCH_W2 : Fld := ⟨0xD20008, 0x10, 0x0, 31, 0⟩
def PAT_ROUTE_CHG_EPOCH_W3 : Fld := ⟨0xD2000C, 0x10, 0x0, 31, 0⟩
def CMD_MACRO_VALID : Fld := ⟨0x480000, 0x10, 0x0, 31, 31⟩
def CMD_MACRO_ARMED : Fld := ⟨0x480000, 0x10, 0x0, 30, 30⟩
def CMD_MACRO_EDGE : Fld := ⟨0x480000, 0x10, 0x0, 29, 28⟩
def CMD_MACRO_PIN : Fld := ⟨0x480000, 0x10, 0x0, 27, 22⟩
def CMD_MACRO_LEN : Fld := ⟨0x480000, 0x10, 0x0, 12, 0⟩
def CMD_MACRO_FIRE_CNT : Fld := ⟨0x480004, 0x10, 0x0, 31, 0⟩
def CMD_MACRO_LAST_STATUS : Fld := ⟨0x480008, 0x10, 0x0, 31, 16⟩
def CMD_MACRO_STAT_QUEUE_DROP : Fld := ⟨0x481000, 0x0, 0x0, 31, 16⟩
def CMD_MACRO_STAT_QUEUED : Fld := ⟨0x481000, 0x0, 0x0, 6, 0⟩
def SHK_UNIT_STAT_IN_SERVICE : Fld := ⟨0xE00000, 0x100, 0x0, 31, 31⟩
def SHK_UNIT_STAT_SPARE : Fld := ⟨0xE00000, 0x100, 0x0, 30, 30⟩
def SHK_UNIT_STAT_SHADOW : Fld := ⟨0xE00000, 0x100, 0x0, 29, 29⟩
def SHK_UNIT_STAT_VIDEO_FLOWS : Fld := ⟨0xE00000, 0x100, 0x0, 23, 16⟩
def SHK_UNIT_STAT_ANC_FLOWS : Fld := ⟨0xE00000, 0x100, 0x0, 15, 8⟩
def SHK_UNIT_STAT_AUDIO_STREAMS : Fld := ⟨0xE00000, 0x100, 0x0, 7, 0⟩
def SHK_UNIT_LOAD_READ_RATE : Fld := ⟨0xE00004, 0x100, 0x0, 31, 16⟩
def SHK_UNIT_LOAD_BUF_USED : Fld := ⟨0xE00004, 0x100, 0x0, 15, 0⟩
def SHK_FLOW_CFG_EN : Fld := ⟨0xE40000, 0x20, 0x0, 31, 31⟩
def SHK_FLOW_CFG_KIND : Fld := ⟨0xE40000, 0x20, 0x0, 30, 28⟩
def SHK_FLOW_CFG_PACING : Fld := ⟨0xE40000, 0x20, 0x0, 27, 27⟩
def SHK_FLOW_CFG_DOMAIN : Fld := ⟨0xE40000, 0x20, 0x0, 26, 25⟩
def SHK_FLOW_CFG_DUAL : Fld := ⟨0xE40000, 0x20, 0x0, 24, 24⟩
def SHK_FLOW_CFG_LOSS_ACT : Fld := ⟨0xE40000, 0x20, 0x0, 23, 22⟩
def SHK_FLOW_CFG_TC_MODE : Fld := ⟨0xE40000, 0x20, 0x0, 21, 20⟩
def SHK_FLOW_CFG_TEST_TX : Fld := ⟨0xE40000, 0x20, 0x0, 19, 19⟩
def SHK_FLOW_CFG_HOLD_DRIVE : Fld := ⟨0xE40000, 0x20, 0x0, 18, 18⟩
def SHK_FLOW_CFG_TRO_EN : Fld := ⟨0xE40000, 0x20, 0x0, 17, 17⟩
def SHK_FLOW_CFG_SHAKEOUT : Fld := ⟨0xE40000, 0x20, 0x0, 6, 0⟩
def SHK_FLOW_CFG_LOSS_HOLD : Fld := ⟨0xE40004, 0x20, 0x0, 31, 24⟩
def SHK_FLOW_CFG_TC_OFS : Fld := ⟨0xE40004, 0x20, 0x0, 23, 0⟩
def SHK_FLOW_CFG_TRO : Fld := ⟨0xE40008, 0x20, 0x0, 25, 0⟩
def SHK_FLOW_CFG_TS_OFS : Fld := ⟨0xE4000C, 0x20, 0x0, 31, 0⟩
def SHK_FLOW_CFG_LINK : Fld := ⟨0xE40010, 0x20, 0x0, 31, 28⟩
def SHK_FLOW_CFG_PORT : Fld := ⟨0xE40010, 0x20, 0x0, 27, 16⟩
def SHK_FLOW_STAT_SENDING : Fld := ⟨0xE60000, 0x10, 0x0, 31, 31⟩
def SHK_FLOW_STAT_FILL : Fld := ⟨0xE60000, 0x10, 0x0, 30, 30⟩
def SHK_FLOW_STAT_SRC_LOSS : Fld := ⟨0xE60000, 0x10, 0x0, 29, 29⟩
def SHK_FLOW_STAT_TEST_SEEN : Fld := ⟨0xE60000, 0x10, 0x0, 28, 28⟩
def SHK_FLOW_STAT_OUT_FRAME : Fld := ⟨0xE60004, 0x10, 0x0, 31, 0⟩
def SHK_FLOW_STAT_RTP_TS : Fld := ⟨0xE60008, 0x10, 0x0, 31, 0⟩
def SHK_FLOW_CNT_FRAMES_SENT : Fld := ⟨0xE80000, 0x40, 0x0, 31, 0⟩
def SHK_FLOW_CNT_FILL_FRAMES : Fld := ⟨0xE80004, 0x40, 0x0, 31, 0⟩
def SHK_FLOW_CNT_CONCEAL_TILES : Fld := ⟨0xE80008, 0x40, 0x0, 31, 0⟩
def SHK_FLOW_CNT_ANC_OUT_DROP : Fld := ⟨0xE8000C, 0x40, 0x0, 31, 0⟩
def SHK_FLOW_CNT_SEQ_RESYNC : Fld := ⟨0xE80010, 0x40, 0x0, 31, 0⟩
def SHK_FLOW_CNT_SHADOW_MISM : Fld := ⟨0xE80014, 0x40, 0x0, 31, 0⟩
def CHM_PIPE_CFG_EN : Fld := ⟨0xF00000, 0x100, 0x0, 31, 31⟩
def CHM_PIPE_CFG_ORDER : Fld := ⟨0xF00000, 0x100, 0x0, 30, 30⟩
def CHM_PIPE_CFG_COLOUR : Fld := ⟨0xF00000, 0x100, 0x0, 29, 29⟩
def CHM_PIPE_CFG_DOMAIN : Fld := ⟨0xF00000, 0x100, 0x0, 28, 27⟩
def CHM_PIPE_CFG_FENCE_WAIT : Fld := ⟨0xF00000, 0x100, 0x0, 23, 20⟩
def CHM_PIPE_CFG_OUT_FLOW : Fld := ⟨0xF00000, 0x100, 0x0, 15, 0⟩
def CHM_PIPE_CFG_BG_Y : Fld := ⟨0xF00004, 0x100, 0x0, 29, 20⟩
def CHM_PIPE_CFG_BG_CB : Fld := ⟨0xF00004, 0x100, 0x0, 19, 10⟩
def CHM_PIPE_CFG_BG_CR : Fld := ⟨0xF00004, 0x100, 0x0, 9, 0⟩
def CHM_PIPE_STAT_IN_SERVICE : Fld := ⟨0xF00010, 0x100, 0x0, 31, 31⟩
def CHM_PIPE_STAT_SPARE : Fld := ⟨0xF00010, 0x100, 0x0, 30, 30⟩
def CHM_PIPE_STAT_SHADOW : Fld := ⟨0xF00010, 0x100, 0x0, 29, 29⟩
def CHM_PIPE_STAT_LAYERS : Fld := ⟨0xF00010, 0x100, 0x0, 5, 0⟩
def CHM_PIPE_STAT_SHADOW_MISM : Fld := ⟨0xF00014, 0x100, 0x0, 31, 0⟩
def CHM_LAYER_CFG_EN : Fld := ⟨0xF40000, 0x40, 0x0, 31, 31⟩
def CHM_LAYER_CFG_PIPE : Fld := ⟨0xF40000, 0x40, 0x0, 29, 24⟩
def CHM_LAYER_CFG_KEY : Fld := ⟨0xF40000, 0x40, 0x0, 22, 20⟩
def CHM_LAYER_CFG_Z : Fld := ⟨0xF40000, 0x40, 0x0, 19, 15⟩
def CHM_LAYER_CFG_ALPHA : Fld := ⟨0xF40000, 0x40, 0x0, 9, 0⟩
def CHM_LAYER_CFG_SRC : Fld := ⟨0xF40004, 0x40, 0x0, 31, 16⟩
def CHM_LAYER_CFG_DELAY : Fld := ⟨0xF40004, 0x40, 0x0, 15, 8⟩
def CHM_LAYER_CFG_CROP_X : Fld := ⟨0xF40008, 0x40, 0x0, 27, 16⟩
def CHM_LAYER_CFG_CROP_Y : Fld := ⟨0xF40008, 0x40, 0x0, 11, 0⟩
def CHM_LAYER_CFG_CROP_W : Fld := ⟨0xF4000C, 0x40, 0x0, 28, 16⟩
def CHM_LAYER_CFG_CROP_H : Fld := ⟨0xF4000C, 0x40, 0x0, 11, 0⟩
def CHM_LAYER_CFG_DST_X : Fld := ⟨0xF40010, 0x40, 0x0, 31, 16⟩
def CHM_LAYER_CFG_DST_Y : Fld := ⟨0xF40010, 0x40, 0x0, 15, 0⟩
def CHM_LAYER_CFG_DST_W : Fld := ⟨0xF40014, 0x40, 0x0, 28, 16⟩
def CHM_LAYER_CFG_DST_H : Fld := ⟨0xF40014, 0x40, 0x0, 11, 0⟩
def CHM_LAYER_CFG_CLIP : Fld := ⟨0xF40018, 0x40, 0x0, 31, 22⟩
def CHM_LAYER_CFG_GAIN : Fld := ⟨0xF40018, 0x40, 0x0, 21, 12⟩
def CHM_LAYER_CFG_KEY_LAYER : Fld := ⟨0xF40018, 0x40, 0x0, 8, 0⟩
def CHM_LAYER_STAT_DECIMATING : Fld := ⟨0xF80000, 0x10, 0x0, 30, 30⟩
def CHM_LAYER_STAT_LINES_REQ : Fld := ⟨0xF80000, 0x10, 0x0, 23, 16⟩
def CHM_LAYER_STAT_LINES_AVAIL : Fld := ⟨0xF80000, 0x10, 0x0, 15, 0⟩
def CHM_SURF_CFG_EN : Fld := ⟨0xFC0000, 0x20, 0x0, 31, 31⟩
def CHM_SURF_CFG_FORMAT : Fld := ⟨0xFC0000, 0x20, 0x0, 30, 28⟩
def CHM_SURF_CFG_DOMAIN : Fld := ⟨0xFC0000, 0x20, 0x0, 27, 26⟩
def CHM_SURF_CFG_NBUF : Fld := ⟨0xFC0000, 0x20, 0x0, 25, 23⟩
def CHM_SURF_CFG_WIDTH : Fld := ⟨0xFC0004, 0x20, 0x0, 28, 16⟩
def CHM_SURF_CFG_HEIGHT : Fld := ⟨0xFC0004, 0x20, 0x0, 11, 0⟩
def CHM_SURF_CFG_PEND : Fld := ⟨0xFC0008, 0x20, 0x0, 31, 31⟩
def CHM_SURF_CFG_FRONT : Fld := ⟨0xFC0008, 0x20, 0x0, 27, 26⟩
def CHM_SURF_CFG_PEND_BUF : Fld := ⟨0xFC0008, 0x20, 0x0, 25, 24⟩
def CHM_SURF_CFG_EVALS : Fld := ⟨0xFC0008, 0x20, 0x0, 11, 8⟩
def CHM_SURF_CFG_PEND_FENCE : Fld := ⟨0xFC0008, 0x20, 0x0, 7, 0⟩
def CHM_SURF_CFG_FRONT_WRITES : Fld := ⟨0xFC000C, 0x20, 0x0, 31, 0⟩
def CHM_FENCE_VALUE : Fld := ⟨0xFE0000, 0x8, 0x0, 31, 0⟩
def CHM_FENCE_STALE_CNT : Fld := ⟨0xFE0004, 0x8, 0x0, 31, 0⟩
def CHM_STAT_FENCE_LATE_ANY : Fld := ⟨0x2B00000, 0x0, 0x0, 31, 31⟩
def CHM_STAT_LBUF_SHORT_ANY : Fld := ⟨0x2B00000, 0x0, 0x0, 30, 30⟩
def CHM_STAT_TWIN_LATE : Fld := ⟨0x2B00000, 0x0, 0x0, 29, 29⟩
def CHM_STAT_FLIPS_PEND : Fld := ⟨0x2B00000, 0x0, 0x0, 8, 0⟩
def CHM_FENCE_LATE_LATE : Fld := ⟨0x2B00100, 0x4, 0x0, 31, 0⟩
def CHM_LBUF_SHORT_SHORT : Fld := ⟨0x2B00200, 0x4, 0x0, 31, 0⟩
def AUD_CFG_CONCEAL_MAX : Fld := ⟨0x1000000, 0x0, 0x0, 31, 24⟩
def AUD_CFG_LOSS_MS : Fld := ⟨0x1000000, 0x0, 0x0, 23, 16⟩
def AUD_CFG_METER_WIN : Fld := ⟨0x1000000, 0x0, 0x0, 15, 8⟩
def AUD_SIL_CFG_SIL_THR : Fld := ⟨0x1000004, 0x0, 0x0, 31, 16⟩
def AUD_SIL_CFG_SIL_TIME : Fld := ⟨0x1000004, 0x0, 0x0, 15, 0⟩
def AUD_STAT_TIME_WAIT : Fld := ⟨0x1000010, 0x0, 0x0, 31, 31⟩
def AUD_STAT_REALIGN_SEEN : Fld := ⟨0x1000010, 0x0, 0x0, 30, 30⟩
def AUD_STAT_REALIGN_CNT : Fld := ⟨0x1000010, 0x0, 0x0, 15, 0⟩
def AUD_USE_IN_CH : Fld := ⟨0x1000020, 0x0, 0x0, 31, 16⟩
def AUD_USE_OUT_CH : Fld := ⟨0x1000020, 0x0, 0x0, 15, 0⟩
def AUD_USE_INT_CH : Fld := ⟨0x1000024, 0x0, 0x0, 31, 16⟩
def AUD_USE_BUNDLES : Fld := ⟨0x1000024, 0x0, 0x0, 15, 0⟩
def AUD_USE_IN_STREAMS : Fld := ⟨0x1000028, 0x0, 0x0, 31, 16⟩
def AUD_USE_OUT_STREAMS : Fld := ⟨0x1000028, 0x0, 0x0, 15, 0⟩
def AUD_XP_SRC : Fld := ⟨0x1040000, 0x8, 0x0, 31, 16⟩
def AUD_XP_SRC_PEND : Fld := ⟨0x1040000, 0x8, 0x0, 15, 0⟩
def AUD_XP_PEND : Fld := ⟨0x1040004, 0x8, 0x0, 31, 31⟩
def AUD_XP_XFADING : Fld := ⟨0x1040004, 0x8, 0x0, 30, 30⟩
def AUD_XP_AFV_PEND : Fld := ⟨0x1040004, 0x8, 0x0, 29, 29⟩
def AUD_XP_XFADE : Fld := ⟨0x1040004, 0x8, 0x0, 8, 0⟩
def NWT_CORE_STAT_IN_SERVICE : Fld := ⟨0x1100000, 0x1000, 0x0, 31, 31⟩
def NWT_CORE_STAT_SPARE : Fld := ⟨0x1100000, 0x1000, 0x0, 30, 30⟩
def NWT_CORE_STAT_SHADOW : Fld := ⟨0x1100000, 0x1000, 0x0, 29, 29⟩
def NWT_CORE_STAT_FAULTY : Fld := ⟨0x1100000, 0x1000, 0x0, 28, 28⟩
def NWT_CORE_STAT_TASKS : Fld := ⟨0x1100000, 0x1000, 0x0, 27, 22⟩
def NWT_CORE_STAT_CYC_ADM : Fld := ⟨0x1100000, 0x1000, 0x0, 16, 0⟩
def NWT_CORE_CNT_TRAPS : Fld := ⟨0x1100010, 0x1000, 0x0, 31, 0⟩
def NWT_CORE_CNT_ECC_CORR : Fld := ⟨0x1100014, 0x1000, 0x0, 31, 0⟩
def NWT_CORE_CNT_SHADOW_MISM : Fld := ⟨0x1100018, 0x1000, 0x0, 31, 0⟩
def NWT_CORE_CNT_CYC_PEAK : Fld := ⟨0x110001C, 0x1000, 0x0, 16, 0⟩
def NWT_TASK_STAT_VALID : Fld := ⟨0x1100100, 0x1000, 0x20, 31, 31⟩
def NWT_TASK_STAT_DIS : Fld := ⟨0x1100100, 0x1000, 0x20, 30, 30⟩
def NWT_TASK_STAT_RATE96 : Fld := ⟨0x1100100, 0x1000, 0x20, 29, 29⟩
def NWT_TASK_STAT_TRAP_LAST : Fld := ⟨0x1100100, 0x1000, 0x20, 23, 16⟩
def NWT_TASK_STAT_IMAGE : Fld := ⟨0x1100100, 0x1000, 0x20, 5, 0⟩
def NWT_TASK_STAT_CYC_BUDGET : Fld := ⟨0x1100104, 0x1000, 0x20, 16, 0⟩
def NWT_TASK_STAT_CYC_LAST : Fld := ⟨0x1100108, 0x1000, 0x20, 16, 0⟩
def NWT_TASK_STAT_TRAP_CNT : Fld := ⟨0x110010C, 0x1000, 0x20, 31, 0⟩
def NWT_TASK_STAT_SAT_BLOCKS : Fld := ⟨0x1100110, 0x1000, 0x20, 31, 0⟩
def NWT_TASK_STAT_PC_LAST : Fld := ⟨0x1100114, 0x1000, 0x20, 12, 0⟩
def NWT_MEM_WIN_SEL_CORE : Fld := ⟨0x1180000, 0x0, 0x0, 31, 25⟩
def NWT_MEM_WIN_SEL_SPACE : Fld := ⟨0x1180000, 0x0, 0x0, 24, 24⟩
def NWT_MEM_WIN_SEL_PAGE : Fld := ⟨0x1180000, 0x0, 0x0, 17, 16⟩
def NWT_MEM_WIN_SEL_WR_REFUSED : Fld := ⟨0x1180000, 0x0, 0x0, 0, 0⟩
def APT_TDM_CFG_MASTER : Fld := ⟨0x1200000, 0x0, 0x0, 31, 31⟩
def APT_TDM_CFG_RATE96 : Fld := ⟨0x1200000, 0x0, 0x0, 30, 30⟩
def APT_TDM_CFG_FS_EDGE : Fld := ⟨0x1200000, 0x0, 0x0, 29, 29⟩
def APT_TDM_CFG_SLOTS : Fld := ⟨0x1200000, 0x0, 0x0, 14, 10⟩
def APT_TDM_CFG_WIDTH : Fld := ⟨0x1200000, 0x0, 0x0, 9, 8⟩
def APT_TDM_CFG_OFFSET : Fld := ⟨0x1200000, 0x0, 0x0, 2, 0⟩
def APT_PORT_CFG_IN_EN : Fld := ⟨0x1210000, 0x100, 0x0, 31, 31⟩
def APT_PORT_CFG_OUT_EN : Fld := ⟨0x1210000, 0x100, 0x0, 30, 30⟩
def APT_PORT_CFG_PIN_TDM : Fld := ⟨0x1210000, 0x100, 0x0, 29, 29⟩
def APT_PORT_CFG_SRC_EN : Fld := ⟨0x1210000, 0x100, 0x0, 28, 28⟩
def APT_PORT_CFG_AUTORESTART : Fld := ⟨0x1210000, 0x100, 0x0, 27, 27⟩
def APT_PORT_CFG_HOLD_DRIVE : Fld := ⟨0x1210000, 0x100, 0x0, 26, 26⟩
def APT_PORT_CFG_RATE96 : Fld := ⟨0x1210000, 0x100, 0x0, 25, 25⟩
def APT_PORT_CFG_IN_BASE : Fld := ⟨0x1210000, 0x100, 0x0, 15, 0⟩
def APT_PORT_OUT_OUT_BASE : Fld := ⟨0x1210004, 0x100, 0x0, 15, 0⟩
def APT_PORT_STAT_FORMAT : Fld := ⟨0x1210020, 0x100, 0x0, 31, 30⟩
def APT_PORT_STAT_DET_RATE : Fld := ⟨0x1210020, 0x100, 0x0, 29, 27⟩
def APT_PORT_STAT_CRCC_SEEN : Fld := ⟨0x1210020, 0x100, 0x0, 5, 5⟩
def APT_PORT_STAT_ALIGN_SEEN : Fld := ⟨0x1210020, 0x100, 0x0, 4, 4⟩
def APT_PORT_STAT_ALIGN_LOST : Fld := ⟨0x1210020, 0x100, 0x0, 3, 3⟩
def APT_PORT_STAT_BLOCK_LOCK : Fld := ⟨0x1210020, 0x100, 0x0, 2, 2⟩
def APT_PORT_STAT_LOCK : Fld := ⟨0x1210020, 0x100, 0x0, 1, 1⟩
def APT_PORT_CTL_RESTART : Fld := ⟨0x1210024, 0x100, 0x0, 0, 0⟩
def APT_PORT_CNT_FIFO_OVF : Fld := ⟨0x1210040, 0x100, 0x0, 31, 0⟩
def APT_PORT_CNT_FIFO_UNF : Fld := ⟨0x1210044, 0x100, 0x0, 31, 0⟩
def APT_PORT_CNT_RESTARTS : Fld := ⟨0x1210048, 0x100, 0x0, 31, 0⟩
def APT_PORT_CNT_BLOCK_ERR : Fld := ⟨0x121004C, 0x100, 0x0, 31, 0⟩
def APT_PORT_CNT_CRCC_ERR : Fld := ⟨0x1210050, 0x100, 0x0, 31, 0⟩
def APT_PORT_CNT_V_SET : Fld := ⟨0x1210054, 0x100, 0x0, 31, 0⟩
def APT_PORT_CNT_SLIPS : Fld := ⟨0x1210058, 0x100, 0x0, 31, 0⟩
def MEAS_CFG_EN : Fld := ⟨0x1300000, 0x0, 0x0, 31, 31⟩
def MEAS_CFG_RPT_INT : Fld := ⟨0x1300000, 0x0, 0x0, 25, 16⟩
def MEAS_THR_BLACK_Y : Fld := ⟨0x1300010, 0x0, 0x0, 31, 22⟩
def MEAS_THR_BLACK_PCT : Fld := ⟨0x1300010, 0x0, 0x0, 21, 15⟩
def MEAS_THR_BLACK_TIME : Fld := ⟨0x1300014, 0x0, 0x0, 31, 24⟩
def MEAS_THR_FREEZE_TIME : Fld := ⟨0x1300014, 0x0, 0x0, 23, 16⟩
def MEAS_THR_CRC_THR : Fld := ⟨0x1300014, 0x0, 0x0, 15, 0⟩
def MEAS_THR_LOSS_THR : Fld := ⟨0x1300018, 0x0, 0x0, 31, 16⟩
def MEAS_THR_TIM_WIN : Fld := ⟨0x1300018, 0x0, 0x0, 15, 0⟩
def MEAS_THR_MARGIN_THR : Fld := ⟨0x130001C, 0x0, 0x0, 31, 16⟩
def MEAS_THR_PTP_THR : Fld := ⟨0x130001C, 0x0, 0x0, 15, 0⟩
def MEAS_THR_TEMP_WARN : Fld := ⟨0x1300020, 0x0, 0x0, 31, 24⟩
def MEAS_THR_TEMP_CRIT : Fld := ⟨0x1300020, 0x0, 0x0, 23, 16⟩
def MEAS_STREAM_CFG_EN : Fld := ⟨0x1310000, 0x40, 0x0, 31, 31⟩
def MEAS_STREAM_CFG_PORT : Fld := ⟨0x1310000, 0x40, 0x0, 29, 24⟩
def MEAS_STREAM_CFG_TYPES : Fld := ⟨0x1310000, 0x40, 0x0, 15, 0⟩
def MEAS_STREAM_CFG_DST_IP : Fld := ⟨0x1310004, 0x40, 0x0, 31, 0⟩
def MEAS_STREAM_CFG_DST_PORT : Fld := ⟨0x1310008, 0x40, 0x0, 31, 16⟩
def MEAS_STREAM_CFG_SRC_PORT : Fld := ⟨0x1310008, 0x40, 0x0, 15, 0⟩
def MEAS_STREAM_CFG_RATE : Fld := ⟨0x131000C, 0x40, 0x0, 15, 0⟩
def MEAS_STREAM_CFG_SEQ : Fld := ⟨0x1310010, 0x40, 0x0, 31, 0⟩
def MEAS_STREAM_CFG_DROP_CNT : Fld := ⟨0x1310014, 0x40, 0x0, 31, 0⟩
def MEAS_ENV_TEMP_CUR : Fld := ⟨0x1320000, 0x4, 0x0, 31, 16⟩
def MEAS_ENV_TEMP_MAX : Fld := ⟨0x1320000, 0x4, 0x0, 15, 0⟩
def MEAS_ENV_RAIL_CUR : Fld := ⟨0x1320100, 0x4, 0x0, 31, 16⟩
def MEAS_ENV_RAIL_MIN : Fld := ⟨0x1320100, 0x4, 0x0, 15, 0⟩
def MEAS_ALM_RAISED : Fld := ⟨0x1340000, 0x4, 0x0, 15, 0⟩
def MEAS_STAT_CRIT_SEEN : Fld := ⟨0x1300040, 0x0, 0x0, 31, 31⟩
def MEAS_STAT_SENSOR_FAIL : Fld := ⟨0x1300040, 0x0, 0x0, 30, 30⟩
def MEAS_STAT_ALARMS : Fld := ⟨0x1300040, 0x0, 0x0, 15, 0⟩
def CMD_SRC_CFG_EN : Fld := ⟨0x400000, 0x100, 0x0, 31, 31⟩
def CMD_SRC_CFG_PERM : Fld := ⟨0x400000, 0x100, 0x0, 15, 0⟩
def CMD_SRC_SEQ_SESSION : Fld := ⟨0x400010, 0x100, 0x0, 31, 0⟩
def CMD_SRC_SEQ_NEXT_SEQ : Fld := ⟨0x400014, 0x100, 0x0, 31, 0⟩
def CMD_SRC_SEQ_LAST_APPLIED : Fld := ⟨0x400018, 0x100, 0x0, 31, 0⟩
def CMD_SRC_STAT_PROD_REFUSED : Fld := ⟨0x400020, 0x100, 0x0, 31, 31⟩
def CMD_SRC_STAT_OUTSTANDING : Fld := ⟨0x400020, 0x100, 0x0, 8, 0⟩
def CMD_SRC_CNT_HDR_ERR : Fld := ⟨0x400030, 0x100, 0x0, 31, 0⟩
def CMD_SRC_CNT_AUTH_FAIL : Fld := ⟨0x400034, 0x100, 0x0, 31, 0⟩
def CMD_SRC_CNT_DUP_REPLAYED : Fld := ⟨0x400038, 0x100, 0x0, 31, 0⟩
def CMD_SRC_CNT_DUP_DROPPED : Fld := ⟨0x40003C, 0x100, 0x0, 31, 0⟩
def CMD_SRC_CNT_REFUSED : Fld := ⟨0x400040, 0x100, 0x0, 31, 0⟩
def CMD_SRC_CNT_FULL : Fld := ⟨0x400044, 0x100, 0x0, 31, 0⟩
def CMD_JNL_HEAD_HEAD_W0 : Fld := ⟨0x4A0000, 0x0, 0x0, 31, 0⟩
def CMD_JNL_HEAD_HEAD_W1 : Fld := ⟨0x4A0004, 0x0, 0x0, 31, 0⟩
def CMD_JNL_SEL_INDEX_W0 : Fld := ⟨0x4A0008, 0x0, 0x0, 31, 0⟩
def CMD_JNL_SEL_INDEX_W1 : Fld := ⟨0x4A000C, 0x0, 0x0, 31, 0⟩
def TWN_CFG_EN : Fld := ⟨0x1400000, 0x0, 0x0, 31, 31⟩
def TWN_CFG_LINK : Fld := ⟨0x1400000, 0x0, 0x0, 30, 27⟩
def TWN_CFG_SKEW_THR : Fld := ⟨0x1400000, 0x0, 0x0, 23, 16⟩
def TWN_CFG_LOOP_FRAMES : Fld := ⟨0x1400000, 0x0, 0x0, 15, 0⟩
def TWN_STAT_PARTNER_UP : Fld := ⟨0x1400004, 0x0, 0x0, 31, 31⟩
def TWN_STAT_CROAK_OK : Fld := ⟨0x1400004, 0x0, 0x0, 30, 30⟩
def TWN_STAT_SYNC : Fld := ⟨0x1400004, 0x0, 0x0, 29, 29⟩
def TWN_STAT_SYNC_EVER : Fld := ⟨0x1400004, 0x0, 0x0, 28, 28⟩
def TWN_STAT_RESYNC_BUSY : Fld := ⟨0x1400004, 0x0, 0x0, 27, 27⟩
def TWN_STAT_DUAL_ACTIVE : Fld := ⟨0x1400004, 0x0, 0x0, 26, 26⟩
def TWN_STAT_CROAK_ONLY_SEEN : Fld := ⟨0x1400004, 0x0, 0x0, 25, 25⟩
def TWN_STAT_LINK_ONLY_SEEN : Fld := ⟨0x1400004, 0x0, 0x0, 24, 24⟩
def TWN_STAT_SKEW_HIGH : Fld := ⟨0x1400004, 0x0, 0x0, 23, 23⟩
def TWN_STAT_UNSYNC_CAUSE : Fld := ⟨0x1400004, 0x0, 0x0, 19, 16⟩
def TWN_STAT_TIME_SKEW : Fld := ⟨0x1400004, 0x0, 0x0, 15, 0⟩
def TWN_STAT2_NEWT_SKEW : Fld := ⟨0x1400008, 0x0, 0x0, 15, 0⟩
def TWN_REC_EPOCH_LO_REC_EPOCH : Fld := ⟨0x1400010, 0x0, 0x0, 31, 0⟩
def TWN_REC_EPOCH_HI_REC_EPOCH : Fld := ⟨0x1400014, 0x0, 0x0, 31, 0⟩
def TWN_CNT_RECORDS : Fld := ⟨0x1400020, 0x0, 0x0, 31, 0⟩
def TWN_CNT_REPLAYS : Fld := ⟨0x1400024, 0x0, 0x0, 31, 0⟩
def TWN_CNT_LATE_FLIPS : Fld := ⟨0x1400028, 0x0, 0x0, 31, 0⟩
def TWN_CNT_RESYNCS : Fld := ⟨0x140002C, 0x0, 0x0, 31, 0⟩
def TWN_CNT_PROMOTIONS : Fld := ⟨0x1400030, 0x0, 0x0, 31, 0⟩
def TWN_CNT_NO_ACK : Fld := ⟨0x1400034, 0x0, 0x0, 31, 0⟩
def TWN_LOOP_STAT_DONE : Fld := ⟨0x1400040, 0x0, 0x0, 31, 31⟩
def TWN_LOOP_STAT_PASS : Fld := ⟨0x1400040, 0x0, 0x0, 30, 30⟩
def TWN_LOOP_STAT_KIND : Fld := ⟨0x1400040, 0x0, 0x0, 29, 28⟩
def TWN_LOOP_STAT_UNIT : Fld := ⟨0x1400040, 0x0, 0x0, 15, 0⟩
def TWN_LOOP_STAT_COMPARED : Fld := ⟨0x1400044, 0x0, 0x0, 31, 0⟩
def TWN_LOOP_STAT_MISMATCH : Fld := ⟨0x1400048, 0x0, 0x0, 31, 0⟩
def RST_CAUSE_PARTNER : Fld := ⟨0x100000, 0x0, 0x0, 10, 10⟩
def RST_CAUSE_QUENCH_EXIT : Fld := ⟨0x100000, 0x0, 0x0, 9, 9⟩
def RST_CAUSE_BACKUP : Fld := ⟨0x100000, 0x0, 0x0, 8, 8⟩
def RST_CAUSE_CAUSE : Fld := ⟨0x100000, 0x0, 0x0, 7, 0⟩
def RST_STAT_STEP : Fld := ⟨0x100004, 0x0, 0x0, 31, 28⟩
def RST_STAT_C_FAULTY : Fld := ⟨0x100004, 0x0, 0x0, 27, 27⟩
def RST_STAT_C_IN_RESET : Fld := ⟨0x100004, 0x0, 0x0, 22, 22⟩
def RST_STAT_P_IN_RESET : Fld := ⟨0x100004, 0x0, 0x0, 21, 21⟩
def RST_STAT_H_WAIT : Fld := ⟨0x100004, 0x0, 0x0, 20, 20⟩
def RST_STAT_BOOT : Fld := ⟨0x100004, 0x0, 0x0, 19, 18⟩
def RST_CTL_CHIP : Fld := ⟨0x100008, 0x0, 0x0, 1, 1⟩
def RST_CTL_QUENCH_EXIT : Fld := ⟨0x100008, 0x0, 0x0, 0, 0⟩
def RST_WDT_EN : Fld := ⟨0x100010, 0x0, 0x0, 31, 31⟩
def RST_WDT_TIMEOUT : Fld := ⟨0x100010, 0x0, 0x0, 9, 0⟩
def RST_WDT_KICK : Fld := ⟨0x100014, 0x0, 0x0, 31, 0⟩
def RST_CNT_COUNT : Fld := ⟨0x100100, 0x4, 0x0, 15, 0⟩
def RST_LAST_FLT_STATUS_LO : Fld := ⟨0x100200, 0x0, 0x0, 31, 0⟩
def RST_LAST_FLT_STATUS_HI : Fld := ⟨0x100204, 0x0, 0x0, 15, 0⟩
def RST_LAST_FLT_FIRST : Fld := ⟨0x100208, 0x0, 0x0, 31, 0⟩
def RST_LAST_FLT_QUENCH : Fld := ⟨0x10020C, 0x0, 0x0, 31, 0⟩
def OTP_STAT_LOAD_DONE : Fld := ⟨0x1700000, 0x0, 0x0, 31, 31⟩
def OTP_STAT_FALLBACK : Fld := ⟨0x1700000, 0x0, 0x0, 30, 30⟩
def OTP_STAT_COPY_OK : Fld := ⟨0x1700000, 0x0, 0x0, 29, 26⟩
def OTP_STAT_COPY_USED : Fld := ⟨0x1700000, 0x0, 0x0, 25, 24⟩
def OTP_STAT_GEN : Fld := ⟨0x1700000, 0x0, 0x0, 23, 16⟩
def OTP_RESTARTS_OPT_LOAD_RESTARTS : Fld := ⟨0x1700004, 0x0, 0x0, 15, 0⟩
def FLT_FIRST_VALID : Fld := ⟨0x200010, 0x0, 0x0, 31, 31⟩
def FLT_FIRST_OVERFLOW : Fld := ⟨0x200010, 0x0, 0x0, 30, 30⟩
def FLT_FIRST_CLASS : Fld := ⟨0x200010, 0x0, 0x0, 29, 27⟩
def FLT_FIRST_SOURCE : Fld := ⟨0x200010, 0x0, 0x0, 5, 0⟩
def FLT_FIRST_EPOCH_W1 : Fld := ⟨0x200014, 0x0, 0x0, 31, 0⟩
def FLT_FIRST_EPOCH_W2 : Fld := ⟨0x200018, 0x0, 0x0, 31, 0⟩
def FLT_FIRST_TICK_W3 : Fld := ⟨0x20001C, 0x0, 0x0, 31, 0⟩
def FLT_FIRST_TICK_W4 : Fld := ⟨0x200020, 0x0, 0x0, 31, 0⟩
def FLT_QUENCH_VALID : Fld := ⟨0x200030, 0x0, 0x0, 31, 31⟩
def FLT_QUENCH_SOURCE : Fld := ⟨0x200030, 0x0, 0x0, 5, 0⟩
def FLT_CFG_FAILOVER : Fld := ⟨0x200040, 0x0, 0x0, 31, 31⟩
def FLT_CFG_FIRST_MIN : Fld := ⟨0x200040, 0x0, 0x0, 30, 28⟩
def FLT_CNT_COUNT : Fld := ⟨0x201000, 0x4, 0x0, 31, 0⟩
def AXL_CFG_AUTO : Fld := ⟨0x1600000, 0x0, 0x0, 31, 31⟩
def AXL_CFG_BUSY : Fld := ⟨0x1600000, 0x0, 0x0, 16, 16⟩
def AXL_CFG_FREE_LAD : Fld := ⟨0x1600000, 0x0, 0x0, 14, 12⟩
def AXL_CFG_FREE_SHK : Fld := ⟨0x1600000, 0x0, 0x0, 10, 8⟩
def AXL_CFG_FREE_NWT : Fld := ⟨0x1600000, 0x0, 0x0, 6, 4⟩
def AXL_CFG_FREE_CHP : Fld := ⟨0x1600000, 0x0, 0x0, 1, 0⟩
def KEY_STAT_KEYS_ABSENT : Fld := ⟨0x1500000, 0x0, 0x0, 31, 31⟩
def KEY_STAT_ATTEST_BUSY : Fld := ⟨0x1500000, 0x0, 0x0, 30, 30⟩
def KEY_STAT_UNLOCKED : Fld := ⟨0x1500000, 0x0, 0x0, 29, 29⟩
def KEY_STAT_VALID_SLOTS : Fld := ⟨0x1500000, 0x0, 0x0, 22, 16⟩
def KEY_STAT_BAD_SLOTS : Fld := ⟨0x1500000, 0x0, 0x0, 6, 0⟩
def KEY_TAMPER_LATCH : Fld := ⟨0x1500010, 0x0, 0x0, 31, 31⟩
def KEY_TAMPER_SEEN : Fld := ⟨0x1500010, 0x0, 0x0, 27, 24⟩
def KEY_TAMPER_ACTIVE : Fld := ⟨0x1500010, 0x0, 0x0, 19, 16⟩
def KEY_TAMPER_CNT : Fld := ⟨0x1500010, 0x0, 0x0, 15, 0⟩
def KEY_TAMPER_CFG_EN : Fld := ⟨0x1500014, 0x0, 0x0, 3, 0⟩
def KEY_TAMPER_LOG_SRC : Fld := ⟨0x1500020, 0x0, 0x0, 3, 0⟩
def KEY_TAMPER_LOG_EPOCH_W1 : Fld := ⟨0x1500024, 0x0, 0x0, 31, 0⟩
def KEY_TAMPER_LOG_EPOCH_W2 : Fld := ⟨0x1500028, 0x0, 0x0, 31, 0⟩
def KEY_TAMPER_LOG_TICK_W3 : Fld := ⟨0x150002C, 0x0, 0x0, 31, 0⟩
def KEY_TAMPER_LOG_TICK_W4 : Fld := ⟨0x1500030, 0x0, 0x0, 31, 0⟩
def KEY_SLOT_STAT_STATE : Fld := ⟨0x1501000, 0x10, 0x0, 31, 30⟩
def KEY_SLOT_STAT_COPY_A : Fld := ⟨0x1501000, 0x10, 0x0, 29, 28⟩
def KEY_SLOT_STAT_COPY_B : Fld := ⟨0x1501000, 0x10, 0x0, 27, 26⟩
def KEY_SLOT_STAT_ACTIVE_B : Fld := ⟨0x1501000, 0x10, 0x0, 25, 25⟩
def KEY_SLOT_STAT_BITS : Fld := ⟨0x1501000, 0x10, 0x0, 9, 0⟩
def KEY_SLOT_STAT_GEN : Fld := ⟨0x1501004, 0x10, 0x0, 31, 0⟩
def KEY_SLOT_STAT_COMMIT_EPOCH_W2 : Fld := ⟨0x1501008, 0x10, 0x0, 31, 0⟩
def KEY_SLOT_STAT_COMMIT_EPOCH_W3 : Fld := ⟨0x150100C, 0x10, 0x0, 31, 0⟩
def SYS_WAKE_GO : Fld := ⟨0x30, 0x0, 0x0, 0, 0⟩
def SYS_INT_STAT_LINE : Fld := ⟨0x40, 0x0, 0x0, 24, 0⟩
def SYS_INT_VEC_VEC : Fld := ⟨0x48, 0x0, 0x0, 10, 0⟩
def BUS_CFG_HOST_CA : Fld := ⟨0x300000, 0x0, 0x0, 31, 31⟩
def BUS_CFG_TIMEOUT : Fld := ⟨0x300000, 0x0, 0x0, 13, 0⟩
def BUS_STAT_WR_OWNED : Fld := ⟨0x300004, 0x0, 0x0, 3, 3⟩
def BUS_STAT_TIMEOUT : Fld := ⟨0x300004, 0x0, 0x0, 2, 2⟩
def BUS_STAT_DEF_HIT : Fld := ⟨0x300004, 0x0, 0x0, 1, 1⟩
def BUS_STAT_BAD_VALUE : Fld := ⟨0x300004, 0x0, 0x0, 0, 0⟩
def BUS_ERR_LOG_VALID : Fld := ⟨0x300010, 0x0, 0x0, 31, 31⟩
def BUS_ERR_LOG_WRITE : Fld := ⟨0x300010, 0x0, 0x0, 30, 30⟩
def BUS_ERR_LOG_KIND : Fld := ⟨0x300010, 0x0, 0x0, 29, 28⟩
def BUS_ERR_LOG_MASTER : Fld := ⟨0x300010, 0x0, 0x0, 18, 16⟩
def BUS_ERR_LOG_ID : Fld := ⟨0x300010, 0x0, 0x0, 3, 0⟩
def BUS_ERR_LOG_ADDR_LO : Fld := ⟨0x300014, 0x0, 0x0, 31, 0⟩
def BUS_ERR_LOG_ADDR_HI : Fld := ⟨0x300018, 0x0, 0x0, 7, 0⟩
def BUS_CNT_DEF_HITS : Fld := ⟨0x300020, 0x0, 0x0, 31, 0⟩
def BUS_CNT_TIMEOUTS : Fld := ⟨0x300024, 0x0, 0x0, 31, 0⟩
def BUS_CNT_WR_OWNED : Fld := ⟨0x300028, 0x0, 0x0, 31, 0⟩
def BUS_CNT_SRAM_CORR : Fld := ⟨0x30002C, 0x0, 0x0, 31, 0⟩
def BUS_PCIE_CFG_BAR2_SIZE : Fld := ⟨0x300040, 0x0, 0x0, 5, 0⟩
def GPIO_PIN_CFG_DIR : Fld := ⟨0x1800000, 0x10, 0x0, 31, 31⟩
def GPIO_PIN_CFG_OUT : Fld := ⟨0x1800000, 0x10, 0x0, 30, 30⟩
def GPIO_PIN_CFG_PULL : Fld := ⟨0x1800000, 0x10, 0x0, 29, 27⟩
def GPIO_PIN_CFG_DEBOUNCE : Fld := ⟨0x1800000, 0x10, 0x0, 16, 0⟩
def GPIO_PIN_LIM_EVT_LIMIT : Fld := ⟨0x1800004, 0x10, 0x0, 15, 0⟩
def GPIO_PIN_STAT_IN : Fld := ⟨0x1800008, 0x10, 0x0, 31, 31⟩
def GPIO_PIN_STAT_QUARANTINE : Fld := ⟨0x1800008, 0x10, 0x0, 30, 30⟩
def GPIO_PIN_STAT_EVT_CNT : Fld := ⟨0x1800008, 0x10, 0x0, 15, 0⟩
def TIM_NOW_NS_NS : Fld := ⟨0x500010, 0x0, 0x0, 31, 0⟩
def TIM_NOW_SEC_LO_SEC_LO : Fld := ⟨0x500014, 0x0, 0x0, 31, 0⟩
def TIM_NOW_SEC_HI_SEC_HI : Fld := ⟨0x500018, 0x0, 0x0, 15, 0⟩
def TIM_NOW_FRAC_FRAC : Fld := ⟨0x50001C, 0x0, 0x0, 15, 0⟩
def TIM_NOW_TICK_LO_TICK : Fld := ⟨0x500020, 0x0, 0x0, 31, 0⟩
def TIM_NOW_TICK_HI_TICK : Fld := ⟨0x500024, 0x0, 0x0, 31, 0⟩
def TIM_RATE_RATE : Fld := ⟨0x500030, 0x0, 0x0, 31, 0⟩
def REF_IN_FLOW_FLOW : Fld := ⟨0x600148, 0x40, 0x0, 15, 0⟩
def MAC_CFG_EN : Fld := ⟨0xA00000, 0x4000, 0x0, 31, 31⟩
def MAC_CFG_SPEED : Fld := ⟨0xA00000, 0x4000, 0x0, 30, 29⟩
def MAC_CFG_FEC_OFF : Fld := ⟨0xA00000, 0x4000, 0x0, 28, 28⟩
def MAC_CFG_TX_EN : Fld := ⟨0xA00000, 0x4000, 0x0, 27, 27⟩
def MAC_CFG_PREEMPT_EN : Fld := ⟨0xA00000, 0x4000, 0x0, 26, 26⟩
def MAC_CFG_VERIFY_DIS : Fld := ⟨0xA00000, 0x4000, 0x0, 25, 25⟩
def MAC_CFG_ADD_FRAG : Fld := ⟨0xA00000, 0x4000, 0x0, 24, 23⟩
def MAC_CFG_MAX_FRAME : Fld := ⟨0xA00000, 0x4000, 0x0, 13, 0⟩
def MAC_ADDR_LO_ADDR_LO : Fld := ⟨0xA00004, 0x4000, 0x0, 31, 0⟩
def MAC_ADDR_HI_ADDR_HI : Fld := ⟨0xA00008, 0x4000, 0x0, 15, 0⟩
def MAC_IPV4_IPV4 : Fld := ⟨0xA0000C, 0x4000, 0x0, 31, 0⟩
def MAC_STAT_CTL_CLR : Fld := ⟨0xA00200, 0x4000, 0x0, 1, 1⟩
def MAC_STAT_CTL_SNAP : Fld := ⟨0xA00200, 0x4000, 0x0, 0, 0⟩
def MAC_STAT_HALF_LO_HALF : Fld := ⟨0xA00208, 0x4000, 0x0, 31, 0⟩
def MAC_STAT_HALF_HI_HALF : Fld := ⟨0xA0020C, 0x4000, 0x0, 31, 0⟩
def MAC_STAT_CNT_CNT_LO : Fld := ⟨0xA01000, 0x4000, 0x8, 31, 0⟩
def MAC_STAT_CNT_CNT_HI : Fld := ⟨0xA01004, 0x4000, 0x8, 15, 0⟩
def OTP_OPT_BYTES : Fld := ⟨0x1700100, 0x4, 0x0, 31, 0⟩
def FLT_STATUS_LO_STATUS : Fld := ⟨0x200000, 0x0, 0x0, 31, 0⟩
def FLT_STATUS_HI_STATUS : Fld := ⟨0x200004, 0x0, 0x0, 15, 0⟩
def FLT_INT_EN_LO_EN : Fld := ⟨0x200048, 0x0, 0x0, 31, 0⟩
def FLT_INT_EN_HI_EN : Fld := ⟨0x20004C, 0x0, 0x0, 15, 0⟩
def AXL_UNIT_LAD_STATE : Fld := ⟨0x1610000, 0x4, 0x0, 31, 29⟩
def AXL_UNIT_LAD_REPLACED_BY : Fld := ⟨0x1610000, 0x4, 0x0, 23, 16⟩
def AXL_UNIT_LAD_SUBST_CNT : Fld := ⟨0x1610000, 0x4, 0x0, 15, 0⟩
def AXL_UNIT_SHK_STATE : Fld := ⟨0x1610200, 0x4, 0x0, 31, 29⟩
def AXL_UNIT_SHK_REPLACED_BY : Fld := ⟨0x1610200, 0x4, 0x0, 23, 16⟩
def AXL_UNIT_SHK_SUBST_CNT : Fld := ⟨0x1610200, 0x4, 0x0, 15, 0⟩
def AXL_UNIT_NWT_STATE : Fld := ⟨0x1610400, 0x4, 0x0, 31, 29⟩
def AXL_UNIT_NWT_REPLACED_BY : Fld := ⟨0x1610400, 0x4, 0x0, 23, 16⟩
def AXL_UNIT_NWT_SUBST_CNT : Fld := ⟨0x1610400, 0x4, 0x0, 15, 0⟩
def AXL_UNIT_CHP_STATE : Fld := ⟨0x1610600, 0x4, 0x0, 31, 29⟩
def AXL_UNIT_CHP_REPLACED_BY : Fld := ⟨0x1610600, 0x4, 0x0, 23, 16⟩
def AXL_UNIT_CHP_SUBST_CNT : Fld := ⟨0x1610600, 0x4, 0x0, 15, 0⟩
def CMD_NET_EP_EN : Fld := ⟨0x400880, 0x100, 0x0, 31, 31⟩
def CMD_NET_EP_MGMT_PORT : Fld := ⟨0x400880, 0x100, 0x0, 30, 30⟩
def CMD_NET_EP_JUMBO : Fld := ⟨0x400880, 0x100, 0x0, 29, 29⟩
def CMD_NET_EP_KEY_SLOT : Fld := ⟨0x400880, 0x100, 0x0, 21, 16⟩
def CMD_NET_EP_UDP_PORT : Fld := ⟨0x400880, 0x100, 0x0, 15, 0⟩
def CMD_NET_EP_PEER_IP : Fld := ⟨0x400884, 0x100, 0x0, 31, 0⟩
def CMD_NET_EP_OPEN_CTR_LO : Fld := ⟨0x400888, 0x100, 0x0, 31, 0⟩
def CMD_NET_EP_OPEN_CTR_HI : Fld := ⟨0x40088C, 0x100, 0x0, 31, 0⟩
def SPR_TRIB_CFG_EN : Fld := ⟨0x901000, 0x10000, 0x8, 31, 31⟩
def SPR_TRIB_CFG_DIR : Fld := ⟨0x901000, 0x10000, 0x8, 30, 30⟩
def SPR_TRIB_CFG_SIZE : Fld := ⟨0x901000, 0x10000, 0x8, 26, 25⟩
def SPR_TRIB_CFG_START : Fld := ⟨0x901000, 0x10000, 0x8, 24, 14⟩
def MAC_GATE_ENT_VALID : Fld := ⟨0xA00140, 0x4000, 0x8, 31, 31⟩
def MAC_GATE_ENT_FIRST_LINE : Fld := ⟨0xA00140, 0x4000, 0x8, 27, 16⟩
def MAC_GATE_ENT_LAST_LINE : Fld := ⟨0xA00140, 0x4000, 0x8, 11, 0⟩
def MAC_GATE_ENT_OPEN_SLOT : Fld := ⟨0xA00144, 0x4000, 0x8, 15, 8⟩
def MAC_GATE_ENT_CLOSE_SLOT : Fld := ⟨0xA00144, 0x4000, 0x8, 7, 0⟩
def REF_CLKOUT_CFG_EN : Fld := ⟨0x660000, 0x10, 0x0, 31, 31⟩
def REF_CLKOUT_CFG_FREQ : Fld := ⟨0x660000, 0x10, 0x0, 7, 4⟩
def REF_CLKOUT_CFG_SRC_PTP : Fld := ⟨0x660000, 0x10, 0x0, 3, 3⟩
def REF_CLKOUT_CFG_DPLL : Fld := ⟨0x660000, 0x10, 0x0, 1, 0⟩
def AUD_METER_IN_PEAK : Fld := ⟨0x1080000, 0x8, 0x0, 31, 16⟩
def AUD_METER_IN_TRUE_PEAK : Fld := ⟨0x1080000, 0x8, 0x0, 15, 0⟩
def AUD_METER_IN_RMS : Fld := ⟨0x1080004, 0x8, 0x0, 31, 16⟩
def AUD_METER_IN_SILENT : Fld := ⟨0x1080004, 0x8, 0x0, 2, 2⟩
def AUD_METER_IN_SIL_SEEN : Fld := ⟨0x1080004, 0x8, 0x0, 1, 1⟩
def AUD_METER_IN_OVER_SEEN : Fld := ⟨0x1080004, 0x8, 0x0, 0, 0⟩
def AUD_METER_OUT_PEAK : Fld := ⟨0x10C0000, 0x8, 0x0, 31, 16⟩
def AUD_METER_OUT_TRUE_PEAK : Fld := ⟨0x10C0000, 0x8, 0x0, 15, 0⟩
def AUD_METER_OUT_RMS : Fld := ⟨0x10C0004, 0x8, 0x0, 31, 16⟩
def AUD_METER_OUT_SILENT : Fld := ⟨0x10C0004, 0x8, 0x0, 2, 2⟩
def AUD_METER_OUT_SIL_SEEN : Fld := ⟨0x10C0004, 0x8, 0x0, 1, 1⟩
def AUD_METER_OUT_OVER_SEEN : Fld := ⟨0x10C0004, 0x8, 0x0, 0, 0⟩
def APT_MASK_IN_MASK : Fld := ⟨0x1210010, 0x100, 0x0, 31, 0⟩
def APT_MASK_OUT_MASK : Fld := ⟨0x1210014, 0x100, 0x0, 31, 0⟩
def APT_MASK_ACTIVE_IN_MASK : Fld := ⟨0x1210018, 0x100, 0x0, 31, 0⟩
def APT_MASK_ACTIVE_OUT_MASK : Fld := ⟨0x121001C, 0x100, 0x0, 31, 0⟩
def APT_CS_RX_BYTES_W0 : Fld := ⟨0x1210080, 0x100, 0x0, 31, 0⟩
def APT_CS_RX_BYTES_W1 : Fld := ⟨0x1210084, 0x100, 0x0, 31, 0⟩
def APT_CS_RX_BYTES_W2 : Fld := ⟨0x1210088, 0x100, 0x0, 31, 0⟩
def APT_CS_RX_BYTES_W3 : Fld := ⟨0x121008C, 0x100, 0x0, 31, 0⟩
def APT_CS_RX_BYTES_W4 : Fld := ⟨0x1210090, 0x100, 0x0, 31, 0⟩
def APT_CS_RX_BYTES_W5 : Fld := ⟨0x1210094, 0x100, 0x0, 31, 0⟩
def APT_CS_RX_BYTES_W6 : Fld := ⟨0x1210098, 0x100, 0x0, 31, 0⟩
def APT_CS_RX_BYTES_W7 : Fld := ⟨0x121009C, 0x100, 0x0, 31, 0⟩
def APT_CS_RX_BYTES_W8 : Fld := ⟨0x12100A0, 0x100, 0x0, 31, 0⟩
def APT_CS_RX_BYTES_W9 : Fld := ⟨0x12100A4, 0x100, 0x0, 31, 0⟩
def APT_CS_RX_BYTES_W10 : Fld := ⟨0x12100A8, 0x100, 0x0, 31, 0⟩
def APT_CS_RX_BYTES_W11 : Fld := ⟨0x12100AC, 0x100, 0x0, 31, 0⟩
def APT_CS_TX_BYTES_W0 : Fld := ⟨0x12100C0, 0x100, 0x0, 31, 0⟩
def APT_CS_TX_BYTES_W1 : Fld := ⟨0x12100C4, 0x100, 0x0, 31, 0⟩
def APT_CS_TX_BYTES_W2 : Fld := ⟨0x12100C8, 0x100, 0x0, 31, 0⟩
def APT_CS_TX_BYTES_W3 : Fld := ⟨0x12100CC, 0x100, 0x0, 31, 0⟩
def APT_CS_TX_BYTES_W4 : Fld := ⟨0x12100D0, 0x100, 0x0, 31, 0⟩
def APT_CS_TX_BYTES_W5 : Fld := ⟨0x12100D4, 0x100, 0x0, 31, 0⟩
def APT_CS_TX_BYTES_W6 : Fld := ⟨0x12100D8, 0x100, 0x0, 31, 0⟩
def APT_CS_TX_BYTES_W7 : Fld := ⟨0x12100DC, 0x100, 0x0, 31, 0⟩
def APT_CS_TX_BYTES_W8 : Fld := ⟨0x12100E0, 0x100, 0x0, 31, 0⟩
def APT_CS_TX_BYTES_W9 : Fld := ⟨0x12100E4, 0x100, 0x0, 31, 0⟩
def APT_CS_TX_BYTES_W10 : Fld := ⟨0x12100E8, 0x100, 0x0, 31, 0⟩
def APT_CS_TX_BYTES_W11 : Fld := ⟨0x12100EC, 0x100, 0x0, 31, 0⟩
def REF_HIST_FORCED_LOST : Fld := ⟨0x64008C, 0x200, 0x0, 8, 8⟩
def REF_HIST_OUTLIER : Fld := ⟨0x64008C, 0x200, 0x0, 7, 7⟩
def REF_HIST_LOCK_LOST : Fld := ⟨0x64008C, 0x200, 0x0, 6, 6⟩
def REF_HIST_PEER_DISAGREE : Fld := ⟨0x64008C, 0x200, 0x0, 5, 5⟩
def REF_HIST_ABS_DONE : Fld := ⟨0x64008C, 0x200, 0x0, 4, 4⟩
def REF_HIST_HOLDOVER : Fld := ⟨0x64008C, 0x200, 0x0, 3, 3⟩
def REF_HIST_SWITCH : Fld := ⟨0x64008C, 0x200, 0x0, 2, 2⟩
def REF_HIST_DISQ : Fld := ⟨0x64008C, 0x200, 0x0, 1, 1⟩
def REF_HIST_LOS : Fld := ⟨0x64008C, 0x200, 0x0, 0, 0⟩
def REF_INT_EN_FORCED_LOST : Fld := ⟨0x640090, 0x200, 0x0, 8, 8⟩
def REF_INT_EN_OUTLIER : Fld := ⟨0x640090, 0x200, 0x0, 7, 7⟩
def REF_INT_EN_LOCK_LOST : Fld := ⟨0x640090, 0x200, 0x0, 6, 6⟩
def REF_INT_EN_PEER_DISAGREE : Fld := ⟨0x640090, 0x200, 0x0, 5, 5⟩
def REF_INT_EN_ABS_DONE : Fld := ⟨0x640090, 0x200, 0x0, 4, 4⟩
def REF_INT_EN_HOLDOVER : Fld := ⟨0x640090, 0x200, 0x0, 3, 3⟩
def REF_INT_EN_SWITCH : Fld := ⟨0x640090, 0x200, 0x0, 2, 2⟩
def REF_INT_EN_DISQ : Fld := ⟨0x640090, 0x200, 0x0, 1, 1⟩
def REF_INT_EN_LOS : Fld := ⟨0x640090, 0x200, 0x0, 0, 0⟩
def CMD_RING_CFG_SUB_BASE_W0 : Fld := ⟨0x400050, 0x100, 0x0, 31, 0⟩
def CMD_RING_CFG_SUB_BASE_W1 : Fld := ⟨0x400054, 0x100, 0x0, 31, 0⟩
def CMD_RING_CFG_CPL_BASE_W2 : Fld := ⟨0x400058, 0x100, 0x0, 31, 0⟩
def CMD_RING_CFG_CPL_BASE_W3 : Fld := ⟨0x40005C, 0x100, 0x0, 31, 0⟩
def CMD_RING_CFG_EN : Fld := ⟨0x400060, 0x100, 0x0, 31, 31⟩
def CMD_RING_CFG_SUB_SIZE : Fld := ⟨0x400060, 0x100, 0x0, 18, 16⟩
def CMD_RING_CFG_MSIX : Fld := ⟨0x400060, 0x100, 0x0, 10, 0⟩
def CMD_RING_CFG_CPL_SIZE : Fld := ⟨0x400064, 0x100, 0x0, 9, 0⟩
def CMD_RING_CFG_CONS : Fld := ⟨0x400068, 0x100, 0x0, 31, 16⟩
def CMD_RING_CFG_PROD : Fld := ⟨0x400068, 0x100, 0x0, 15, 0⟩
def CMD_RING_CFG_CPL_PROD : Fld := ⟨0x40006C, 0x100, 0x0, 31, 16⟩
def CMD_RING_CFG_CPL_CONS : Fld := ⟨0x40006C, 0x100, 0x0, 15, 0⟩
def CMD_JNL_DATA_DATA_W0 : Fld := ⟨0x4A0010, 0x0, 0x0, 31, 0⟩
def CMD_JNL_DATA_DATA_W1 : Fld := ⟨0x4A0014, 0x0, 0x0, 31, 0⟩
def CMD_JNL_DATA_DATA_W2 : Fld := ⟨0x4A0018, 0x0, 0x0, 31, 0⟩
def CMD_JNL_DATA_DATA_W3 : Fld := ⟨0x4A001C, 0x0, 0x0, 31, 0⟩
def CMD_JNL_DATA_DATA_W4 : Fld := ⟨0x4A0020, 0x0, 0x0, 31, 0⟩
def CMD_JNL_DATA_DATA_W5 : Fld := ⟨0x4A0024, 0x0, 0x0, 31, 0⟩
def CMD_JNL_DATA_DATA_W6 : Fld := ⟨0x4A0028, 0x0, 0x0, 31, 0⟩
def CMD_JNL_DATA_DATA_W7 : Fld := ⟨0x4A002C, 0x0, 0x0, 31, 0⟩
def SYS_INT_EN_LINE : Fld := ⟨0x44, 0x0, 0x0, 24, 0⟩

end F

/-- Register words of the SYS block. -/
def regsSys : List RegRow := [
  ⟨0x0, 0x0, 1, 0x0, 1, .a, false, [⟨31, 16, .ro, 4132, []⟩, ⟨15, 12, .ro, 3, []⟩, ⟨11, 8, .ro, 1, []⟩, ⟨7, 4, .ro, 0, []⟩]⟩,
  ⟨0x8, 0x0, 1, 0x0, 1, .a, false, [⟨23, 20, .ro, 0, []⟩, ⟨19, 19, .ro, 0, []⟩, ⟨17, 16, .ro, 0, []⟩, ⟨11, 11, .ro, 0, []⟩, ⟨10, 8, .ro, 0, []⟩, ⟨2, 0, .ro, 1, []⟩]⟩,
  ⟨0x50, 0x0, 1, 0x0, 1, .a, false, [⟨31, 31, .ro, 0, []⟩, ⟨30, 30, .w1c, 0, []⟩, ⟨24, 0, .ro, 0, []⟩]⟩,
  ⟨0x54, 0x0, 1, 0x0, 1, .a, false, [⟨31, 0, .ro, 0, []⟩]⟩,
  ⟨0x20, 0x0, 1, 0x0, 1, .a, false, [⟨31, 31, .ro, 0, []⟩, ⟨16, 0, .ro, 0, []⟩]⟩,
  ⟨0x10, 0x0, 1, 0x0, 1, .a, false, [⟨31, 0, .ro, 0, []⟩]⟩,
  ⟨0x14, 0x0, 1, 0x0, 1, .a, false, [⟨31, 0, .ro, 0, []⟩]⟩,
  ⟨0x18, 0x0, 1, 0x0, 1, .a, false, [⟨31, 0, .ro, 0, []⟩]⟩,
  ⟨0x1C, 0x0, 1, 0x0, 1, .a, false, [⟨31, 0, .ro, 0, []⟩]⟩,
  ⟨0x30, 0x0, 1, 0x0, 1, .a, false, [⟨0, 0, .wo, 0, []⟩]⟩,
  ⟨0x40, 0x0, 1, 0x0, 1, .a, false, [⟨24, 0, .ro, 0, []⟩]⟩,
  ⟨0x48, 0x0, 1, 0x0, 1, .a, false, [⟨10, 0, .rw, 0, []⟩]⟩,
  ⟨0x44, 0x0, 1, 0x0, 1, .a, false, [⟨24, 0, .rw, 0, []⟩]⟩]

/-- Register words of the TIM block. -/
def regsTim : List RegRow := [
  ⟨0x500000, 0x0, 1, 0x0, 1, .p, false, [⟨31, 0, .ro, 0, []⟩]⟩,
  ⟨0x500004, 0x0, 1, 0x0, 1, .p, false, [⟨31, 0, .ro, 0, []⟩]⟩,
  ⟨0x500040, 0x0, 1, 0x0, 1, .p, false, [⟨29, 0, .rw, 1000, [(100, 1000000000)]⟩]⟩,
  ⟨0x500048, 0x0, 1, 0x0, 1, .p, false, [⟨31, 0, .ro, 0, []⟩]⟩,
  ⟨0x50004C, 0x0, 1, 0x0, 1, .p, false, [⟨31, 0, .ro, 0, []⟩]⟩,
  ⟨0x500050, 0x0, 1, 0x0, 1, .p, false, [⟨11, 8, .ro, 0, []⟩, ⟨4, 4, .ro, 0, []⟩, ⟨3, 3, .ro, 0, []⟩, ⟨2, 2, .ro, 0, []⟩, ⟨1, 1, .w1c, 0, []⟩, ⟨0, 0, .ro, 0, []⟩]⟩,
  ⟨0x500060, 0x0, 1, 0x0, 1, .p, false, [⟨31, 0, .w1c, 0, []⟩]⟩,
  ⟨0x501000, 0x20, 32, 0x0, 1, .p, false, [⟨31, 31, .ro, 0, []⟩, ⟨15, 0, .ro, 0, []⟩]⟩,
  ⟨0x501004, 0x20, 32, 0x0, 1, .p, false, [⟨31, 0, .ro, 0, []⟩]⟩,
  ⟨0x501008, 0x20, 32, 0x0, 1, .p, false, [⟨31, 0, .ro, 0, []⟩]⟩,
  ⟨0x50100C, 0x20, 32, 0x0, 1, .p, false, [⟨15, 0, .ro, 0, []⟩]⟩,
  ⟨0x501010, 0x20, 32, 0x0, 1, .p, false, [⟨6, 0, .ro, 0, []⟩]⟩,
  ⟨0x501014, 0x20, 32, 0x0, 1, .p, false, [⟨15, 0, .cnt, 0, []⟩]⟩,
  ⟨0x500010, 0x0, 1, 0x0, 1, .p, false, [⟨31, 0, .ro, 0, []⟩]⟩,
  ⟨0x500014, 0x0, 1, 0x0, 1, .p, false, [⟨31, 0, .ro, 0, []⟩]⟩,
  ⟨0x500018, 0x0, 1, 0x0, 1, .p, false, [⟨15, 0, .ro, 0, []⟩]⟩,
  ⟨0x50001C, 0x0, 1, 0x0, 1, .p, false, [⟨15, 0, .ro, 0, []⟩]⟩,
  ⟨0x500020, 0x0, 1, 0x0, 1, .p, false, [⟨31, 0, .ro, 0, []⟩]⟩,
  ⟨0x500024, 0x0, 1, 0x0, 1, .p, false, [⟨31, 0, .ro, 0, []⟩]⟩,
  ⟨0x500030, 0x0, 1, 0x0, 1, .p, true, [⟨31, 0, .rw, 0, []⟩]⟩]

/-- Register words of the REF block. -/
def regsRef : List RegRow := [
  ⟨0x680000, 0x100, 4, 0x0, 1, .p, false, [⟨31, 31, .rw, 0, []⟩, ⟨23, 16, .rw, 33, legalFormats⟩]⟩,
  ⟨0x680004, 0x100, 4, 0x0, 1, .p, false, [⟨23, 0, .rw, 0, []⟩]⟩,
  ⟨0x680008, 0x100, 4, 0x0, 1, .p, false, [⟨23, 16, .ro, 0, []⟩, ⟨2, 2, .ro, 0, []⟩, ⟨1, 1, .ro, 0, []⟩, ⟨0, 0, .ro, 0, []⟩]⟩,
  ⟨0x680010, 0x100, 4, 0x0, 1, .p, false, [⟨31, 16, .ro, 0, []⟩, ⟨7, 0, .ro, 0, []⟩]⟩,
  ⟨0x680014, 0x100, 4, 0x0, 1, .p, false, [⟨31, 0, .ro, 0, []⟩]⟩,
  ⟨0x680018, 0x100, 4, 0x0, 1, .p, false, [⟨31, 0, .ro, 0, []⟩]⟩,
  ⟨0x68001C, 0x100, 4, 0x0, 1, .p, false, [⟨31, 0, .ro, 0, []⟩]⟩,
  ⟨0x600000, 0x40, 5, 0x0, 1, .p, false, [⟨31, 31, .rw, 0, []⟩, ⟨25, 24, .rw, 0, [(0, 2)]⟩, ⟨23, 16, .rw, 10, [(1, 255)]⟩, ⟨15, 8, .rw, 10, [(1, 255)]⟩, ⟨7, 0, .rw, 33, legalFormats⟩]⟩,
  ⟨0x600140, 0x40, 4, 0x0, 1, .p, false, [⟨31, 31, .rw, 0, []⟩, ⟨25, 24, .rw, 0, [(0, 2)]⟩, ⟨23, 16, .rw, 50, [(1, 255)]⟩, ⟨15, 8, .rw, 10, [(1, 255)]⟩, ⟨7, 0, .rw, 33, legalFormats⟩]⟩,
  ⟨0x600004, 0x40, 9, 0x0, 1, .p, false, [⟨31, 16, .ro, 0, []⟩, ⟨15, 8, .cnt, 0, []⟩, ⟨7, 7, .w1c, 0, []⟩, ⟨6, 6, .w1c, 0, []⟩, ⟨2, 2, .ro, 0, []⟩, ⟨1, 1, .ro, 0, []⟩, ⟨0, 0, .ro, 0, []⟩]⟩,
  ⟨0x640000, 0x200, 4, 0x0, 1, .p, false, [⟨31, 31, .rw, 1, []⟩, ⟨30, 28, .rw, 3, []⟩, ⟨27, 25, .rw, 2, [(0, 4)]⟩, ⟨24, 24, .rw, 0, []⟩, ⟨23, 20, .rw, 0, [(0, 8)]⟩, ⟨19, 12, .rw, 20, [(1, 255)]⟩, ⟨11, 0, .rw, 60, []⟩]⟩,
  ⟨0x640004, 0x200, 4, 0x0, 1, .p, false, [⟨23, 16, .rw, 10, []⟩, ⟨15, 0, .rw, 60, [(1, 65535)]⟩]⟩,
  ⟨0x640010, 0x200, 4, 0x4, 9, .p, false, [⟨31, 31, .rw, 0, []⟩, ⟨30, 30, .ro, 0, []⟩, ⟨3, 0, .rw, 15, []⟩]⟩,
  ⟨0x640080, 0x200, 4, 0x0, 1, .p, false, [⟨11, 8, .ro, 15, []⟩, ⟨3, 0, .ro, 0, []⟩]⟩,
  ⟨0x640084, 0x200, 4, 0x0, 1, .p, false, [⟨31, 0, .ro, 0, []⟩]⟩,
  ⟨0x640088, 0x200, 4, 0x0, 1, .p, false, [⟨31, 0, .ro, 0, []⟩]⟩,
  ⟨0x670000, 0x0, 1, 0x0, 1, .p, true, [⟨9, 9, .w1c, 0, []⟩, ⟨8, 8, .ro, 0, []⟩, ⟨1, 0, .rw, 0, [(0, 2)]⟩]⟩,
  ⟨0x600148, 0x40, 4, 0x0, 1, .p, false, [⟨15, 0, .rw, 0, [(0, 2047)]⟩]⟩,
  ⟨0x660000, 0x10, 9, 0x0, 1, .p, false, [⟨31, 31, .rw, 0, []⟩, ⟨7, 4, .rw, 0, [(0, 9)]⟩, ⟨3, 3, .rw, 0, []⟩, ⟨1, 0, .rw, 0, []⟩]⟩,
  ⟨0x64008C, 0x200, 4, 0x0, 1, .p, false, [⟨8, 8, .w1c, 0, []⟩, ⟨7, 7, .w1c, 0, []⟩, ⟨6, 6, .w1c, 0, []⟩, ⟨5, 5, .w1c, 0, []⟩, ⟨4, 4, .w1c, 0, []⟩, ⟨3, 3, .w1c, 0, []⟩, ⟨2, 2, .w1c, 0, []⟩, ⟨1, 1, .w1c, 0, []⟩, ⟨0, 0, .w1c, 0, []⟩]⟩,
  ⟨0x640090, 0x200, 4, 0x0, 1, .p, false, [⟨8, 8, .rw, 0, []⟩, ⟨7, 7, .rw, 0, []⟩, ⟨6, 6, .rw, 0, []⟩, ⟨5, 5, .rw, 0, []⟩, ⟨4, 4, .rw, 0, []⟩, ⟨3, 3, .rw, 0, []⟩, ⟨2, 2, .rw, 0, []⟩, ⟨1, 1, .rw, 0, []⟩, ⟨0, 0, .rw, 0, []⟩]⟩]

/-- Register words of the HLN block. -/
def regsHln : List RegRow := [
  ⟨0x700000, 0x40, 144, 0x0, 1, .p, false, [⟨31, 31, .rw, 0, []⟩, ⟨30, 28, .rw, 0, [(0, 4)]⟩, ⟨27, 26, .rw, 3, []⟩, ⟨25, 21, .rw, 0, []⟩, ⟨20, 17, .rw, 0, []⟩, ⟨16, 16, .rw, 0, []⟩, ⟨15, 15, .rw, 0, []⟩, ⟨14, 14, .rw, 0, []⟩]⟩,
  ⟨0x700004, 0x40, 144, 0x0, 1, .p, false, [⟨31, 24, .ro, 0, []⟩, ⟨23, 16, .ro, 0, []⟩, ⟨7, 7, .w1c, 0, []⟩, ⟨6, 6, .w1c, 0, []⟩, ⟨4, 4, .ro, 0, []⟩, ⟨3, 3, .ro, 1, []⟩, ⟨2, 2, .ro, 0, []⟩, ⟨1, 1, .ro, 0, []⟩, ⟨0, 0, .ro, 0, []⟩]⟩,
  ⟨0x700008, 0x40, 144, 0x0, 1, .p, false, [⟨31, 0, .cnt, 0, []⟩]⟩,
  ⟨0x70000C, 0x40, 144, 0x0, 1, .p, false, [⟨31, 0, .cnt, 0, []⟩]⟩,
  ⟨0x2300000, 0x0, 1, 0x0, 1, .p, false, [⟨31, 24, .rw, 8, []⟩, ⟨23, 16, .rw, 12, []⟩, ⟨15, 12, .rw, 4, []⟩, ⟨11, 8, .rw, 3, [(1, 15)]⟩, ⟨7, 0, .rw, 10, [(1, 255)]⟩]⟩]

/-- Register words of the SLN block. -/
def regsSln : List RegRow := [
  ⟨0x800000, 0x40, 68, 0x0, 1, .p, false, [⟨31, 31, .rw, 0, []⟩, ⟨30, 30, .rw, 0, []⟩, ⟨29, 28, .rw, 0, [(0, 2)]⟩, ⟨27, 24, .rw, 14, [(0, 9), (14, 14)]⟩, ⟨23, 20, .rw, 0, [(0, 9)]⟩, ⟨19, 19, .rw, 0, []⟩]⟩,
  ⟨0x800004, 0x40, 68, 0x0, 1, .p, false, [⟨31, 28, .ro, 15, []⟩, ⟨4, 4, .ro, 0, []⟩, ⟨3, 3, .w1c, 0, []⟩, ⟨2, 2, .w1c, 0, []⟩, ⟨1, 1, .ro, 0, []⟩, ⟨0, 0, .ro, 0, []⟩]⟩]

/-- Register words of the SPR block. -/
def regsSpr : List RegRow := [
  ⟨0x900000, 0x10000, 16, 0x0, 1, .p, false, [⟨31, 31, .rw, 0, []⟩, ⟨30, 30, .rw, 0, []⟩, ⟨27, 23, .rw, 1, [(1, 16)]⟩, ⟨22, 22, .rw, 1, []⟩, ⟨21, 12, .rw, 60, [(1, 1023)]⟩, ⟨7, 0, .rw, 0, []⟩]⟩,
  ⟨0x900004, 0x10000, 16, 0x0, 1, .p, false, [⟨31, 31, .ro, 0, []⟩, ⟨30, 30, .ro, 0, []⟩, ⟨29, 29, .ro, 0, []⟩, ⟨28, 24, .ro, 31, []⟩, ⟨23, 19, .ro, 31, []⟩, ⟨18, 18, .ro, 0, []⟩, ⟨17, 17, .ro, 0, []⟩, ⟨16, 16, .w1c, 0, []⟩, ⟨15, 0, .ro, 0, []⟩]⟩,
  ⟨0x900008, 0x10000, 16, 0x0, 1, .p, false, [⟨31, 0, .cnt, 0, []⟩]⟩,
  ⟨0x901000, 0x10000, 16, 0x8, 3840, .p, false, [⟨31, 31, .rw, 0, []⟩, ⟨30, 30, .rw, 0, []⟩, ⟨26, 25, .rw, 0, []⟩, ⟨24, 14, .rw, 0, [(0, 1919)]⟩]⟩]

/-- Register words of the MAC block. -/
def regsMac : List RegRow := [
  ⟨0xA00010, 0x4000, 32, 0x0, 1, .p, false, [⟨7, 6, .ro, 0, []⟩, ⟨5, 5, .ro, 0, []⟩, ⟨4, 4, .w1c, 0, []⟩, ⟨3, 3, .ro, 1, []⟩, ⟨0, 0, .ro, 0, []⟩]⟩,
  ⟨0xA00100, 0x4000, 32, 0x0, 1, .p, false, [⟨31, 31, .rw, 0, []⟩, ⟨30, 30, .rw, 1, []⟩, ⟨29, 28, .rw, 0, []⟩]⟩,
  ⟨0xA80000, 0x0, 1, 0x0, 1, .p, false, [⟨31, 16, .ro, 0, []⟩, ⟨15, 0, .ro, 0, []⟩]⟩,
  ⟨0xA00000, 0x4000, 32, 0x0, 1, .p, false, [⟨31, 31, .rw, 0, []⟩, ⟨30, 29, .rw, 3, []⟩, ⟨28, 28, .rw, 0, []⟩, ⟨27, 27, .rw, 0, []⟩, ⟨26, 26, .rw, 1, []⟩, ⟨25, 25, .rw, 0, []⟩, ⟨24, 23, .rw, 0, []⟩, ⟨13, 0, .rw, 9216, [(1518, 9216)]⟩]⟩,
  ⟨0xA00004, 0x4000, 32, 0x0, 1, .p, false, [⟨31, 0, .rw, 0, []⟩]⟩,
  ⟨0xA00008, 0x4000, 32, 0x0, 1, .p, false, [⟨15, 0, .rw, 0, []⟩]⟩,
  ⟨0xA0000C, 0x4000, 32, 0x0, 1, .p, false, [⟨31, 0, .rw, 0, []⟩]⟩,
  ⟨0xA00200, 0x4000, 32, 0x0, 1, .p, false, [⟨1, 1, .wo, 0, []⟩, ⟨0, 0, .wo, 0, []⟩]⟩,
  ⟨0xA00208, 0x4000, 32, 0x0, 1, .p, false, [⟨31, 0, .w1c, 0, []⟩]⟩,
  ⟨0xA0020C, 0x4000, 32, 0x0, 1, .p, false, [⟨31, 0, .w1c, 0, []⟩]⟩,
  ⟨0xA01000, 0x4000, 32, 0x8, 64, .p, false, [⟨31, 0, .ro, 0, []⟩]⟩,
  ⟨0xA01004, 0x4000, 32, 0x8, 64, .p, false, [⟨15, 0, .ro, 0, []⟩]⟩,
  ⟨0xA00140, 0x4000, 32, 0x8, 16, .p, false, [⟨31, 31, .rw, 0, []⟩, ⟨27, 16, .rw, 0, [(1, 2250)]⟩, ⟨11, 0, .rw, 0, [(1, 2250)]⟩]⟩,
  ⟨0xA00144, 0x4000, 32, 0x8, 16, .p, false, [⟨15, 8, .rw, 0, []⟩, ⟨7, 0, .rw, 255, []⟩]⟩]

/-- Register words of the LAD block. -/
def regsLad0 : List RegRow := [
  ⟨0xB00000, 0x100, 64, 0x0, 1, .p, false, [⟨31, 31, .ro, 0, []⟩, ⟨30, 30, .ro, 0, []⟩, ⟨29, 29, .ro, 0, []⟩, ⟨23, 16, .ro, 0, []⟩, ⟨15, 8, .ro, 0, []⟩, ⟨7, 0, .ro, 0, []⟩]⟩,
  ⟨0xB04000, 0x100, 4, 0x0, 1, .p, false, [⟨31, 31, .ro, 0, []⟩, ⟨30, 30, .ro, 1, []⟩, ⟨29, 29, .ro, 0, []⟩, ⟨23, 16, .ro, 0, []⟩, ⟨15, 8, .ro, 0, []⟩, ⟨7, 0, .ro, 0, []⟩]⟩,
  ⟨0xB00004, 0x100, 68, 0x0, 1, .p, false, [⟨31, 16, .ro, 0, []⟩, ⟨15, 0, .ro, 0, []⟩]⟩,
  ⟨0xB40000, 0x20, 2048, 0x0, 1, .p, false, [⟨31, 31, .rw, 0, []⟩, ⟨30, 30, .rw, 0, []⟩, ⟨29, 29, .rw, 0, []⟩, ⟨28, 27, .rw, 0, [(0, 2)]⟩, ⟨26, 25, .rw, 0, []⟩, ⟨23, 16, .rw, 2, [(2, 255)]⟩, ⟨6, 0, .rw, 0, [(0, 67)]⟩]⟩,
  ⟨0xB40004, 0x20, 2048, 0x0, 1, .p, false, [⟨31, 16, .rw, 0, [(0, 2000)]⟩, ⟨15, 8, .rw, 4, [(1, 64)]⟩, ⟨4, 0, .rw, 2, [(1, 16)]⟩]⟩,
  ⟨0xB40008, 0x20, 2048, 0x0, 1, .p, false, [⟨24, 0, .ro, 0, []⟩]⟩,
  ⟨0xB4000C, 0x20, 2048, 0x0, 1, .p, false, [⟨31, 28, .rw, 0, [(0, 3)]⟩, ⟨27, 24, .rw, 0, []⟩, ⟨23, 12, .rw, 0, [(0, 3839)]⟩]⟩,
  ⟨0xB40010, 0x20, 2048, 0x0, 1, .p, false, [⟨31, 16, .rw, 65535, [(12288, 13311), (65535, 65535)]⟩, ⟨3, 0, .rw, 2, []⟩]⟩,
  ⟨0xB60000, 0x20, 2048, 0x0, 1, .p, false, [⟨31, 31, .ro, 0, []⟩, ⟨30, 30, .ro, 0, []⟩, ⟨29, 29, .ro, 0, []⟩, ⟨28, 28, .ro, 0, []⟩, ⟨27, 27, .ro, 0, []⟩, ⟨26, 26, .ro, 0, []⟩, ⟨23, 23, .w1c, 0, []⟩, ⟨22, 22, .w1c, 0, []⟩, ⟨21, 21, .w1c, 0, []⟩, ⟨20, 20, .w1c, 0, []⟩, ⟨7, 0, .ro, 0, []⟩]⟩,
  ⟨0xB60004, 0x20, 2048, 0x0, 1, .p, false, [⟨31, 0, .ro, 0, []⟩]⟩,
  ⟨0xB60008, 0x20, 2048, 0x0, 1, .p, false, [⟨31, 16, .ro, 0, []⟩]⟩,
  ⟨0xB80000, 0x40, 2048, 0x0, 1, .p, false, [⟨31, 0, .cnt, 0, []⟩]⟩,
  ⟨0xB80004, 0x40, 2048, 0x0, 1, .p, false, [⟨31, 0, .cnt, 0, []⟩]⟩,
  ⟨0xB80008, 0x40, 2048, 0x0, 1, .p, false, [⟨31, 0, .cnt, 0, []⟩]⟩,
  ⟨0xB8000C, 0x40, 2048, 0x0, 1, .p, false, [⟨31, 0, .cnt, 0, []⟩]⟩,
  ⟨0xB80010, 0x40, 2048, 0x0, 1, .p, false, [⟨31, 0, .cnt, 0, []⟩]⟩,
  ⟨0xB80014, 0x40, 2048, 0x0, 1, .p, false, [⟨31, 0, .cnt, 0, []⟩]⟩,
  ⟨0xB80018, 0x40, 2048, 0x0, 1, .p, false, [⟨31, 0, .cnt, 0, []⟩]⟩,
  ⟨0xB8001C, 0x40, 2048, 0x0, 1, .p, false, [⟨31, 0, .cnt, 0, []⟩]⟩,
  ⟨0xB80020, 0x40, 2048, 0x0, 1, .p, false, [⟨31, 0, .cnt, 0, []⟩]⟩,
  ⟨0xB80024, 0x40, 2048, 0x0, 1, .p, false, [⟨31, 0, .cnt, 0, []⟩]⟩,
  ⟨0xB80028, 0x40, 2048, 0x0, 1, .p, false, [⟨31, 0, .cnt, 0, []⟩]⟩,
  ⟨0xB8002C, 0x40, 2048, 0x0, 1, .p, false, []⟩,
  ⟨0xB80030, 0x40, 2048, 0x0, 1, .p, false, []⟩]

/-- Register words of the LAD block. -/
def regsLad1 : List RegRow := [
  ⟨0xB80034, 0x40, 2048, 0x0, 1, .p, false, []⟩,
  ⟨0xB80038, 0x40, 2048, 0x0, 1, .p, false, []⟩,
  ⟨0xB8003C, 0x40, 2048, 0x0, 1, .p, false, []⟩]

/-- Register words of the POOL block. -/
def regsPool0 : List RegRow := [
  ⟨0xC00000, 0x0, 1, 0x0, 1, .p, false, [⟨21, 12, .rw, 8, [(6, 600)]⟩, ⟨1, 1, .rw, 1, []⟩, ⟨0, 0, .rw, 1, []⟩]⟩,
  ⟨0xC00004, 0x0, 1, 0x0, 1, .p, false, [⟨4, 4, .w1c, 0, []⟩, ⟨3, 3, .ro, 0, []⟩, ⟨2, 2, .ro, 0, []⟩, ⟨1, 1, .ro, 0, []⟩, ⟨0, 0, .w1c, 0, []⟩]⟩,
  ⟨0xC00010, 0x0, 1, 0x0, 1, .p, false, [⟨24, 0, .ro, 32505856, []⟩]⟩,
  ⟨0xC00014, 0x0, 1, 0x0, 1, .p, false, [⟨24, 0, .ro, 32505856, []⟩]⟩,
  ⟨0xC00018, 0x0, 1, 0x0, 1, .p, false, [⟨31, 16, .ro, 0, []⟩, ⟨15, 0, .ro, 1, []⟩]⟩,
  ⟨0xC0001C, 0x0, 1, 0x0, 1, .p, false, [⟨31, 16, .ro, 0, []⟩, ⟨15, 0, .ro, 8192, []⟩]⟩,
  ⟨0xC10000, 0x40, 128, 0x0, 1, .p, false, [⟨31, 0, .cnt, 0, []⟩]⟩,
  ⟨0xC10004, 0x40, 128, 0x0, 1, .p, false, [⟨31, 0, .cnt, 0, []⟩]⟩,
  ⟨0xC10008, 0x40, 128, 0x0, 1, .p, false, [⟨31, 0, .cnt, 0, []⟩]⟩,
  ⟨0xC1000C, 0x40, 128, 0x0, 1, .p, false, [⟨31, 0, .cnt, 0, []⟩]⟩,
  ⟨0xC10010, 0x40, 128, 0x0, 1, .p, false, [⟨31, 0, .cnt, 0, []⟩]⟩,
  ⟨0xC10014, 0x40, 128, 0x0, 1, .p, false, [⟨31, 0, .cnt, 0, []⟩]⟩,
  ⟨0xC10018, 0x40, 128, 0x0, 1, .p, false, [⟨31, 24, .ro, 0, []⟩, ⟨23, 16, .ro, 0, []⟩, ⟨15, 0, .ro, 8192, []⟩]⟩,
  ⟨0xC1001C, 0x40, 128, 0x0, 1, .p, false, []⟩,
  ⟨0xC00040, 0x0, 1, 0x0, 1, .p, false, [⟨24, 0, .ro, 0, []⟩]⟩,
  ⟨0xC00044, 0x0, 1, 0x0, 1, .p, false, [⟨31, 0, .ro, 0, []⟩]⟩,
  ⟨0xC00048, 0x0, 1, 0x0, 1, .p, false, [⟨31, 0, .ro, 0, []⟩]⟩,
  ⟨0xC20000, 0x8, 1024, 0x0, 1, .p, false, [⟨31, 31, .ro, 0, []⟩, ⟨30, 30, .ro, 0, []⟩, ⟨29, 23, .ro, 0, []⟩, ⟨22, 19, .ro, 0, []⟩, ⟨18, 0, .ro, 0, []⟩]⟩,
  ⟨0xC20004, 0x8, 1024, 0x0, 1, .p, false, [⟨24, 0, .ro, 0, []⟩]⟩,
  ⟨0xC30000, 0x20, 16, 0x0, 1, .p, false, [⟨31, 31, .rw, 0, []⟩, ⟨30, 30, .rw, 0, []⟩, ⟨29, 29, .rw, 1, []⟩, ⟨21, 16, .rw, 12, [(12, 34)]⟩, ⟨15, 0, .rw, 0, []⟩]⟩,
  ⟨0xC30004, 0x20, 16, 0x0, 1, .p, false, [⟨31, 0, .rw, 0, []⟩]⟩,
  ⟨0xC30008, 0x20, 16, 0x0, 1, .p, false, [⟨24, 0, .rw, 0, []⟩]⟩,
  ⟨0xC3000C, 0x20, 16, 0x0, 1, .p, false, [⟨1, 1, .w1c, 0, []⟩, ⟨0, 0, .w1c, 0, []⟩]⟩,
  ⟨0xC30010, 0x20, 16, 0x0, 1, .p, false, [⟨24, 0, .ro, 0, []⟩]⟩]

/-- Register words of the POOL block. -/
def regsPool1 : List RegRow := [
  ⟨0xC30014, 0x20, 16, 0x0, 1, .p, false, [⟨31, 0, .cnt, 0, []⟩]⟩,
  ⟨0xC30018, 0x20, 16, 0x0, 1, .p, false, [⟨25, 25, .wo, 0, []⟩, ⟨24, 0, .wo, 0, []⟩]⟩]

/-- Register words of the PAT block. -/
def regsPat : List RegRow := [
  ⟨0xD00000, 0x100, 4, 0x0, 1, .p, false, [⟨30, 24, .rw, 24, [(0, 96)]⟩, ⟨22, 16, .rw, 16, [(0, 66)]⟩, ⟨15, 8, .rw, 16, [(1, 255)]⟩, ⟨7, 0, .rw, 50, [(1, 255)]⟩]⟩,
  ⟨0xD00004, 0x100, 4, 0x0, 1, .p, false, [⟨31, 31, .ro, 0, []⟩, ⟨30, 30, .ro, 0, []⟩, ⟨29, 29, .ro, 0, []⟩, ⟨28, 28, .ro, 0, []⟩, ⟨27, 27, .ro, 0, []⟩, ⟨15, 8, .rw, 0, legalFormats0⟩, ⟨7, 0, .rw, 0, legalFormats0⟩]⟩,
  ⟨0xD00008, 0x100, 4, 0x0, 1, .p, false, [⟨31, 0, .ro, 0, []⟩]⟩,
  ⟨0xD0000C, 0x100, 4, 0x0, 1, .p, false, [⟨31, 0, .ro, 0, []⟩]⟩,
  ⟨0xD00010, 0x100, 4, 0x0, 1, .p, false, [⟨31, 0, .ro, 0, []⟩]⟩,
  ⟨0xD00020, 0x100, 4, 0x0, 1, .p, false, [⟨31, 0, .cnt, 0, []⟩]⟩,
  ⟨0xD00024, 0x100, 4, 0x0, 1, .p, false, [⟨31, 0, .cnt, 0, []⟩]⟩,
  ⟨0xD00028, 0x100, 4, 0x0, 1, .p, false, [⟨7, 0, .ro, 0, []⟩]⟩,
  ⟨0xD00030, 0x100, 4, 0x0, 1, .p, false, [⟨30, 16, .ro, 0, []⟩, ⟨14, 0, .ro, 0, []⟩]⟩,
  ⟨0xD00034, 0x100, 4, 0x0, 1, .p, false, [⟨28, 16, .ro, 0, []⟩, ⟨12, 0, .ro, 0, []⟩]⟩,
  ⟨0xD00038, 0x100, 4, 0x0, 1, .p, false, [⟨30, 24, .ro, 0, []⟩, ⟨15, 0, .ro, 0, []⟩]⟩,
  ⟨0xD10000, 0x0, 1, 0x0, 1, .p, false, [⟨31, 16, .cnt, 0, []⟩, ⟨1, 1, .w1c, 0, []⟩, ⟨0, 0, .w1c, 0, []⟩]⟩,
  ⟨0xD10010, 0x0, 1, 0x0, 1, .p, false, [⟨31, 31, .w1c, 0, []⟩, ⟨12, 0, .ro, 0, []⟩]⟩,
  ⟨0xD20000, 0x10, 2048, 0x0, 1, .p, false, [⟨31, 16, .ro, 65535, []⟩, ⟨15, 8, .ro, 0, []⟩, ⟨7, 7, .ro, 0, []⟩, ⟨6, 6, .ro, 0, []⟩, ⟨5, 5, .ro, 0, []⟩, ⟨4, 4, .w1c, 0, []⟩]⟩,
  ⟨0xD20004, 0x10, 2048, 0x0, 1, .p, false, [⟨31, 16, .ro, 65535, []⟩, ⟨15, 8, .ro, 0, []⟩, ⟨7, 7, .ro, 0, []⟩, ⟨6, 6, .ro, 0, []⟩, ⟨0, 0, .ro, 0, []⟩]⟩,
  ⟨0xD20008, 0x10, 2048, 0x0, 1, .p, false, [⟨31, 0, .ro, 0, []⟩]⟩,
  ⟨0xD2000C, 0x10, 2048, 0x0, 1, .p, false, [⟨31, 0, .ro, 0, []⟩]⟩]

/-- Register words of the CMD block. -/
def regsCmd0 : List RegRow := [
  ⟨0x480000, 0x10, 256, 0x0, 1, .c, false, [⟨31, 31, .ro, 0, []⟩, ⟨30, 30, .rw, 0, []⟩, ⟨29, 28, .rw, 0, [(0, 2)]⟩, ⟨27, 22, .rw, 0, []⟩, ⟨12, 0, .ro, 0, []⟩]⟩,
  ⟨0x480004, 0x10, 256, 0x0, 1, .c, false, [⟨31, 0, .cnt, 0, []⟩]⟩,
  ⟨0x480008, 0x10, 256, 0x0, 1, .c, false, [⟨31, 16, .ro, 0, []⟩]⟩,
  ⟨0x48000C, 0x10, 256, 0x0, 1, .c, false, []⟩,
  ⟨0x481000, 0x0, 1, 0x0, 1, .c, false, [⟨31, 16, .cnt, 0, []⟩, ⟨6, 0, .ro, 0, []⟩]⟩,
  ⟨0x400000, 0x100, 16, 0x0, 1, .c, false, [⟨31, 31, .rw, 1, []⟩, ⟨15, 0, .rw, 65535, []⟩]⟩,
  ⟨0x400010, 0x100, 16, 0x0, 1, .a, false, [⟨31, 0, .ro, 0, []⟩]⟩,
  ⟨0x400014, 0x100, 16, 0x0, 1, .a, false, [⟨31, 0, .ro, 0, []⟩]⟩,
  ⟨0x400018, 0x100, 16, 0x0, 1, .a, false, [⟨31, 0, .ro, 4294967295, []⟩]⟩,
  ⟨0x400020, 0x100, 16, 0x0, 1, .c, false, [⟨31, 31, .w1c, 0, []⟩, ⟨8, 0, .ro, 0, []⟩]⟩,
  ⟨0x400030, 0x100, 16, 0x0, 1, .c, false, [⟨31, 0, .cnt, 0, []⟩]⟩,
  ⟨0x400034, 0x100, 16, 0x0, 1, .c, false, [⟨31, 0, .cnt, 0, []⟩]⟩,
  ⟨0x400038, 0x100, 16, 0x0, 1, .c, false, [⟨31, 0, .cnt, 0, []⟩]⟩,
  ⟨0x40003C, 0x100, 16, 0x0, 1, .c, false, [⟨31, 0, .cnt, 0, []⟩]⟩,
  ⟨0x400040, 0x100, 16, 0x0, 1, .c, false, [⟨31, 0, .cnt, 0, []⟩]⟩,
  ⟨0x400044, 0x100, 16, 0x0, 1, .c, false, [⟨31, 0, .cnt, 0, []⟩]⟩,
  ⟨0x4A0000, 0x0, 1, 0x0, 1, .a, false, [⟨31, 0, .ro, 0, []⟩]⟩,
  ⟨0x4A0004, 0x0, 1, 0x0, 1, .a, false, [⟨31, 0, .ro, 0, []⟩]⟩,
  ⟨0x4A0008, 0x0, 1, 0x0, 1, .a, false, [⟨31, 0, .rw, 0, []⟩]⟩,
  ⟨0x4A000C, 0x0, 1, 0x0, 1, .a, false, [⟨31, 0, .rw, 0, []⟩]⟩,
  ⟨0x400880, 0x100, 4, 0x0, 1, .c, false, [⟨31, 31, .rw, 0, []⟩, ⟨30, 30, .rw, 0, []⟩, ⟨29, 29, .rw, 0, []⟩, ⟨21, 16, .rw, 0, []⟩, ⟨15, 0, .rw, 0, []⟩]⟩,
  ⟨0x400884, 0x100, 4, 0x0, 1, .c, false, [⟨31, 0, .rw, 0, []⟩]⟩,
  ⟨0x400888, 0x100, 4, 0x0, 1, .b, false, [⟨31, 0, .ro, 0, []⟩]⟩,
  ⟨0x40088C, 0x100, 4, 0x0, 1, .b, false, [⟨31, 0, .ro, 0, []⟩]⟩]

/-- Register words of the CMD block. -/
def regsCmd1 : List RegRow := [
  ⟨0x400050, 0x100, 8, 0x0, 1, .h, false, [⟨31, 0, .rw, 0, []⟩]⟩,
  ⟨0x400054, 0x100, 8, 0x0, 1, .h, false, [⟨31, 0, .rw, 0, []⟩]⟩,
  ⟨0x400058, 0x100, 8, 0x0, 1, .h, false, [⟨31, 0, .rw, 0, []⟩]⟩,
  ⟨0x40005C, 0x100, 8, 0x0, 1, .h, false, [⟨31, 0, .rw, 0, []⟩]⟩,
  ⟨0x400060, 0x100, 8, 0x0, 1, .h, false, [⟨31, 31, .rw, 0, []⟩, ⟨18, 16, .rw, 4, [(0, 4)]⟩, ⟨10, 0, .rw, 0, []⟩]⟩,
  ⟨0x400064, 0x100, 8, 0x0, 1, .h, false, [⟨9, 0, .rw, 256, [(16, 1023)]⟩]⟩,
  ⟨0x400068, 0x100, 8, 0x0, 1, .h, false, [⟨31, 16, .ro, 0, []⟩, ⟨15, 0, .rw, 0, []⟩]⟩,
  ⟨0x40006C, 0x100, 8, 0x0, 1, .h, false, [⟨31, 16, .ro, 0, []⟩, ⟨15, 0, .rw, 0, []⟩]⟩,
  ⟨0x4A0010, 0x0, 1, 0x0, 1, .a, false, [⟨31, 0, .ro, 0, []⟩]⟩,
  ⟨0x4A0014, 0x0, 1, 0x0, 1, .a, false, [⟨31, 0, .ro, 0, []⟩]⟩,
  ⟨0x4A0018, 0x0, 1, 0x0, 1, .a, false, [⟨31, 0, .ro, 0, []⟩]⟩,
  ⟨0x4A001C, 0x0, 1, 0x0, 1, .a, false, [⟨31, 0, .ro, 0, []⟩]⟩,
  ⟨0x4A0020, 0x0, 1, 0x0, 1, .a, false, [⟨31, 0, .ro, 0, []⟩]⟩,
  ⟨0x4A0024, 0x0, 1, 0x0, 1, .a, false, [⟨31, 0, .ro, 0, []⟩]⟩,
  ⟨0x4A0028, 0x0, 1, 0x0, 1, .a, false, [⟨31, 0, .ro, 0, []⟩]⟩,
  ⟨0x4A002C, 0x0, 1, 0x0, 1, .a, false, [⟨31, 0, .ro, 0, []⟩]⟩]

/-- Register words of the SHK block. -/
def regsShk0 : List RegRow := [
  ⟨0xE00000, 0x100, 64, 0x0, 1, .p, false, [⟨31, 31, .ro, 0, []⟩, ⟨30, 30, .ro, 0, []⟩, ⟨29, 29, .ro, 0, []⟩, ⟨23, 16, .ro, 0, []⟩, ⟨15, 8, .ro, 0, []⟩, ⟨7, 0, .ro, 0, []⟩]⟩,
  ⟨0xE04000, 0x100, 4, 0x0, 1, .p, false, [⟨31, 31, .ro, 0, []⟩, ⟨30, 30, .ro, 1, []⟩, ⟨29, 29, .ro, 0, []⟩, ⟨23, 16, .ro, 0, []⟩, ⟨15, 8, .ro, 0, []⟩, ⟨7, 0, .ro, 0, []⟩]⟩,
  ⟨0xE00004, 0x100, 68, 0x0, 1, .p, false, [⟨31, 16, .ro, 0, []⟩, ⟨15, 0, .ro, 0, []⟩]⟩,
  ⟨0xE40000, 0x20, 2048, 0x0, 1, .p, false, [⟨31, 31, .rw, 0, []⟩, ⟨30, 28, .rw, 0, [(0, 3)]⟩, ⟨27, 27, .rw, 0, []⟩, ⟨26, 25, .rw, 0, []⟩, ⟨24, 24, .rw, 0, []⟩, ⟨23, 22, .rw, 0, [(0, 2)]⟩, ⟨21, 20, .rw, 0, [(0, 1)]⟩, ⟨19, 19, .rw, 0, []⟩, ⟨18, 18, .rw, 0, []⟩, ⟨17, 17, .rw, 0, []⟩, ⟨6, 0, .rw, 0, [(0, 67)]⟩]⟩,
  ⟨0xE40004, 0x20, 2048, 0x0, 1, .p, false, [⟨31, 24, .rw, 25, []⟩, ⟨23, 0, .rw, 0, []⟩]⟩,
  ⟨0xE40008, 0x20, 2048, 0x0, 1, .p, false, [⟨25, 0, .rw, 0, []⟩]⟩,
  ⟨0xE4000C, 0x20, 2048, 0x0, 1, .p, false, [⟨31, 0, .rw, 0, []⟩]⟩,
  ⟨0xE40010, 0x20, 2048, 0x0, 1, .p, false, [⟨31, 28, .rw, 0, []⟩, ⟨27, 16, .rw, 0, [(0, 3839)]⟩]⟩,
  ⟨0xE60000, 0x10, 2048, 0x0, 1, .p, false, [⟨31, 31, .ro, 0, []⟩, ⟨30, 30, .ro, 0, []⟩, ⟨29, 29, .ro, 0, []⟩, ⟨28, 28, .w1c, 0, []⟩]⟩,
  ⟨0xE60004, 0x10, 2048, 0x0, 1, .p, false, [⟨31, 0, .ro, 0, []⟩]⟩,
  ⟨0xE60008, 0x10, 2048, 0x0, 1, .p, false, [⟨31, 0, .ro, 0, []⟩]⟩,
  ⟨0xE80000, 0x40, 2048, 0x0, 1, .p, false, [⟨31, 0, .cnt, 0, []⟩]⟩,
  ⟨0xE80004, 0x40, 2048, 0x0, 1, .p, false, [⟨31, 0, .cnt, 0, []⟩]⟩,
  ⟨0xE80008, 0x40, 2048, 0x0, 1, .p, false, [⟨31, 0, .cnt, 0, []⟩]⟩,
  ⟨0xE8000C, 0x40, 2048, 0x0, 1, .p, false, [⟨31, 0, .cnt, 0, []⟩]⟩,
  ⟨0xE80010, 0x40, 2048, 0x0, 1, .p, false, [⟨31, 0, .cnt, 0, []⟩]⟩,
  ⟨0xE80014, 0x40, 2048, 0x0, 1, .p, false, [⟨31, 0, .cnt, 0, []⟩]⟩,
  ⟨0xE80018, 0x40, 2048, 0x0, 1, .p, false, []⟩,
  ⟨0xE8001C, 0x40, 2048, 0x0, 1, .p, false, []⟩,
  ⟨0xE80020, 0x40, 2048, 0x0, 1, .p, false, []⟩,
  ⟨0xE80024, 0x40, 2048, 0x0, 1, .p, false, []⟩,
  ⟨0xE80028, 0x40, 2048, 0x0, 1, .p, false, []⟩,
  ⟨0xE8002C, 0x40, 2048, 0x0, 1, .p, false, []⟩,
  ⟨0xE80030, 0x40, 2048, 0x0, 1, .p, false, []⟩]

/-- Register words of the SHK block. -/
def regsShk1 : List RegRow := [
  ⟨0xE80034, 0x40, 2048, 0x0, 1, .p, false, []⟩,
  ⟨0xE80038, 0x40, 2048, 0x0, 1, .p, false, []⟩,
  ⟨0xE8003C, 0x40, 2048, 0x0, 1, .p, false, []⟩]

/-- Register words of the CHM block. -/
def regsChm : List RegRow := [
  ⟨0xF00000, 0x100, 34, 0x0, 1, .p, false, [⟨31, 31, .rw, 0, []⟩, ⟨30, 30, .rw, 0, []⟩, ⟨29, 29, .rw, 0, []⟩, ⟨28, 27, .rw, 0, []⟩, ⟨23, 20, .rw, 2, [(1, 15)]⟩, ⟨15, 0, .rw, 65535, [(2048, 4095), (65535, 65535)]⟩]⟩,
  ⟨0xF00004, 0x100, 34, 0x0, 1, .p, false, [⟨29, 20, .rw, 64, []⟩, ⟨19, 10, .rw, 512, []⟩, ⟨9, 0, .rw, 512, []⟩]⟩,
  ⟨0xF00010, 0x100, 32, 0x0, 1, .p, false, [⟨31, 31, .ro, 0, []⟩, ⟨30, 30, .ro, 0, []⟩, ⟨29, 29, .ro, 0, []⟩, ⟨5, 0, .ro, 0, []⟩]⟩,
  ⟨0xF02010, 0x100, 2, 0x0, 1, .p, false, [⟨31, 31, .ro, 0, []⟩, ⟨30, 30, .ro, 1, []⟩, ⟨29, 29, .ro, 0, []⟩, ⟨5, 0, .ro, 0, []⟩]⟩,
  ⟨0xF00014, 0x100, 34, 0x0, 1, .p, false, [⟨31, 0, .cnt, 0, []⟩]⟩,
  ⟨0xF40000, 0x40, 512, 0x0, 1, .p, false, [⟨31, 31, .rw, 0, []⟩, ⟨29, 24, .rw, 0, [(0, 33)]⟩, ⟨22, 20, .rw, 0, [(0, 4)]⟩, ⟨19, 15, .rw, 0, []⟩, ⟨9, 0, .rw, 1023, []⟩]⟩,
  ⟨0xF40004, 0x40, 512, 0x0, 1, .p, false, [⟨31, 16, .rw, 65535, []⟩, ⟨15, 8, .rw, 0, []⟩]⟩,
  ⟨0xF40008, 0x40, 512, 0x0, 1, .p, false, [⟨27, 16, .rw, 0, []⟩, ⟨11, 0, .rw, 0, [(0, 2159)]⟩]⟩,
  ⟨0xF4000C, 0x40, 512, 0x0, 1, .p, false, [⟨28, 16, .rw, 1, [(1, 4096)]⟩, ⟨11, 0, .rw, 1, [(1, 2160)]⟩]⟩,
  ⟨0xF40010, 0x40, 512, 0x0, 1, .p, false, [⟨31, 16, .rw, 0, [(0, 4095), (61440, 65535)]⟩, ⟨15, 0, .rw, 0, [(0, 4095), (61440, 65535)]⟩]⟩,
  ⟨0xF40014, 0x40, 512, 0x0, 1, .p, false, [⟨28, 16, .rw, 1, [(1, 3840)]⟩, ⟨11, 0, .rw, 1, [(1, 2160)]⟩]⟩,
  ⟨0xF40018, 0x40, 512, 0x0, 1, .p, false, [⟨31, 22, .rw, 64, []⟩, ⟨21, 12, .rw, 16, []⟩, ⟨8, 0, .rw, 0, []⟩]⟩,
  ⟨0xF4001C, 0x40, 512, 0x0, 1, .p, false, []⟩,
  ⟨0xF80000, 0x10, 512, 0x0, 1, .p, false, [⟨30, 30, .ro, 0, []⟩, ⟨23, 16, .ro, 0, []⟩, ⟨15, 0, .ro, 0, []⟩]⟩,
  ⟨0xFC0000, 0x20, 256, 0x0, 1, .p, false, [⟨31, 31, .rw, 0, []⟩, ⟨30, 28, .rw, 0, [(0, 3)]⟩, ⟨27, 26, .rw, 0, []⟩, ⟨25, 23, .rw, 2, [(2, 4)]⟩]⟩,
  ⟨0xFC0004, 0x20, 256, 0x0, 1, .p, false, [⟨28, 16, .rw, 1, [(1, 4096)]⟩, ⟨11, 0, .rw, 1, [(1, 2160)]⟩]⟩,
  ⟨0xFC0008, 0x20, 256, 0x0, 1, .p, false, [⟨31, 31, .ro, 0, []⟩, ⟨27, 26, .ro, 0, []⟩, ⟨25, 24, .ro, 0, []⟩, ⟨11, 8, .ro, 0, []⟩, ⟨7, 0, .ro, 0, []⟩]⟩,
  ⟨0xFC000C, 0x20, 256, 0x0, 1, .p, false, [⟨31, 0, .cnt, 0, []⟩]⟩,
  ⟨0xFE0000, 0x8, 256, 0x0, 1, .p, false, [⟨31, 0, .rw, 0, []⟩]⟩,
  ⟨0xFE0004, 0x8, 256, 0x0, 1, .p, false, [⟨31, 0, .cnt, 0, []⟩]⟩,
  ⟨0x2B00000, 0x0, 1, 0x0, 1, .p, false, [⟨31, 31, .ro, 0, []⟩, ⟨30, 30, .ro, 0, []⟩, ⟨29, 29, .w1c, 0, []⟩, ⟨8, 0, .ro, 0, []⟩]⟩,
  ⟨0x2B00100, 0x4, 8, 0x0, 1, .p, false, [⟨31, 0, .w1c, 0, []⟩]⟩,
  ⟨0x2B00200, 0x4, 16, 0x0, 1, .p, false, [⟨31, 0, .w1c, 0, []⟩]⟩]

/-- Register words of the AUD block. -/
def regsAud : List RegRow := [
  ⟨0x1000000, 0x0, 1, 0x0, 1, .p, false, [⟨31, 24, .rw, 8, [(1, 255)]⟩, ⟨23, 16, .rw, 10, [(1, 255)]⟩, ⟨15, 8, .rw, 10, [(1, 255)]⟩]⟩,
  ⟨0x1000004, 0x0, 1, 0x0, 1, .p, false, [⟨31, 16, .rw, 64636, []⟩, ⟨15, 0, .rw, 50, [(1, 65535)]⟩]⟩,
  ⟨0x1000010, 0x0, 1, 0x0, 1, .p, false, [⟨31, 31, .ro, 1, []⟩, ⟨30, 30, .w1c, 0, []⟩, ⟨15, 0, .cnt, 0, []⟩]⟩,
  ⟨0x1000020, 0x0, 1, 0x0, 1, .p, false, [⟨31, 16, .ro, 0, []⟩, ⟨15, 0, .ro, 0, []⟩]⟩,
  ⟨0x1000024, 0x0, 1, 0x0, 1, .p, false, [⟨31, 16, .ro, 0, []⟩, ⟨15, 0, .ro, 0, []⟩]⟩,
  ⟨0x1000028, 0x0, 1, 0x0, 1, .p, false, [⟨31, 16, .ro, 0, []⟩, ⟨15, 0, .ro, 0, []⟩]⟩,
  ⟨0x1040000, 0x8, 32768, 0x0, 1, .p, false, [⟨31, 16, .rw, 65535, [(0, 49151), (65535, 65535)]⟩, ⟨15, 0, .ro, 65535, []⟩]⟩,
  ⟨0x1040004, 0x8, 32768, 0x0, 1, .p, false, [⟨31, 31, .ro, 0, []⟩, ⟨30, 30, .ro, 0, []⟩, ⟨29, 29, .ro, 0, []⟩, ⟨8, 0, .rw, 48, [(0, 480)]⟩]⟩,
  ⟨0x1080000, 0x8, 32768, 0x0, 1, .p, false, [⟨31, 16, .ro, 32768, []⟩, ⟨15, 0, .ro, 32768, []⟩]⟩,
  ⟨0x1080004, 0x8, 32768, 0x0, 1, .p, false, [⟨31, 16, .ro, 32768, []⟩, ⟨2, 2, .ro, 0, []⟩, ⟨1, 1, .w1c, 0, []⟩, ⟨0, 0, .w1c, 0, []⟩]⟩,
  ⟨0x10C0000, 0x8, 32768, 0x0, 1, .p, false, [⟨31, 16, .ro, 32768, []⟩, ⟨15, 0, .ro, 32768, []⟩]⟩,
  ⟨0x10C0004, 0x8, 32768, 0x0, 1, .p, false, [⟨31, 16, .ro, 32768, []⟩, ⟨2, 2, .ro, 0, []⟩, ⟨1, 1, .w1c, 0, []⟩, ⟨0, 0, .w1c, 0, []⟩]⟩]

/-- Register words of the NWT block. -/
def regsNwt : List RegRow := [
  ⟨0x1100000, 0x1000, 64, 0x0, 1, .p, false, [⟨31, 31, .ro, 0, []⟩, ⟨30, 30, .ro, 0, []⟩, ⟨29, 29, .ro, 0, []⟩, ⟨28, 28, .ro, 0, []⟩, ⟨27, 22, .ro, 0, []⟩, ⟨16, 0, .ro, 0, []⟩]⟩,
  ⟨0x1140000, 0x1000, 4, 0x0, 1, .p, false, [⟨31, 31, .ro, 0, []⟩, ⟨30, 30, .ro, 1, []⟩, ⟨29, 29, .ro, 0, []⟩, ⟨28, 28, .ro, 0, []⟩, ⟨27, 22, .ro, 0, []⟩, ⟨16, 0, .ro, 0, []⟩]⟩,
  ⟨0x1100010, 0x1000, 68, 0x0, 1, .p, false, [⟨31, 0, .cnt, 0, []⟩]⟩,
  ⟨0x1100014, 0x1000, 68, 0x0, 1, .p, false, [⟨31, 0, .cnt, 0, []⟩]⟩,
  ⟨0x1100018, 0x1000, 68, 0x0, 1, .p, false, [⟨31, 0, .cnt, 0, []⟩]⟩,
  ⟨0x110001C, 0x1000, 68, 0x0, 1, .p, false, [⟨16, 0, .ro, 0, []⟩]⟩,
  ⟨0x1100100, 0x1000, 68, 0x20, 32, .p, false, [⟨31, 31, .ro, 0, []⟩, ⟨30, 30, .ro, 0, []⟩, ⟨29, 29, .ro, 0, []⟩, ⟨23, 16, .ro, 0, []⟩, ⟨5, 0, .ro, 0, []⟩]⟩,
  ⟨0x1100104, 0x1000, 68, 0x20, 32, .p, false, [⟨16, 0, .ro, 0, []⟩]⟩,
  ⟨0x1100108, 0x1000, 68, 0x20, 32, .p, false, [⟨16, 0, .ro, 0, []⟩]⟩,
  ⟨0x110010C, 0x1000, 68, 0x20, 32, .p, false, [⟨31, 0, .cnt, 0, []⟩]⟩,
  ⟨0x1100110, 0x1000, 68, 0x20, 32, .p, false, [⟨31, 0, .cnt, 0, []⟩]⟩,
  ⟨0x1100114, 0x1000, 68, 0x20, 32, .p, false, [⟨12, 0, .ro, 0, []⟩]⟩,
  ⟨0x1180000, 0x0, 1, 0x0, 1, .p, false, [⟨31, 25, .rw, 0, [(0, 67)]⟩, ⟨24, 24, .rw, 0, []⟩, ⟨17, 16, .rw, 0, []⟩, ⟨0, 0, .w1c, 0, []⟩]⟩]

/-- Register words of the APT block. -/
def regsApt0 : List RegRow := [
  ⟨0x1200000, 0x0, 1, 0x0, 1, .p, false, [⟨31, 31, .rw, 1, []⟩, ⟨30, 30, .rw, 0, []⟩, ⟨29, 29, .rw, 0, []⟩, ⟨14, 10, .rw, 7, []⟩, ⟨9, 8, .rw, 3, []⟩, ⟨2, 0, .rw, 1, []⟩]⟩,
  ⟨0x1210000, 0x100, 16, 0x0, 1, .p, false, [⟨31, 31, .rw, 0, []⟩, ⟨30, 30, .rw, 0, []⟩, ⟨29, 29, .rw, 0, []⟩, ⟨28, 28, .rw, 0, []⟩, ⟨27, 27, .rw, 1, []⟩, ⟨26, 26, .rw, 0, []⟩, ⟨25, 25, .rw, 0, []⟩, ⟨15, 0, .rw, 0, [(0, 32767)]⟩]⟩,
  ⟨0x1210004, 0x100, 16, 0x0, 1, .p, false, [⟨15, 0, .rw, 0, [(0, 32767)]⟩]⟩,
  ⟨0x1210020, 0x100, 16, 0x0, 1, .p, false, [⟨31, 30, .ro, 0, []⟩, ⟨29, 27, .ro, 7, []⟩, ⟨5, 5, .w1c, 0, []⟩, ⟨4, 4, .w1c, 0, []⟩, ⟨3, 3, .ro, 0, []⟩, ⟨2, 2, .ro, 0, []⟩, ⟨1, 1, .ro, 0, []⟩]⟩,
  ⟨0x1210024, 0x100, 16, 0x0, 1, .p, false, [⟨0, 0, .wo, 0, []⟩]⟩,
  ⟨0x1210040, 0x100, 16, 0x0, 1, .p, false, [⟨31, 0, .cnt, 0, []⟩]⟩,
  ⟨0x1210044, 0x100, 16, 0x0, 1, .p, false, [⟨31, 0, .cnt, 0, []⟩]⟩,
  ⟨0x1210048, 0x100, 16, 0x0, 1, .p, false, [⟨31, 0, .cnt, 0, []⟩]⟩,
  ⟨0x121004C, 0x100, 16, 0x0, 1, .p, false, [⟨31, 0, .cnt, 0, []⟩]⟩,
  ⟨0x1210050, 0x100, 16, 0x0, 1, .p, false, [⟨31, 0, .cnt, 0, []⟩]⟩,
  ⟨0x1210054, 0x100, 16, 0x0, 1, .p, false, [⟨31, 0, .cnt, 0, []⟩]⟩,
  ⟨0x1210058, 0x100, 16, 0x0, 1, .p, false, [⟨31, 0, .cnt, 0, []⟩]⟩,
  ⟨0x121005C, 0x100, 16, 0x0, 1, .p, false, []⟩,
  ⟨0x1210010, 0x100, 16, 0x0, 1, .p, false, [⟨31, 0, .rw, 3, []⟩]⟩,
  ⟨0x1210014, 0x100, 16, 0x0, 1, .p, false, [⟨31, 0, .rw, 3, []⟩]⟩,
  ⟨0x1210018, 0x100, 16, 0x0, 1, .p, false, [⟨31, 0, .ro, 3, []⟩]⟩,
  ⟨0x121001C, 0x100, 16, 0x0, 1, .p, false, [⟨31, 0, .ro, 3, []⟩]⟩,
  ⟨0x1210080, 0x100, 16, 0x0, 1, .p, false, [⟨31, 0, .ro, 0, []⟩]⟩,
  ⟨0x1210084, 0x100, 16, 0x0, 1, .p, false, [⟨31, 0, .ro, 0, []⟩]⟩,
  ⟨0x1210088, 0x100, 16, 0x0, 1, .p, false, [⟨31, 0, .ro, 0, []⟩]⟩,
  ⟨0x121008C, 0x100, 16, 0x0, 1, .p, false, [⟨31, 0, .ro, 0, []⟩]⟩,
  ⟨0x1210090, 0x100, 16, 0x0, 1, .p, false, [⟨31, 0, .ro, 0, []⟩]⟩,
  ⟨0x1210094, 0x100, 16, 0x0, 1, .p, false, [⟨31, 0, .ro, 0, []⟩]⟩,
  ⟨0x1210098, 0x100, 16, 0x0, 1, .p, false, [⟨31, 0, .ro, 0, []⟩]⟩]

/-- Register words of the APT block. -/
def regsApt1 : List RegRow := [
  ⟨0x121009C, 0x100, 16, 0x0, 1, .p, false, [⟨31, 0, .ro, 0, []⟩]⟩,
  ⟨0x12100A0, 0x100, 16, 0x0, 1, .p, false, [⟨31, 0, .ro, 0, []⟩]⟩,
  ⟨0x12100A4, 0x100, 16, 0x0, 1, .p, false, [⟨31, 0, .ro, 0, []⟩]⟩,
  ⟨0x12100A8, 0x100, 16, 0x0, 1, .p, false, [⟨31, 0, .ro, 0, []⟩]⟩,
  ⟨0x12100AC, 0x100, 16, 0x0, 1, .p, false, [⟨31, 0, .ro, 0, []⟩]⟩,
  ⟨0x12100C0, 0x100, 16, 0x0, 1, .p, false, [⟨31, 0, .rw, 0, []⟩]⟩,
  ⟨0x12100C4, 0x100, 16, 0x0, 1, .p, false, [⟨31, 0, .rw, 0, []⟩]⟩,
  ⟨0x12100C8, 0x100, 16, 0x0, 1, .p, false, [⟨31, 0, .rw, 0, []⟩]⟩,
  ⟨0x12100CC, 0x100, 16, 0x0, 1, .p, false, [⟨31, 0, .rw, 0, []⟩]⟩,
  ⟨0x12100D0, 0x100, 16, 0x0, 1, .p, false, [⟨31, 0, .rw, 0, []⟩]⟩,
  ⟨0x12100D4, 0x100, 16, 0x0, 1, .p, false, [⟨31, 0, .rw, 0, []⟩]⟩,
  ⟨0x12100D8, 0x100, 16, 0x0, 1, .p, false, [⟨31, 0, .rw, 0, []⟩]⟩,
  ⟨0x12100DC, 0x100, 16, 0x0, 1, .p, false, [⟨31, 0, .rw, 0, []⟩]⟩,
  ⟨0x12100E0, 0x100, 16, 0x0, 1, .p, false, [⟨31, 0, .rw, 0, []⟩]⟩,
  ⟨0x12100E4, 0x100, 16, 0x0, 1, .p, false, [⟨31, 0, .rw, 0, []⟩]⟩,
  ⟨0x12100E8, 0x100, 16, 0x0, 1, .p, false, [⟨31, 0, .rw, 0, []⟩]⟩,
  ⟨0x12100EC, 0x100, 16, 0x0, 1, .p, false, [⟨31, 0, .rw, 0, []⟩]⟩]

/-- Register words of the MEAS block. -/
def regsMeas : List RegRow := [
  ⟨0x1300000, 0x0, 1, 0x0, 1, .p, false, [⟨31, 31, .rw, 1, []⟩, ⟨25, 16, .rw, 10, [(1, 600)]⟩]⟩,
  ⟨0x1300010, 0x0, 1, 0x0, 1, .p, false, [⟨31, 22, .rw, 80, []⟩, ⟨21, 15, .rw, 98, [(1, 100)]⟩]⟩,
  ⟨0x1300014, 0x0, 1, 0x0, 1, .p, false, [⟨31, 24, .rw, 20, [(1, 255)]⟩, ⟨23, 16, .rw, 20, [(1, 255)]⟩, ⟨15, 0, .rw, 1, []⟩]⟩,
  ⟨0x1300018, 0x0, 1, 0x0, 1, .p, false, [⟨31, 16, .rw, 1, []⟩, ⟨15, 0, .rw, 0, []⟩]⟩,
  ⟨0x130001C, 0x0, 1, 0x0, 1, .p, false, [⟨31, 16, .rw, 20, []⟩, ⟨15, 0, .rw, 1000, []⟩]⟩,
  ⟨0x1300020, 0x0, 1, 0x0, 1, .p, false, [⟨31, 24, .rw, 100, [(60, 105)]⟩, ⟨23, 16, .rw, 110, [(106, 115)]⟩]⟩,
  ⟨0x1310000, 0x40, 4, 0x0, 1, .p, false, [⟨31, 31, .rw, 0, []⟩, ⟨29, 24, .rw, 0, [(0, 33)]⟩, ⟨15, 0, .rw, 512, [(0, 1023)]⟩]⟩,
  ⟨0x1310004, 0x40, 4, 0x0, 1, .p, false, [⟨31, 0, .rw, 0, []⟩]⟩,
  ⟨0x1310008, 0x40, 4, 0x0, 1, .p, false, [⟨31, 16, .rw, 0, []⟩, ⟨15, 0, .rw, 0, []⟩]⟩,
  ⟨0x131000C, 0x40, 4, 0x0, 1, .p, false, [⟨15, 0, .rw, 100, [(1, 10000)]⟩]⟩,
  ⟨0x1310010, 0x40, 4, 0x0, 1, .p, false, [⟨31, 0, .ro, 0, []⟩]⟩,
  ⟨0x1310014, 0x40, 4, 0x0, 1, .p, false, [⟨31, 0, .cnt, 0, []⟩]⟩,
  ⟨0x1320000, 0x4, 20, 0x0, 1, .a, false, [⟨31, 16, .ro, 0, []⟩, ⟨15, 0, .ro, 32768, []⟩]⟩,
  ⟨0x1320100, 0x4, 9, 0x0, 1, .a, false, [⟨31, 16, .ro, 0, []⟩, ⟨15, 0, .ro, 65535, []⟩]⟩,
  ⟨0x1340000, 0x4, 4096, 0x0, 1, .p, false, [⟨15, 0, .ro, 0, []⟩]⟩,
  ⟨0x1300040, 0x0, 1, 0x0, 1, .p, false, [⟨31, 31, .rws, 0, []⟩, ⟨30, 30, .ro, 0, []⟩, ⟨15, 0, .ro, 0, []⟩]⟩]

/-- Register words of the TWN block. -/
def regsTwn : List RegRow := [
  ⟨0x1400000, 0x0, 1, 0x0, 1, .p, false, [⟨31, 31, .rw, 0, []⟩, ⟨30, 27, .rw, 0, []⟩, ⟨23, 16, .rw, 10, [(1, 255)]⟩, ⟨15, 0, .rw, 250, [(1, 65535)]⟩]⟩,
  ⟨0x1400004, 0x0, 1, 0x0, 1, .p, false, [⟨31, 31, .ro, 0, []⟩, ⟨30, 30, .ro, 0, []⟩, ⟨29, 29, .ro, 0, []⟩, ⟨28, 28, .ro, 0, []⟩, ⟨27, 27, .ro, 0, []⟩, ⟨26, 26, .w1c, 0, []⟩, ⟨25, 25, .w1c, 0, []⟩, ⟨24, 24, .w1c, 0, []⟩, ⟨23, 23, .w1c, 0, []⟩, ⟨19, 16, .ro, 1, []⟩, ⟨15, 0, .ro, 0, []⟩]⟩,
  ⟨0x1400008, 0x0, 1, 0x0, 1, .p, false, [⟨15, 0, .ro, 0, []⟩]⟩,
  ⟨0x1400010, 0x0, 1, 0x0, 1, .p, false, [⟨31, 0, .ro, 0, []⟩]⟩,
  ⟨0x1400014, 0x0, 1, 0x0, 1, .p, false, [⟨31, 0, .ro, 0, []⟩]⟩,
  ⟨0x1400020, 0x0, 1, 0x0, 1, .p, false, [⟨31, 0, .cnt, 0, []⟩]⟩,
  ⟨0x1400024, 0x0, 1, 0x0, 1, .p, false, [⟨31, 0, .cnt, 0, []⟩]⟩,
  ⟨0x1400028, 0x0, 1, 0x0, 1, .p, false, [⟨31, 0, .cnt, 0, []⟩]⟩,
  ⟨0x140002C, 0x0, 1, 0x0, 1, .p, false, [⟨31, 0, .cnt, 0, []⟩]⟩,
  ⟨0x1400030, 0x0, 1, 0x0, 1, .p, false, [⟨31, 0, .cnt, 0, []⟩]⟩,
  ⟨0x1400034, 0x0, 1, 0x0, 1, .p, false, [⟨31, 0, .cnt, 0, []⟩]⟩,
  ⟨0x1400040, 0x0, 1, 0x0, 1, .p, false, [⟨31, 31, .ro, 0, []⟩, ⟨30, 30, .ro, 0, []⟩, ⟨29, 28, .ro, 0, []⟩, ⟨15, 0, .ro, 0, []⟩]⟩,
  ⟨0x1400044, 0x0, 1, 0x0, 1, .p, false, [⟨31, 0, .ro, 0, []⟩]⟩,
  ⟨0x1400048, 0x0, 1, 0x0, 1, .p, false, [⟨31, 0, .ro, 0, []⟩]⟩]

/-- Register words of the RST block. -/
def regsRst : List RegRow := [
  ⟨0x100000, 0x0, 1, 0x0, 1, .b, false, [⟨10, 10, .w1c, 0, []⟩, ⟨9, 9, .w1c, 0, []⟩, ⟨8, 8, .w1c, 1, []⟩, ⟨7, 0, .w1c, 0, []⟩]⟩,
  ⟨0x100004, 0x0, 1, 0x0, 1, .a, false, [⟨31, 28, .ro, 1, []⟩, ⟨27, 27, .ro, 0, []⟩, ⟨22, 22, .ro, 1, []⟩, ⟨21, 21, .ro, 1, []⟩, ⟨20, 20, .ro, 0, []⟩, ⟨19, 18, .ro, 2, []⟩]⟩,
  ⟨0x100008, 0x0, 1, 0x0, 1, .a, false, [⟨1, 1, .wo, 0, []⟩, ⟨0, 0, .wo, 0, []⟩]⟩,
  ⟨0x100010, 0x0, 1, 0x0, 1, .a, false, [⟨31, 31, .rw, 1, []⟩, ⟨9, 0, .rw, 100, [(10, 1000)]⟩]⟩,
  ⟨0x100014, 0x0, 1, 0x0, 1, .a, false, [⟨31, 0, .wo, 0, []⟩]⟩,
  ⟨0x100100, 0x4, 8, 0x0, 1, .b, false, [⟨15, 0, .ro, 0, []⟩]⟩,
  ⟨0x100200, 0x0, 1, 0x0, 1, .b, false, [⟨31, 0, .ro, 0, []⟩]⟩,
  ⟨0x100204, 0x0, 1, 0x0, 1, .b, false, [⟨15, 0, .ro, 0, []⟩]⟩,
  ⟨0x100208, 0x0, 1, 0x0, 1, .b, false, [⟨31, 0, .ro, 0, []⟩]⟩,
  ⟨0x10020C, 0x0, 1, 0x0, 1, .b, false, [⟨31, 0, .ro, 0, []⟩]⟩]

/-- Register words of the OTP block. -/
def regsOtp : List RegRow := [
  ⟨0x1700000, 0x0, 1, 0x0, 1, .a, false, [⟨31, 31, .ro, 0, []⟩, ⟨30, 30, .ro, 0, []⟩, ⟨29, 26, .ro, 0, []⟩, ⟨25, 24, .ro, 0, []⟩, ⟨23, 16, .ro, 0, []⟩]⟩,
  ⟨0x1700004, 0x0, 1, 0x0, 1, .b, false, [⟨15, 0, .ro, 0, []⟩]⟩,
  ⟨0x1700100, 0x4, 128, 0x0, 1, .a, false, [⟨31, 0, .ro, 0, []⟩]⟩]

/-- Register words of the FLT block. -/
def regsFlt : List RegRow := [
  ⟨0x200010, 0x0, 1, 0x0, 1, .a, false, [⟨31, 31, .w1c, 0, []⟩, ⟨30, 30, .ro, 0, []⟩, ⟨29, 27, .ro, 0, []⟩, ⟨5, 0, .ro, 0, []⟩]⟩,
  ⟨0x200014, 0x0, 1, 0x0, 1, .a, false, [⟨31, 0, .ro, 0, []⟩]⟩,
  ⟨0x200018, 0x0, 1, 0x0, 1, .a, false, [⟨31, 0, .ro, 0, []⟩]⟩,
  ⟨0x20001C, 0x0, 1, 0x0, 1, .a, false, [⟨31, 0, .ro, 0, []⟩]⟩,
  ⟨0x200020, 0x0, 1, 0x0, 1, .a, false, [⟨31, 0, .ro, 0, []⟩]⟩,
  ⟨0x200030, 0x0, 1, 0x0, 1, .a, false, [⟨31, 31, .ro, 0, []⟩, ⟨5, 0, .ro, 0, []⟩]⟩,
  ⟨0x200040, 0x0, 1, 0x0, 1, .a, false, [⟨31, 31, .rw, 1, []⟩, ⟨30, 28, .rw, 3, [(1, 4)]⟩]⟩,
  ⟨0x201000, 0x4, 48, 0x0, 1, .a, false, [⟨31, 0, .cnt, 0, []⟩]⟩,
  ⟨0x200000, 0x0, 1, 0x0, 1, .a, false, [⟨31, 0, .w1c, 0, []⟩]⟩,
  ⟨0x200004, 0x0, 1, 0x0, 1, .a, false, [⟨15, 0, .w1c, 0, []⟩]⟩,
  ⟨0x200048, 0x0, 1, 0x0, 1, .a, false, [⟨31, 0, .rw, 0, []⟩]⟩,
  ⟨0x20004C, 0x0, 1, 0x0, 1, .a, false, [⟨15, 0, .rw, 0, []⟩]⟩]

/-- Register words of the AXL block. -/
def regsAxl : List RegRow := [
  ⟨0x1600000, 0x0, 1, 0x0, 1, .p, false, [⟨31, 31, .rw, 1, []⟩, ⟨16, 16, .ro, 0, []⟩, ⟨14, 12, .ro, 4, []⟩, ⟨10, 8, .ro, 4, []⟩, ⟨6, 4, .ro, 4, []⟩, ⟨1, 0, .ro, 2, []⟩]⟩,
  ⟨0x1610000, 0x4, 64, 0x0, 1, .p, false, [⟨31, 29, .ro, 0, []⟩, ⟨23, 16, .ro, 255, []⟩, ⟨15, 0, .ro, 0, []⟩]⟩,
  ⟨0x1610100, 0x4, 4, 0x0, 1, .p, false, [⟨31, 29, .ro, 1, []⟩, ⟨23, 16, .ro, 255, []⟩, ⟨15, 0, .ro, 0, []⟩]⟩,
  ⟨0x1610200, 0x4, 64, 0x0, 1, .p, false, [⟨31, 29, .ro, 0, []⟩, ⟨23, 16, .ro, 255, []⟩, ⟨15, 0, .ro, 0, []⟩]⟩,
  ⟨0x1610300, 0x4, 4, 0x0, 1, .p, false, [⟨31, 29, .ro, 1, []⟩, ⟨23, 16, .ro, 255, []⟩, ⟨15, 0, .ro, 0, []⟩]⟩,
  ⟨0x1610400, 0x4, 64, 0x0, 1, .p, false, [⟨31, 29, .ro, 0, []⟩, ⟨23, 16, .ro, 255, []⟩, ⟨15, 0, .ro, 0, []⟩]⟩,
  ⟨0x1610500, 0x4, 4, 0x0, 1, .p, false, [⟨31, 29, .ro, 1, []⟩, ⟨23, 16, .ro, 255, []⟩, ⟨15, 0, .ro, 0, []⟩]⟩,
  ⟨0x1610600, 0x4, 32, 0x0, 1, .p, false, [⟨31, 29, .ro, 0, []⟩, ⟨23, 16, .ro, 255, []⟩, ⟨15, 0, .ro, 0, []⟩]⟩,
  ⟨0x1610680, 0x4, 2, 0x0, 1, .p, false, [⟨31, 29, .ro, 1, []⟩, ⟨23, 16, .ro, 255, []⟩, ⟨15, 0, .ro, 0, []⟩]⟩]

/-- Register words of the KEY block. -/
def regsKey : List RegRow := [
  ⟨0x1500000, 0x0, 1, 0x0, 1, .b, false, [⟨31, 31, .ro, 1, []⟩, ⟨30, 30, .ro, 0, []⟩, ⟨29, 29, .ro, 0, []⟩, ⟨22, 16, .ro, 0, []⟩, ⟨6, 0, .ro, 0, []⟩]⟩,
  ⟨0x1500010, 0x0, 1, 0x0, 1, .b, false, [⟨31, 31, .w1c, 0, []⟩, ⟨27, 24, .w1c, 0, []⟩, ⟨19, 16, .ro, 0, []⟩, ⟨15, 0, .ro, 0, []⟩]⟩,
  ⟨0x1500014, 0x0, 1, 0x0, 1, .b, true, [⟨3, 0, .rw, 15, []⟩]⟩,
  ⟨0x1500020, 0x0, 1, 0x0, 1, .b, false, [⟨3, 0, .ro, 0, []⟩]⟩,
  ⟨0x1500024, 0x0, 1, 0x0, 1, .b, false, [⟨31, 0, .ro, 0, []⟩]⟩,
  ⟨0x1500028, 0x0, 1, 0x0, 1, .b, false, [⟨31, 0, .ro, 0, []⟩]⟩,
  ⟨0x150002C, 0x0, 1, 0x0, 1, .b, false, [⟨31, 0, .ro, 0, []⟩]⟩,
  ⟨0x1500030, 0x0, 1, 0x0, 1, .b, false, [⟨31, 0, .ro, 0, []⟩]⟩,
  ⟨0x1501000, 0x10, 64, 0x0, 1, .b, false, [⟨31, 30, .ro, 0, []⟩, ⟨29, 28, .ro, 0, []⟩, ⟨27, 26, .ro, 0, []⟩, ⟨25, 25, .ro, 0, []⟩, ⟨9, 0, .ro, 0, []⟩]⟩,
  ⟨0x1501004, 0x10, 64, 0x0, 1, .b, false, [⟨31, 0, .ro, 0, []⟩]⟩,
  ⟨0x1501008, 0x10, 64, 0x0, 1, .b, false, [⟨31, 0, .ro, 0, []⟩]⟩,
  ⟨0x150100C, 0x10, 64, 0x0, 1, .b, false, [⟨31, 0, .ro, 0, []⟩]⟩]

/-- Register words of the BUS block. -/
def regsBus : List RegRow := [
  ⟨0x300000, 0x0, 1, 0x0, 1, .c, false, [⟨31, 31, .rw, 0, []⟩, ⟨13, 0, .rw, 100, [(10, 10000)]⟩]⟩,
  ⟨0x300004, 0x0, 1, 0x0, 1, .c, false, [⟨3, 3, .w1c, 0, []⟩, ⟨2, 2, .w1c, 0, []⟩, ⟨1, 1, .w1c, 0, []⟩, ⟨0, 0, .w1c, 0, []⟩]⟩,
  ⟨0x300010, 0x0, 1, 0x0, 1, .c, false, [⟨31, 31, .w1c, 0, []⟩, ⟨30, 30, .ro, 0, []⟩, ⟨29, 28, .ro, 0, []⟩, ⟨18, 16, .ro, 0, []⟩, ⟨3, 0, .ro, 0, []⟩]⟩,
  ⟨0x300014, 0x0, 1, 0x0, 1, .c, false, [⟨31, 0, .ro, 0, []⟩]⟩,
  ⟨0x300018, 0x0, 1, 0x0, 1, .c, false, [⟨7, 0, .ro, 0, []⟩]⟩,
  ⟨0x300020, 0x0, 1, 0x0, 1, .c, false, [⟨31, 0, .cnt, 0, []⟩]⟩,
  ⟨0x300024, 0x0, 1, 0x0, 1, .c, false, [⟨31, 0, .cnt, 0, []⟩]⟩,
  ⟨0x300028, 0x0, 1, 0x0, 1, .c, false, [⟨31, 0, .cnt, 0, []⟩]⟩,
  ⟨0x30002C, 0x0, 1, 0x0, 1, .c, false, [⟨31, 0, .cnt, 0, []⟩]⟩,
  ⟨0x300040, 0x0, 1, 0x0, 1, .a, true, [⟨5, 0, .rw, 34, [(30, 34)]⟩]⟩]

/-- Register words of the GPIO block. -/
def regsGpio : List RegRow := [
  ⟨0x1800000, 0x10, 64, 0x0, 1, .a, false, [⟨31, 31, .rw, 0, []⟩, ⟨30, 30, .rw, 0, []⟩, ⟨29, 27, .rw, 0, []⟩, ⟨16, 0, .rw, 1000, [(1, 100000)]⟩]⟩,
  ⟨0x1800004, 0x10, 64, 0x0, 1, .a, false, [⟨15, 0, .rw, 1000, [(1, 65535)]⟩]⟩,
  ⟨0x1800008, 0x10, 64, 0x0, 1, .a, false, [⟨31, 31, .ro, 0, []⟩, ⟨30, 30, .w1c, 0, []⟩, ⟨15, 0, .cnt, 0, []⟩]⟩]

/-- Every register word of the device (R592). -/
def regTable : List RegRow :=
  regsSys ++
  regsTim ++
  regsRef ++
  regsHln ++
  regsSln ++
  regsSpr ++
  regsMac ++
  regsLad0 ++
  regsLad1 ++
  regsPool0 ++
  regsPool1 ++
  regsPat ++
  regsCmd0 ++
  regsCmd1 ++
  regsShk0 ++
  regsShk1 ++
  regsChm ++
  regsAud ++
  regsNwt ++
  regsApt0 ++
  regsApt1 ++
  regsMeas ++
  regsTwn ++
  regsRst ++
  regsOtp ++
  regsFlt ++
  regsAxl ++
  regsKey ++
  regsBus ++
  regsGpio

end Sys2Proof.Machine
end

