-- ==== Sys2Proof/Packet.lean ====
section
/-! DEFINITION. Command packets as a source delivers them. -/

namespace Sys2Proof

/-- A command packet as a source delivers it (R449): the header fields in order, the parameter bytes,
BODY_CRC and the authentication tag. `src` is the source CS0 to CS15 (R454). `slot` and `rplCap` are
the ring descriptor's (R457); `peerIp` and `peerPort` are the sender's on CS8 to CS11 (R459). OPCODE is
given by the row. `key` is no part of the packet: the arrival check writes the key that checked its tag there (R562). On
CS12 `slot` is the macro's index. -/
structure Cmd where
  src : Fin 16
  slot : Nat := 0
  rplCap : Nat := 65536
  peerIp : BitVec 32 := 0
  peerPort : BitVec 16 := 0
  magic : BitVec 16 := 0x4C54
  version : BitVec 8 := 1
  flags : BitVec 8 := 0
  seq : BitVec 32 := 0
  tag : BitVec 16 := 0
  paramLen : BitVec 32 := 0
  whenF : BitVec 64 := 0
  session : BitVec 32 := 0
  hdrCrc : BitVec 32 := 0
  params : Bytes := []
  bodyCrc : BitVec 32 := 0
  auth : Bytes := []
  key : Bytes := []
  deriving DecidableEq, Repr

/-- One submission descriptor with the packet bytes the device reads from host memory (R457). -/
structure Submission where
  slot : Nat
  rplCap : Nat
  packet : Bytes
  deriving DecidableEq, Repr

/-- An alignment marker as a lane receives it: its 256 bits (R107), the skew and the round-trip delay measured in ns, and the
FEC codewords corrected and uncorrectable in the interval before it. -/
structure Marker where
  bits : BitVec 256
  skew : Nat := 0
  rtt : Nat := 0
  fecCorr : Nat := 0
  fecUncorr : Nat := 0
  deriving DecidableEq, Repr

/-- How a received frame was delimited (R140, R142): a whole frame, 802.3br verify and respond frames, a
first or later fragment, the last fragment, a bad SMD, a fragment out of sequence. -/
inductive Smd where
  | whole | verify | respond | first | cont | last | bad | outOfSeq
  deriving DecidableEq, Repr

/-- A received Ethernet frame (R135, R136): its length in bytes with FCS, the FCS and jabber verdicts, its
addressing and its payload (the UDP payload, or the bytes after the EtherType). `vlan` is the 802.1Q
identifier, `ipProto` the IPv4 protocol, `stamp` the tick of its start-of-frame delimiter, `symErrs` the most symbols of one FEC
codeword, or of the frame where there is no FEC, that the line received wrong (R134). -/
structure NetFrame where
  len : Nat
  fcsOk : Bool
  jabber : Bool := false
  smd : Smd := .whole
  dst : Nat
  etherType : Nat := 0x0800
  vlan : Option Nat := none
  ipProto : Nat := 17
  srcIp : Nat := 0
  dstIp : Nat := 0
  srcPort : Nat := 0
  dstPort : Nat := 0
  payload : Bytes := []
  stamp : Nat := 0
  symErrs : Nat := 0
  deriving DecidableEq, Repr

/-- An SDI frame as its receiver delivers it (R158, R159): the format its payload ID and raster show, the active
picture packed as the pool stores it, byte ranges that were lost, its ancillary packets in ST 2110-40 form, its
embedded audio as (channel, samples), the tick of the SAV of its first active line, and the errors R438 counts: lines with a bad CRC, lines with a timing-reference error, and whether the
payload ID is missing or wrong. -/
structure SdiFrame where
  format : Nat
  picture : Bytes
  missing : List (Nat × Nat) := []
  anc : List Bytes := []
  audio : List (Nat × List (BitVec 32)) := []
  sav : Nat := 0
  crcLines : Nat := 0
  trsErr : Nat := 0
  pidErr : Bool := false
  deriving DecidableEq, Repr

/-- One port's part of a TDM frame (R423): the words of its input slots in slot order, the slots whose word found the
input FIFO full, and the slots at which the output FIFO was empty (R428). -/
structure TdmPort where
  port : Nat
  words : List Nat
  lost : List Nat := []
  empty : List Nat := []
  deriving DecidableEq, Repr

/-- A stretch of AES3 frames that an input receives (R419): the detected rate's code (DET_RATE), each frame's audio of
subframes A and B left-justified with their validity bits, and the frames whose words found the FIFO full (R428). -/
structure AesRx where
  rate : Nat
  frames : List (Nat × Bool × Nat × Bool) := []
  lost : List Nat := []
  deriving DecidableEq, Repr

/-- What an AES3 block carried beside its audio: channel status and user bits of each subframe (R421). -/
structure AesBlock where
  csA : Bytes
  csB : Bytes
  userA : Bytes
  userB : Bytes
  deriving DecidableEq, Repr

/-- What a frame of the Akestim link carries beside cast records, record acknowledgements and loop signatures, which have
rows of their own (R117, R498): a packet for CS14, a reply, an acknowledgement block, a replay request, a record no longer
retained, a transfer request, a role-change agreement naming its boundary, the partner's mode with its SYS_MODE_EPOCH, an
egress-loop result. -/
inductive AksBody where
  | command (packet : Bytes)
  | reply (b : Bytes)
  | ack (seq : Nat)
  | replay (epoch : Nat)
  | gone (epoch : Nat)
  | resync
  | swap (boundary : Nat)
  | report (mode modeEpoch : Nat)
  | loopMatch (ok : Bool)
  deriving DecidableEq, Repr

/-- One 32-bit access on the control bus matrix (R573, R583): the master's index, its transaction ID, the control address and the
byte enables. -/
structure BusAccess where
  master : Nat
  id : Nat := 0
  addr : Nat
  enables : Nat := 15
  deriving DecidableEq, Repr

end Sys2Proof
end

