-- ==== Sys2Proof/Machine/Parts.lean ====
section
/-! DEFINITION. The parts of the machine's state as plain data, chapter by chapter. A register the
specification names lives in `regs` of the state (one home, reset values in `regTable`), except the few
that are views of the structured state below. -/

namespace Sys2Proof.Machine

/-- Modes of R17. -/
inductive Mode where
  | cold | melt | pour | hold | proof | quench
  deriving DecidableEq, Repr

/-- Roles of SYS_MODE.ROLE (chapter 01). -/
inductive Role where
  | solo | active | standby
  deriving DecidableEq, Repr

/-- Unit kinds in the order of R553. -/
inductive UnitKind where
  | ladle | shakeout | newt | pipe
  deriving DecidableEq, Repr

/-- A refusal record (R452) with its status. `none` prints as all ones of its field. -/
structure RefRec where
  status : Nat
  off : Option Nat := none
  unit : Option Nat := none
  domain : Option Nat := none
  bank : Option Nat := none
  line : Nat := 0
  slot : Nat := 0
  resource : Nat := 0
  limit : Nat := 0
  demand : Nat := 0
  shortfall : Nat := 0
  extra : Nat := 0
  deriving DecidableEq, Repr

/-- A reply before serialisation (R451). `epoch` or `time` `none` prints as all ones; `peer` is the address and port of a
network command's sender and `key` the key that checked it (R459, R562). -/
structure Reply where
  src : Nat
  slot : Nat
  rplCap : Nat
  status : Nat
  tag : Nat
  seq : Nat
  epoch : Option Nat
  time : Option Nat
  payload : Bytes
  peer : Nat × Nat := (0, 0)
  key : Bytes := []
  deriving DecidableEq, Repr

/-- One journal entry (R470). -/
structure JnlEntry where
  epoch : Nat
  source : Nat
  kind : Nat
  order : Nat
  seq : Nat
  opcode : Nat
  status : Nat
  tag : Nat
  origSource : Nat
  origSeq : Nat
  deriving DecidableEq, Repr

/-- What an accepted arrival is waiting to become at the boundary (R31). -/
inductive Verdict where
  | accept
  | refuse (r : RefRec)
  | dry (status : Nat) (payload : Bytes)
  deriving DecidableEq, Repr

/-- A command whose admission is complete and which waits for its boundary (R31). `timed` marks a
TIMED acceptance (R252), `seen` the mode its admission saw (R20). -/
structure Admitted where
  op : Nat
  cmd : Cmd
  verdict : Verdict
  timed : Bool
  seen : Mode
  deriving DecidableEq, Repr

/-- An applied command whose reply is not released yet (R467): `ack` is the record epoch it waits for,
`wait` the completion it waits for. -/
structure Unreleased where
  op : Nat
  cmd : Cmd
  reply : Reply
  ack : Option Nat
  wait : Bool
  late : Bool
  deriving DecidableEq, Repr

/-- One of the last 256 replies of a source (R465). `reply = none` while outstanding, `lost` after a
Control reset. -/
structure StoredReply where
  src : Nat
  seq : Nat
  hdrCrc : Nat
  bodyCrc : Nat
  reply : Option Reply
  lost : Bool
  deriving DecidableEq, Repr

/-- A network packet held ahead of NEXT_SEQ (R464). -/
structure HeldPacket where
  op : Nat
  cmd : Cmd
  deriving DecidableEq, Repr

/-- A partial IPv4 datagram on an endpoint (R459): identification and fragments (offset, bytes). -/
structure PartialDatagram where
  src : Nat
  ident : Nat
  peer : Nat
  frags : List (Nat × Bytes)
  total : Option Nat
  deriving DecidableEq, Repr

/-- A GPI macro body (R287); ARMED, EDGE, PIN and the counts are CMD_MACRO registers. -/
structure MacroBody where
  index : Nat
  packet : Bytes
  deriving DecidableEq, Repr

/-- An image being assembled for a slot (R486); `last` names the command that ended it, by source and SEQ, while its check
runs. -/
structure Staging where
  slot : Nat
  bytes : Bytes
  last : Option (Nat × Nat)
  deriving DecidableEq, Repr

/-- A readback object that a READ has captured (R471): class, subject, change count, and its content at the last boundary. -/
structure ReadObj where
  cls : Nat
  subj : Nat
  gen : Nat
  key : List Bytes
  deriving DecidableEq, Repr

/-- Command engine state of domain C (chapter 16). `cpl` counts the completion entries written per ring since it was
enabled (R458); `reads` the objects that carry a change count; `trigLost` the pins of discarded triggers that have no event yet
(R290). -/
structure CmdState where
  admitted : List Admitted
  unreleased : List Unreleased
  stored : List StoredReply
  held : List HeldPacket
  partials : List PartialDatagram
  macros : List MacroBody
  trigQ : List Nat
  staging : List Staging
  cpl : List Nat
  reads : List ReadObj
  trigLost : List Nat
  deriving DecidableEq, Repr

/-- What the block hands to the outside in one step. -/
inductive Output where
  /-- A reply written to its source, with its tag (CS8 to CS11) and its CFLAGS LATE and TRUNC bits (R451, R458); its key is
  blanked. -/
  | reply (r : Reply) (tag : Bytes) (late trunc : Bool)
  /-- A reply's datagram on a management port (R459): port, address, UDP port, and the parts it is fragmented into. -/
  | datagram (port ip udp : Nat) (parts : List Bytes)
  /-- A completion entry written at an index of a ring (R458). -/
  | completion (src index : Nat) (entry : Bytes)
  /-- An MSI-X vector (R458, R591). -/
  | msix (vec : Nat)
  /-- A frame a MAC or a management port sends. -/
  | frame (mac : Nat) (kind : Nat) (body : Bytes)
  /-- An SDI output frame finished on an S-lane or tributary (R298, R307): flow, domain FRAME, whether the
  content is that of R301 instead of the route's picture, the first line sent (R308, R320), the picture's rows as stored, the
  embedded audio as (embedded channel, validity bit, samples) (R304, R374), the ancillary packets inserted (R305), and the time in
  ns of the timecode generated (R306). -/
  | sdi (flow frame : Nat) (fill : Bool) (fromLine : Nat) (picture : Bytes) (audio : List (Nat × Bool × List (BitVec 32)))
    (anc : List Bytes) (timecode : Option Int)
  /-- A frame an audio port sends (R422, R424): port, the word of each slot or subframe with its validity bit (none where
  the word is an AM824 subframe with its own flags). -/
  | portFrame (port : Nat) (words : List (BitVec 32 × Option Bool))
  /-- The channel status an AES3 output sends in the block that ended, per subframe (R422). -/
  | portStatus (port : Nat) (a b : Bytes)
  /-- A frame on the Akestim link (R117). -/
  | akestim (kind seq epoch : Nat) (body : Bytes)
  /-- An alignment marker that an H-lane sends (R107). -/
  | marker (lane : Nat) (bits : BitVec 256)
  /-- A round of container blocks that a Sprue link sends, container 0 first (R112, R113). -/
  | round (link : Nat) (blocks : List (BitVec 256))
  /-- A pin level. -/
  | pin (name : String) (level : Nat)
  /-- A register or memory read's data and whether it was answered with an error (R576). -/
  | busData (master : Nat) (data : List Word) (error : Bool)
  deriving DecidableEq, Repr

/-- One event record (R40, R41, R540): block number of R591, severity, code, arguments. -/
structure Event where
  block : Nat
  severity : Nat
  code : Nat
  args : List Nat
  epoch : Nat
  tick : Nat
  deriving DecidableEq, Repr

/-- Reset sources that can be held asserted (R521). -/
inductive ResetSrc where
  | powerOn | resetN | chipCmd | optReload | data | watchdog | control | partner | perst
  deriving DecidableEq, Repr

/-- A PTP dataset as Announce carries it (R55): the members the default BMCA compares. -/
structure PtpDataset where
  priority1 : Nat
  clockClass : Nat
  accuracy : Nat
  variance : Nat
  priority2 : Nat
  identity : Nat
  steps : Nat
  deriving DecidableEq, Repr

/-- PTP port states the chapter names (R58, R611). -/
inductive PtpPortState where
  | listening | master | slave | passive
  deriving DecidableEq, Repr

/-- One PTP port (R55, PTP_PORT): intervals are signed logarithms; `peerIp` is the address of the master it heard last, to which
a hybrid port sends its Delay_Req. -/
structure PtpPort where
  port : Nat
  mac : Nat
  en : Bool
  hybrid : Bool
  logSync : Int
  logAnnounce : Int
  logDelayReq : Int
  receiptTimeout : Nat
  ingress : Int
  egress : Int
  st : PtpPortState
  foreign : Option PtpDataset
  seqSync : Nat
  seqDelay : Nat
  seqAnnounce : Nat
  drqSecond : Nat
  drqCount : Nat
  drqDropped : Nat
  peerIp : Nat
  deriving DecidableEq, Repr

/-- One transmit stamp (R60): MAC, identifier, PTP time in ns. -/
structure TxStamp where
  mac : Nat
  ident : Nat
  ns : Nat
  deriving DecidableEq, Repr

/-- PTP time and the PTP instance (chapter 02). `base` counts 2^-16 ns; `freq` and `slew` count
2^-40; the slew term applies while the tick is below `slewEnd` (R47, R48, R50). `recent` holds the
updates of the last second as (tick, offset, freq) (R611); `stepped` a step of PTP time in ns to which the
audio grid has not realigned yet (R361); `lostStamps` the messages (MAC, identifier) that left without a stamp (R63);
`corrected` whether the servo has made a correction since the reset (R53). -/
structure TimState where
  base : Nat
  tickBase : Nat
  freq : Int
  slew : Int
  slewEnd : Nat
  recent : List (Nat × Int × Int)
  ptpEn : Bool
  profile : Nat
  domainNum : Nat
  own : PtpDataset
  ports : List PtpPort
  txq : List TxStamp
  lostStamps : List (Nat × Nat)
  stepped : Option Int
  corrected : Bool
  deriving DecidableEq, Repr

/-- A raster generator's position (R65, R67): the full frame index (FRAME is its low 32 bits), the
line and slot in progress (line 0 before the first slot), and the tick at the current line's start. -/
structure RasState where
  frameN : Nat
  line : Nat
  slot : Nat
  lineTick : Nat
  deriving DecidableEq, Repr

/-- What a DPLL holds beside its registers: the scale of its aligned time (value in 2^-16 ns at a
tick, its rate against the local oscillator in 2^-40; R79), the inputs that met wait-to-restore during an absorption (R85), the
peers that R88 put aside, its frequency samples of the gates in which it was locked (R90), whether a candidate of it has
qualified since reset (R89), and whether it has followed a reference. -/
structure DpllState where
  alBase : Nat
  alTick : Nat
  alRate : Int
  wtrMet : List Nat
  peersAside : List Nat
  lockLog : List Int
  seen : Bool
  followed : Bool
  deriving DecidableEq, Repr

/-- References, DPLLs and raster generators (chapters 02 and 03). `outGates` counts consecutive gates
outside the window per input (R76); `clkPend` holds CLKOUT changes that wait for a frame boundary
(R94); `partner` the Akestim partner's aligned time of D0 in 2^-16 ns at a tick (R79, R121). -/
structure RefState where
  ras : List RasState
  dpll : List DpllState
  outGates : List Nat
  clkPend : List (Nat × Nat)
  partner : Nat × Nat
  edges : List (Nat × Nat)
  deriving DecidableEq, Repr

/-- Receive-side protection state of one H-lane (R109, R124 to R128): missed markers in a row, the
last ROUND seen, failure, margin-low run and state, cleanliness since the spare took it, the tick of its last marker, and the
ROUND at which it failed (R127). -/
structure LaneRec where
  lane : Nat
  round : Option Nat
  missed : Nat
  failed : Bool
  lowRun : Nat
  low : Bool
  clean : Bool
  seenAt : Nat
  failRound : Option Nat
  deriving DecidableEq, Repr

/-- State of one link beside its registers: the position this receiver asks to be bridged (31 for
none), the position the far end last reported bridged, tributary changes that wait for a marker
boundary (R132), the switches since the last reset (R553), the position to bridge from the next own marker on (R126), whether the
markers received last carried another LINK_ID (R110), the lost positions (R127, R130), and while it transmits the tick of its
start and the rounds sent since (R106). -/
structure LinkRec where
  link : Nat
  reqLane : Nat
  farBridged : Nat
  tribPend : List (Nat × Word)
  switches : Nat
  bridgeNext : Nat
  idBad : Bool
  lost : List Nat
  txAt : Option (Nat × Nat)
  deriving DecidableEq, Repr

/-- One Akestim frame the sender holds until it is acknowledged (R117). -/
structure AksPending where
  seq : Nat
  attempts : Nat
  kind : Nat
  epoch : Nat
  body : Bytes
  deriving DecidableEq, Repr

/-- Measured word rate of a tributary (R113): parts per billion against the crystal. -/
structure TribRate where
  link : Nat
  trib : Nat
  ppb : Int
  words : Nat
  deriving DecidableEq, Repr

/-- A received tributary's words on their way to its Ladle (R113, R115): the words in order since the last frame, and the word
positions at which words are missing. -/
structure TribRx where
  link : Nat
  trib : Nat
  words : List (BitVec 10)
  gaps : List Nat
  deriving DecidableEq, Repr

/-- A transmitted tributary's word stream (R113, R307, R308): its output, the tick of the EAV from which it sends data, the domain
frame and line of that EAV, and the words sent. -/
structure TribTx where
  flow : Nat
  openAt : Nat
  frame : Nat
  line : Nat
  sent : Nat
  deriving DecidableEq, Repr

/-- Serial lanes and links (chapter 04). `contSeq` holds the last SEQ per (link × 2048 + container),
`badBlocks` counts R113's discarded blocks per link; `aksTx` and `aksRx` are the next sequence numbers
on the Akestim link; `eyeMaps` holds the eye maps (lane, map) and `eyeRun` the lanes being mapped
(R490); `sMargins` the last margins measured on S-lanes (R125). -/
structure LaneState where
  lanes : List LaneRec
  links : List LinkRec
  contSeq : List (Nat × Nat)
  badBlocks : List (Nat × Nat)
  rates : List TribRate
  aksTx : Nat
  aksRx : Nat
  aksPend : List AksPending
  eyeRun : List Nat
  eyeMaps : List (Nat × Bytes)
  sMargins : List (Nat × Nat × Nat)
  rx : List TribRx
  tx : List TribTx
  deriving DecidableEq, Repr

/-- One receive filter entry (R137). `vlan` and `srcIp` `none` mean any; `path` is 0 for Cope, 1 for
Drag; `flow` is the flow identifier the frames go to. -/
structure RxFilter where
  mac : Nat
  vlan : Option Nat
  group : Nat
  port : Nat
  srcIp : Option Nat
  flow : Nat
  path : Nat
  deriving DecidableEq, Repr

/-- One header template (R148): addressing of the send block, then the running RTP and IPv4 fields. -/
structure TxTemplate where
  flow : Nat
  path : Nat
  mac : Nat
  payloadType : Nat
  vlan : Option Nat
  dstIp : Nat
  dstPort : Nat
  srcPort : Nat
  maxPayload : Nat
  udpCsum : Bool
  idFixed : Bool
  rateMbps : Nat
  rtpSeq : Nat
  extSeq : Nat
  ipId : Nat
  ssrc : Nat
  deriving DecidableEq, Repr

/-- A frame in a MAC's transmit queue (R139): order 1 to 3 express, 4 preemptable; `dom`, `ln` the
absolute line (frame × total lines + line) of a descriptor's frame (R146); `stamp` the identifier of a
requested stamp, `done` the octets of a preempted frame already sent (R145). -/
structure TxFrame where
  mac : Nat
  order : Nat
  kind : Nat
  dom : Nat
  ln : Nat
  stamp : Option Nat
  len : Nat
  dst : Nat
  body : Bytes
  done : Nat := 0
  deriving DecidableEq, Repr

/-- The MACs (chapter 05). `live` holds the 48-bit counters by mac × 64 + index; `gatePend` the gate
settings (mac, words) that wait for a frame boundary (R147); `verify` the verify frames sent per MAC;
`assy` the MACs with a frame being reassembled and its fragment count (R142); `held` the MACs with a
preempted remainder; `igmpDue` the reports that firmware has still to send (mac, group), `igmpV2` the tick of the newest IGMPv2
query on a MAC (R133). -/
structure MacState where
  filters : List RxFilter
  templates : List TxTemplate
  queue : List TxFrame
  live : List (Nat × Nat)
  gatePend : List (Nat × List Word)
  verify : List (Nat × Nat)
  assy : List (Nat × Nat)
  held : List TxFrame
  igmpDue : List (Nat × Nat)
  igmpV2 : List (Nat × Nat)
  firmwareRx : List (Nat × Bytes)
  deriving DecidableEq, Repr

/-- An input frame that is open (R165): its index `s` from the flow's start, the ring generation it is
written to, its RTP timestamp, the domain FRAME at its first byte (R168), the extended sequence numbers
received with path and arrival tick (R164, R166), the byte ranges written, the bytes that arrived and wait for a
MOVE_IN (R234) as (sequence number, offset, bytes) within one tile each, the tiles whose trailer is written, whether its
M-bit packet arrived, for ST 2022-6 the first sequence number and the first after its last with the datagrams that arrived as
(position, bytes), for an ANC frame the bytes stored so far (R171), the tiles opened with their opening numbers (R170), and the
tiles closed with LOST. -/
structure OpenFrame where
  s : Nat
  gen : Nat
  ts : Nat
  frame : Nat
  seqs : List (Nat × Nat × Nat)
  present : List (Nat × Nat)
  wait : List (Nat × Nat × Bytes)
  closed : List Nat
  mSeen : Bool
  seq0 : Nat
  ancPos : Nat
  fin : Nat
  raw : List (Nat × Bytes)
  opened : List (Nat × Nat)
  lost : List Nat
  deriving DecidableEq, Repr

/-- A complete input frame not yet overwritten: index, ring generation, FRAME value, the domain's absolute
slot at completion (R175), the sequence numbers it received (R165), its RTP timestamp, its LOST tiles, for an ANC
frame the bytes stored, and for ST 2022-6 its first sequence number and the first after its last. -/
structure DoneFrame where
  s : Nat
  gen : Nat
  frame : Nat
  doneSlot : Nat
  seqs : List (Nat × Nat × Nat)
  ts : Nat
  lost : List Nat
  bytes : Nat
  seq0 : Nat
  fin : Nat
  deriving DecidableEq, Repr

/-- A video or ANC input flow beside its LAD_FLOW registers: definition values without a register,
then its running state. `gen` is the newest ring generation; `sNext` the next input frame index;
`base` the adopted frame (BASE) and its generation; `mism` and `match4` the consecutive frames of
R179, `curBad` whether the frame in progress held a packet outside the raster; `depthPend` a depth change that
waits for a frame boundary (R174); `lossS` and `relockS` the generation and index from which a frame clears LOSS and RELOCK;
`nextSeq0` the sequence number at which an ST 2022-6 frame starts, after the newest M bit, `lastExt` the newest extended sequence
number; `gone` the frames that were not begun, by timestamp or first sequence number (R176, R179, R182); `spare` the Ladle that is
shadow-loaded for this one and the generation and index of the first frame it writes (R184); `rep` whether the boundary of the
frame in progress repeated BASE (R175, R189); `counts` and `stat` the counters and the status
bits of an ANC flow, which has no register (LAD_FLOW_CNT, LAD_FLOW_STAT word 0);
`rxType`, `link` and `port` the receiver type and, for SDI, the link and the first S-lane or tributary. -/
structure InFlow where
  flow : Nat
  dom : Nat
  ladle : Nat
  anc : Bool
  src : Nat
  depth : Nat
  width : Nat
  height : Nat
  format : Nat
  sampling : Nat
  wireRate : Nat
  paths : Nat
  mergeHold : Nat
  ancTpf : Nat
  companion : Option Nat
  tpf : Nat
  ringTiles : Nat
  skewTiles : Nat
  gen : Nat
  sNext : Nat
  opens : List OpenFrame
  done : List DoneFrame
  base : Option DoneFrame
  mism : Nat
  matchN : Nat
  lastTs : Option Nat
  depthPend : Option Nat
  startTick : Nat
  curBad : Bool
  lossS : Nat × Nat
  relockS : Nat × Nat
  nextSeq0 : Option Nat
  lastExt : Option Nat
  gone : List Nat
  spare : Option (Nat × Nat × Nat)
  rep : Bool
  stall : List Nat
  counts : List Nat
  stat : Nat
  rxType : Nat
  link : Nat
  port : Nat
  deriving DecidableEq, Repr

/-- The Ladles (chapter 06); `openNo` counts the tiles opened (R170). -/
structure LadState where
  flows : List InFlow
  writesStopped : Bool
  openNo : Nat
  deriving DecidableEq, Repr

/-- A ring and its map (R193): the flow, its generation (a depth change makes a new one, R174), the
domain, its size and its extents in order. -/
structure Ring where
  flow : Nat
  gen : Nat
  dom : Nat
  tiles : Nat
  extents : List (Nat × Nat)
  deriving DecidableEq, Repr

/-- A suspect tile (R209). -/
structure Suspect where
  tile : Nat
  count : Nat
  first : Nat
  deriving DecidableEq, Repr

/-- A queued post-package repair row (R213). -/
structure PprRow where
  channel : Nat
  bank : Nat
  row : Nat
  tile : Nat
  tiles : List Nat
  noSpare : Bool
  deriving DecidableEq, Repr

/-- What a pool read serves. -/
inductive Reader where
  | shakeout (flow : Nat) | layer (layer : Nat) | audio (bundle : Nat) | anc (flow : Nat)
  deriving DecidableEq, Repr

/-- A pool read in flight (R205, R206): its execution (reads of one entry's execution share it), reader,
flow, ring generation and position, tile `k` of the frame, the tile it resolved to (none at a bad
position), the concealment tile of a video read, what has returned so far, the retries made, whether
retries are off (LOST or a flow mismatch) or the retry budget has ended, whether its deadline passed, and
the line, slot and frame index of issue, whether the read, its retry or its concealment read waits for its channel (R202, R204), and
whether its frame is repeated (R189). -/
structure PoolRead where
  ident : Nat
  exec : Nat
  dom : Nat
  reader : Reader
  flow : Nat
  gen : Nat
  pos : Nat
  k : Nat
  tile : Option Nat
  conceal : Option Nat
  good : Bool
  concGood : Bool
  concOut : Bool
  tries : Nat
  inFlight : Nat
  budgetOver : Bool
  noRetry : Bool
  lost : Bool
  late : Bool
  line : Nat
  slot : Nat
  frame : Nat
  waiting : Bool
  retryWait : Bool
  concWait : Bool
  rep : Bool
  deriving DecidableEq, Repr

/-- An access of master `m` to pool window `w` (R220 to R223), which may wait for its channels (R204, R221). -/
inductive WinOp where
  | read (m w off n : Nat) | write (m w off : Nat) (data : Bytes) | flush (w pos : Nat)
  deriving DecidableEq, Repr

/-- The tile pool (chapter 07). `mem` is the stored bytes by physical address (tile × 4,096 + byte);
`free` the free extents of service tiles in ascending order; `release` extents that wait for a frame
boundary of a domain (R197); `remap` retired to reserve indices (R211), `remapPend` with the domain it
waits for (R210); `bad` ring positions without pool access (R212); `resUsed` reserve tiles taken per
channel and `resBack` repaired indices that joined the reserve (R214); `scrubWait` tiles that Riddle waits to read and `winWait`
window accesses that wait (R204). -/
structure PoolState where
  mem : List Host.Cell
  rings : List Ring
  free : List (Nat × Nat)
  release : List (Nat × Nat × Nat)
  remap : List (Nat × Nat)
  remapPend : List (Nat × Nat × Nat)
  bad : List (Nat × Nat)
  resUsed : List (Nat × Nat)
  resBack : List Nat
  suspect : List Suspect
  ppr : List PprRow
  pprRun : Bool
  reads : List PoolRead
  nextRead : Nat
  nextExec : Nat
  scrubWait : List Nat
  winWait : List WinOp
  deriving DecidableEq, Repr

/-- A route (R264): output, source (0xFFFF never appears), delay, AFV, ANC_FOLLOW. -/
structure Route where
  out : Nat
  src : Nat
  delay : Nat
  afv : Bool
  anc : Bool
  deriving DecidableEq, Repr

/-- One bank (R225): template and run entries that differ from their cleared values, firmware's copy of
both in control SRAM (R243), the indices written since the last flip (R241), and the routes the bank
was compiled for (PAT_ROUTE). -/
structure PatBank where
  tmpl : List (Nat × BitVec 128)
  runs : List (Nat × BitVec 128)
  fwTmpl : List (Nat × BitVec 128)
  fwRuns : List (Nat × BitVec 128)
  dirtyT : List Nat
  dirtyR : List Nat
  routes : List Route
  deriving DecidableEq, Repr

/-- Slips of one entry execution in the window of R250: FRAME, number, channel, unit. -/
structure SlipRec where
  frame : Nat
  n : Nat
  channel : Nat
  unit : Nat
  deriving DecidableEq, Repr

/-- A domain's sequencer: banks A and B, changes that wait for a flip and its copy (R240), a flip
request for the next boundary (R240), whether the domain holds raw entries (R482), the slips in the
window and the frame until which no second Degrade is raised (R250), and entries to repair as
(isRun, index) (R243), and raw entries of PAT_WRITE that wait for a flip's copy, with whether a flip
follows them (R240, R482); `notBefore` the PTP time that the flip of a fired timed command must reach (R254). -/
structure PatDom where
  a : PatBank
  b : PatBank
  deferred : Bool
  flipReq : Bool
  raw : Bool
  slips : List SlipRec
  slipHold : Nat
  repairs : List (Bool × Nat)
  rawPend : List (Bool × Nat × BitVec 128)
  rawFlip : Bool
  notBefore : Option Nat
  deriving DecidableEq, Repr

/-- A pending timed command of CS13 (R251 to R255): the packet, the boundary of its acceptance, and
whether its action list was released and whether this device accepted it (R255). -/
structure Timed where
  op : Nat
  cmd : Cmd
  accepted : Nat
  released : Bool
  own : Bool
  deriving DecidableEq, Repr

/-- The pattern sequencer and CS13 (chapter 08); `routes` is the route table as last applied. -/
structure PatState where
  doms : List PatDom
  routes : List Route
  sched : List Timed
  deriving DecidableEq, Repr

/-- An output frame whose packets are being sent (R310): the domain's frame index, the RTP timestamp, the packets
begun, and whether the descriptor in progress is sent (R152) with the domain line of its first packet (R309). -/
structure SendFrame where
  frame : Nat
  ts : Nat
  k : Nat
  descOk : Bool
  descLine : Nat
  deriving DecidableEq, Repr

/-- A video output flow beside its SHK_FLOW registers (R294): picture, follow map as (output channel,
source position), the number of consecutive LOSS frames and the source whose tiles this frame shows as black
(R301), the frame begun last and whether it is without audio and ancillary data (R301), the frames whose packets are
being sent, and the spare unit that computes the output with the frame compared (R316). -/
structure VOut where
  flow : Nat
  dom : Nat
  width : Nat
  height : Nat
  format : Nat
  sampling : Nat
  follow : List (Nat × Nat)
  lossRun : Nat
  blackSrc : Option Nat
  begun : Option Nat
  sends : List SendFrame
  silent : Bool
  spare : Option (Nat × Option Nat)
  deriving DecidableEq, Repr

/-- An ANC output flow (R305, ANC_OUT_DEFINE): the source and delay as last applied (the inactive bank's), the active
ones, and the frame whose packets are being sent. -/
structure AncOut where
  flow : Nat
  dom : Nat
  shakeout : Nat
  dual : Bool
  delay : Nat
  source : Option Nat
  tsOfs : Nat
  actSource : Option Nat
  actDelay : Nat
  send : Option SendFrame
  deriving DecidableEq, Repr

/-- A test source (R317). -/
structure TestSrc where
  flow : Nat
  dom : Nat
  pattern : Nat
  format : Nat
  sampling : Nat
  width : Nat
  height : Nat
  tpf : Nat
  deriving DecidableEq, Repr

/-- A tile delivered to an output's staging buffer for its frame (R206, R296): output flow, the domain's frame
index, tile index of the frame, whether it is an ANC tile, payload, and the CONCEAL, TEST, fill and REPEAT marks (R189; `fill` for
content that R301 replaces by black). A Chameleon layer's tiles have the same form, under its layer number. -/
structure StagedTile where
  flow : Nat
  frame : Nat
  k : Nat
  anc : Bool
  bytes : Bytes
  conceal : Bool
  test : Bool
  fill : Bool
  rep : Bool
  deriving DecidableEq, Repr

/-- The Shakeouts (chapter 10). `seqAdopt` holds what a standby adds to an output's 32-bit sequence number
at its next FRAME_START to adopt the active's, as (flow, difference) (R314). -/
structure ShkState where
  vouts : List VOut
  ancOuts : List AncOut
  tests : List TestSrc
  seqAdopt : List (Nat × Nat)
  staging : List StagedTile
  deriving DecidableEq, Repr

/-- A pending surface flip (R345 to R349): fence, target, the surfaces with their buffers, the boundary
at which it was applied, evaluations spent, FENCE_WAIT in force, the outcome once decided, and the
frame of the last evaluation. -/
structure SurfFlip where
  fence : Nat
  target : Nat
  dom : Nat
  surfaces : List (Nat × Nat)
  applied : Nat
  evals : Nat
  wait : Nat
  reached : Bool
  evalFrame : Option Nat
  deriving DecidableEq, Repr

/-- One layer's parameters of a bank: CHM_LAYER_CFG words 0 to 6 (R325). -/
structure LayerParam where
  layer : Nat
  words : List Word
  deriving DecidableEq, Repr

/-- The compositor (chapter 11). `next` holds layer parameters that differ in the inactive bank (R325);
`twinFlips` flip outcomes received from the active that wait for their frame boundary, as (surface,
buffer, FRAME) (R352); `mirrored` the active's fence values (R352); `staging` the layer tiles delivered for the frame in
progress; `bound` the pipes in force as (pipe, output, domain), which follow the configuration at each flip (R322). -/
structure ChmState where
  next : List LayerParam
  flips : List SurfFlip
  twinFlips : List (Nat × Nat × Nat)
  mirrored : List (Nat × Nat)
  staging : List StagedTile
  bound : List (Nat × Nat × Nat)
  deriving DecidableEq, Repr

/-- A network audio stream (R362), input or output: its definition, then its running counts (PKT_BAD,
PKT_LATE, PKT_EARLY, PKT_DUP, PKT_COPE, PKT_DRAG, SEQ_GAP in this order), last sequence number per
path, LOSS, and for the loss figures of R438 the packets received as (first sample, paths) and the first sample of the next
packet time to count. -/
structure AStream where
  ident : Nat
  enc : Nat
  rate : Nat
  ptime : Nat
  chans : Nat
  unit : Nat
  paths : Nat
  base : Nat
  rxo : Nat
  tsOfs : Nat
  counts : List Nat
  lastSeq : List (Nat × Nat)
  loss : Bool
  rx : List (Nat × Nat)
  phase : Option Nat
  deriving DecidableEq, Repr

/-- A de-embed map (R373) or embed map (R374) of a flow: pairs (embedded channel, audio channel), whether SRC runs
(R375) with its Newt core and task as core × 32 + task, EMB_DLY, the slips counted, whether the map waits for its
flow's next frame (R484), the sample index at which the next frame starts (de-embed) or the frame in progress started
(embed), and for an embed map the samples it holds as (block, embedded channel, valid, samples). -/
structure EmbMap where
  flow : Nat
  embed : Bool
  srcEn : Bool
  srcCore : Option Nat
  embDly : Nat
  entries : List (Nat × Nat)
  slips : Nat
  due : Bool
  nextPos : Option Nat
  buf : List (Nat × Nat × Bool × List (BitVec 32))
  deriving DecidableEq, Repr

/-- A delay line (R376): definition, the routes that share an automatic one (R284) as (index, source channel, unused),
the block of its first stored sample (none while its domain is stopped), the ring position it restarted from (R379),
the tiles completed and written, the tiles read, the blocks sent and not yet in a complete tile, and the blocks read
back, both as (block, samples in tile order). -/
structure DelayLine where
  bundle : Nat
  label : Nat
  chans : Nat
  send : Nat
  ret : Nat
  dom : Nat
  rate : Nat
  delay : Nat
  users : List (Nat × Nat × Nat)
  start : Option Nat
  origin : Nat
  wrTile : Nat
  rdTile : Nat
  sendBuf : List (Nat × List (BitVec 32))
  back : List (Nat × List (BitVec 32))
  deriving DecidableEq, Repr

/-- A crosspoint change that waits (R371, R372): output channel, source, crossfade, and for a take the
video output and the domain whose flip starts it, with the media time once the flip has passed. -/
structure XpChange where
  ch : Nat
  src : Nat
  xfade : Nat
  viaOut : Option Nat
  dom : Nat
  at_ : Option Nat
  deriving DecidableEq, Repr

/-- A running crossfade (R371): output channel, former source, length, samples done. -/
structure XFade where
  ch : Nat
  old : Nat
  len : Nat
  pos : Nat
  deriving DecidableEq, Repr

/-- One sample of an input channel's buffer: channel index, media sample index of the index's 48 kHz positions, Q1.31
value. A 96 kHz channel keeps its even samples in its first index and its odd samples in its second. -/
structure Sample where
  ch : Nat
  n : Nat
  v : BitVec 32
  deriving DecidableEq, Repr

/-- The three samples of a channel reference in one block, and whether any of them is concealed (R365). -/
structure ChanBlock where
  ref : Nat
  vals : List (BitVec 32)
  conc : Bool
  deriving DecidableEq, Repr

/-- Running measurement of one channel's meter window (R380): space, channel, peak, sum of squares,
samples, quiet windows in ms. -/
structure MeterAcc where
  space : Nat
  ch : Nat
  peak : Nat
  sumSq : Nat
  n : Nat
  quiet : Nat
  deriving DecidableEq, Repr

/-- The audio plane (chapter 12). `block` is the grid's current block K, `tank` the input samples held, `conc`
consecutive concealed blocks per reference, `intMeters` the meters of internal channels as (channel, words 0 and 1),
`read` and `readOld` the input blocks delivered at the last boundary and the one before, `intl` the internal channels'
block, `good` the last good block of each reference, `outs` the output blocks of the last boundaries. -/
structure AudState where
  streams : List AStream
  maps : List EmbMap
  delays : List DelayLine
  pend : List XpChange
  fades : List XFade
  tank : List Sample
  block : Nat
  conc : List (Nat × Nat)
  meters : List MeterAcc
  intMeters : List (Nat × Nat × Nat)
  read : List ChanBlock
  readOld : List ChanBlock
  intl : List ChanBlock
  good : List ChanBlock
  outs : List (Nat × ChanBlock)
  deriving DecidableEq, Repr

/-- The operand fields of a Newt instruction (R398), and `alt` for the second operand form of R399 where
it has two: a register count or modifier instead of the immediate, an accumulator instead of a register. `corr` counts the
single-bit errors that the ECC of the core's memories corrects while it runs (R397), which the environment brings. -/
structure NwtIns where
  dst : BitVec 6 := 0
  sa : BitVec 6 := 0
  sb : BitVec 6 := 0
  ak : BitVec 2 := 0
  imm : BitVec 32 := 0
  alt : Bool := false
  corr : Nat := 0
  deriving DecidableEq, Repr

/-- One register bank of a core (R394): V0 to V15 as 8 lanes each, scalars, pointers, modifiers,
bases, lengths, accumulators A0 to A3 as 8 lanes each, the lane flags CMP and SAT, and the loop stack
as (start, end, remaining), innermost first (R402). -/
structure NwtBank where
  v : List (BitVec 32)
  sc : List (BitVec 32)
  p : List (BitVec 18)
  m : List (BitVec 18)
  b : List (BitVec 18)
  l : List (BitVec 18)
  acc : List (BitVec 80)
  cmp : List Bool
  sat : List Bool
  loops : List (Nat × Nat × Nat)
  deriving DecidableEq, Repr

/-- A result on its way through the pipeline (R401): in which bank it lands, and what it writes. `age`
counts the instructions until it is visible. -/
inductive NwtWrite where
  | vec (reg : Nat) (lanes : List (BitVec 32))
  | scalar (reg : Nat) (x : BitVec 32)
  | acc (reg : Nat) (lanes : List (BitVec 80)) (mac : Bool)
  | flags (cmp : Option (List Bool)) (sat : Option (List Bool))
  | mem (addr : Nat) (bytes : Bytes)
  deriving DecidableEq, Repr

/-- A pending pipeline write. -/
structure NwtPend where
  bank : Nat
  age : Nat
  w : NwtWrite
  deriving DecidableEq, Repr

/-- The run of a task on a core in the current block: task, current bank (0, 1 or 2: interrupt level),
the three banks, the pc, the branch that follows its delay slot, pending writes, the resume points of
interrupted levels, raised interrupts as (source, level), the TIMER's remaining cycles, cycles used,
whether any lane set SAT, and whether the last instruction was a branch. -/
structure NwtRun where
  task : Nat
  level : Nat
  banks : List NwtBank
  pc : Nat
  branch : Option Nat
  pend : List NwtPend
  ret : List (Nat × Nat)
  irqs : List (Nat × Nat)
  timer : Option Nat
  cycles : Nat
  satSeen : Bool
  deriving DecidableEq, Repr

/-- A task of a core (R412): image slot, rate, channel references, where its frames, parameter pages
and state lie in data memory, which page is active, whether a swap is due, the admitted budget, whether
it starts, stops or is DIS, recent Notice traps by block (R409), whether it ended in the present block and whether
its output is discarded, and the parameter page of a task that has not started. -/
structure NwtTask where
  index : Nat
  image : Nat
  rate96 : Bool
  ins : List Nat
  outs : List Nat
  inBase : Nat
  outBase : Nat
  page0 : Nat
  page1 : Nat
  stateBase : Nat
  parLen : Nat
  stateLen : Nat
  page : Nat
  swapDue : Bool
  swapped : Bool
  budget : Nat
  startDue : Bool
  removeDue : Bool
  dis : Bool
  enableDue : Bool
  traps : List Nat
  done : Bool
  discard : Bool
  par : Bytes
  deriving DecidableEq, Repr

/-- A Newt core: its memories (canonical sparse bytes), its tasks, the run in progress, the tasks still
to run in this block, and the blocks compared while shadowed (R415). -/
structure NwtCore where
  dmem : List Host.Cell
  pmem : List Host.Cell
  tasks : List NwtTask
  run : Option NwtRun
  queue : List Nat
  deriving DecidableEq, Repr

/-- An image of the store (R410) with its measurement and the EPOCH it was taken at. -/
structure NwtImage where
  slot : Nat
  bytes : Bytes
  measure : Bytes
  epoch : Nat
  deriving DecidableEq, Repr

/-- A snapshot (R413): core, source and SEQ that asked, the boundary it waits for, whether it was taken
and copied, and its contents (data memory, program memory, task table). -/
structure Snapshot where
  ident : Nat
  core : Nat
  src : Nat
  seq : Nat
  at_ : Nat
  taken : Bool
  copied : Bool
  epoch : Nat
  dmem : List Host.Cell
  pmem : List Host.Cell
  tasks : List NwtTask
  deriving DecidableEq, Repr

/-- The Newt cores (chapter 13). -/
structure NwtState where
  cores : List NwtCore
  images : List NwtImage
  snaps : List Snapshot
  deriving DecidableEq, Repr

/-- One audio port pair beside its registers (chapter 14): FIFO words of each direction as (word, validity), mask changes
that wait as (mask, earliest tick) (R425), the last block's user bits per subframe, a commanded restart, format changes that wait
for their first sync per direction (R418), transmit channel status that waits for its block (APT_CS_TX), the sample
index each direction takes next, and the SRC task as core × 32 + task. -/
structure AptPort where
  inFifo : List Nat
  outFifo : List (BitVec 32 × Option Bool)
  maskIn : Option (Nat × Nat)
  maskOut : Option (Nat × Nat)
  userRx : List (Nat × Bytes)
  restart : Bool
  waitIn : Bool
  waitOut : Bool
  csPend : List (Nat × Bytes)
  inNext : Option Nat
  outNext : Option Nat
  srcTask : Option Nat
  deriving DecidableEq, Repr

/-- The audio ports (chapter 14). -/
structure AptState where
  ports : List AptPort
  deriving DecidableEq, Repr

/-- A statistic of a subject in the interval in progress (R438): record type, subject, word index of
R445 and value. -/
structure MeasStat where
  type : Nat
  subject : Nat
  word : Nat
  value : Int
  deriving DecidableEq, Repr

/-- A measurement destination's queue (R446): datagrams waiting as (TYPE, interval, payload). -/
structure MeasQueue where
  dest : Nat
  dgrams : List (Nat × Nat × Bytes)
  deriving DecidableEq, Repr

/-- The record words of a deleted subject (R435): type, FLAGS without STEPPED, subject, words. -/
structure MeasRec where
  type : Nat
  flags : Nat
  subject : Nat
  words : List Nat
  deriving DecidableEq, Repr

/-- The frames of a video flow sampled so far (R438): consecutive black and frozen frames, the last signature, the frame
sampled last as (generation, index), and the extended sequence number up to which lost packets are counted with the frame
they ended in. -/
structure FrameRun where
  flow : Nat
  black : Nat
  freeze : Nat
  sig : Option Nat
  last : Option (Nat × Nat)
  lossAt : Option (Nat × Nat × Nat)
  deriving DecidableEq, Repr

/-- The measurement engine (chapter 15). `alarms` holds raised alarms as (code, subject); `known` the subjects present
when the interval began as (type, subject), `deleted` those deleted in it; `tempRun` and `railRun` consecutive readings over
and under each limit as (index, limit, run); `cfgPend` configuration words by register offset that wait for the interval
end (R436); `lastRecords` the last records of each destination; `k` the interval in progress (R432). -/
structure MeasState where
  stats : List MeasStat
  queues : List MeasQueue
  alarmQ : List MeasQueue
  alarms : List (Nat × Nat)
  known : List (Nat × Nat)
  deleted : List MeasRec
  runs : List FrameRun
  tempRun : List (Nat × Nat × Nat)
  railRun : List (Nat × Nat × Nat)
  cfgPend : List (Nat × Word)
  lastRecords : List MeasQueue
  k : Nat
  deriving DecidableEq, Repr

/-- An applied command as a cast record carries it (R499, section 0x01): opcode, packet, ORDER, its
status, whether it changes only local state (R505), whether it is a timed acceptance, the payload of its OK reply,
which names the units and results admission decided, and the cycle of its journal entry. -/
structure RecCmd where
  op : Nat
  cmd : Cmd
  order : Nat
  status : Nat
  isLocal : Bool
  timed : Bool
  payload : Bytes
  epoch : Nat
  deriving DecidableEq, Repr

/-- Bank section of one domain (R499, 0x02): `tmpl` and `runs` the template and run indices written in the cycle. -/
structure RecBank where
  dom : Nat
  active : Nat
  flipPend : Bool
  flipFrame : Nat
  tmpl : List Nat
  runs : List Nat
  deriving DecidableEq, Repr

/-- Source section (R499, 0x03): CS number, SESSION, NEXT_SEQ, LAST_APPLIED, OPEN_CTR. -/
structure RecSource where
  src : Nat
  session : Nat
  nextSeq : Nat
  lastApplied : Nat
  openCtr : Nat
  deriving DecidableEq, Repr

/-- Servo section (R499, 0x04): TIM BASE (2^-16 ns), TICK_BASE, RATE (2^-40), SERVO, and per DPLL
STATE, CUR_IN, HO_FREQ. -/
structure RecServo where
  base : Nat
  tickBase : Nat
  rate : Int
  servo : Nat
  dplls : List (Nat × Nat × Nat)
  deriving DecidableEq, Repr

/-- The mirrored state of a full transfer (R505, R515): the register words of the mirrored blocks and
the structured state of the chapters the table of R505 names; `rings` the rings it needs as (flow, generation, domain,
tiles), which a standby allocates itself (R503). -/
structure Mirror where
  regs : List (Nat × Word)
  flows : List InFlow
  filters : List RxFilter
  templates : List TxTemplate
  pat : PatState
  shk : ShkState
  chm : ChmState
  aud : AudState
  nwt : NwtState
  macros : List MacroBody
  rings : List (Nat × Nat × Nat × Nat)
  deriving DecidableEq, Repr

/-- A cast record (R499) as a receiver holds it. -/
structure CastRec where
  epoch : Nat
  first : Nat
  merged : Bool
  swap : Bool
  full : Option Mirror
  cmds : List RecCmd
  banks : List RecBank
  sources : List RecSource
  servo : RecServo
  newt : List (Nat × Nat × Bool)
  pages : List (Nat × Nat × Nat × Bytes)
  rtp : List (Nat × Nat × Nat × Nat × Nat)
  axl : List (Nat × Nat × Nat)
  flips : List (Nat × Nat × Nat)
  fences : List (Nat × Nat)
  cancelled : List (Nat × Nat)
  fired : List (Nat × Nat)
  macroFires : List Nat
  mode : Nat
  role : Nat
  deriving DecidableEq, Repr

/-- An EGRESS_LOOP in progress (R518): kind, unit, and the frames sent per output. -/
structure EgressLoop where
  kind : Nat
  unit : Nat
  sent : List (Nat × Nat)
  deriving DecidableEq, Repr

/-- A frame of the Akestim link as the twin controller takes it (R117, R498): one of those of AKESTIM_FRAME_RECEIVE, a cast
record with its CRC's verdict, a record acknowledgement, a loop signature. -/
inductive AksFrame where
  | body (b : AksBody)
  | record (r : CastRec) (crcOk : Bool)
  | recAck (epoch : Nat)
  | signature (sig : Nat)
  deriving DecidableEq, Repr

/-- The twin controller (chapter 18). `retained` holds the unacknowledged records of an active, `buffered` those of a
standby during a transfer with `full` the captured state it received; `applied` to `axlNow` what the record of the present
cycle has gathered, `swapRec` whether it carries SWAP; `swapAt` the boundary of a role change with the source and SEQ that
asked and its LAST_CAUSE, `swapAck` whether its record was acknowledged; `promote` a pending promotion's cause; `leave` a
dual-active device's entry into Melt at the next boundary; `croakOutOn` whether CROAK_OUT toggles, `croakOut` its level;
`partner` the partner's mode and SYS_MODE_EPOCH as last reported; `fullReq` a transfer asked for; `lastFull` the last
transfer's EPOCH and FIRST_EPOCH, `afterCtl` a Control reset since the last transfer (UNSYNC_CAUSE 0x5); `lastRec` the EPOCH of
the last record sent; `rtpLog` a standby's own sequence numbers at the end of each cycle whose record has not come, as (cycle,
[(flow, sequence)]) (R314); `replay` the cycle a replay was requested from; `servo` section 0x04 of the last record applied
(R510); `nwtPend` a Newt capture that waits for the next block boundary, with its block K (R516); `aksHeld`
frames received ahead of a gap as (sequence number, tick of arrival, frame) (R118). -/
structure TwnState where
  retained : List CastRec
  buffered : List CastRec
  full : Option CastRec
  applied : List RecCmd
  firedNow : List (Nat × Nat)
  cancelledNow : List (Nat × Nat)
  macroNow : List Nat
  flipsNow : List (Nat × Nat × Nat)
  newtNow : List (Nat × Nat × Bool)
  pagesNow : List (Nat × Nat × Nat × Bytes)
  banksNow : List (Nat × List Nat × List Nat)
  axlNow : List (Nat × Nat × Nat)
  swapRec : Bool
  swapAt : Option (Nat × Nat × Nat × Nat)
  swapAck : Bool
  promote : Option Nat
  leave : Bool
  croakLost : Bool
  croakOutOn : Bool
  croakOut : Bool
  partner : Option (Nat × Nat)
  fullReq : Bool
  loop : Option EgressLoop
  lastFull : Option (Nat × Nat)
  afterCtl : Bool
  lastRec : Option Nat
  rtpLog : List (Nat × List (Nat × Nat))
  replay : Option Nat
  servo : Option RecServo
  nwtPend : Option (Nat × List NwtCore)
  aksHeld : List (Nat × Nat × AksFrame)
  deriving DecidableEq, Repr

/-- Mode, EPOCH and the cast cycle (chapter 01); domain A. `targetDramOff` is the DRAM_OFF of
a MODE_SET to Cold, `wakePend` a wake that waits for the boundary (R590), `castAge` the nanoseconds since the cast cycle began,
which domain A counts on its own (R24, R45), `castSrc` whether the last cycle ended on a D0 line
start, `castLen` its length in ns, `unlock` a debug unlock in force (R479). -/
structure SysState where
  mode : Mode
  role : Role
  lastCause : Nat
  meltReady : Bool
  targetDramOff : Bool
  wakePend : Bool
  epoch : Nat
  modeEpoch : Nat
  castAge : Nat
  castSrc : Bool
  castLen : Nat
  unlock : Bool
  deriving DecidableEq, Repr

/-- A resume image (R22): the registers of domains C and P and the structured state as they stood at entry into Cold. -/
structure Resume where
  regs : List (Nat × Word)
  tim : TimState
  ref : RefState
  lane : LaneState
  mac : MacState
  lad : LadState
  pool : PoolState
  pat : PatState
  shk : ShkState
  chm : ChmState
  aud : AudState
  nwt : NwtState
  apt : AptState
  meas : MeasState
  macros : List MacroBody
  deriving DecidableEq, Repr

/-- The reset controller (chapter 19); domain A. `asserted` holds the asserted sources (R522), `aUp` to
`hUp` the domains out of reset, `stepDone` the last completed start-up step (R526), `hStep` and so on
whether the sequence reached the step that releases a domain, `fwUp` whether firmware serves commands,
`rstPend` a RESET command that waits for its boundary (R494), `present` the persisting fault conditions
(R542), `dramHeld` whether the DRAM keeps its tiles in Cold, `bar2` the BAR2 size in force (R587), `waking` a wake from
Cold in progress, `wdtStart` the tick of the last kick and `wdtLast` of the last expiry (R529, R531), `resume` the resume
image (R22), `xtalLost` whether the crystal clock is lost (R44). -/
structure RstState where
  asserted : List ResetSrc
  aUp : Bool
  cUp : Bool
  pUp : Bool
  hUp : Bool
  aStep : Bool
  hStep : Bool
  pStep : Bool
  cStep : Bool
  fwUp : Bool
  restarting : Bool
  quenchC : Bool
  rstPend : Option Nat
  present : List Nat
  dramHeld : Bool
  bar2 : Nat
  waking : Bool
  wdtStart : Nat
  wdtLast : Option Nat
  resume : Option Resume
  xtalLost : Bool
  deriving DecidableEq, Repr

/-- A substitution in progress (R545, R546). -/
structure Subst where
  kind : UnitKind
  unit : Nat
  spare : Nat
  auto : Bool
  deriving DecidableEq, Repr

/-- The spare manager beside its registers (R546): substitutions running and queued requests; `dead` the units in fault for which
no spare was free (R545). -/
structure AxlState where
  running : List Subst
  queued : List (UnitKind × Nat)
  failover : Bool
  dead : List (UnitKind × Nat)
  deriving DecidableEq, Repr

/-- The option bytes (R533): the four OTP copies as programmed (512 bytes and the CRC, empty when
unprogrammed) and the block applied. -/
structure OtpState where
  copies : List Bytes
  applied : Bytes
  deriving DecidableEq, Repr

/-- What a bus master's last access answered (R576): data and error status. -/
structure BusResp where
  master : Nat
  data : List Word
  error : Bool
  deriving DecidableEq, Repr

/-- One key slot (R554): copies A and B of 80 bytes (empty when blank), and the EPOCH of the last
commit. -/
structure KeySlot where
  a : Bytes
  b : Bytes
  commit : Nat
  deriving DecidableEq, Repr

/-- A key command between its boundary and its commit (R557 to R559): slot, the new record or `none`
for an erase, and the source and SEQ whose reply waits. -/
structure KeyOp where
  slot : Nat
  write : Option (Nat × Bytes)
  src : Nat
  seq : Nat
  deriving DecidableEq, Repr

/-- The key store (chapter 20). `ops` holds key commands in journal order; `attest` the statement being
signed with the source and SEQ that asked; `tamperIn` the sources active now; `unlockCnt` debug unlocks
since the last Backup reset, `unlockedEver` since the last Chip reset (R565); `bootEpoch` and `optEpoch` the EPOCHs of the
firmware's and the option block's measurement (R566). -/
structure KeyState where
  slots : List KeySlot
  ops : List KeyOp
  nonce : Option Bytes
  attest : Option (Bytes × Nat × Nat)
  unlockCnt : Nat
  unlockedEver : Bool
  bootEpoch : Nat
  optEpoch : Nat
  deriving DecidableEq, Repr

/-- The power manager and GPIO beside their registers (chapter 22): accepted events per pin in the
current 1 s window, the VDD_CORE setpoint in mV, the setpoint command being retried, the ages in ns of
the setpoint commands of the last 100 ms, and the pins whose GPIO_PIN_CFG has been written since reset. -/
structure GpioState where
  window : List (Nat × Nat)
  vddSet : Nat
  vddRetry : Option Nat
  vddAge : List Nat
  configured : List Nat
  deriving DecidableEq, Repr

end Sys2Proof.Machine
end

