-- ==== Sys2Proof/Syntax.lean ====
section
/-! DEFINITION. The commands of the block: one constructor of `Instr` per row of the opcode table,
with the operands a row carries (a packet as received, a register access, what arrives on a pin, a
lane or a link). -/

namespace Sys2Proof
open Sys2Proof.Machine

/-- Every row of the opcode table. Rows 1 to 89 carry a command packet; the others carry what their
event brings. -/
inductive Instr where
  /-- SESSION_OPEN (R461). -/
  | sessionOpen (c : Cmd)
  /-- PING (R474). -/
  | ping (c : Cmd)
  /-- IDENT (R474). -/
  | ident (c : Cmd)
  /-- MODE_SET (R478). -/
  | modeSet (c : Cmd)
  /-- DEBUG_CHALLENGE (R479). -/
  | debugChallenge (c : Cmd)
  /-- DEBUG_UNLOCK (R479). -/
  | debugUnlock (c : Cmd)
  /-- VIN_DEFINE (R172). -/
  | vinDefine (c : Cmd)
  /-- FLOW_DELETE (R480). -/
  | flowDelete (c : Cmd)
  /-- VIN_DEPTH (R174). -/
  | vinDepth (c : Cmd)
  /-- ANC_IN_DEFINE (R192). -/
  | ancInDefine (c : Cmd)
  /-- VOUT_DEFINE (R294). -/
  | voutDefine (c : Cmd)
  /-- ANC_OUT_DEFINE (R305). -/
  | ancOutDefine (c : Cmd)
  /-- ANC_OUT_ROUTE (R286). -/
  | ancOutRoute (c : Cmd)
  /-- TEST_DEFINE (R317). -/
  | testDefine (c : Cmd)
  /-- TAKE (R273). -/
  | take (c : Cmd)
  /-- MACRO_STORE (R481). -/
  | macroStore (c : Cmd)
  /-- MACRO_ARM (R288). -/
  | macroArm (c : Cmd)
  /-- MACRO_DELETE (R287). -/
  | macroDelete (c : Cmd)
  /-- PAT_WRITE (R482). -/
  | patWrite (c : Cmd)
  /-- PAT_CLEAR (R482). -/
  | patClear (c : Cmd)
  /-- PAT_SHARE (R246). -/
  | patShare (c : Cmd)
  /-- SCHED_CANCEL (R483). -/
  | schedCancel (c : Cmd)
  /-- ASTREAM_IN (R362). -/
  | astreamIn (c : Cmd)
  /-- ASTREAM_OUT (R366). -/
  | astreamOut (c : Cmd)
  /-- ASTREAM_DELETE (R484). -/
  | astreamDelete (c : Cmd)
  /-- XP_SET (R371). -/
  | xpSet (c : Cmd)
  /-- DEEMBED_MAP (R373). -/
  | deembedMap (c : Cmd)
  /-- EMBED_MAP (R374). -/
  | embedMap (c : Cmd)
  /-- DELAY_DEFINE (R376). -/
  | delayDefine (c : Cmd)
  /-- DELAY_DELETE (R376). -/
  | delayDelete (c : Cmd)
  /-- APT_PORT (R417). -/
  | aptPort (c : Cmd)
  /-- APT_MASK (R425). -/
  | aptMask (c : Cmd)
  /-- APT_TDM (R423). -/
  | aptTdm (c : Cmd)
  /-- APT_CS_TX (R422). -/
  | aptCsTx (c : Cmd)
  /-- APT_RESTART (R429). -/
  | aptRestart (c : Cmd)
  /-- AUD_CFG (R365). -/
  | audCfg (c : Cmd)
  /-- IMAGE_LOAD (R486). -/
  | imageLoad (c : Cmd)
  /-- IMAGE_DELETE (R485). -/
  | imageDelete (c : Cmd)
  /-- TASK_DEFINE (R412). -/
  | taskDefine (c : Cmd)
  /-- TASK_REMOVE (R412). -/
  | taskRemove (c : Cmd)
  /-- TASK_PARAM (R389). -/
  | taskParam (c : Cmd)
  /-- TASK_ENABLE (R409). -/
  | taskEnable (c : Cmd)
  /-- PIPE_DEFINE (R321). -/
  | pipeDefine (c : Cmd)
  /-- PIPE_DELETE (R487). -/
  | pipeDelete (c : Cmd)
  /-- LAYER_SET (R325). -/
  | layerSet (c : Cmd)
  /-- SURFACE_DEFINE (R340). -/
  | surfaceDefine (c : Cmd)
  /-- SURFACE_DELETE (R345). -/
  | surfaceDelete (c : Cmd)
  /-- SURFACE_FLIP (R347). -/
  | surfaceFlip (c : Cmd)
  /-- FLIP_CANCEL (R487). -/
  | flipCancel (c : Cmd)
  /-- MEAS_CFG (R436). -/
  | measCfg (c : Cmd)
  /-- MEAS_DEST (R447). -/
  | measDest (c : Cmd)
  /-- ALLOW_STEP (R52). -/
  | allowStep (c : Cmd)
  /-- TIM_SET (R53). -/
  | timSet (c : Cmd)
  /-- STEP_THR (R50). -/
  | stepThr (c : Cmd)
  /-- PTP_CFG (R611). -/
  | ptpCfg (c : Cmd)
  /-- PTP_PORT (R55). -/
  | ptpPort (c : Cmd)
  /-- REF_INPUT (R74). -/
  | refInput (c : Cmd)
  /-- DPLL_CFG (R80). -/
  | dpllCfg (c : Cmd)
  /-- RASTER (R488). -/
  | raster (c : Cmd)
  /-- CLKOUT (R94). -/
  | clkout (c : Cmd)
  /-- OSC_SEL (R91). -/
  | oscSel (c : Cmd)
  /-- MAC_CFG (R489). -/
  | macCfg (c : Cmd)
  /-- MAC_GATE (R147). -/
  | macGate (c : Cmd)
  /-- HLANE_CFG (R96). -/
  | hlaneCfg (c : Cmd)
  /-- SLANE_CFG (R101). -/
  | slaneCfg (c : Cmd)
  /-- LINK_CFG (R132). -/
  | linkCfg (c : Cmd)
  /-- TRIB_SET (R132). -/
  | tribSet (c : Cmd)
  /-- MARGIN_CFG (R125). -/
  | marginCfg (c : Cmd)
  /-- EYE_MAP (R490). -/
  | eyeMap (c : Cmd)
  /-- POOL_CFG (R491). -/
  | poolCfg (c : Cmd)
  /-- PPR_RUN (R492). -/
  | pprRun (c : Cmd)
  /-- POOL_WINDOW (R220). -/
  | poolWindow (c : Cmd)
  /-- SPARE_SUBST (R491). -/
  | spareSubst (c : Cmd)
  /-- TWIN_CFG (R496). -/
  | twinCfg (c : Cmd)
  /-- PROMOTE (R513). -/
  | promote (c : Cmd)
  /-- RESYNC (R515). -/
  | resync (c : Cmd)
  /-- ROLE_SWAP (R513). -/
  | roleSwap (c : Cmd)
  /-- EGRESS_LOOP (R518). -/
  | egressLoop (c : Cmd)
  /-- KEY_WRITE (R557). -/
  | keyWrite (c : Cmd)
  /-- KEY_ERASE (R558). -/
  | keyErase (c : Cmd)
  /-- ATTEST (R564). -/
  | attest (c : Cmd)
  /-- RESET (R494). -/
  | reset (c : Cmd)
  /-- FLT_CLEAR (R543). -/
  | fltClear (c : Cmd)
  /-- QUENCH (R494). -/
  | quench (c : Cmd)
  /-- CAUSE_CLEAR (R525). -/
  | causeClear (c : Cmd)
  /-- RSTCNT_CLEAR (R539). -/
  | rstcntClear (c : Cmd)
  /-- OPT_PROGRAM (R537). -/
  | optProgram (c : Cmd)
  /-- READ (R471). -/
  | read (c : Cmd)
  /-- SNAPSHOT (R413). -/
  | snapshot (c : Cmd)
  /-- CAST_BOUNDARY (R23). -/
  | castBoundary (order : List Nat)
  /-- CAST_TIMER_EXPIRY (R24). -/
  | castTimerExpiry (order : List Nat)
  /-- MIRROR_ACK_RECEIVE (R501). -/
  | mirrorAckReceive (ack : Nat × Nat)
  /-- NO_MIRROR_ACK_TIMEOUT (R467). -/
  | noMirrorAckTimeout (epoch : Nat)
  /-- CPL_CONS_WRITE (R458). -/
  | cplConsWrite (src : Nat) (value : Nat)
  /-- PROD_WRITE (R457). -/
  | prodWrite (src : Nat) (value : Nat) (subs : List Submission)
  /-- HELD_PACKET_TIMEOUT (R464). -/
  | heldPacketTimeout (src : Nat) (seq : Nat)
  /-- FRAGMENT_TIMEOUT (R459). -/
  | fragmentTimeout (src : Nat) (ident : Nat) (peer : Nat)
  /-- TIMED_RELEASE (R254). -/
  | timedRelease (src : Nat) (seq : Nat)
  /-- TIMED_FIRE (R255). -/
  | timedFire (src : Nat) (seq : Nat)
  /-- SLOT_START (R235). -/
  | slotStart (d : Nat)
  /-- BANK_COPY_DONE (R241). -/
  | bankCopyDone (d : Nat)
  /-- FRAME_BOUNDARY (R65). -/
  | frameBoundary (d : Nat)
  /-- RASTER_START (R68). -/
  | rasterStart (d : Nat)
  /-- POOL_READ_RETURN (R205). -/
  | poolReadReturn (ident : Nat) (which : Nat) (ecc : Nat × Bool)
  /-- READ_DEADLINE (R206). -/
  | readDeadline (exec : Nat)
  /-- RETRY_BUDGET_EXPIRY (R205). -/
  | retryBudgetExpiry (ident : Nat)
  /-- SUSPECT_EXPIRY (R209). -/
  | suspectExpiry (tile : Nat)
  /-- PPR_ROW_DONE (R213). -/
  | pprRowDone (ok : Bool)
  /-- POOL_WINDOW_READ (R222). -/
  | poolWindowRead (w : Nat) (off : Nat) (n : Nat)
  /-- POOL_WINDOW_WRITE (R223). -/
  | poolWindowWrite (w : Nat) (off : Nat) (data : Bytes)
  /-- FLUSH (R223). -/
  | flush (w : Nat) (pos : Nat)
  /-- MAC_FRAME_RECEIVE (R136). -/
  | macFrameReceive (mac : Nat) (frame : NetFrame)
  /-- MERGE_HOLD_EXPIRY (R165). -/
  | mergeHoldExpiry (flow : Nat) (ix : Nat)
  /-- FRAME_OPEN_TIMEOUT (R165). -/
  | frameOpenTimeout (flow : Nat) (ix : Nat)
  /-- PATH_IDLE_TIMEOUT (R166). -/
  | pathIdleTimeout (flow : Nat) (path : Nat)
  /-- INPUT_LOSS_TIMEOUT (R179). -/
  | inputLossTimeout (flow : Nat)
  /-- SDI_FRAME_RECEIVE (R158). -/
  | sdiFrameReceive (link : Option Nat) (port : Nat) (f : SdiFrame)
  /-- SLANE_LOS (R179). -/
  | slaneLos (lane : Nat)
  /-- SLANE_RATE_CHANGE (R104). -/
  | slaneRateChange (lane : Nat) (code : Nat)
  /-- SLANE_LOCK (R104). -/
  | slaneLock (lane : Nat) (code : Nat)
  /-- SPRUE_BLOCK_RECEIVE (R113). -/
  | sprueBlockReceive (link : Nat) (cont : Nat) (header : BitVec 16) (first : BitVec 120) (last : BitVec 120)
  /-- LINK_MARKER_RECEIVE (R108). -/
  | linkMarkerReceive (lane : Nat) (m : Marker)
  /-- LANE_CDR_LOSS (R109). -/
  | laneCdrLoss (lane : Nat)
  /-- LANE_WTR_EXPIRY (R128). -/
  | laneWtrExpiry (link : Nat)
  /-- MARGIN_MEASURE (R124). -/
  | marginMeasure (lane : Nat) (h : List (Nat × Nat)) (v : List (Nat × Nat))
  /-- LANE_TX_TRAINED (R612). -/
  | laneTxTrained (isS : Bool) (lane : Nat)
  /-- AKESTIM_FRAME_RECEIVE (R117). -/
  | akestimFrameReceive (seq : Nat) (body : AksBody)
  /-- AKESTIM_RETRY_TIMEOUT (R117). -/
  | akestimRetryTimeout (seq : Nat)
  /-- AKESTIM_LINK_UP (R512). -/
  | akestimLinkUp (mode : Nat) (modeEpoch : Nat) (linkId : Nat)
  /-- CAST_RECORD_RECEIVE (R501). -/
  | castRecordReceive (rec : Nat × CastRec) (crcOk : Bool)
  /-- PARTNER_UNRESPONSIVE (R497). -/
  | partnerUnresponsive
  /-- CROAK_IN_EDGE (R548). -/
  | croakInEdge
  /-- CROAK_IN_LOST (R548). -/
  | croakInLost
  /-- CROAK_OUT_TOGGLE (R547). -/
  | croakOutToggle
  /-- PROMOTION (R508). -/
  | promotion
  /-- ROLE_SWAP_EXECUTE (R513). -/
  | roleSwapExecute
  /-- RESYNC_COMPLETE (R515). -/
  | resyncComplete (epoch : Nat)
  /-- LOOP_SIGNATURE_RECEIVE (R518). -/
  | loopSignatureReceive (sig : Nat × Nat)
  /-- EGRESS_LOOP_DONE (R518). -/
  | egressLoopDone
  /-- PARTNER_RESET_REQUEST (R530). -/
  | partnerResetRequest
  /-- POWER_GOOD (R598). -/
  | powerGood
  /-- POWER_SAG (R598). -/
  | powerSag
  /-- BACKUP_SUPPLY_RISE (R521). -/
  | backupSupplyRise
  /-- RESET_N_CHANGE (R521). -/
  | resetNChange (low : Bool)
  /-- PERST_N_CHANGE (R521). -/
  | perstNChange (low : Bool)
  /-- RESET_PULSE_END (R521). -/
  | resetPulseEnd (src : ResetSrc)
  /-- OPTION_LOAD_DONE (R534). -/
  | optionLoadDone
  /-- CLOCKS_LOCKED (R526). -/
  | clocksLocked
  /-- POOL_TRAINING_DONE (R526). -/
  | poolTrainingDone (ok : Bool)
  /-- FIRMWARE_VERIFIED (R527). -/
  | firmwareVerified (okA : Bool) (okB : Bool)
  /-- MELT_READY (R526). -/
  | meltReady
  /-- WATCHDOG_EXPIRY (R529). -/
  | watchdogExpiry
  /-- KICK (R529). -/
  | kick
  /-- FIRMWARE_RETURN (R530). -/
  | firmwareReturn
  /-- CHIP (R550). -/
  | chip
  /-- QUENCH_EXIT (R550). -/
  | quenchExit
  /-- GO (R590). -/
  | go
  /-- COLD_ENTRY (R22). -/
  | coldEntry
  /-- WAKE_COMPLETE (R22). -/
  | wakeComplete
  /-- FAULT_RAISE (R542). -/
  | faultRaise (n : Nat) (unit : Option (UnitKind × Nat))
  /-- SUBST_COMPLETE (R184). -/
  | substComplete (k : UnitKind) (u : Nat) (mism : List (Nat × Nat))
  /-- STATUS (R542). -/
  | status (mask : Nat)
  /-- VALID (R543). -/
  | valid
  /-- XTAL_LOSS (R44). -/
  | xtalLoss
  /-- PLL_UNLOCK (R541). -/
  | pllUnlock (stays : Bool)
  /-- TEMP_SAMPLE (R440). -/
  | tempSample (sensor : Nat) (reading : Option Int)
  /-- RAIL_SAMPLE (R440). -/
  | railSample (rail : Nat) (mv : Nat) (amps : Option Nat)
  /-- TAMPER_ONSET (R568). -/
  | tamperOnset (src : Nat)
  /-- LATCH (R572). -/
  | latch
  /-- KEY_COMMIT_DONE (R559). -/
  | keyCommitDone
  /-- ATTEST_SIGNED (R564). -/
  | attestSigned
  /-- SNAPSHOT_COPY_DONE (R413). -/
  | snapshotCopyDone
  /-- IMAGE_CHECK_DONE (R486). -/
  | imageCheckDone (image : Nat × Nat)
  /-- EYE_MAP_DONE (R490). -/
  | eyeMapDone (lane : Nat) (map : Bytes)
  /-- SERVO_UPDATE (R50). -/
  | servoUpdate (offset : Int) (freq : Int) (delay : Int)
  /-- PTP_SYNC_TX (R55). -/
  | ptpSyncTx (port : Nat)
  /-- PTP_ANNOUNCE_TX (R58). -/
  | ptpAnnounceTx (port : Nat)
  /-- PTP_DELAY_REQ_TX (R55). -/
  | ptpDelayReqTx (port : Nat)
  /-- ANNOUNCE_RECEIPT_TIMEOUT (R611). -/
  | announceReceiptTimeout (port : Nat)
  /-- MAC_FRAME_TRANSMIT (R150). -/
  | macFrameTransmit (mac : Nat)
  /-- PACKET_SEND_TIME (R310). -/
  | packetSendTime (flow : Nat)
  /-- TXQ_READ (R61). -/
  | txqRead (master : Nat) (mac : Nat)
  /-- MAC_LINK_UP (R140). -/
  | macLinkUp (mac : Nat)
  /-- MAC_VERIFY_TIMER (R140). -/
  | macVerifyTimer (mac : Nat)
  /-- MAC_LINK_DOWN (R541). -/
  | macLinkDown (mac : Nat)
  /-- IGMP_REPORT_SEND (R138). -/
  | igmpReportSend (mac : Nat) (group : Nat)
  /-- SNAP (R157). -/
  | snap (mac : Nat)
  /-- CLR (R157). -/
  | clr (mac : Nat)
  /-- REF_FREQ_GATE (R74). -/
  | refFreqGate (input : Nat) (f : Int)
  /-- REF_INPUT_LOSS (R76). -/
  | refInputLoss (input : Nat)
  /-- REF_QUALIFIED (R75). -/
  | refQualified (input : Nat)
  /-- REF_WTR_EXPIRY (R82). -/
  | refWtrExpiry (d : Nat) (input : Nat)
  /-- DPLL_ABSORB_DONE (R84). -/
  | dpllAbsorbDone (d : Nat)
  /-- DPLL_LOCKED (R89). -/
  | dpllLocked (d : Nat)
  /-- BLOCK_BOUNDARY (R359). -/
  | blockBoundary
  /-- AUDIO_STREAM_LOSS (R365). -/
  | audioStreamLoss (stream : Nat)
  /-- METER_WINDOW_END (R380). -/
  | meterWindowEnd
  /-- TDM_FRAME_SYNC (R423). -/
  | tdmFrameSync (frames : List TdmPort)
  /-- AES3_BLOCK_END (R421). -/
  | aes3BlockEnd (port : Nat) (blk : AesBlock) (rx : AesRx)
  /-- AES3_BLOCK_SYNC_LOSS (R420). -/
  | aes3BlockSyncLoss (port : Nat) (rx : AesRx)
  /-- RESTART (R429). -/
  | restart (port : Nat)
  /-- NWT_TRAP (R408). -/
  | nwtTrap (c : Nat) (code : Nat)
  /-- NWT_INTERRUPT (R405). -/
  | nwtInterrupt (c : Nat)
  /-- NWT_TIMER_EXPIRY (R399). -/
  | nwtTimerExpiry (c : Nat)
  /-- NOP (R399). -/
  | nop (c : Nat) (i : NwtIns)
  /-- BR (R399). -/
  | br (c : Nat) (i : NwtIns)
  /-- BRZ (R399). -/
  | brz (c : Nat) (i : NwtIns)
  /-- BRNZ (R399). -/
  | brnz (c : Nat) (i : NwtIns)
  /-- BRN (R399). -/
  | brn (c : Nat) (i : NwtIns)
  /-- CALL (R399). -/
  | call (c : Nat) (i : NwtIns)
  /-- RET (R399). -/
  | ret (c : Nat) (i : NwtIns)
  /-- REP (R402). -/
  | rep (c : Nat) (i : NwtIns)
  /-- BREAK (R403). -/
  | break (c : Nat) (i : NwtIns)
  /-- SWI (R399). -/
  | swi (c : Nat) (i : NwtIns)
  /-- RETI (R405). -/
  | reti (c : Nat) (i : NwtIns)
  /-- TEND (R399). -/
  | tend (c : Nat) (i : NwtIns)
  /-- TMR (R399). -/
  | tmr (c : Nat) (i : NwtIns)
  /-- SLD (R399). -/
  | sld (c : Nat) (i : NwtIns)
  /-- SST (R399). -/
  | sst (c : Nat) (i : NwtIns)
  /-- VLD (R399). -/
  | vld (c : Nat) (i : NwtIns)
  /-- VST (R399). -/
  | vst (c : Nat) (i : NwtIns)
  /-- VLDB (R399). -/
  | vldb (c : Nat) (i : NwtIns)
  /-- VLDS (R396). -/
  | vlds (c : Nat) (i : NwtIns)
  /-- AST (R399). -/
  | ast (c : Nat) (i : NwtIns)
  /-- ALD (R399). -/
  | ald (c : Nat) (i : NwtIns)
  /-- MOVI (R399). -/
  | movi (c : Nat) (i : NwtIns)
  /-- MOV (R399). -/
  | mov (c : Nat) (i : NwtIns)
  /-- PADD (R395). -/
  | padd (c : Nat) (i : NwtIns)
  /-- ADD (R392). -/
  | add (c : Nat) (i : NwtIns)
  /-- SUB (R392). -/
  | sub (c : Nat) (i : NwtIns)
  /-- AND (R399). -/
  | and (c : Nat) (i : NwtIns)
  /-- OR (R399). -/
  | or (c : Nat) (i : NwtIns)
  /-- XOR (R399). -/
  | xor (c : Nat) (i : NwtIns)
  /-- SHL (R392). -/
  | shl (c : Nat) (i : NwtIns)
  /-- SHR (R399). -/
  | shr (c : Nat) (i : NwtIns)
  /-- ABS (R392). -/
  | abs (c : Nat) (i : NwtIns)
  /-- MIN (R399). -/
  | min (c : Nat) (i : NwtIns)
  /-- MAX (R399). -/
  | max (c : Nat) (i : NwtIns)
  /-- CMPLT (R399). -/
  | cmplt (c : Nat) (i : NwtIns)
  /-- VSEL (R399). -/
  | vsel (c : Nat) (i : NwtIns)
  /-- VMUL (R391). -/
  | vmul (c : Nat) (i : NwtIns)
  /-- VMAC (R391). -/
  | vmac (c : Nat) (i : NwtIns)
  /-- VMSB (R391). -/
  | vmsb (c : Nat) (i : NwtIns)
  /-- VMACM (R399). -/
  | vmacm (c : Nat) (i : NwtIns)
  /-- FTAP (R400). -/
  | ftap (c : Nat) (i : NwtIns)
  /-- ACLR (R399). -/
  | aclr (c : Nat) (i : NwtIns)
  /-- RND (R392). -/
  | rnd (c : Nat) (i : NwtIns)
  /-- ASHF (R399). -/
  | ashf (c : Nat) (i : NwtIns)
  /-- EXP (R393). -/
  | exp (c : Nat) (i : NwtIns)
  /-- NORM (R393). -/
  | norm (c : Nat) (i : NwtIns)
  /-- REPORT_INTERVAL_END (R433). -/
  | reportIntervalEnd
  /-- MEAS_DATAGRAM_SEND (R446). -/
  | measDatagramSend (dest : Nat)
  /-- GPIO_EVENT (R608). -/
  | gpioEvent (pin : Nat) (level : Bool)
  /-- GPIO_WINDOW_END (R609). -/
  | gpioWindowEnd
  /-- QUARANTINE (R609). -/
  | quarantine (pin : Nat)
  /-- CHM_FENCE_WRITE (R344). -/
  | chmFenceWrite (master : Nat) (fence : Nat) (value : Nat)
  /-- VEC (R591). -/
  | vec (master : Nat) (value : Nat)
  /-- EPOCH_LO_READ (R30). -/
  | epochLoRead (master : Nat)
  /-- TICK_LO_READ (R46). -/
  | tickLoRead (master : Nat)
  /-- NOW_NS_READ (R49). -/
  | nowNsRead (master : Nat)
  /-- RAS_POS_READ (R65). -/
  | rasPosRead (master : Nat) (d : Nat)
  /-- LATCHED_LOW_READ (R584). -/
  | latchedLowRead (a : BusAccess)
  /-- PEAK_READ (R413). -/
  | peakRead (a : BusAccess)
  /-- BUS_ACCESS_TIMEOUT (R578). -/
  | busAccessTimeout (a : BusAccess) (write : Bool)
  /-- REGISTER_WRITE (R589). -/
  | registerWrite (a : BusAccess) (value : Nat)
  /-- DPLL_LOCK_LOST (R89). -/
  | dpllLockLost (d : Nat)
  /-- OCXO_FAIL (R91). -/
  | ocxoFail
  /-- REF_PHASE_OUTLIER (R77). -/
  | refPhaseOutlier (input : Nat)
  /-- TRIB_RATE_GATE (R113). -/
  | tribRateGate (link : Nat) (trib : Nat) (ppb : Int)
  /-- AES3_Z_PREAMBLE_RECEIVE (R420). -/
  | aes3ZPreambleReceive (port : Nat) (rx : AesRx)
  /-- AES3_TX_BLOCK_START (R422). -/
  | aes3TxBlockStart (port : Nat) (empty : List Nat)
  /-- MGMT_DATAGRAM_RECEIVE (R459). -/
  | mgmtDatagramReceive (port : Nat) (udpPort : Nat) (peer : Nat) (srcPort : Nat) (ident : Nat) (off : Nat) (more : Bool) (data : Bytes)
  /-- TAMPER_INACTIVE (R568). -/
  | tamperInactive (src : Nat)
  /-- PATTERN_WINDOW_WRITE (R226). -/
  | patternWindowWrite (master : Nat) (off : Nat) (value : Nat)
  /-- NWT_MEM_WINDOW_WRITE (R414). -/
  | nwtMemWindowWrite (master : Nat) (off : Nat) (value : Nat)
  /-- VDD_CORE_SETPOINT_STEP (R599). -/
  | vddCoreSetpointStep (up : Bool) (ack : Bool)
  /-- PMBUS_RETRY_EXPIRY (R599). -/
  | pmbusRetryExpiry (ack : Bool)
  deriving DecidableEq, Repr

end Sys2Proof
end

