-- ==== Sys2Proof/Decode.lean ====
section
/-! DEFINITION. The decoder over the table's words. -/

namespace Sys2Proof

/-- The command a word of the opcode table spells. No row of the table gives bits, so no word spells
one. -/
def decodeTableWord (_nbits _w : Nat) : Option Instr := none

end Sys2Proof
end

