-- ==== Sys2Proof/Machine/Bits.lean ====
section
/-! DEFINITION. Byte order, bit fields, sign extension and the CRCs the chapters share. -/

namespace Sys2Proof.Machine

/-- Byte `i` of a byte string, zero beyond its end. -/
def byteAt (b : Bytes) (i : Nat) : Nat := (b.getD i 0).toNat

/-- Little-endian 16-bit field at byte `i` (R4). -/
def u16 (b : Bytes) (i : Nat) : Nat := byteAt b i + 256 * byteAt b (i + 1)

/-- Little-endian 24-bit field at byte `i` (R4). -/
def u24 (b : Bytes) (i : Nat) : Nat := u16 b i + 65536 * byteAt b (i + 2)

/-- Little-endian 32-bit field at byte `i` (R4). -/
def u32 (b : Bytes) (i : Nat) : Nat := u16 b i + 65536 * u16 b (i + 2)

/-- Little-endian 48-bit field at byte `i` (R4). -/
def u48 (b : Bytes) (i : Nat) : Nat := u32 b i + 4294967296 * u16 b (i + 4)

/-- Little-endian 64-bit field at byte `i` (R4). -/
def u64 (b : Bytes) (i : Nat) : Nat := u32 b i + 4294967296 * u32 b (i + 4)

/-- The `n` low bytes of `v`, little-endian (R4). -/
def leBytes : Nat → Nat → Bytes
  | 0, _ => []
  | n + 1, v => BitVec.ofNat 8 v :: leBytes n (v / 256)

/-- The slice of `n` bytes from byte `i`. -/
def slice (b : Bytes) (i n : Nat) : Bytes := (b.drop i).take n

/-- `b` followed by zeros up to `n` bytes. -/
def padTo (n : Nat) (b : Bytes) : Bytes := b ++ List.replicate (n - b.length) 0

/-- A signed value from its two's complement field of `w` bits. -/
def sext (w v : Nat) : Int :=
  if v % 2 ^ w < 2 ^ (w - 1) then ((v % 2 ^ w : Nat) : Int) else ((v % 2 ^ w : Nat) : Int) - (2 ^ w : Nat)

/-- The two's complement field of `w` bits of a signed value. -/
def toField (w : Nat) (v : Int) : Nat := (v % (2 ^ w : Nat)).toNat

/-- Bit `i` of a number. -/
def bitOf (v i : Nat) : Bool := v.testBit i

/-- 1 for true. -/
def b2n (b : Bool) : Nat := if b then 1 else 0

/-- Bits `hi` down to `lo` of a number. -/
def bitsOf (v hi lo : Nat) : Nat := (v >>> lo) % 2 ^ (hi + 1 - lo)

/-- `n` rounded up to a multiple of 4. -/
def pad4 (n : Nat) : Nat := (n + 3) / 4 * 4

/-- Division rounded up. -/
def ceilDiv (a b : Nat) : Nat := (a + (b - 1)) / b

/-- Eight steps of a reflected CRC of 32 bits with polynomial `poly` (bit-reversed form). -/
def crcStep (poly : BitVec 32) : Nat → BitVec 32 → BitVec 32
  | 0, c => c
  | n + 1, c => crcStep poly n (if c.getLsbD 0 then (c >>> 1) ^^^ poly else c >>> 1)

/-- A reflected 32-bit CRC, initial value all ones, final XOR all ones. -/
def crcReflected (poly : BitVec 32) (b : Bytes) : BitVec 32 :=
  b.foldl (fun c x => crcStep poly 8 (c ^^^ x.setWidth 32)) 0xFFFFFFFF#32 ^^^ 0xFFFFFFFF#32

/-- CRC-32C (R190). -/
def crc32c (b : Bytes) : BitVec 32 := crcReflected 0x82F63B78#32 b

/-- CRC-32 of the option block (R533): polynomial 0x04C1_1DB7, reflected. -/
def crc32 (b : Bytes) : BitVec 32 := crcReflected 0xEDB88320#32 b

/-- The first failing check of an ordered list, by the record it carries. -/
def firstFail {α : Type} : List (Bool × α) → Option α
  | [] => none
  | (true, a) :: _ => some a
  | (false, _) :: rest => firstFail rest

/-- The big-endian field of `w` bits at bit `o` of a byte string. -/
def beField (b : Bytes) (o w : Nat) : Nat :=
  let i := o / 8
  let n := byteAt b i * 16777216 + byteAt b (i + 1) * 65536 + byteAt b (i + 2) * 256 + byteAt b (i + 3)
  (n >>> (32 - w - o % 8)) % 2 ^ w

/-- Replace the first element that satisfies `p`; append `a` where none does. -/
def upsert {α : Type} (p : α → Bool) (a : α) : List α → List α
  | [] => [a]
  | x :: xs => if p x then a :: xs else x :: upsert p a xs

/-- The last `n` elements. -/
def lastN {α : Type} (n : Nat) : List α → List α
  | [] => []
  | x :: l => if l.length < n then x :: l else lastN n l

/-- Saturating increment of a count of `w` bits. -/
def satAdd (w v n : Nat) : Nat := min (v + n) (2 ^ w - 1)

end Sys2Proof.Machine
end

