-- ==== Sys2Proof/Machine/Sparse.lean ====
section
/-! DEFINITION. Sparse stores: a list of (address, value) pairs in one canonical form. Addresses rise
strictly, and no entry equals what an unlisted address reads as. -/

namespace Sys2Proof.Machine

/-- The entry at an address, if one is listed. -/
def sfind {β : Type} : List (Nat × β) → Nat → Option β
  | [], _ => none
  | (k, v) :: m, a => if k = a then some v else sfind m a

/-- What an address reads as: its entry, or the default. -/
def sget {β : Type} (dflt : Nat → β) (m : List (Nat × β)) (a : Nat) : β :=
  match sfind m a with
  | some v => v
  | none => dflt a

/-- Insert or replace the entry at `a`, keeping the order. -/
def sins {β : Type} : List (Nat × β) → Nat → β → List (Nat × β)
  | [], a, v => [(a, v)]
  | (k, w) :: m, a, v =>
    if a < k then (a, v) :: (k, w) :: m
    else if a = k then (a, v) :: m
    else (k, w) :: sins m a v

/-- Remove the entry at `a`. -/
def sdel {β : Type} : List (Nat × β) → Nat → List (Nat × β)
  | [], _ => []
  | (k, w) :: m, a => if k = a then sdel m a else (k, w) :: sdel m a

/-- Write `v` at `a`: a value equal to the default removes the entry. -/
def sset {β : Type} [DecidableEq β] (dflt : Nat → β) (m : List (Nat × β)) (a : Nat) (v : β) :
    List (Nat × β) :=
  if v = dflt a then sdel m a else sins m a v

/-- Write consecutive values from address `a`. -/
def ssetMany {β : Type} [DecidableEq β] (dflt : Nat → β) : List (Nat × β) → Nat → List β →
    List (Nat × β)
  | m, _, [] => m
  | m, a, v :: vs => ssetMany dflt (sset dflt m a v) (a + 1) vs

/-- Read `n` consecutive values from address `a`. -/
def sgetMany {β : Type} (dflt : Nat → β) (m : List (Nat × β)) : Nat → Nat → List β
  | _, 0 => []
  | a, n + 1 => sget dflt m a :: sgetMany dflt m (a + 1) n

/-- Canonical form, from a lower bound on the next address. -/
def swfFrom {β : Type} [DecidableEq β] (dflt : Nat → β) : Nat → List (Nat × β) → Bool
  | _, [] => true
  | lo, (k, v) :: m => decide (lo ≤ k) && decide (v ≠ dflt k) && swfFrom dflt (k + 1) m

/-- Canonical form: addresses strictly rising, no entry equal to its default. -/
def swf {β : Type} [DecidableEq β] (dflt : Nat → β) (m : List (Nat × β)) : Bool := swfFrom dflt 0 m

/-- The default of a byte memory of which nothing was written. -/
def zeroByte : Nat → Byte := fun _ => 0

end Sys2Proof.Machine
end

