-- ==== Sys2Proof/Machine/State.lean ====
section
/-! DEFINITION. The machine's state and its two ways of stopping. -/

namespace Sys2Proof.Machine

/-- Reasons for which the machine would stop. No meaning of this model raises one: every command of the
table ends in a next state. -/
inductive Fault where
  /-- Never raised; a fault of the block itself is an effect on the state (R542). -/
  | none
  deriving DecidableEq, Repr

/-- Reasons for which the model would refuse a command. -/
inductive Refusal where
  /-- A row of the table without a meaning; `mnemonic` is the row's. Safe: the run ends. -/
  | notModelled (mnemonic : String)
  deriving DecidableEq, Repr

/-- The whole machine. `pending` is the queue of waiting commands, `out` what the last step handed to
the outside, `free` the counter the free values are drawn with (the model's own field), `regs` every
register word that differs from its reset value by register-space offset (R575), `latches` the words a
low-word read latched per master (R584), keyed by master × 2^28 + offset, `tick` the tick counter (R42). -/
structure State where
  pending : List Instr
  out : List Output
  free : Nat
  regs : List (Nat × Word)
  latches : List (Nat × Word)
  tick : Nat
  sys : SysState
  rst : RstState
  jnl : List JnlEntry
  jnlHead : Nat
  events : List Event
  cmd : CmdState
  axl : AxlState
  otp : OtpState
  tim : TimState
  ref : RefState
  lane : LaneState
  mac : MacState
  lad : LadState
  pool : PoolState
  pat : PatState
  shk : ShkState
  chm : ChmState
  aud : AudState
  nwt : NwtState
  apt : AptState
  meas : MeasState
  twn : TwnState
  key : KeyState
  gpio : GpioState
  bus : Option BusResp
  deriving DecidableEq, Repr

/-! ## The state right after reset: a Backup reset, POWER_ON asserted (R521, R598). Registers read their
table's reset values (`regs` lists nothing). -/

/-- An empty bank: every run VALID 0, every entry NOP (R263). -/
def PatBank.empty : PatBank := ⟨[], [], [], [], [], [], []⟩

/-- A sequencer after a Data reset (R263). -/
def PatDom.reset : PatDom := ⟨PatBank.empty, PatBank.empty, false, false, false, [], 0, [], [], false, none⟩

/-- A DPLL after reset. -/
def DpllState.reset : DpllState := ⟨0, 0, 0, [], [], [], false, false⟩

/-- A port pair after reset. -/
def AptPort.reset : AptPort := ⟨[], [], none, none, [], false, false, false, [], none, none, none⟩

/-- PTP and time state after a reset of domain P. The instance's own dataset before PTP_CFG (priorities 128, clockClass 248,
accuracy 254, variance 65535) is the model's (DESIGN CHOICE, log entry 102). -/
def TimState.reset : TimState := ⟨0, 0, 0, 0, 0, [], false, 0, 0, ⟨128, 248, 254, 65535, 128, 0, 0⟩, [],
  [], [], none, false⟩

/-- Raster and reference state after a reset of domain P. -/
def RefState.reset : RefState := ⟨List.replicate 4 ⟨0, 0, 0, 0⟩, List.replicate 4 DpllState.reset,
  List.replicate 9 0, [], (0, 0), []⟩

/-- Lane state after a reset of domain P. -/
def LaneState.reset : LaneState := ⟨[], [], [], [], [], 0, 0, [], [], [], [], [], []⟩

/-- MAC state after a reset of domain P. -/
def MacState.reset : MacState := ⟨[], [], [], [], [], [], [], [], [], [], []⟩

/-- Ladle state after a reset of domain P. -/
def LadState.reset : LadState := ⟨[], false, 0⟩

/-- The pool after a Data reset: no ring, all service tiles free (R186, R195). -/
def PoolState.reset : PoolState :=
  ⟨[], [], [(0, 32505856)], [], [], [], [], [], [], [], [], false, [], 0, 0, [], []⟩

/-- Pattern state after a Data reset (R263). -/
def PatState.reset : PatState := ⟨List.replicate 4 PatDom.reset, [], []⟩

/-- Shakeout state after a Data reset. -/
def ShkState.reset : ShkState := ⟨[], [], [], [], []⟩

/-- Compositor state after a Data reset (R353). -/
def ChmState.reset : ChmState := ⟨[], [], [], [], [], []⟩

/-- Audio plane state after a Data reset (R383). -/
def AudState.reset : AudState := ⟨[], [], [], [], [], [], 0, [], [], [], [], [], [], [], []⟩

/-- A core after a Data reset (R416). -/
def NwtCore.reset : NwtCore := ⟨[], [], [], none, []⟩

/-- Newt state with an empty image store. -/
def NwtState.reset : NwtState := ⟨List.replicate 68 NwtCore.reset, [], []⟩

/-- Audio port state after a Data reset. -/
def AptState.reset : AptState := ⟨List.replicate 16 AptPort.reset⟩

/-- Measurement state after a Data reset (R448). -/
def MeasState.reset : MeasState := ⟨[], [], [], [], [], [], [], [], [], [], [], 0⟩

/-- Twin state after a Data reset. -/
def TwnState.reset : TwnState :=
  ⟨[], [], none, [], [], [], [], [], [], [], [], [], false, none, false, none, false, false, false, false, none, false, none, none, false, none, [], none, none, none, []⟩

/-- Command engine state after a reset of domain C. -/
def CmdState.reset : CmdState := ⟨[], [], [], [], [], [], [], [], List.replicate 8 0, [], []⟩

/-- Key store after a Backup reset: every copy blank (R556). -/
def KeyState.reset : KeyState := ⟨List.replicate 64 ⟨[], [], 0⟩, [], none, none, 0, false, 0, 0⟩

/-- Reset controller with POWER_ON asserted (R521, R522). -/
def RstState.reset : RstState :=
  ⟨[.powerOn], false, false, false, false, false, false, false, false, false, false, false, none, [], false, 34, false, 0, none, none, false⟩

/-- Mode and cast cycle state after a reset of domain A (SYS_MODE). -/
def SysState.reset : SysState := ⟨.melt, .solo, 0, false, false, false, 0, 0, 0, false, 0, false⟩

/-- The machine right after reset. -/
def State.reset : State where
  pending := []
  out := []
  free := 0
  regs := []
  latches := []
  tick := 0
  sys := SysState.reset
  rst := RstState.reset
  jnl := []
  jnlHead := 0
  events := []
  cmd := CmdState.reset
  axl := ⟨[], [], false, []⟩
  otp := ⟨List.replicate 4 [], []⟩
  tim := TimState.reset
  ref := RefState.reset
  lane := LaneState.reset
  mac := MacState.reset
  lad := LadState.reset
  pool := PoolState.reset
  pat := PatState.reset
  shk := ShkState.reset
  chm := ChmState.reset
  aud := AudState.reset
  nwt := NwtState.reset
  apt := AptState.reset
  meas := MeasState.reset
  twn := TwnState.reset
  key := KeyState.reset
  gpio := ⟨[], 750, none, [], []⟩
  bus := none

end Sys2Proof.Machine
end

