-- ==== Sys2Proof/Machine/Ops.lean ====
section
/-! DEFINITION. The named operations every meaning is written with: register words and fields, modes,
free values, outputs, events, the journal, time and line position. -/

namespace Sys2Proof.Machine

/-! ## Register words -/

/-- Whether an offset lies in the row, by its two strides. -/
def RegRow.covers (r : RegRow) (a : Nat) : Bool :=
  decide (r.off ≤ a) &&
    (let x := a - r.off
     let i := if r.st1 = 0 then 0 else x / r.st1
     let y := x - i * r.st1
     let j := if r.st2 = 0 then 0 else y / r.st2
     decide (i < r.n1) && decide (j < r.n2) && decide (x = i * r.st1 + j * r.st2))

/-- The register word at an offset, if the device has one (R575). -/
def regRow (a : Nat) : Option RegRow := regTable.find? (fun r => r.covers a)

/-- A field's value placed at its bits. -/
def placeBits (hi lo v : Nat) : Word := BitVec.ofNat 32 ((v % 2 ^ (hi + 1 - lo)) <<< lo)

/-- The reset value of a register word. -/
def resetWord (a : Nat) : Word :=
  match regRow a with
  | none => 0
  | some r => r.fields.foldl (fun w f => w ||| placeBits f.hi f.lo f.rst) 0

/-- The mask of bits `hi` down to `lo`. -/
def bitMask (hi lo : Nat) : Word := BitVec.ofNat 32 ((2 ^ (hi + 1 - lo) - 1) <<< lo)

/-- Bits `hi` down to `lo` of a word. -/
def getBits (w : Word) (hi lo : Nat) : Nat := (w.toNat >>> lo) % 2 ^ (hi + 1 - lo)

/-- A word with bits `hi` down to `lo` replaced. -/
def putBits (w : Word) (hi lo v : Nat) : Word := (w &&& ~~~(bitMask hi lo)) ||| placeBits hi lo v

/-- The register-space offset of instance (i, j) of a field. -/
def Fld.addr (f : Fld) (i j : Nat) : Nat := f.off + i * f.st1 + j * f.st2

namespace State

/-- A stored register word. -/
def reg (s : State) (a : Nat) : Word := sget resetWord s.regs a

/-- Store a register word. -/
def setReg (s : State) (a : Nat) (w : Word) : State := { s with regs := sset resetWord s.regs a w }

/-- A field of a register. -/
def fld (s : State) (f : Fld) (i : Nat := 0) (j : Nat := 0) : Nat := getBits (s.reg (f.addr i j)) f.hi f.lo

/-- Store a field of a register, leaving the word's other bits. -/
def setFld (s : State) (f : Fld) (v : Nat) (i : Nat := 0) (j : Nat := 0) : State :=
  s.setReg (f.addr i j) (putBits (s.reg (f.addr i j)) f.hi f.lo v)

/-- A one-bit field. -/
def flag (s : State) (f : Fld) (i : Nat := 0) (j : Nat := 0) : Bool := s.fld f i j != 0

/-- Store a one-bit field. -/
def setFlag (s : State) (f : Fld) (b : Bool) (i : Nat := 0) (j : Nat := 0) : State :=
  s.setFld f (b2n b) i j

/-- Add to a saturating count. -/
def addFld (s : State) (f : Fld) (n : Nat) (i : Nat := 0) (j : Nat := 0) : State :=
  s.setFld f (satAdd (f.hi + 1 - f.lo) (s.fld f i j) n) i j

/-- Count one in a saturating count. -/
def incFld (s : State) (f : Fld) (i : Nat := 0) (j : Nat := 0) : State := s.addFld f 1 i j

/-- A signed field. -/
def sfld (s : State) (f : Fld) (i : Nat := 0) (j : Nat := 0) : Int := sext (f.hi + 1 - f.lo) (s.fld f i j)

/-- Store a 64-bit value in a low and a high word field. -/
def setPair (s : State) (lo hi : Fld) (v : Nat) (i : Nat := 0) : State :=
  (s.setFld lo (v % 4294967296) i).setFld hi (v / 4294967296 % 4294967296) i

/-- A 64-bit value from a low and a high word field. -/
def pair (s : State) (lo hi : Fld) (i : Nat := 0) : Nat := s.fld lo i + 4294967296 * s.fld hi i

/-- Forget every stored word of the registers that satisfy `p` by their row: they read as at reset. -/
def clearRegs (s : State) (p : Nat → Bool) : State := { s with regs := s.regs.filter (fun e => !(p e.1)) }

/-- The reset domain of an offset. -/
def domOf (a : Nat) : Option Dom := (regRow a).map RegRow.dom

/-! ## Outputs, events, free values -/

/-- Hand something to the outside. -/
def emit (s : State) (o : Output) : State := { s with out := s.out ++ [o] }

/-- Draw a free value of `w` bits. -/
def fresh (s : State) (w : Nat) : Nat × State :=
  ((Config.freeBits w s.free).toNat, { s with free := s.free + 1 })

/-- Draw a free byte string of `n` bytes. -/
def freshBytes (s : State) (n : Nat) : Bytes × State :=
  ((List.range n).map (fun i => (Config.freeBytes s.free n).getD i 0), { s with free := s.free + 1 })

/-- Write an event record (R40, R540): block, severity, code, arguments. -/
def event (s : State) (block sev code : Nat) (args : List Nat) : State :=
  { s with events := s.events ++ [⟨block, sev, code, args, s.sys.epoch, s.tick⟩] }

end State

/-! ## Block numbers (R592: block n lies at offset n × 0x10_0000) -/

def blkSys : Nat := 0
def blkRst : Nat := 1
def blkFlt : Nat := 2
def blkBus : Nat := 3
def blkCmd : Nat := 4
def blkTim : Nat := 5
def blkRef : Nat := 6
def blkHln : Nat := 7
def blkSln : Nat := 8
def blkSpr : Nat := 9
def blkMac : Nat := 10
def blkLad : Nat := 11
def blkPool : Nat := 12
def blkPat : Nat := 13
def blkShk : Nat := 14
def blkChm : Nat := 15
def blkAud : Nat := 16
def blkNwt : Nat := 17
def blkApt : Nat := 18
def blkMeas : Nat := 19
def blkTwn : Nat := 20
def blkKey : Nat := 21
def blkAxl : Nat := 22
def blkOtp : Nat := 23
def blkGpio : Nat := 24

/-! ## Modes -/

/-- The encoding of R17. -/
def Mode.code : Mode → Nat
  | .cold => 0
  | .melt => 1
  | .pour => 2
  | .hold => 3
  | .proof => 4
  | .quench => 7

/-- The mode of a code of R17. -/
def Mode.ofCode : Nat → Option Mode
  | 0 => some .cold
  | 1 => some .melt
  | 2 => some .pour
  | 3 => some .hold
  | 4 => some .proof
  | 7 => some .quench
  | _ => none

/-- The encoding of SYS_MODE.ROLE. -/
def Role.code : Role → Nat
  | .solo => 0
  | .active => 1
  | .standby => 2

namespace State

/-- The journal gains an entry (R470): its index is the head, which advances; ORDER is its position within its cycle. -/
def journal (s : State) (e : JnlEntry) : State :=
  { s with jnl := s.jnl ++ [{ e with order := (s.jnl.filter (fun x => x.epoch == e.epoch)).length }], jnlHead := s.jnlHead + 1 }

/-- The device's own journal entry of a kind with an opcode field (R470). -/
def journalOwn (s : State) (kind opcode : Nat) : State :=
  s.journal ⟨s.sys.epoch, 0xFF, kind, 0, 0, opcode, 0, 0, 0xFF, 0⟩

/-- The mode changes (R17 to R19): LAST_CAUSE, MODE_EPOCH and a KIND 0x8 journal entry. The SDI outputs stop and
those of the new mode start at their next EAV (R308, R320), but for an S-lane that Hold drives as Pour does (R319). -/
def enterMode (s : State) (m : Mode) (cause : Nat) : State :=
  ({ s with sys := { s.sys with mode := m, lastCause := cause, modeEpoch := s.sys.epoch },
            lane := { s.lane with tx := s.lane.tx.filter (fun x => (s.sys.mode == Mode.pour || s.sys.mode == Mode.hold) &&
              (m == Mode.pour || m == Mode.hold) && s.fld F.SHK_FLOW_CFG_KIND (x.flow - 0x800) == 0 &&
              s.flag F.SHK_FLOW_CFG_HOLD_DRIVE (x.flow - 0x800)) } }).journalOwn 0x8 m.code

/-- Whether domain P, C serve. -/
def fwServes (s : State) : Bool := s.rst.fwUp && s.rst.cUp

end State

/-! ## Formats and raster arithmetic (R64, R65) -/

/-- A row of R64: code, frame rate num/den in Hz, total lines, family (0 for A to 4 for E). -/
structure Fmt where
  code : Nat
  num : Nat
  den : Nat
  lines : Nat
  family : Nat
  deriving DecidableEq, Repr

/-- The formats of R64. -/
def formats : List Fmt := [
  ⟨0x10, 60, 1, 2250, 1⟩, ⟨0x11, 60000, 1001, 2250, 2⟩, ⟨0x12, 50, 1, 2250, 0⟩, ⟨0x13, 30, 1, 2250, 1⟩,
  ⟨0x14, 30000, 1001, 2250, 2⟩, ⟨0x15, 25, 1, 2250, 0⟩, ⟨0x16, 24, 1, 2250, 3⟩,
  ⟨0x17, 24000, 1001, 2250, 4⟩, ⟨0x20, 60, 1, 1125, 1⟩, ⟨0x21, 60000, 1001, 1125, 2⟩,
  ⟨0x22, 50, 1, 1125, 0⟩, ⟨0x23, 30, 1, 1125, 1⟩, ⟨0x24, 30000, 1001, 1125, 2⟩, ⟨0x25, 25, 1, 1125, 0⟩,
  ⟨0x26, 24, 1, 1125, 3⟩, ⟨0x27, 24000, 1001, 1125, 4⟩, ⟨0x28, 25, 1, 1125, 0⟩,
  ⟨0x29, 30000, 1001, 1125, 2⟩, ⟨0x30, 60, 1, 750, 1⟩, ⟨0x31, 60000, 1001, 750, 2⟩, ⟨0x32, 50, 1, 750, 0⟩,
  ⟨0x40, 25, 1, 625, 0⟩, ⟨0x41, 30000, 1001, 525, 2⟩]

/-- The format of a code. -/
def fmtOf (code : Nat) : Option Fmt := formats.find? (fun f => f.code == code)

/-- Total lines of a code, 0 for none. -/
def fmtLines (code : Nat) : Nat := ((fmtOf code).map Fmt.lines).getD 0

/-- Whether a value lies in one of the ranges; an empty list leaves no value out (R6). -/
def inRanges (l : List (Nat × Nat)) (v : Nat) : Bool :=
  l.isEmpty || l.any (fun p => decide (p.1 ≤ v) && decide (v ≤ p.2))

/-- Whether every field of a word written to an offset holds a value its encoding defines (R6). -/
def wordLegal (a : Nat) (w : Word) : Bool :=
  match regRow a with
  | none => false
  | some r => r.fields.all (fun f => f.acc != Acc.rw || inRanges f.legal (getBits w f.hi f.lo))

/-- The bits of a word that a configuration command stores: its RW fields. -/
def rwMask (a : Nat) : Word :=
  match regRow a with
  | none => 0
  | some r => r.fields.foldl (fun m f => if f.acc = Acc.rw then m ||| bitMask f.hi f.lo else m) 0

/-- 2^16 units of a nanosecond in one second. -/
def secUnits : Nat := 65536000000000

/-- A rate held to the signed 32 bits of RATE (R47). -/
def rateClamp (v : Int) : Int := max (-2147483648) (min 2147483647 v)

/-- RATE while the slew term applies (R47, R50). -/
def TimState.slewRate (t : TimState) : Int := rateClamp (t.freq + t.slew)

/-- PTP time at a tick, in 2^-16 ns (R47), with the slew term while it applies (R50). -/
def ptpAt (t : TimState) (tick : Nat) : Nat :=
  let dt := tick - t.tickBase
  let ds := min tick t.slewEnd - t.tickBase
  let corr : Int := ((dt : Int) * t.freq + (ds : Int) * (t.slewRate - t.freq)) * 65536 / 1099511627776
  ((t.base + dt * 65536 : Nat) + corr).toNat

namespace State

/-- A video input flow's record. -/
def inFlow (s : State) (f : Nat) : Option InFlow := s.lad.flows.find? (fun x => x.flow == f)

/-- PTP time now, in 2^-16 ns. -/
def ptpNow (s : State) : Nat := ptpAt s.tim s.tick

/-- PTP time now in whole nanoseconds. -/
def ptpNs (s : State) : Nat := s.ptpNow / 65536

/-- The tick at which the cast cycle began, as domain A's own count gives it (R45). -/
def castTick (s : State) : Nat := s.tick - s.sys.castAge

/-- DPLL `d`'s record. -/
def dpllOf (s : State) (d : Nat) : DpllState := s.ref.dpll.getD d DpllState.reset

/-- Set DPLL `d`'s record. -/
def setDpll (s : State) (d : Nat) (x : DpllState) : State :=
  { s with ref := { s.ref with dpll := s.ref.dpll.set d x } }

/-- Aligned time of domain `d` now, in 2^-16 ns (R79): PTP time while the DPLL follows PTP, the partner's time while it follows
the partner, else the scale that the DPLL keeps, at its rate. -/
def alignedNow (s : State) (d : Nat) : Nat :=
  let cur := s.fld F.REF_DPLL_STAT_CUR_IN d
  if cur = 3 then s.ptpNow
  else if cur = 4 then s.ref.partner.1 + (s.tick - s.ref.partner.2) * 65536
  else
    let x := s.dpllOf d
    let dt := s.tick - x.alTick
    ((x.alBase + dt * 65536 : Nat) + (dt : Int) * x.alRate * 65536 / 1099511627776).toNat

/-- Raster generator `d`. -/
def rasOf (s : State) (d : Nat) : RasState := s.ref.ras.getD d ⟨0, 0, 0, 0⟩

/-- Set raster generator `d`. -/
def setRas (s : State) (d : Nat) (r : RasState) : State :=
  { s with ref := { s.ref with ras := s.ref.ras.set d r } }

/-- Whether raster domain `d` runs. -/
def running (s : State) (d : Nat) : Bool := s.flag F.REF_RAS_STAT_RUN d

/-- The format in force of domain `d`. -/
def domFmt (s : State) (d : Nat) : Option Fmt := fmtOf (s.fld F.REF_RAS_STAT_FORMAT_ACTIVE d)

/-- The absolute line of domain `d`: frame index × total lines + line − 1. -/
def absLine (s : State) (d : Nat) : Nat :=
  (s.rasOf d).frameN * fmtLines (s.fld F.REF_RAS_STAT_FORMAT_ACTIVE d) + ((s.rasOf d).line - 1)

/-- FRAME of domain `d` (R65). -/
def frameOf (s : State) (d : Nat) : Nat := (s.rasOf d).frameN % 4294967296

end State

/-! ## Refusals and command results -/

/-- What a command's effect function answers: the state after it with the payload of its OK reply and the
reply's EPOCH (`none` the boundary of application, `some none` all ones; R33, R34) and the predicted PTP time in ns of a later
instant, or the refusal. -/
inductive CmdResult where
  | ok (s : State) (payload : Bytes) (epoch : Option (Option Nat) := none) (time : Option Nat := none)
  | bad (r : RefRec)

/-- A refusal with a status and a parameter offset. -/
def rej (status off : Nat) : RefRec := { status := status, off := some off }

/-- A refusal with a status and no parameter offset. -/
def rejAll (status : Nat) : RefRec := { status := status }

/-- A refusal that concerns a raster domain (R452). -/
def rejDom (status d : Nat) : RefRec := { status := status, domain := some d }

/-- A family 0x02xx refusal: a resource's limit and demand (R452). -/
def rejRes (status limit demand : Nat) (unit : Option Nat := none) (resource : Nat := 0) : RefRec :=
  { status := status, unit := unit, resource := resource, limit := limit, demand := demand,
    shortfall := demand - limit }

/-- Run the ordered checks, then the effect. -/
def guarded (checks : List (Bool × RefRec)) (k : Unit → CmdResult) : CmdResult :=
  match firstFail checks with
  | some r => .bad r
  | none => k ()

/-- The exact length rule of R475: PARAM_OFFSET is the first byte that does not fit. -/
def lenIs (c : Cmd) (n : Nat) : Bool × RefRec :=
  (c.params.length != n, rej 0x0108 (min c.params.length n))

end Sys2Proof.Machine
end

