-- ==== Sys2Proof/Machine/Stats.lean ====
section
/-! DEFINITION. The statistics of the report interval in progress (chapter 15): one value per record type, subject and
quantity, the times they are measured with, interval records (R445), and the record of a subject that is deleted (R435). -/

namespace Sys2Proof.Machine

/-- Quantities of a video input record (type 1), in the order of R445. -/
def kAdopted : Nat := 0
def kTimMin : Nat := 1
def kTimMax : Nat := 2
def kSync : Nat := 3
def kCope : Nat := 4
def kDrag : Nat := 5
def kRecov : Nat := 6
def kUnrec : Nat := 7
def kSkewMin : Nat := 8
def kSkewMax : Nat := 9
def kCinst : Nat := 10
def kVrx : Nat := 11
def kViol : Nat := 12
def kCrc : Nat := 13
def kBlack : Nat := 14
def kFreeze : Nat := 15
def kPid : Nat := 16
def kTrs : Nat := 17

/-- `d / n` in whole units, folded into a period `p / n`: the value congruent to it in [−p/2, p/2). -/
def foldInto (d : Int) (p n : Nat) : Int :=
  let r := d % (p : Int)
  (if (p : Int) ≤ 2 * r then r - p else r) / (n : Int)

/-- A time in ns against the frame starts of R65 of a domain whose offset is `ofs`, folded into half a frame (R438). -/
def frameOffset (f : Fmt) (ofs ns : Int) : Int := foldInto ((ns - ofs) * f.num) (1000000000 * f.den) f.num

/-- The RTP timestamp `ts` of a clock of `rate` Hz that lies nearest to `ns`, as an unwrapped count. -/
def rtpNear (ns rate ts : Nat) : Int :=
  let near : Int := (ns : Int) * rate / 1000000000
  let d := ((ts : Int) - near) % 4294967296
  near + (if d < 2147483648 then d else d - 4294967296)

/-- An arrival in ns minus the time its RTP timestamp names, folded into half a frame period (R438). -/
def rtpOffset (f : Fmt) (ns rate ts : Nat) : Int :=
  foldInto (((ns : Int) * rate - rtpNear ns rate ts * 1000000000) * f.num) (1000000000 * f.den * rate) (f.num * rate)

namespace State

/-- Flow measurement runs: EN, outside Cold and Quench (R448). -/
def measOn (s : State) : Bool := s.flag F.MEAS_CFG_EN && s.sys.mode != .cold && s.sys.mode != .quench

/-- A statistic's value so far. -/
def measVal (s : State) (type subj key : Nat) : Option Int :=
  (s.meas.stats.find? (fun x => x.type == type && x.subject == subj && x.word == key)).map MeasStat.value

/-- Set a statistic. -/
def measSet (s : State) (type subj key : Nat) (v : Int) : State :=
  let l := upsert (fun (x : MeasStat) => x.type == type && x.subject == subj && x.word == key) ⟨type, subj, key, v⟩ s.meas.stats
  { s with meas := { s.meas with stats := l } }

/-- Count in a statistic. -/
def measAdd (s : State) (type subj key n : Nat) : State :=
  if s.measOn && n != 0 then s.measSet type subj key ((s.measVal type subj key).getD 0 + n) else s

/-- A statistic's minimum. -/
def measMin (s : State) (type subj key : Nat) (v : Int) : State :=
  if s.measOn then s.measSet type subj key (min v ((s.measVal type subj key).getD v)) else s

/-- A statistic's maximum. -/
def measMax (s : State) (type subj key : Nat) (v : Int) : State :=
  if s.measOn then s.measSet type subj key (max v ((s.measVal type subj key).getD v)) else s

/-- A minimum and a maximum of one value. -/
def measBoth (s : State) (type subj lo hi : Nat) (v : Int) : State := (s.measMin type subj lo v).measMax type subj hi v

/-- A sum and a count, for a mean. -/
def measMean (s : State) (type subj sum cnt : Nat) (v : Int) : State :=
  if s.measOn then (s.measSet type subj sum ((s.measVal type subj sum).getD 0 + v)).measAdd type subj cnt 1 else s

/-- Media time in ns: PTP time, or tick time while time is not valid (R358, R360, R432). -/
def mediaNs (s : State) : Nat := if s.flag F.TIM_STATUS_TIME_VALID then s.ptpNs else s.tick

/-- The count of a quantity in the interval. -/
def measCnt (s : State) (type subj key : Nat) : Nat := ((s.measVal type subj key).getD 0).toNat

/-- A measured value, or a free one where the interval had no sample (the text states none). -/
def measOr (s : State) (type subj key : Nat) : Int :=
  (s.measVal type subj key).getD (sext 32 (Config.freeBits 32 (s.free + key)).toNat)

/-- A 16-bit pair in one word, the first-named value in [31:16] (R445). -/
def pair16 (a b : Int) : Nat := toField 16 a * 65536 + toField 16 b

/-- The mean of a sum and a count. -/
def measAvg (s : State) (type subj sum cnt : Nat) : Int :=
  match s.measVal type subj sum, s.measVal type subj cnt with
  | some a, some n => a / n
  | _, _ => s.measOr type subj sum

/-- The words of a record after its header (R445). -/
def recordWords (s : State) (type subj : Nat) : List Nat :=
  let c (k : Nat) : Nat := s.measCnt type subj k % 4294967296
  let v (k : Nat) : Nat := toField 32 (s.measOr type subj k)
  let c16 (k : Nat) : Int := (min 65535 (s.measCnt type subj k) : Nat)
  match type with
  | 1 => [c kAdopted, v kTimMin, v kTimMax, v kSync, c kCope, c kDrag, c kRecov, c kUnrec,
      pair16 (s.measOr 1 subj kSkewMin) (s.measOr 1 subj kSkewMax), pair16 (s.measOr 1 subj kCinst) (s.measOr 1 subj kVrx), c kViol,
      c kCrc, pair16 (c16 kBlack) (c16 kFreeze), pair16 (c16 kPid) (c16 kTrs)]
  | 2 => [c 0, c 1, c 2, v 3, v 4, pair16 (c16 5) (c16 6), pair16 (s.measOr 2 subj 7) (s.measOr 2 subj 8), c 9, c 10, 0]
  | 3 => [c 0, c 1, c 2, 0]
  | 4 => [c 0, c 1, c 2, c 3, c 4, v 5, c 6, c 7]
  | 5 => [c 0, c 1, c 2, 0]
  | 6 => [c 0, c 1, c 2, c 3, v 4, v 5, toField 32 (s.measAvg 6 subj 20 21), toField 32 (s.measAvg 6 subj 22 23)]
  | 7 => [pair16 (s.fld F.HLN_LANE_STAT_H_MARGIN subj : Nat) (s.fld F.HLN_LANE_STAT_V_MARGIN subj : Nat), c 1, c 2]
  | 8 => [c 0, c 1, c 2, c 3]
  | _ =>
    let m (k : Nat) : Int := s.measOr 9 0 k
    (List.range 15).map (fun i => pair16 (m (2 * i)) (m (2 * i + 1))) ++ [0]

/-- Draw past the values `measOr` took for a record. -/
def measDrawn (s : State) : State := { s with free := s.free + 32 }

/-- Flags of a record: PARTIAL, DELETED, STEPPED, TICK (R445). -/
def recordFlags (s : State) (part deleted stepped : Bool) : Nat :=
  b2n part + 2 * b2n deleted + 4 * b2n stepped + 8 * b2n (!s.flag F.TIM_STATUS_TIME_VALID)

/-- A record's bytes (R445). -/
def recordBytes (type flags subj k : Nat) (words : List Nat) : Bytes :=
  [BitVec.ofNat 8 type, BitVec.ofNat 8 flags] ++ leBytes 2 subj ++ leBytes 4 k ++ words.flatMap (leBytes 4) ++
    (if type = 9 ∧ words.length < 16 then List.replicate 4 0 else [])

/-- A datagram's payload (R444): SEQ is filled in when it is sent. -/
def measDatagram (s : State) (dest type count : Nat) (body : Bytes) : Bytes :=
  let ns := s.mediaNs
  leBytes 2 0x4D45 ++ [1, BitVec.ofNat 8 (s.sys.role.code + 4 * dest)] ++ leBytes 4 0 ++ leBytes 8 s.sys.epoch ++
    leBytes 6 (ns / 1000000000) ++ leBytes 4 (ns % 1000000000) ++ [BitVec.ofNat 8 type, BitVec.ofNat 8 count] ++
    leBytes 4 0 ++ body

/-- Destinations in use that take records of a type. -/
def measDests (s : State) (type : Nat) : List Nat :=
  (List.range 4).filter (fun d => s.flag F.MEAS_STREAM_CFG_EN d && bitOf (s.fld F.MEAS_STREAM_CFG_TYPES d) (type - 1))

/-- A configuration word as it stands once waiting changes apply (R436). -/
def cfgWord (s : State) (a : Nat) : Word := ((s.meas.cfgPend.find? (fun p => p.1 == a)).map (·.2)).getD (s.reg a)

/-- The measurement rate in Mb/s admitted on a MAC (R447), with waiting changes. -/
def measRate (s : State) (m : Nat) : Nat :=
  ((List.range 4).map (fun d =>
    let w := s.cfgWord (F.MEAS_STREAM_CFG_EN.addr d 0)
    if getBits w 31 31 = 1 ∧ getBits w 29 24 = m then getBits (s.cfgWord (F.MEAS_STREAM_CFG_RATE.addr d 0)) 15 0 else 0)).foldl (· + ·) 0

/-- Append datagrams to a destination's queue, as (TYPE, interval or EPOCH, payload). -/
def queueDgrams (l : List MeasQueue) (d : Nat) (x : List (Nat × Nat × Bytes)) : List MeasQueue :=
  let old := ((l.find? (fun q => q.dest == d)).map MeasQueue.dgrams).getD []
  upsert (fun (q : MeasQueue) => q.dest == d) (⟨d, old ++ x⟩ : MeasQueue) l

/-- Whether an alarm is raised on a subject. -/
def alarmOn (s : State) (code subj : Nat) : Bool := s.meas.alarms.contains (code, subj)

/-- A transition of an alarm without its fault (R442): the alarm states, MEAS_ALM of a video flow, the event, and an alarm
record to each destination that takes them. `del` marks a clear by deletion. -/
def alarmMove (s : State) (code subj : Nat) (raise del : Bool) (value : Int) : State :=
  let l := if raise then s.meas.alarms ++ [(code, subj)] else s.meas.alarms.filter (fun a => a != (code, subj))
  let s : State := { s with meas := { s.meas with alarms := l } }
  let s := s.setFld F.MEAS_STAT_ALARMS (min 65535 l.length)
  let s := if 1 ≤ code ∧ code ≤ 0x09 ∧ subj < 0x1000 then
      let old := s.fld F.MEAS_ALM_RAISED subj
      s.setFld F.MEAS_ALM_RAISED (if raise then old ||| 2 ^ (code - 1) else if bitOf old (code - 1) then old - 2 ^ (code - 1) else old) subj
    else s
  let s := s.event blkMeas 1 code [b2n raise, subj, toField 32 value]
  let words := [2147483648 * b2n raise + code, toField 32 value, s.sys.epoch % 4294967296, s.sys.epoch / 4294967296 % 4294967296]
  let body := State.recordBytes 0x0A (s.recordFlags false del false) subj s.meas.k words
  if s.sys.mode == .cold then s
  else (s.measDests 0x0A).foldl (fun (s : State) d =>
      let q := queueDgrams s.meas.alarmQ d [(0x0A, s.sys.epoch, s.measDatagram d 0x0A 1 body)]
      { s with meas := { s.meas with alarmQ := q } }) s

/-- A subject is deleted (R435): its last record waits for the interval end, and its raised alarms are cleared. -/
def measDelete (s : State) (type subj : Nat) : State :=
  let part := !s.meas.known.contains (type, subj)
  let r : MeasRec := ⟨type, s.recordFlags part true false, subj, s.recordWords type subj⟩
  let mine := s.meas.alarms.filter (fun a => a.2 == subj && (if type = 6 then a.1 == 0x0B else decide (a.1 ≤ 0x0A)))
  let s := { s.measDrawn with meas := { s.meas with
    stats := s.meas.stats.filter (fun (x : MeasStat) => !(x.type == type && x.subject == subj)),
    deleted := s.meas.deleted ++ [r], known := s.meas.known.filter (fun (x : Nat × Nat) => x != (type, subj)),
    runs := s.meas.runs.filter (fun (x : FrameRun) => x.flow != subj) } }
  mine.foldl (fun (s : State) a => s.alarmMove a.1 subj false true 0) s

end State
end Sys2Proof.Machine
end

