-- ==== Sys2Proof/Machine/Faults.lean ====
section
/-! DEFINITION. The fault collector, the spare manager's start of a substitution, and Quench entry
(chapter 19): raising a fault is one shared operation, and every chapter that raises one calls it. -/

namespace Sys2Proof.Machine

/-! ## Fault sources (R541) -/

def fltTempCrit : Nat := 0
def fltRailOut : Nat := 1
def fltXtalLoss : Nat := 2
def fltPllUnlock : Nat := 3
def fltQuenchCmd : Nat := 4
def fltPoolTrain : Nat := 5
def fltSensorFail : Nat := 6
def fltOptFallback : Nat := 7
def fltCtlWdt : Nat := 8
def fltCtlFaulty : Nat := 9
def fltFwImageB : Nat := 10
def fltBusTimeout : Nat := 11
def fltLaneSwitch : Nat := 12
def fltLinkDegraded : Nat := 13
def fltLinkSpareBad : Nat := 14
def fltMacLinkDown : Nat := 15
def fltLadInput : Nat := 16
def fltLadLost : Nat := 17
def fltLadUnit : Nat := 18
def fltPoolRetire : Nat := 19
def fltPoolReserve : Nat := 20
def fltPoolConceal : Nat := 21
def fltPatGuard : Nat := 22
def fltPatSlip : Nat := 23
def fltPatSlipThr : Nat := 24
def fltShkUnit : Nat := 25
def fltShkSeqResync : Nat := 26
def fltChmPipe : Nat := 27
def fltChmFlipLate : Nat := 28
def fltAudStreamLoss : Nat := 29
def fltAudConceal : Nat := 30
def fltAudSlip : Nat := 31
def fltNwtTrap : Nat := 32
def fltNwtEcc : Nat := 33
def fltAptAlign : Nat := 34
def fltMeasAlarm : Nat := 35
def fltTimStep : Nat := 36
def fltTimTxqOvf : Nat := 37
def fltRefHoldover : Nat := 38
def fltKeySlotBad : Nat := 39
def fltTamper : Nat := 40
def fltAxlSubst : Nat := 41
def fltAxlNoSpare : Nat := 42
def fltTwinSplit : Nat := 43
def fltTwinDualActive : Nat := 44
def fltTwinUnsync : Nat := 45
def fltCmdAuth : Nat := 46
def fltPcieErr : Nat := 47

/-- The class of each fault source as its severity: 1 Notice, 2 Conceal, 3 Degrade, 4 Quench
(R540, R541). -/
def faultClass : Nat → Nat
  | 0 | 1 | 2 | 3 | 4 | 5 => 4
  | 9 | 13 | 18 | 20 | 24 | 25 | 27 | 33 | 42 | 44 => 3
  | 17 | 21 | 30 => 2
  | _ => 1

/-- Base of the AXL_UNIT words of a kind. -/
def axlState : UnitKind → Fld
  | .ladle => F.AXL_UNIT_LAD_STATE
  | .shakeout => F.AXL_UNIT_SHK_STATE
  | .newt => F.AXL_UNIT_NWT_STATE
  | .pipe => F.AXL_UNIT_CHP_STATE

/-- REPLACED_BY of a kind's units. -/
def axlRepl : UnitKind → Fld
  | .ladle => F.AXL_UNIT_LAD_REPLACED_BY
  | .shakeout => F.AXL_UNIT_SHK_REPLACED_BY
  | .newt => F.AXL_UNIT_NWT_REPLACED_BY
  | .pipe => F.AXL_UNIT_CHP_REPLACED_BY

/-- SUBST_CNT of a kind's units. -/
def axlCnt : UnitKind → Fld
  | .ladle => F.AXL_UNIT_LAD_SUBST_CNT
  | .shakeout => F.AXL_UNIT_SHK_SUBST_CNT
  | .newt => F.AXL_UNIT_NWT_SUBST_CNT
  | .pipe => F.AXL_UNIT_CHP_SUBST_CNT

/-- Free spares of a kind (AXL_CFG). -/
def axlFree : UnitKind → Fld
  | .ladle => F.AXL_CFG_FREE_LAD
  | .shakeout => F.AXL_CFG_FREE_SHK
  | .newt => F.AXL_CFG_FREE_NWT
  | .pipe => F.AXL_CFG_FREE_CHP

/-- How many units a kind has (R11). -/
def unitCount : UnitKind → Nat
  | .pipe => 34
  | _ => 68

/-- KIND number of R553. -/
def UnitKind.num : UnitKind → Nat
  | .ladle => 0
  | .shakeout => 1
  | .newt => 2
  | .pipe => 3

namespace State

/-- Units of a kind in a state of AXL_UNIT.STATE, in ascending order. -/
def unitsIn (s : State) (k : UnitKind) (st : Nat) : List Nat :=
  (List.range (unitCount k)).filter (fun u => s.fld (axlState k) u == st)

/-- Whether a unit is eligible for binding (R475). -/
def eligible (s : State) (k : UnitKind) (u : Nat) : Bool :=
  decide (u < unitCount k) && s.fld (axlState k) u == 0

/-- Whether commands that name a unit are refused with 0x0501: it was replaced, or is in fault with no spare free (R545, R553). -/
def unitFault (s : State) (k : UnitKind) (u : Nat) : Bool :=
  s.fld (axlState k) u == 3 || (s.axl.dead.contains (k, u) && (s.unitsIn k 1).isEmpty)

/-- Refresh AXL_CFG.BUSY and the free spare count of a kind. -/
def axlRefresh (s : State) (k : UnitKind) : State :=
  (s.setFld (axlFree k) (s.unitsIn k 1).length).setFlag F.AXL_CFG_BUSY (!s.axl.running.isEmpty)

/-- Write an event of the AXL ring (R552): code, kind and unit, spare or position, EPOCH. -/
def axlEvent (s : State) (code kind unit pos : Nat) : State :=
  let s := s.event blkAxl 0 code [kind, unit, pos, s.sys.epoch]
  if code < 0x20 then { s with twn := { s.twn with axlNow := s.twn.axlNow ++ [(code, unit, pos)] } } else s

/-- SHADOW of a unit's own status register while it is shadow-loaded (R184, R316, R354, R415). -/
def setShadow (s : State) (k : UnitKind) (u : Nat) (b : Bool) : State :=
  match k with
  | .ladle => s.setFlag F.LAD_UNIT_STAT_SHADOW b u
  | .shakeout => s.setFlag F.SHK_UNIT_STAT_SHADOW b u
  | .newt => s.setFlag F.NWT_CORE_STAT_SHADOW b u
  | .pipe => s.setFlag F.CHM_PIPE_STAT_SHADOW b u

/-- SPARE of a unit's own status register (R615). -/
def setSpareBit (s : State) (k : UnitKind) (u : Nat) (b : Bool) : State :=
  match k with
  | .ladle => s.setFlag F.LAD_UNIT_STAT_SPARE b u
  | .shakeout => s.setFlag F.SHK_UNIT_STAT_SPARE b u
  | .newt => s.setFlag F.NWT_CORE_STAT_SPARE b u
  | .pipe => s.setFlag F.CHM_PIPE_STAT_SPARE b u

/-- Start a substitution: the spare becomes the shadow target and loads (R545, R552). -/
def substStart (s : State) (k : UnitKind) (u sp : Nat) (auto : Bool) : State :=
  let s := (s.setFld (axlState k) 2 sp).setShadow k sp true
  let s : State := if k = .ladle then { s with lad := { s.lad with flows := s.lad.flows.map (fun (x : InFlow) =>
      if x.ladle == u then { x with spare := some (sp, x.gen, x.sNext) } else x) } }
    else if k = .shakeout then { s with shk := { s.shk with vouts := s.shk.vouts.map (fun (o : VOut) =>
      if s.fld F.SHK_FLOW_CFG_SHAKEOUT (o.flow - 0x800) == u then { o with spare := some (sp, none) } else o) } } else s
  let s := { s with axl := { s.axl with running := s.axl.running ++ [(⟨k, u, sp, auto⟩ : Subst)] } }
  (s.axlEvent 0x0001 k.num u sp).axlRefresh k

/-- Abandon every substitution and empty every queue (R546). -/
def substAbandonAll (s : State) : State :=
  let s' := s.axl.running.foldl (fun t x =>
    let t := (t.setFld (axlState x.kind) 1 x.spare).setShadow x.kind x.spare false
    t.axlEvent 0x0003 x.kind.num x.unit x.spare) s
  let s' := { s' with axl := { s'.axl with running := [], queued := [] },
                      lad := { s'.lad with flows := s'.lad.flows.map (fun (x : InFlow) => { x with spare := none }) },
                      shk := { s'.shk with vouts := s'.shk.vouts.map (fun (o : VOut) => { o with spare := none }) } }
  ((((s'.axlRefresh .ladle).axlRefresh .shakeout).axlRefresh .newt).axlRefresh .pipe)

/-- The word of a MAC record that reports a counter (R445). -/
def macWord (i : Nat) : Option Nat :=
  if i = 1 then some 0 else if 14 ≤ i ∧ i ≤ 18 then some 1 else if i = 33 then some 2
  else if i = 50 ∨ i = 51 then some 3 else none

/-- Add to a live counter of a MAC (R155); bit 47 going from 0 to 1 sets the counter's half-range bit
(R156). -/
def macCount (s : State) (m i n : Nat) : State :=
  let k := m * 64 + i
  let old := sget (fun _ => 0) s.mac.live k
  let v := (old + n) % 2 ^ 48
  let s := { s with mac := { s.mac with live := sset (fun _ => 0) s.mac.live k v } }
  let s := match macWord i with
    | some w => s.measAdd 8 m w n
    | none => s
  if !old.testBit 47 && v.testBit 47 then
    let f := if i < 32 then F.MAC_STAT_HALF_LO_HALF else F.MAC_STAT_HALF_HI_HALF
    s.setFld f (s.fld f m ||| 2 ^ (i % 32)) m
  else s

/-- Discard every pending timed command, each with one event (R258). -/
def discardTimed (s : State) : State :=
  let s' := s.pat.sched.foldl (fun t x => t.event blkPat 0 0x0102 [x.cmd.src.val, x.cmd.seq.toNat]) s
  { s' with pat := { s'.pat with sched := [] } }

/-- What the chapters add to Quench entry: the Ladles stop writing (R183), timed commands go (R258),
frames in progress are stomped (R151), CROAK_OUT stops (R549), pins take their states (R538). -/
def quenchUnits (s : State) : State :=
  let s := { s with lad := { s.lad with writesStopped := true } }
  let s := s.discardTimed
  let s := s.mac.held.foldl (fun t f => t.macCount f.mac 50 1) s
  let s := { s with mac := { s.mac with held := [], queue := [] } }
  { s with twn := { s.twn with croakOutOn := false, croakOut := false } }

/-- Enter Quench (R549): the mode and its cause, the record of the source, the units' own actions.
A second Quench-class raise in Quench makes no new entry, but abandons what the spare manager has begun since (R546). -/
def enterQuench (s : State) (n : Nat) : State :=
  if s.sys.mode = .quench ∨ s.sys.mode = .cold then
    (if s.axl.running.isEmpty && s.axl.queued.isEmpty then s else s.substAbandonAll)
  else
    let s := s.enterMode .quench (if n = 2 then 0x7 else 0x2)
    let s := (s.setFlag F.FLT_QUENCH_VALID true).setFld F.FLT_QUENCH_SOURCE n
    let s := s.substAbandonAll.quenchUnits
    { s with lane := { s.lane with aksPend := [] } }

/-- The FLT_STATUS bit of a source. -/
def setFltStatus (s : State) (n : Nat) : State :=
  if n < 32 then s.setFld F.FLT_STATUS_LO_STATUS (s.fld F.FLT_STATUS_LO_STATUS ||| 2 ^ n)
  else s.setFld F.FLT_STATUS_HI_STATUS (s.fld F.FLT_STATUS_HI_STATUS ||| 2 ^ (n - 32))

/-- Fill FLT_FIRST, or mark its overflow (R543). -/
def fltFirst (s : State) (n : Nat) : State :=
  if faultClass n < s.fld F.FLT_CFG_FIRST_MIN then s
  else if s.flag F.FLT_FIRST_VALID then s.setFlag F.FLT_FIRST_OVERFLOW true
  else
    let s := ((s.setFlag F.FLT_FIRST_VALID true).setFld F.FLT_FIRST_CLASS (faultClass n)).setFld
      F.FLT_FIRST_SOURCE n
    let s := s.setPair F.FLT_FIRST_EPOCH_W1 F.FLT_FIRST_EPOCH_W2 s.sys.epoch
    s.setPair F.FLT_FIRST_TICK_W3 F.FLT_FIRST_TICK_W4 s.tick

/-- The records every raise makes (R542, R543): status bit, count, event, first source. -/
def faultRecord (s : State) (n : Nat) (args : List Nat) : State :=
  let s := (s.setFltStatus n).incFld F.FLT_CNT_COUNT n
  (s.event blkFlt (faultClass n) n args).fltFirst n

/-- A failover request (R545): carried out from the next boundary when the conditions hold, else it
lapses. -/
def failoverRequest (s : State) : State :=
  if s.sys.role = .active && s.flag F.TWN_STAT_SYNC && s.flag F.FLT_CFG_FAILOVER && s.sys.mode = .pour then
    { s with axl := { s.axl with failover := true } }
  else s.event blkFlt 3 0x0101 []

/-- The Degrade reaction on a named unit (R545 steps 1, 2 and 4, R546). -/
def degradeUnit (s : State) (k : UnitKind) (u : Nat) : State :=
  match s.unitsIn k 1 with
  | [] =>
    let s : State := { s with axl := { s.axl with dead := upsert (· == (k, u)) (k, u) s.axl.dead } }
    ((s.axlEvent 0x0004 k.num u 0xFF).faultRecord 42 [k.num, u]).failoverRequest
  | sp :: _ =>
    if !s.flag F.AXL_CFG_AUTO then s
    else if s.axl.running.any (fun x => x.kind == k && x.unit == u) || s.axl.queued.contains (k, u) then s
    else if s.axl.running.any (fun x => x.kind == k && x.auto) then
      if (s.axl.queued.filter (fun x => x.1 == k)).length < 4 then
        { s with axl := { s.axl with queued := s.axl.queued ++ [(k, u)] } }
      else s
    else s.substStart k u sp true

/-- Raise a fault source (R542 to R546): its records, then its class's reaction. `unit` is the Ladle,
Shakeout, Newt core or pipe the source names. TWIN_DUAL_ACTIVE makes no failover request. -/
def raiseFault (s : State) (n : Nat) (unit : Option (UnitKind × Nat)) (args : List Nat) : State :=
  let s := s.faultRecord n args
  match faultClass n with
  | 4 => s.enterQuench n
  | 3 =>
    match unit with
    | some (k, u) => s.degradeUnit k u
    | none => if n = 44 then s else s.failoverRequest
  | _ => s

/-- Raise a source without a unit. -/
def raise (s : State) (n : Nat) (args : List Nat := []) : State := s.raiseFault n none args

end State
end Sys2Proof.Machine
end

