-- ==== Sys2Proof/Machine/Commit.lean ====
section
/-! DEFINITION. What every command's meaning does around its effect: the outputs of the step before are
gone, the queue of waiting commands is untouched, and the stores the specification bounds stay bounded. -/

namespace Sys2Proof.Machine

/-- The last 256 stored replies of each source (R465). -/
def boundStored (l : List StoredReply) : List StoredReply :=
  (List.range 16).flatMap (fun k => lastN 256 (l.filter (fun x => x.src == k)))

/-- The state a command starts from. -/
def State.begin (s : State) : State := { s with out := [] }

/-! ## Interrupt lines (R591) -/

/-- A stored word of a register whose reset value is zero. -/
def State.word0 (s : State) (a : Nat) : Word := (sfind s.regs a).getD 0

/-- The interrupt lines as SYS_INT_STAT shows them: FLT by FLT_INT_EN (R542), TIM by a refused step or a stamp-queue overflow
(R51, R62), REF by REF_INT_EN, MAC by a half-range bit (R156). No other chapter gives its block a source. -/
def State.intLines (s : State) : Nat :=
  let flt := (s.word0 0x200000 &&& s.word0 0x200048) != 0 || (s.word0 0x200004 &&& s.word0 0x20004C) != 0
  let tim := getBits (s.word0 F.TIM_STATUS_STEP_REFUSED.off) 1 1 != 0 || s.word0 F.TIM_TXQ_OVF_OVF.off != 0
  let ref := (List.range 4).any (fun d => (s.word0 (0x64008C + 0x200 * d) &&& s.word0 (0x640090 + 0x200 * d)) != 0)
  let mac := (List.range 32).any (fun m => s.word0 (F.MAC_STAT_HALF_LO_HALF.addr m 0) != 0 || s.word0 (F.MAC_STAT_HALF_HI_HALF.addr m 0) != 0)
  (if flt then 4 else 0) + (if tim then 32 else 0) + (if ref then 64 else 0) + (if mac then 1024 else 0)

/-- Send the block interrupts' vector. -/
def State.sendVec (s : State) : State := s.emit (.msix (s.word0 F.SYS_INT_VEC_VEC.off).toNat)

/-- Whether an enabled line has risen between two states. -/
def State.lineRose (s t : State) : Bool :=
  let en := (t.word0 F.SYS_INT_EN_LINE.off).toNat
  en != 0 && t.rst.hUp && (List.range 25).any (fun n => en.testBit n && t.intLines.testBit n && !s.intLines.testBit n)

/-- The state a command ends in, from the state it started in and its effect's result: the queue is as
it was, the journal keeps 16,384 entries (R470), and each source 256 replies (R465). -/
def State.commit (s t : State) : State :=
  let t := if s.lineRose t then t.sendVec else t
  { t with pending := s.pending, jnl := lastN 16384 t.jnl,
           cmd := { t.cmd with stored := boundStored t.cmd.stored } }

/-- A command whose effect is `f`. -/
def runEff (f : State → State) (s : State) : Host.Outcome State Fault Refusal := .next (s.commit (f s.begin))

end Sys2Proof.Machine
end

