-- ==== Sys2Proof/Machine/Geometry.lean ====
section
/-! DEFINITION. Frame geometry and line times: pixel groups (R160, R167), active lines (R297), switch
lines (R271), line and slot periods (R64), read deadlines (R237). Times are fractions of nanoseconds. -/

namespace Sys2Proof.Machine

/-- Pixels and bytes of one pixel group of a sampling (R160): 0 4:2:2 10-bit, 1 4:4:4 10-bit, 2 4:4:4
12-bit, 3 RGB 10-bit, 4 RGB 12-bit. -/
def pixelGroup : Nat → Nat × Nat
  | 0 => (2, 5)
  | 1 => (4, 15)
  | 3 => (4, 15)
  | _ => (2, 9)

/-- L, bytes per row (R167). -/
def rowBytes (sampling width : Nat) : Nat := ceilDiv width (pixelGroup sampling).1 * (pixelGroup sampling).2

/-- Payload bytes of a tile (R186 to R188). -/
def tilePayload : Nat := 4032

/-- TPF of a picture (R167). -/
def tilesPerFrame (sampling width height : Nat) : Nat := ceilDiv (rowBytes sampling width * height) tilePayload

/-- L of a surface (R340). -/
def surfRowBytes (fmt width : Nat) : Nat :=
  match fmt with
  | 0 | 1 => width * 4
  | 2 => width * 5
  | _ => ceilDiv width 2 * 5

/-- TPF of a surface (R340). -/
def surfTpf (fmt width height : Nat) : Nat := ceilDiv (height * surfRowBytes fmt width) tilePayload

/-- Bytes per pixel of a wide pixel: scan of a format, interlaced or not. -/
def Fmt.interlaced (f : Fmt) : Bool := f.code == 0x28 || f.code == 0x29 || f.code == 0x40 || f.code == 0x41

/-- Active line ranges (R297). -/
def activeRanges (code : Nat) : List (Nat × Nat) :=
  if code < 0x20 then [(83, 2242)]
  else if code < 0x28 then [(42, 1121)]
  else if code < 0x30 then [(21, 560), (584, 1123)]
  else if code < 0x40 then [(26, 745)]
  else if code = 0x40 then [(23, 310), (336, 623)]
  else [(20, 263), (283, 525)]

/-- First active line (R297). -/
def fal (code : Nat) : Nat := ((activeRanges code).headD (1, 1)).1

/-- Number of active lines (R297). -/
def activeCount (code : Nat) : Nat := (activeRanges code).foldl (fun n p => n + (p.2 + 1 - p.1)) 0

/-- The line of active row `a` (R297). -/
def rowLine (code a : Nat) : Nat :=
  match activeRanges code with
  | [(x, _)] => x + a
  | (x, y) :: (z, _) :: _ => if a < y + 1 - x then x + a else z + (a - (y + 1 - x))
  | [] => 1

/-- The switch line (R271). -/
def switchLine (code : Nat) : Nat :=
  if code < 0x20 then 14 else if code < 0x40 then 7 else if code = 0x40 then 6 else 10

namespace Fmt

/-- Numerator of the line period in ns: Lp = lpN / lpD (R64). -/
def lpN (f : Fmt) : Nat := 1000000000 * f.den

/-- Denominator of the line period. -/
def lpD (f : Fmt) : Nat := f.num * f.lines

/-- Numerator of the frame period in ns: TFRAME = tfN / num. -/
def tfN (f : Fmt) : Nat := 1000000000 * f.den

/-- `t` ns as slots, rounded up: ceil(t / S) with S = Lp / 256. -/
def slotsUp (f : Fmt) (t : Nat) : Nat := ceilDiv (t * f.lpD * 256) f.lpN

/-- Slots that have begun by `n / d` ns. -/
def slotsAt (f : Fmt) (n d : Nat) : Nat := n * f.lpD * 256 / (d * f.lpN)

/-- DL = ceil(600 ns / S) (R237, R614). -/
def deadline (f : Fmt) : Nat := f.slotsUp 600

/-- The hold window H = ceil(300 ns / S) (R245). -/
def hold (f : Fmt) : Nat := f.slotsUp 300

/-- Line period in whole ns, rounded up. -/
def lpUp (f : Fmt) : Nat := ceilDiv f.lpN f.lpD

end Fmt

/-- Whether a format's frame rate is half of a domain format's (R161). -/
def halfRate (f dom : Fmt) : Bool := 2 * f.num * dom.den == dom.num * f.den

/-- Whether a format may be bound to a domain's (R161): equal rate, or half within the family. -/
def rateFits (f dom : Fmt) : Bool :=
  f.num * dom.den == dom.num * f.den || (halfRate f dom && f.family == dom.family)

/-- Packets of an ST 2022-6 frame: the SDI frame's bits in 1,376-byte datagrams (R294). -/
def datagrams2022 (f : Fmt) : Nat :=
  let hz := (f.num + f.den - 1) / f.den
  let rate := if f.code < 0x20 then (if hz ≤ 30 then 5940000000 else 11880000000)
    else if f.code < 0x30 ∧ 30 < hz then 2970000000 else 1485000000
  ceilDiv (rate / hz) 11008

end Sys2Proof.Machine
end

