-- ==== Sys2Proof/Machine/Pattern.lean ====
section
/-! DEFINITION. The pattern banks (R225 to R231), the compiler of R614, admission (R244 to R247), and
the flips (R239 to R243). -/

namespace Sys2Proof.Machine

/-! ## Entries -/

/-- A field of a 128-bit entry. -/
def ebits (e : BitVec 128) (hi lo : Nat) : Nat := (e.toNat >>> lo) % 2 ^ (hi + 1 - lo)

/-- Bytes of an entry, little-endian (R225). -/
def entryBytes (e : BitVec 128) : Bytes := leBytes 16 e.toNat

/-- GUARD of an entry's other bits (R231). -/
def guardOf (e : BitVec 128) : Nat := (crc32c ((entryBytes e).drop 2)).toNat % 65536

/-- Whether an entry's GUARD is right (R231). -/
def guardOk (e : BitVec 128) : Bool := ebits e 15 0 == guardOf e

/-- An entry with its GUARD, from its upper bits. -/
def withGuard (v : Nat) : BitVec 128 :=
  let e := BitVec.ofNat 128 (v * 65536)
  e ||| BitVec.ofNat 128 (guardOf e)

/-- What a cleared entry holds: NOP or a run with VALID 0, with its GUARD. -/
def emptyEntry : Nat → BitVec 128 := fun _ => 0x37F1#128

/-- A template entry (R230). -/
def mkEntry (op slot flow dest sel param : Nat) : BitVec 128 :=
  withGuard ((((op * 256 + slot) * 65536 + flow) * 65536 + dest) * 65536 * 281474976710656 +
    sel * 281474976710656 + param)

/-- A frame-list run entry (R227). -/
def mkRun (parity first last row0 tf tc : Nat) : BitVec 128 :=
  withGuard (2 ^ 111 + parity * 2 ^ 109 + first * 2 ^ 94 + last * 2 ^ 82 + row0 * 2 ^ 70 + tf * 2 ^ 56 +
    tc * 2 ^ 41)

/-- Fields of a template entry. -/
def entOp (e : BitVec 128) : Nat := ebits e 127 120
def entSlot (e : BitVec 128) : Nat := ebits e 119 112
def entFlow (e : BitVec 128) : Nat := ebits e 111 96
def entDest (e : BitVec 128) : Nat := ebits e 95 80
def entSel (e : BitVec 128) : Nat := ebits e 79 64

/-- Fields of a run entry. -/
def runValid (r : BitVec 128) : Bool := ebits r 127 127 == 1
def runParity (r : BitVec 128) : Nat := ebits r 126 125
def runFirst (r : BitVec 128) : Nat := ebits r 121 110
def runLast (r : BitVec 128) : Nat := ebits r 109 98
def runRow0 (r : BitVec 128) : Nat := ebits r 97 86
def runTF (r : BitVec 128) : Nat := ebits r 85 72
def runTC (r : BitVec 128) : Nat := ebits r 71 57

/-- Whether a run covers a line of a frame (R228). -/
def runCovers (r : BitVec 128) (line frame : Nat) : Bool :=
  runValid r && decide (runFirst r ≤ line) && decide (line ≤ runLast r) &&
    (match runParity r with
     | 0 => true
     | 1 => frame % 2 == 0
     | 2 => frame % 2 == 1
     | _ => false)

/-- Tile transactions of one execution (R232); `ancTpf` gives the tiles of an ANC source. -/
def entryN (ancTpf : Nat → Nat) (e : BitVec 128) : Nat :=
  match entOp e with
  | 1 => ebits e 63 56
  | 2 => ceilDiv (ebits e 63 48) tilePayload
  | 3 => ceilDiv (ceilDiv (ebits e 31 16) 256 * ebits e 63 48) tilePayload
  | 4 => ebits e 63 56
  | 5 => ancTpf (entFlow e)
  | _ => 0

/-- Template entry `i` of a bank. -/
def PatBank.ent (b : PatBank) (i : Nat) : BitVec 128 := sget emptyEntry b.tmpl i

/-- Run entry `i` of a bank. -/
def PatBank.runE (b : PatBank) (i : Nat) : BitVec 128 := sget emptyEntry b.runs i

/-- The entries of one line, in run order and then template order, with the run they come from (R228,
R229). -/
def PatBank.lineEntries (b : PatBank) (line frame : Nat) : List (BitVec 128 × BitVec 128 × Nat) :=
  (b.runs.filter (fun p => runCovers p.2 line frame)).flatMap (fun p =>
    (List.range (runTC p.2)).map (fun k => (p.2, b.ent (runTF p.2 + k), runTF p.2 + k)))

/-! ## The compiler (R614) -/

/-- One entry to place: its run's lines, row and parity, and the entry's fields. -/
structure PatItem where
  first : Nat
  last : Nat
  row0 : Nat
  parity : Nat
  op : Nat
  slot : Nat
  flow : Nat
  dest : Nat
  sel : Nat
  param : Nat
  deriving DecidableEq, Repr

/-- Items that share lines, row and parity share one run (R229). -/
def PatItem.sameRun (a b : PatItem) : Bool :=
  a.first == b.first && a.last == b.last && a.row0 == b.row0 && a.parity == b.parity

/-- Add an item to the group of its run. -/
def addGroup (x : PatItem) : List (List PatItem) → List (List PatItem)
  | [] => [[x]]
  | [] :: gs => [] :: addGroup x gs
  | (y :: ys) :: gs => if y.sameRun x then (y :: ys ++ [x]) :: gs else (y :: ys) :: addGroup x gs

/-- Insert an item after those of its slot or an earlier one (R228). -/
def insSlot (x : PatItem) : List PatItem → List PatItem
  | [] => [x]
  | y :: ys => if x.slot < y.slot then x :: y :: ys else y :: insSlot x ys

/-- The run entries and template entries of grouped items, from template index `n`. -/
def layout : List (List PatItem) → Nat → List (BitVec 128) × List (BitVec 128)
  | [], _ => ([], [])
  | g :: gs, n =>
    let srt := g.foldl (fun l x => insSlot x l) []
    let (t, r) := layout gs (n + g.length)
    match srt with
    | [] => (t, r)
    | x :: _ =>
      (srt.map (fun y => mkEntry y.op y.slot y.flow y.dest y.sel y.param) ++ t,
       mkRun x.parity x.first x.last x.row0 n g.length :: r)

/-- Number a list from an index. -/
def numbered {α : Type} (n : Nat) (l : List α) : List (Nat × α) := (List.range l.length).map (· + n) |>.zip l

/-- A compiled bank's template and runs. -/
def layoutItems (items : List PatItem) : List (Nat × BitVec 128) × List (Nat × BitVec 128) :=
  let (t, r) := layout (items.foldl (fun g x => addGroup x g) []) 0
  (numbered 0 t, numbered 0 r)

/-! ## Sources and outputs as the compiler sees them -/

/-- A source's picture: domain, width, height, format, sampling, tiles per frame, bytes per row. -/
structure Picture where
  dom : Nat
  width : Nat
  height : Nat
  format : Nat
  sampling : Nat
  tpf : Nat
  bpl : Nat
  deriving DecidableEq, Repr

namespace State

/-- A video output flow's record. -/
def vout (s : State) (f : Nat) : Option VOut := s.shk.vouts.find? (fun x => x.flow == f)

/-- A test source. -/
def testSrc (s : State) (f : Nat) : Option TestSrc := s.shk.tests.find? (fun x => x.flow == f)

/-- An ANC output flow. -/
def ancOut (s : State) (f : Nat) : Option AncOut := s.shk.ancOuts.find? (fun x => x.flow == f)

/-- Whether surface `f` is defined. -/
def surfEn (s : State) (f : Nat) : Bool :=
  decide (0x4000 ≤ f ∧ f ≤ 0x40FF) && s.flag F.CHM_SURF_CFG_EN (f - 0x4000)

/-- A source flow's picture (R16): video input, surface or test source. A surface takes the raster of
its domain. -/
def picture (s : State) (f : Nat) : Option Picture :=
  if f < 0x800 then
    (s.inFlow f).map (fun x => ⟨x.dom, x.width, x.height, x.format, x.sampling, x.tpf,
      rowBytes x.sampling x.width⟩)
  else if 0x4100 ≤ f ∧ f ≤ 0x41FF then
    (s.testSrc f).map (fun x => ⟨x.dom, x.width, x.height, x.format, x.sampling, x.tpf,
      rowBytes x.sampling x.width⟩)
  else if s.surfEn f then
    let n := f - 0x4000
    let d := s.fld F.CHM_SURF_CFG_DOMAIN n
    let w := s.fld F.CHM_SURF_CFG_WIDTH n
    let h := s.fld F.CHM_SURF_CFG_HEIGHT n
    let k := s.fld F.CHM_SURF_CFG_FORMAT n
    some ⟨d, w, h, s.fld F.REF_RAS_STAT_FORMAT_ACTIVE d, if k = 3 then 0 else 0xF0 + k, surfTpf k w h,
      surfRowBytes k w⟩
  else none

/-- ANC_TPF of an ANC input flow, or of a video input's companion. -/
def ancTpf (s : State) (f : Nat) : Nat := ((s.inFlow f).map InFlow.ancTpf).getD 0

/-- The companion ANC input of a source (R286). -/
def companion (s : State) (f : Nat) : Option Nat := (s.inFlow f).bind InFlow.companion

/-- Sort flow identifiers in ascending order, without repeats. -/
def ascending (l : List Nat) : List Nat := l.foldl (fun acc x => insAsc x acc) []
where
  insAsc (x : Nat) : List Nat → List Nat
    | [] => [x]
    | y :: ys => if x < y then x :: y :: ys else if x = y then y :: ys else y :: insAsc x ys

/-- Video and ANC input flows of a domain in ascending identifier. -/
def domIns (s : State) (d : Nat) (anc : Bool) : List InFlow :=
  (ascending ((s.lad.flows.filter (fun x => x.dom == d && x.anc == anc)).map InFlow.flow)).filterMap s.inFlow

/-- Video output flows of a domain in ascending identifier. -/
def domOuts (s : State) (d : Nat) : List VOut :=
  (ascending ((s.shk.vouts.filter (fun x => x.dom == d)).map VOut.flow)).filterMap s.vout

/-- The format a domain's pattern is compiled for: the configured one, which a pending format change waits
with (R261), else the one in force. -/
def compileFmt (s : State) (d : Nat) : Option Fmt :=
  match fmtOf (s.fld F.REF_RAS_CFG_FORMAT d) with
  | some f => some f
  | none => s.domFmt d

/-- Whether any flow of the domain runs at half the domain's rate (R244, R272). -/
def anyHalf (s : State) (d : Nat) (f : Fmt) : Bool :=
  let half (c : Nat) := ((fmtOf c).map (fun x => halfRate x f)).getD false
  s.lad.flows.any (fun x => x.dom == d && half x.format) ||
    s.shk.vouts.any (fun x => x.dom == d && half x.format) ||
    s.shk.tests.any (fun x => x.dom == d && half x.format)

/-! ## Placement -/

/-- The slot of the frame by which a row's first byte leaves (R298, R310, R311), in slots of the domain:
`kind`, `pacing`, `tro` and `ofmt` are the output's. -/
def sendSlot (f ofmt : Fmt) (kind : Nat) (linear : Bool) (tro : Option Nat) (rows a : Nat) : Nat :=
  let line := rowLine ofmt.code a
  if kind < 2 then f.slotsAt ((line - 1) * ofmt.lpN + 256 * ofmt.lpD) ofmt.lpD
  else
    let lin := linear || kind == 3
    let troN := match tro with
      | some t => t * ofmt.lpD
      | none => (if lin then 2 else fal ofmt.code - 1) * ofmt.lpN
    if kind = 3 then
      let k := datagrams2022 ofmt
      f.slotsAt (troN * k + (line - 1) * k / ofmt.lines * ofmt.lines * ofmt.lpN) (ofmt.lpD * k)
    else
      let act := if lin then ofmt.lines else activeCount ofmt.code
      f.slotsAt (troN * rows + a * act * ofmt.lpN) (ofmt.lpD * rows)

/-- The largest L0 for which every row's deadline falls at or before its send (R614), if one exists. -/
def placeL0 (f ofmt : Fmt) (kind : Nat) (linear : Bool) (tro : Option Nat) (rows slot : Nat) : Option Nat :=
  let l0 := (List.range rows).foldl (fun (m : Int) a =>
    min m ((((sendSlot f ofmt kind linear tro rows a : Nat) : Int) - slot - f.deadline) / 256 - a + 1)) 4096
  if 1 ≤ l0 then some l0.toNat else none

/-- The placement inputs of a video output. -/
def outL0 (s : State) (f : Fmt) (o : VOut) (slot : Nat) : Option Nat :=
  let n := o.flow - 0x800
  match fmtOf o.format with
  | some ofmt => placeL0 f ofmt (s.fld F.SHK_FLOW_CFG_KIND n) (s.flag F.SHK_FLOW_CFG_PACING n)
      (if s.flag F.SHK_FLOW_CFG_TRO_EN n then some (s.fld F.SHK_FLOW_CFG_TRO n) else none) o.height slot
  | none => none

/-- MOVE_IN entries of a domain (R614). -/
def itemsIn (s : State) (d : Nat) (f : Fmt) : List PatItem :=
  (numbered 0 (s.domIns d false ++ s.domIns d true)).map (fun p =>
    let x := p.2
    let k := match fmtOf x.format with
      | some g => ceilDiv (f.lpN * g.lpD) (f.lpD * g.lpN)
      | none => 1
    let wr := if x.anc then 1 else min 16 (k * ceilDiv (rowBytes x.sampling x.width) tilePayload + 1)
    ⟨1, f.lines, 0, 0, 1, p.1 % 256, x.flow, 0, 0, wr * 2 ^ 40⟩)

/-- Routes of a domain in ascending output. -/
def domRoutes (s : State) (d : Nat) : List Route :=
  (s.domOuts d).filterMap (fun o => s.pat.routes.find? (fun r => r.out == o.flow))

/-- READ_OUT and ANC_OUT entries of a domain's routes (R264, R614). An output without an L0 places
nothing; admission refuses it. -/
def itemsOut (s : State) (d : Nat) (f : Fmt) : List PatItem :=
  (numbered 0 (s.domRoutes d)).flatMap (fun p =>
    match s.vout p.2.out, s.picture p.2.src with
    | some o, some pic =>
      match s.outL0 f o (p.1 % 256) with
      | none => []
      | some l0 =>
        let par := if ((fmtOf o.format).map (fun g => halfRate g f)).getD false then 1 else 0
        ⟨l0, l0 + o.height - 1, 0, par, 2, p.1 % 256, p.2.src, p.2.out, p.2.delay,
          pic.bpl * 2 ^ 32 + f.deadline * 2 ^ 24⟩ ::
        (match (if p.2.anc then s.companion p.2.src else none) with
         | some af => [⟨l0 - 1, l0 - 1, 0, par, 5, p.1 % 256, af, p.2.out, p.2.delay, f.deadline * 2 ^ 24⟩]
         | none => [])
    | _, _ => [])

/-- ANC_OUT entries of ANC output flows (R305): placed as a gapped ST 2110-20 output of the domain. -/
def itemsAnc (s : State) (d : Nat) (f : Fmt) : List PatItem :=
  (numbered 0 (s.shk.ancOuts.filter (fun x => x.dom == d))).flatMap (fun p =>
    match p.2.source, placeL0 f f 2 false none (activeCount f.code) (p.1 % 256) with
    | some src, some l0 =>
      [⟨l0 - 1, l0 - 1, 0, 0, 5, p.1 % 256, src, p.2.flow, p.2.delay, f.deadline * 2 ^ 24⟩]
    | _, _ => [])

/-- CHM_LAYER_CFG word `w` of layer `n` as the inactive bank holds it (R325). -/
def layerWord (s : State) (n w : Nat) : Word :=
  match s.chm.next.find? (fun p => p.layer == n) with
  | some p => p.words.getD w 0
  | none => s.reg (F.CHM_LAYER_CFG_EN.addr n 0 + 4 * w)

/-- A field of a layer in the inactive bank. -/
def layerFld (s : State) (n : Nat) (f : Fld) : Nat :=
  getBits (s.layerWord n ((f.off - F.CHM_LAYER_CFG_EN.off) / 4)) f.hi f.lo

/-- Defined layers of pipes that run in domain `d`, ascending. -/
def domLayers (s : State) (d : Nat) : List Nat :=
  (List.range 512).filter (fun n => s.layerFld n F.CHM_LAYER_CFG_EN == 1 &&
    s.fld F.CHM_PIPE_CFG_DOMAIN (s.layerFld n F.CHM_LAYER_CFG_PIPE) == d)

/-- READ_LAYER entries (R326, R330, R614): two lines ahead of the output line that uses the row. -/
def itemsLayers (s : State) (d : Nat) (f : Fmt) : List PatItem :=
  (s.domLayers d).filterMap (fun n =>
    match s.picture (s.layerFld n F.CHM_LAYER_CFG_SRC) with
    | none => none
    | some pic =>
      let cy := s.layerFld n F.CHM_LAYER_CFG_CROP_Y
      let ch := s.layerFld n F.CHM_LAYER_CFG_CROP_H
      let dh := s.layerFld n F.CHM_LAYER_CFG_DST_H
      let dy := sext 16 (s.layerFld n F.CHM_LAYER_CFG_DST_Y)
      let vstep := ceilDiv (ch * 256) (max dh 1)
      let skip := (-dy).toNat
      let first := ((fal f.code : Int) + dy - 2).toNat + skip - (if dy < 0 then 0 else 0)
      let first := if dy < 0 then fal f.code - 2 else first
      let rows := min (dh - skip) (activeCount f.code - dy.toNat)
      if dh ≤ skip ∨ rows = 0 then none
      else some ⟨first, first + rows - 1, cy + skip * vstep / 256, 0, 3, n % 256,
        s.layerFld n F.CHM_LAYER_CFG_SRC, n, s.layerFld n F.CHM_LAYER_CFG_DELAY,
        pic.bpl * 2 ^ 32 + f.deadline * 2 ^ 24 + vstep⟩)

/-- Blocks a delay-line tile holds (R377): a 96 kHz line counts its channels as two. -/
def tileBlocks (x : DelayLine) : Nat := tilePayload / (12 * (if x.rate = 1 then 2 * x.chans else x.chans))

/-- Samples per channel of a delay-line tile: S_t (R377). -/
def tileSamples (x : DelayLine) : Nat := 3 * tileBlocks x

/-- Tiles each direction must move in every 1 ms (R378). -/
def tilesPerMs (x : DelayLine) : Nat :=
  ceilDiv (if x.rate = 1 then 96 else 48) (max 1 (if x.rate = 1 then 2 * tileSamples x else tileSamples x)) + 1

/-- Lines on which a delay line's entries stand: line 1, then the largest spacing that meets R378. -/
def bundleLines (f : Fmt) (x : DelayLine) : List Nat :=
  let sp := max 1 (1000000 * f.lpD / (tilesPerMs x * f.lpN))
  (List.range (ceilDiv f.lines sp)).map (fun k => 1 + k * sp)

/-- AUDIO_BUNDLE entries of a domain (R378, R614). -/
def itemsAudio (s : State) (d : Nat) (f : Fmt) : List PatItem :=
  (s.aud.delays.filter (fun x => x.dom == d)).flatMap (fun x =>
    (bundleLines f x).flatMap (fun l =>
      [⟨l, l, 0, 0, 4, x.bundle % 256, x.label, x.bundle, 0, 2 ^ 40⟩,
       ⟨l, l, 0, 0, 4, x.bundle % 256, x.label, x.bundle, 1, 2 ^ 40 + f.deadline * 2 ^ 24⟩]))

/-- MARK entries: FRAME_START of every output in line 1, MEAS_TAP of every video flow in the last line
(R298, R437). -/
def itemsMark (s : State) (d : Nat) (f : Fmt) : List PatItem :=
  (numbered 0 (s.domOuts d)).map (fun p => ⟨1, 1, 0, 0, 6, p.1 / 128, p.2.flow, 0, 0, 2 ^ 40⟩) ++
  (numbered 0 ((s.domIns d false).map InFlow.flow ++ (s.domOuts d).map VOut.flow)).map (fun p =>
    ⟨f.lines, f.lines, 0, 0, 6, p.1 / 128, p.2, 0, 0, 2 * 2 ^ 40⟩)

/-- The fence line (R346). -/
def fenceLine (f : Fmt) : Nat := f.lines - ceilDiv (300000 * f.lpD) f.lpN + 1

/-- FENCE_CHECK entries (R346): layers that read a surface, then routed surfaces. -/
def itemsFence (s : State) (d : Nat) (f : Fmt) : List PatItem :=
  let lay := (s.domLayers d).filterMap (fun n =>
    let src := s.layerFld n F.CHM_LAYER_CFG_SRC
    if s.surfEn src then some (src, n) else none)
  let rt := (ascending ((s.domRoutes d).map Route.src |>.filter s.surfEn)).map (fun x => (x, 0xFFFF))
  (numbered 0 (lay ++ rt)).map (fun p => ⟨fenceLine f, fenceLine f, 0, 0, 7, p.1 / 128, p.2.1, p.2.2, 0, 0⟩)

/-- The SWITCH entry (R272). -/
def itemSwitch (s : State) (d : Nat) (f : Fmt) : PatItem :=
  ⟨switchLine f.code, switchLine f.code, 0, 0, 8, 0, 0, 0xFFFF, b2n (s.anyHalf d f), 0⟩

/-- Everything R614 places for a domain under a format. -/
def compileItems (s : State) (d : Nat) (f : Fmt) : List PatItem :=
  s.itemSwitch d f :: s.itemsIn d f ++ s.itemsOut d f ++ s.itemsAnc d f ++ s.itemsLayers d f ++
    s.itemsAudio d f ++ s.itemsMark d f ++ s.itemsFence d f

end State

/-! ## Admission (R244 to R247) -/

/-- Lines at which the load of a bank can change: line 1 and 2, and each run's first line, the line after
it, and the two lines after its last. -/
def keyLines (runs : List (Nat × BitVec 128)) (total : Nat) : List Nat :=
  (State.ascending ([1, 2] ++ runs.flatMap (fun p =>
    [runFirst p.2, runFirst p.2 + 1, runLast p.2 + 1, runLast p.2 + 2]))).filter (fun l => 1 ≤ l && l ≤ total)

/-- The positions of one line and the line before it: previous slots at 0 to 255, this line's at 256 to
511, each with its tags and tiles. -/
def windowLoad (b : PatBank) (n : BitVec 128 → Nat) (total line frame : Nat) : List (Nat × Nat × Nat) :=
  let prev := if line = 1 then b.lineEntries total (frame + 1) else b.lineEntries (line - 1) frame
  let at_ (o : Nat) (x : BitVec 128 × BitVec 128 × Nat) : Nat × Nat × Nat :=
    (o + entSlot x.2.1, ceilDiv (n x.2.1) 128, n x.2.1)
  prev.map (at_ 0) ++ (b.lineEntries line frame).map (at_ 256)

/-- The largest window sum over the windows that end in a line (R245): (sum, slot). -/
def worstWindow (h : Nat) (w : Nat × Nat × Nat → Nat) (l : List (Nat × Nat × Nat)) : Nat × Nat :=
  ((l.filter (fun x => decide (256 ≤ x.1))).map (fun x => x.1)).foldl (fun (best : Nat × Nat) p =>
    let sum := ((l.filter (fun y => decide (p < y.1 + h) && decide (y.1 ≤ p))).map w).foldl (· + ·) 0
    if best.1 < sum then (sum, p - 256) else best) (0, 0)

/-- The worst window of a bank by a weight: (sum, line, slot). -/
def bankWorst (b : PatBank) (f : Fmt) (n : BitVec 128 → Nat) (w : Nat × Nat × Nat → Nat) : Nat × Nat × Nat :=
  (keyLines b.runs f.lines).foldl (fun (best : Nat × Nat × Nat) line =>
    [0, 1].foldl (fun (best : Nat × Nat × Nat) fr =>
      let (v, sl) := worstWindow f.hold w (windowLoad b n f.lines line fr)
      if best.1 < v then (v, line, sl) else best) best) (0, 1, 0)

/-- The window's tile limit (R247). -/
def bwLimit (f : Fmt) (share : Nat) : Nat := 128 * f.hold * f.lpN * share / (f.lpD * 256 * 8066)

/-- The fields of an entry that its OP leaves unused are zero, and the used ones are in range (R16, R230,
R232, R237). -/
def entryForm (f : Fmt) (e : BitVec 128) : Bool :=
  let video := inRanges [(0, 0x7FF), (0x4000, 0x41FF)] (entFlow e)
  let noDelay := decide (entFlow e < 0x800) || entSel e == 0
  let p := ebits e 63 16
  let dl := ebits e 47 40
  let dlOk := decide (f.deadline ≤ dl)
  let vstep := ebits e 31 16
  let bpl := ebits e 63 48
  match entOp e with
  | 0 => entFlow e == 0 && entDest e == 0 && entSel e == 0 && p == 0
  | 1 => inRanges [(0, 0x7FF), (0x3000, 0x33FF)] (entFlow e) && entDest e == 0 && entSel e == 0 && inRanges [(1, 16)] (ebits e 63 56) && ebits e 55 16 == 0
  | 2 => video && noDelay && inRanges [(0x800, 0xFFF)] (entDest e) && inRanges [(1, 18432)] bpl && dlOk && ebits e 39 16 == 0
  | 3 => video && noDelay && inRanges [(1, 18432)] bpl && dlOk && vstep != 0 && ebits e 39 32 == 0 && decide (entDest e < 512) &&
      decide (ceilDiv (ceilDiv vstep 256 * bpl) tilePayload ≤ 64)
  | 4 => inRanges [(0x1000, 0x2FFF)] (entFlow e) && decide (entDest e < 4096) && decide (entSel e < 2) && inRanges [(1, 16)] (ebits e 63 56) &&
      ebits e 55 48 == 0 && ebits e 39 16 == 0 && (dlOk || entSel e == 0)
  | 5 => inRanges [(0x3000, 0x33FF)] (entFlow e) && inRanges [(0x800, 0xFFF), (0x3400, 0x37FF)] (entDest e) && dlOk && ebits e 63 48 == 0 && ebits e 39 16 == 0
  | 6 => entDest e == 0 && entSel e == 0 && inRanges [(1, 3)] (ebits e 63 56) && ebits e 55 48 == 0
  | 7 => inRanges [(0x4000, 0x40FF)] (entFlow e) && (decide (entDest e < 512) || entDest e == 0xFFFF) && entSel e == 0 && p == 0
  | 8 => entFlow e == 0 && entDest e == 0xFFFF && decide (entSel e < 2) && p == 0
  | 9 => entFlow e == 0 && entDest e == 0 && entSel e == 0 && inRanges [(1, 64)] (ebits e 63 56) &&
      ebits e 55 16 == 0
  | _ => false

/-- A run entry's form (R227, R228). -/
def runForm (r : BitVec 128) : Bool :=
  !runValid r || (runParity r != 3 && decide (1 ≤ runFirst r) && decide (runFirst r ≤ runLast r) &&
    decide (runLast r ≤ 2250) && decide (1 ≤ runTC r) && decide (runTF r + runTC r ≤ 16384) &&
    ebits r 124 122 == 0 && ebits r 56 16 == 0)

/-- Whether slots do not fall within each run's segment (R228). -/
def slotsAscend (b : PatBank) : Bool :=
  b.runs.all (fun p => !runValid p.2 || (List.range (runTC p.2 - 1)).all (fun k =>
    decide (entSlot (b.ent (runTF p.2 + k)) ≤ entSlot (b.ent (runTF p.2 + k + 1)))))

/-- The most entries of a line in one slot: (count, line, slot) (R229). -/
def slotWorst (b : PatBank) (f : Fmt) : Nat × Nat × Nat :=
  (keyLines b.runs f.lines).foldl (fun (best : Nat × Nat × Nat) line =>
    [0, 1].foldl (fun (best : Nat × Nat × Nat) fr =>
      let sl := (b.lineEntries line fr).map (fun x => entSlot x.2.1)
      sl.foldl (fun (best : Nat × Nat × Nat) x =>
        let n := (sl.filter (· == x)).length
        if best.1 < n then (n, line, x) else best) best) best) (0, 1, 0)

/-- The most runs that cover a line. -/
def coverWorst (b : PatBank) (f : Fmt) : Nat × Nat :=
  (keyLines b.runs f.lines).foldl (fun (best : Nat × Nat) line =>
    [0, 1].foldl (fun (best : Nat × Nat) fr =>
      let n := (b.runs.filter (fun p => runCovers p.2 line fr)).length
      if best.1 < n then (n, line) else best) best) (0, 1)

/-- SWITCH entries that execute in frames of a parity. -/
def switchCount (b : PatBank) (fr : Nat) : List (BitVec 128) :=
  (b.runs.filter (fun p => runValid p.2 && runCovers p.2 (runFirst p.2) fr)).flatMap (fun p =>
    ((List.range (runTC p.2)).map (fun k => b.ent (runTF p.2 + k))).filter (fun e => entOp e == 8) |>.flatMap
      (fun e => List.replicate (runLast p.2 + 1 - runFirst p.2) e))

/-- A 0x02xx record with domain, bank, line and slot of the worst case (R244). -/
def patRes (status d bank line slot limit demand : Nat) : RefRec :=
  { rejRes status limit demand with domain := some d, bank := some bank, line := line, slot := slot }

namespace State

/-- Sequencer `d`. -/
def patDom (s : State) (d : Nat) : PatDom := s.pat.doms.getD d PatDom.reset

/-- Replace sequencer `d`. -/
def setPatDom (s : State) (d : Nat) (x : PatDom) : State :=
  { s with pat := { s.pat with doms := s.pat.doms.set d x } }

/-- The number of the active bank (PAT_BANK.ACTIVE). -/
def activeNo (s : State) (d : Nat) : Nat := s.fld F.PAT_BANK_ACTIVE d

/-- Bank `k` of a domain. -/
def bank (s : State) (d k : Nat) : PatBank := if k = 0 then (s.patDom d).a else (s.patDom d).b

/-- The active bank. -/
def activeBank (s : State) (d : Nat) : PatBank := s.bank d (s.activeNo d)

/-- The inactive bank. -/
def inactiveBank (s : State) (d : Nat) : PatBank := s.bank d (1 - s.activeNo d)

/-- PAT_USE of a bank, recounted. -/
def patUse (s : State) (d k : Nat) : State :=
  let b := s.bank d k
  if k = 0 then (s.setFld F.PAT_USE_ENT_A b.tmpl.length d).setFld F.PAT_USE_RUNS_A
    (b.runs.filter (fun p => runValid p.2)).length d
  else (s.setFld F.PAT_USE_ENT_B b.tmpl.length d).setFld F.PAT_USE_RUNS_B
    (b.runs.filter (fun p => runValid p.2)).length d

/-- Replace bank `k` of a domain. -/
def setBank (s : State) (d k : Nat) (b : PatBank) : State :=
  (s.setPatDom d (if k = 0 then { s.patDom d with a := b } else { s.patDom d with b := b })).patUse d k

/-- The first read of a bank whose delay its source's depth does not hold (R173, R244). -/
def delayBad (s : State) (b : PatBank) : Option (Nat × BitVec 128) :=
  b.tmpl.find? (fun p => (entOp p.2 == 2 || entOp p.2 == 3 || entOp p.2 == 5) &&
    (s.inFlow (entFlow p.2)).any (fun x => decide (x.depth - 2 < entSel p.2)))

/-- The checks of R244 on a bank, in the table's order. -/
def bankCheck (s : State) (d k : Nat) (b : PatBank) (f : Fmt) : Option RefRec :=
  let n := entryN s.ancTpf
  let cw := coverWorst b f
  let sw := slotWorst b f
  let even := switchCount b 0
  let odd := switchCount b 1
  let half := s.anyHalf d f
  let slow := s.delayBad b
  let slowLine := slow.bind (fun p => (b.runs.find? (fun r => runTF r.2 ≤ p.1 && p.1 < runTF r.2 + runTC r.2)).map (fun r => runFirst r.2))
  let tags := bankWorst b f n (fun x => x.2.1)
  let bw := bankWorst b f n (fun x => x.2.2)
  let tagLim := s.fld F.PAT_DOM_CFG_TAG_SHARE d
  let bwLim := bwLimit f (s.fld F.PAT_DOM_CFG_BW_SHARE d)
  firstFail [
    (b.tmpl.any (fun p => !entryForm f p.2) || b.runs.any (fun p => !runForm p.2) || !slotsAscend b,
      rej 0x0108 0),
    (slow.isSome, patRes 0x0200 d k (slowLine.getD 0) (((slow.map (fun p => entSlot p.2))).getD 0)
      ((slow.bind (fun p => (s.inFlow (entFlow p.2)).map (fun x => x.depth - 2))).getD 0) ((slow.map (fun p => entSel p.2)).getD 0)),
    (decide (16384 < b.tmpl.length), patRes 0x0208 d k 0 0 16384 b.tmpl.length),
    (decide (4096 < b.runs.length), patRes 0x020B d k 0 0 4096 b.runs.length),
    (decide (16 < cw.1), patRes 0x020B d k cw.2 0 16 cw.1),
    (decide (128 < sw.1), patRes 0x020A d k sw.2.1 sw.2.2 128 sw.1),
    (even.length != 1 || decide (1 < odd.length) || (half && (even ++ odd).any (fun e => entSel e != 1)) ||
      (!half && odd.length != 1), rejAll 0x0305),
    (decide (tagLim < tags.1), patRes 0x0207 d k tags.2.1 tags.2.2 tagLim tags.1),
    (decide (bwLim < bw.1), patRes 0x0209 d k bw.2.1 bw.2.2 bwLim bw.1)]

/-- A bank as R614 compiles it now. -/
def compiled (s : State) (d : Nat) (f : Fmt) : PatBank :=
  let (t, r) := layoutItems (s.compileItems d f)
  ⟨t, r, t, r, [], [], s.domRoutes d⟩

/-- Admission of a domain's compiled pattern (R244, R614); a domain without a format compiles nothing
yet. -/
def patAdmit (s : State) (d : Nat) : Option RefRec :=
  match s.compileFmt d with
  | none => none
  | some f =>
    if (s.domRoutes d).length ≠ ((s.itemsOut d f).filter (fun x => x.op == 2)).length then some (rej 0x0108 0)
    else s.bankCheck d (1 - s.activeNo d) (s.compiled d f) f

/-- The indices at which two sparse stores differ. -/
def changed (a b : List (Nat × BitVec 128)) : List Nat :=
  ascending ((a.filter (fun p => sget emptyEntry b p.1 != p.2)).map (·.1) ++
    (b.filter (fun p => sget emptyEntry a p.1 != p.2)).map (·.1))

/-- Frame index and line of domain `d` now; in D0 a line whose last slot has begun counts as over, since
every boundary falls on a D0 line start (R23). -/
def lineNow (s : State) (d : Nat) (f : Fmt) : Nat × Nat :=
  let r := s.rasOf d
  if d = 0 ∧ r.slot = 255 then (if f.lines ≤ r.line then (r.frameN + 1, 1) else (r.frameN, r.line + 1))
  else (r.frameN, max 1 r.line)

/-- Frames from frame `n` to the first, `k` or more ahead, in which a SWITCH admits a flip (R240, R272). -/
def frameAdmits (half : Bool) (n k : Nat) : Nat := if half && (n + k) % 2 == 1 then k + 1 else k

/-- Frames and lines from now to the next SWITCH slot of a running domain that admits a flip and has not
passed. -/
def nextSwitch (s : State) (d : Nat) (f : Fmt) : Nat × Nat :=
  let (n, l) := s.lineNow d f
  let sl := switchLine f.code
  let here := decide (l < sl) || (l == sl && d == 0 && (s.rasOf d).slot == 255)
  let k := frameAdmits (s.anyHalf d f) n (if here then 0 else 1)
  (k, k * f.lines + sl - l)

/-- Ticks from now to `lines` line starts ahead of a domain. -/
def ticksAhead (s : State) (d : Nat) (f : Fmt) (lines : Nat) : Nat :=
  (s.rasOf d).lineTick + lines * f.lpN / f.lpD - s.tick

/-- The frame index whose start of R65 lies nearest to aligned time `t` in 2^-16 ns, an exact half rounded up (R70). -/
def nearestFrame (f : Fmt) (ofs : Int) (t : Nat) : Nat :=
  let n : Int := ((t : Int) - ofs * 65536) * f.num
  let d : Int := 65536000000000 * f.den
  let k := (2 * n + d) / (2 * d)
  if 0 ≤ k then k.toNat else toField 32 k

/-- The new format's first frame (R70): its index, and the nanoseconds by which its start of R65 lies after the boundary, which
comes in `ns`. An aligned generator's boundary is exactly the end of the old frame. -/
def formatFrame (s : State) (d : Nat) (old new : Fmt) (ns : Nat := 0) : Nat × Int :=
  let ofs := s.sfld F.REF_RAS_OFS_OFS d
  if s.flag F.REF_RAS_STAT_ALIGNED d then
    let k := (s.rasOf d).frameN + 1
    let n := k * old.den * new.num
    let q := old.num * new.den
    let i := (2 * n + q) / (2 * q)
    let gap : Int := (i : Int) * new.den * 1000000000 * old.num - (k : Int) * old.den * 1000000000 * new.num
    let g := gap / ((new.num * old.num : Nat) : Int)
    (i, if gap ≠ 0 ∧ g = 0 then 1 else g)
  else
    let t := s.alignedNow d + ns * 65536
    let i := nearestFrame new ofs t
    (i, ((i : Int) * new.den * 65536000000000 / new.num + ofs * 65536 - t) / 65536)

/-- Whether `lines` line starts ahead in domain `d` lies at or after boundary N + 1, where now is boundary
N. -/
def afterNext (s : State) (d : Nat) (f : Fmt) (lines : Nat) : Bool :=
  if d = 0 then decide (1 ≤ lines) else decide (s.sys.castLen ≤ s.ticksAhead d f lines)

/-- Whether the next SWITCH slot of a domain begins at or after boundary N + 1 (R240), where now is
boundary N; a domain that does not run has none before it. -/
def switchAfterNext (s : State) (d : Nat) : Bool :=
  if s.running d then
    match s.domFmt d with
    | some f => s.afterNext d f (s.nextSwitch d f).2
    | none => true
  else true

/-- EPOCH of the cycle that contains the instant `lines` line starts ahead in domain `d` (R33, R34), from
the cast cycle length in force. -/
def epochAhead (s : State) (d : Nat) (f : Fmt) (lines : Nat) : Nat :=
  if d = 0 ∧ s.running 0 then s.sys.epoch + lines
  else
    let t := (s.rasOf d).lineTick + lines * f.lpN / f.lpD + 1 - s.castTick
    match (if s.running 0 then s.domFmt 0 else none) with
    | some g => s.sys.epoch + t * g.lpD / g.lpN
    | none => s.sys.epoch + t / 64000

/-- EPOCH of the cycle that contains the instant `wait` ns ahead (R33, R34), from the cast cycle length in force. -/
def epochAfter (s : State) (wait : Nat) : Nat :=
  match (if s.running 0 then s.domFmt 0 else none) with
  | some g => s.sys.epoch + (s.sys.castAge + wait) * g.lpD / g.lpN
  | none => s.sys.epoch + (s.sys.castAge + wait) / 64000

/-- PTP time in ns at the instant `lines` line starts ahead in domain `d`, as predicted now (R34). -/
def nsAhead (s : State) (d : Nat) (f : Fmt) (lines : Nat) : Nat := s.ptpNs + s.ticksAhead d f lines

/-- Whether a switch line `lines` line starts ahead comes before the one that a fired timed command names in domain `d` (R253,
R254). -/
def tooEarly (s : State) (d : Nat) (f : Fmt) (lines : Nat) : Bool :=
  (s.patDom d).notBefore.any (fun w => decide (s.nsAhead d f lines < w))

/-- Whether the next SWITCH slot of a running domain comes before the one that a fired timed command names there (R254). -/
def switchTooEarly (s : State) (d : Nat) : Bool :=
  s.running d && (match s.domFmt d with
    | some f => s.tooEarly d f (s.nextSwitch d f).2
    | none => false)

/-- The flip (R273, R300) that a command applied now gets, as the format in force, the frame index and the lines from now; none while
the domain is stopped or idles for its format (R34, R275). While a format change waits, the command takes effect with it, at
the frame boundary where the new format begins (R261). -/
def flipLines (s : State) (d : Nat) : Option (Fmt × Nat × Nat) :=
  match s.domFmt d with
  | none => none
  | some f =>
    if !s.running d || s.flag F.PAT_BANK_FMT_IDLE d then none
    else
      let (n, l) := s.lineNow d f
      match (if s.fld F.REF_RAS_CFG_FORMAT d = f.code then none else fmtOf (s.fld F.REF_RAS_CFG_FORMAT d)) with
      | some g =>
        let lines := f.lines + 1 - l
        some (f, (s.formatFrame d f g (s.ticksAhead d f lines)).1, lines)
      | none =>
        let (k, lines) := s.nextSwitch d f
        if s.afterNext d f lines && !s.tooEarly d f lines then some (f, n + k, lines)
        else
          let k' := frameAdmits (s.anyHalf d f) n (k + 1)
          some (f, n + k', k' * f.lines + switchLine f.code - l)

/-- The flip's FRAME and FLIP_EPOCH. -/
def predictFlip (s : State) (d : Nat) : Option (Nat × Nat) :=
  (s.flipLines d).map (fun x => (x.2.1 % 4294967296, s.epochAhead d x.1 x.2.2))

/-- The flip's PTP time. -/
def flipNs (s : State) (d : Nat) : Option Nat := (s.flipLines d).map (fun x => s.nsAhead d x.1 x.2.2)

/-- The frame boundary at which a frame-boundary effect applied now takes place, in lines from now (R33). -/
def frameLines (s : State) (d : Nat) : Option (Fmt × Nat) :=
  match s.domFmt d with
  | none => none
  | some f =>
    if !s.running d || s.flag F.PAT_BANK_FMT_IDLE d then none else some (f, f.lines + 1 - (s.lineNow d f).2)

/-- Its FRAME and EPOCH. -/
def predictFrame (s : State) (d : Nat) : Option (Nat × Nat) :=
  (s.frameLines d).map (fun x =>
    let n := match (if s.fld F.REF_RAS_CFG_FORMAT d = x.1.code then none else fmtOf (s.fld F.REF_RAS_CFG_FORMAT d)) with
      | some g => (s.formatFrame d x.1 g (s.ticksAhead d x.1 x.2)).1
      | none => (s.lineNow d x.1).1 + 1
    (n % 4294967296, s.epochAhead d x.1 x.2))

/-- Its PTP time. -/
def frameNs (s : State) (d : Nat) : Option Nat := (s.frameLines d).map (fun x => s.nsAhead d x.1 x.2)

/-- The latest of several predicted instants. -/
def latest (l : List (Option Nat)) : Option Nat :=
  (l.filterMap id).foldl (fun (m : Option Nat) t => some (max t (m.getD 0))) none

/-- The record of the cycle names the bank indices written (R499, section 0x02). -/
def noteBank (s : State) (d : Nat) (t r : List Nat) : State :=
  { s with twn := { s.twn with banksNow := s.twn.banksNow ++ [(d, t, r)] } }

/-- Write the compiled pattern into the inactive bank and request a flip (R240). While a format change waits no flip is
requested, and one that was pending is taken into the new format's bank (R261, R262). -/
def patWriteNow (s : State) (d : Nat) : State :=
  match s.compileFmt d with
  | none => s
  | some f =>
    let k := 1 - s.activeNo d
    let old := s.bank d k
    let new := s.compiled d f
    let b := { new with dirtyT := ascending (old.dirtyT ++ changed old.tmpl new.tmpl),
                        dirtyR := ascending (old.dirtyR ++ changed old.runs new.runs) }
    let s := (s.setBank d k b).noteBank d (changed old.tmpl new.tmpl) (changed old.runs new.runs)
    let s := s.setFld (if k = 0 then F.PAT_BANK_FMT_A else F.PAT_BANK_FMT_B) f.code d
    let fmtChange := s.running d && s.fld F.REF_RAS_STAT_FORMAT_ACTIVE d != f.code
    let s := if fmtChange then s.setFlag F.PAT_BANK_FLIP_PEND false d else s
    s.setPatDom d { s.patDom d with deferred := false, flipReq := !fmtChange, notBefore := none }

/-- Write the compiled pattern (R240); while the copy of R241 runs, or when the next SWITCH comes before boundary N + 1 or before
the one that a timed command names (R254), the write waits for that flip and its copy. -/
def patWrite (s : State) (d : Nat) : State :=
  match s.compileFmt d with
  | none => s
  | some _ =>
    if s.flag F.PAT_BANK_COPY_BUSY d || !s.switchAfterNext d || s.switchTooEarly d then s.setPatDom d { s.patDom d with deferred := true }
    else s.patWriteNow d

/-- Write raw entries into the inactive bank, and request a flip where FLIP is set (R482, R240); they wait as
compiled writes do. -/
def rawWrite (s : State) (d : Nat) (l : List (Bool × Nat × BitVec 128)) (flip : Bool) : State :=
  if s.flag F.PAT_BANK_COPY_BUSY d || (flip && (!s.switchAfterNext d || s.switchTooEarly d)) then
    s.setPatDom d { s.patDom d with rawPend := (s.patDom d).rawPend ++ l, rawFlip := (s.patDom d).rawFlip || flip }
  else
    let k := 1 - s.activeNo d
    let b := l.foldl (fun (b : PatBank) (x : Bool × Nat × BitVec 128) =>
      if x.1 then { b with runs := sset emptyEntry b.runs x.2.1 x.2.2, fwRuns := sset emptyEntry b.fwRuns x.2.1 x.2.2,
                           dirtyR := ascending (b.dirtyR ++ [x.2.1]) }
      else { b with tmpl := sset emptyEntry b.tmpl x.2.1 x.2.2, fwTmpl := sset emptyEntry b.fwTmpl x.2.1 x.2.2,
                    dirtyT := ascending (b.dirtyT ++ [x.2.1]) }) (s.bank d k)
    let ix (run : Bool) : List Nat := (l.filter (fun x => x.1 == run)).map (·.2.1)
    let s := (s.setBank d k b).noteBank d (ix false) (ix true)
    let s := match s.compileFmt d with
      | some f => s.setFld (if k = 0 then F.PAT_BANK_FMT_A else F.PAT_BANK_FMT_B) f.code d
      | none => s
    s.setPatDom d { s.patDom d with flipReq := (s.patDom d).flipReq || flip, raw := true }

/-- Set PEND fields of PAT_ROUTE from the applied table against the active bank. -/
def routePend (s : State) (out : Nat) : State :=
  let n := out - 0x800
  let act := s.fld F.PAT_ROUTE_SRC n
  let want := s.pat.routes.find? (fun r => r.out == out)
  let (src, dl, afv, anc) := match want with
    | some r => (r.src, r.delay, r.afv, r.anc)
    | none => (0xFFFF, 0, false, false)
  let same := act == src && s.fld F.PAT_ROUTE_DELAY n == dl && s.flag F.PAT_ROUTE_AFV n == afv &&
    s.flag F.PAT_ROUTE_ANC_FOLLOW n == anc
  let s := (s.setFld F.PAT_ROUTE_SRC_PEND src n).setFld F.PAT_ROUTE_DELAY_PEND dl n
  ((s.setFlag F.PAT_ROUTE_AFV_PEND afv n).setFlag F.PAT_ROUTE_ANC_PEND anc n).setFlag F.PAT_ROUTE_PEND
    (!same) n

/-- The active route of an output as the new active bank has it (PAT_ROUTE). -/
def routeFlip (s : State) (d : Nat) (routes : List Route) (out : Nat) : State :=
  let n := out - 0x800
  let (src, dl, afv, anc) := match routes.find? (fun r => r.out == out) with
    | some r => (r.src, r.delay, r.afv, r.anc)
    | none => (0xFFFF, 0, false, false)
  let ch := !(s.fld F.PAT_ROUTE_SRC n == src && s.fld F.PAT_ROUTE_DELAY n == dl &&
    s.flag F.PAT_ROUTE_AFV n == afv && s.flag F.PAT_ROUTE_ANC_FOLLOW n == anc)
  let s := (s.setFld F.PAT_ROUTE_SRC src n).setFld F.PAT_ROUTE_DELAY dl n
  let s := (s.setFlag F.PAT_ROUTE_AFV afv n).setFlag F.PAT_ROUTE_ANC_FOLLOW anc n
  let s := if ch then s.setPair F.PAT_ROUTE_CHG_EPOCH_W2 F.PAT_ROUTE_CHG_EPOCH_W3 s.sys.epoch n else s
  let _ := d
  s.routePend out

/-- A flip (R239): the inactive bank becomes active, FLIP_PEND clears, EPOCH and FRAME are recorded, the
copy starts (R241), admitted window sums are taken (PAT_USE word 2), layer parameters and routes of the
new bank come into force (R273, R325). -/
def flip (s : State) (d : Nat) : State :=
  let s := s.setFld F.PAT_BANK_ACTIVE (1 - s.activeNo d) d
  let s := (s.setFlag F.PAT_BANK_FLIP_PEND false d).setFlag F.PAT_BANK_COPY_BUSY true d
  let s := s.setPair F.PAT_FLIP_EPOCH_LO_FLIP_EPOCH F.PAT_FLIP_EPOCH_HI_FLIP_EPOCH s.sys.epoch d
  let s := s.setFld F.PAT_FLIP_FRAME_FRAME (s.frameOf d) d
  let b := s.activeBank d
  let s := match s.domFmt d with
    | some f =>
      (s.setFld F.PAT_USE_TAG_ADM (min 127 (bankWorst b f (entryN s.ancTpf) (fun x => x.2.1)).1) d).setFld
        F.PAT_USE_BW_ADM (min 65535 (bankWorst b f (entryN s.ancTpf) (fun x => x.2.2)).1) d
    | none => s
  let outs := (s.domOuts d).map VOut.flow
  let s := outs.foldl (fun s o => s.routeFlip d b.routes o) s
  let due := s.chm.next.filter (fun p =>
    s.fld F.CHM_PIPE_CFG_DOMAIN (s.layerFld p.layer F.CHM_LAYER_CFG_PIPE) == d)
  let s := due.foldl (fun s p => (numbered 0 p.words).foldl (fun s q =>
    s.setReg (F.CHM_LAYER_CFG_EN.addr p.layer 0 + 4 * q.1) q.2) s) s
  { s with chm := { s.chm with next := s.chm.next.filter (fun p => !due.contains p) } }

/-- A guard failure (R231, R242): counted, flagged, raised, and firmware queues the repair (R243). -/
def guardFail (s : State) (d : Nat) (isRun : Bool) (i : Nat) : State :=
  let s := (s.incFld F.PAT_STAT_GUARD_ERR).setFlag F.PAT_STAT_GUARD_SEEN true
  let s := s.raise fltPatGuard [d, b2n isRun, i]
  let p := s.patDom d
  if p.repairs.contains (isRun, i) then s else s.setPatDom d { p with repairs := p.repairs ++ [(isRun, i)] }

/-- Copy one store's written entries from the new active bank, each with its guard checked (R241, R242):
the target and the indices that failed. -/
def copyEntries (src dst : List (Nat × BitVec 128)) : List Nat → List (Nat × BitVec 128) × List Nat
  | [] => (dst, [])
  | i :: is =>
    let e := sget emptyEntry src i
    if guardOk e then copyEntries src (sset emptyEntry dst i e) is
    else
      let (d, bad) := copyEntries src dst is
      (d, i :: bad)

/-- Writes that waited for a SWITCH slot and its copy are made (R240). -/
def patWaiting (s : State) (d : Nat) : State :=
  if s.flag F.PAT_BANK_COPY_BUSY d then s
  else
    let s := if (s.patDom d).deferred then s.patWrite d else s
    let p := s.patDom d
    if p.rawPend.isEmpty then s
    else (s.setPatDom d { p with rawPend := [], rawFlip := false }).rawWrite d p.rawPend p.rawFlip

/-- The copy after a flip completes (R241, R242): the banks are equal but for failed guards; writes that
waited are made now (R240). -/
def bankCopyDone (s : State) (d : Nat) : State :=
  if !s.flag F.PAT_BANK_COPY_BUSY d then s
  else
    let a := s.activeBank d
    let k := 1 - s.activeNo d
    let b := s.bank d k
    let (t, badT) := copyEntries a.tmpl b.tmpl a.dirtyT
    let (r, badR) := copyEntries a.runs b.runs a.dirtyR
    let s := s.setBank d k { b with tmpl := t, runs := r, fwTmpl := a.fwTmpl, fwRuns := a.fwRuns,
                                    dirtyT := [], dirtyR := [], routes := a.routes }
    let s := s.setBank d (s.activeNo d) { a with dirtyT := [], dirtyR := [] }
    let s := s.setFld (if k = 0 then F.PAT_BANK_FMT_A else F.PAT_BANK_FMT_B)
      (s.fld (if k = 0 then F.PAT_BANK_FMT_B else F.PAT_BANK_FMT_A) d) d
    let s := s.setFlag F.PAT_BANK_COPY_BUSY false d
    let s := badT.foldl (fun s i => s.guardFail d false i) s
    let s := badR.foldl (fun s i => s.guardFail d true i) s
    s.patWaiting d

/-- Whether the inactive bank of domain `d` is compiled for a format that waits to begin (R261). -/
def formatWaits (s : State) (d : Nat) : Bool :=
  s.running d && s.fld (if s.activeNo d = 0 then F.PAT_BANK_FMT_B else F.PAT_BANK_FMT_A) d == s.fld F.REF_RAS_CFG_FORMAT d &&
    s.fld F.REF_RAS_CFG_FORMAT d != s.fld F.REF_RAS_STAT_FORMAT_ACTIVE d

/-- The flip requests and repairs of the boundary (R240, R243): FLIP_PEND is set for writes of the cycle
before; writes that waited for a SWITCH slot at which no bank flipped are made; queued repairs are written into the inactive
bank and flip at the next boundary's request. -/
def patBoundary (s : State) (d : Nat) : State :=
  let p := s.patDom d
  let s := if p.flipReq then s.setFlag F.PAT_BANK_FLIP_PEND true d else s
  let s := (s.setPatDom d { p with flipReq := false }).patWaiting d
  let p := s.patDom d
  if p.repairs.isEmpty || s.flag F.PAT_BANK_COPY_BUSY d || s.formatWaits d then s
  else
    let k := 1 - s.activeNo d
    let b := p.repairs.foldl (fun (b : PatBank) x =>
      if x.1 then { b with runs := sset emptyEntry b.runs x.2 (sget emptyEntry b.fwRuns x.2),
                           dirtyR := ascending (b.dirtyR ++ [x.2]) }
      else { b with tmpl := sset emptyEntry b.tmpl x.2 (sget emptyEntry b.fwTmpl x.2),
                    dirtyT := ascending (b.dirtyT ++ [x.2]) }) (s.bank d k)
    let s := s.setBank d k b
    let s := p.repairs.foldl (fun s x => s.event blkPat 1 0x0103 [d, b2n x.1, x.2]) s
    s.setPatDom d { s.patDom d with repairs := [], flipReq := true }

/-- Both banks cleared with the pending flip (R263, Data reset and PAT_CLEAR). -/
def patClear (s : State) (d : Nat) : State :=
  let s := (s.setBank d 0 PatBank.empty).setBank d 1 PatBank.empty
  let s := (s.setFlag F.PAT_BANK_FLIP_PEND false d).setFlag F.PAT_BANK_COPY_BUSY false d
  s.setPatDom d { PatDom.reset with slips := (s.patDom d).slips, slipHold := (s.patDom d).slipHold }

/-! ## Slips (R248 to R250) -/

/-- The slips of domain `d` in its last SLIP_WIN frames (R250). -/
def slipList (s : State) (d : Nat) : List SlipRec :=
  (s.patDom d).slips.filter (fun x => decide ((s.rasOf d).frameN < x.frame + s.fld F.PAT_DOM_CFG_SLIP_WIN d))

/-- PAT_SLIP_CNT.IN_WIN. -/
def slipsInWin (s : State) (d : Nat) : Nat := min 255 (((s.slipList d).map SlipRec.n).foldl (· + ·) 0)

/-- Slips of one entry's execution: counted, one event, PAT_SLIP once, and Degrade when the window
reaches its threshold (R249, R250). -/
def slip (s : State) (d : Nat) (isRead : Bool) (n flow dest channel line slot : Nat) (unit : Option (UnitKind × Nat)) :
    State :=
  if n = 0 then s
  else
    let s := if isRead then s.addFld F.PAT_SLIP_CNT_READ n d else s.addFld F.PAT_SLIP_CNT_WRITE n d
    let s := s.event blkPat 1 0x0101 [flow, dest, n, channel, s.frameOf d, line, slot]
    let s := s.raise fltPatSlip [d, flow, dest, n]
    let win := s.fld F.PAT_DOM_CFG_SLIP_WIN d
    let fr := (s.rasOf d).frameN
    let u := ((unit.map (fun p => p.1.num * 256 + p.2)).getD 0xFFFF)
    let l := s.slipList d ++ [⟨fr, n, channel, u⟩]
    let sum := (l.map SlipRec.n).foldl (· + ·) 0
    let s := s.setPatDom d { s.patDom d with slips := l }
    if s.fld F.PAT_DOM_CFG_SLIP_THR d ≤ sum ∧ (s.patDom d).slipHold ≤ fr then
      let s := s.setPatDom d { s.patDom d with slipHold := fr + win }
      let most (g : SlipRec → Nat) : Nat := (l.foldl (fun (b : Nat × Nat) x =>
        let t := ((l.filter (fun y => g y == g x)).map SlipRec.n).foldl (· + ·) 0
        if b.1 < t then (t, g x) else b) (0, 0)).2
      s.raise fltPatSlipThr [d, most SlipRec.channel, most SlipRec.unit]
    else s

end State
end Sys2Proof.Machine
end

