-- ==== Sys2Proof/Machine/Reference.lean ====
section
/-! DEFINITION. Reference inputs, the selectors and DPLLs, holdover and clock outputs (chapter 03). -/

namespace Sys2Proof.Machine

/-- DPLL states of R89. -/
def dpllOff : Nat := 0
def dpllFree : Nat := 1
def dpllAcq : Nat := 2
def dpllLocked : Nat := 3
def dpllAbs : Nat := 4
def dpllHold : Nat := 5

/-- CUR_IN when nothing is followed. -/
def noInput : Nat := 15

namespace State

/-- The family an input accepts (R72): `none` is any. A video input that names no admitted flow accepts any family (DESIGN
CHOICE, log entry 97: R72 does not say). -/
def inputFamily (s : State) (i : Nat) : Option Nat :=
  if i < 2 then
    match s.fld F.REF_IN_CFG_KIND i with
    | 0 => some 0
    | 1 => some 2
    | _ => (fmtOf (s.fld F.REF_IN_CFG_TRI_FMT i)).map Fmt.family
  else if i < 5 then none
  else
    match s.inFlow (s.fld F.REF_IN_FLOW_FLOW (i - 5)) with
    | some x => (fmtOf x.format).map Fmt.family
    | none => none

/-- The family of DPLL `d`'s domain format: the format in force, else the one configured. -/
def dpllFamily (s : State) (d : Nat) : Option Nat :=
  match s.domFmt d with
  | some f => some f.family
  | none => (fmtOf (s.fld F.REF_RAS_CFG_FORMAT d)).map Fmt.family

/-- REF_DPLL_CAND.FAMILY_BAD (R73), computed. -/
def familyBad (s : State) (d i : Nat) : Bool :=
  match s.inputFamily i, s.dpllFamily d with
  | some a, some b => a != b
  | _, _ => false

/-- Whether input `i` is a qualified, enabled candidate of DPLL `d` with a matching family (R80). -/
def candidate (s : State) (d i : Nat) : Bool :=
  s.flag F.REF_DPLL_CAND_EN d i && s.flag F.REF_IN_STAT_QUALIFIED i && !s.familyBad d i

/-- Rank of an input for a DPLL. -/
def rankOf (s : State) (d i : Nat) : Nat := s.fld F.REF_DPLL_CAND_RANK d i

/-- The better of two candidates: the lower rank, then the lower index (R80). -/
def betterCand (s : State) (d : Nat) (best : Option Nat) (i : Nat) : Option Nat :=
  match best with
  | none => some i
  | some b => if s.rankOf d i < s.rankOf d b then some i else some b

/-- The best candidate of DPLL `d` outside a set (R80). -/
def bestCand (s : State) (d : Nat) (except : List Nat) : Option Nat :=
  ((List.range 9).filter (fun i => s.candidate d i && !except.contains i)).foldl (s.betterCand d) none

/-- Continue the aligned time scale from now at a rate in 2^-40 (R79, R84). -/
def alignRebase (s : State) (d : Nat) (rate : Int) : State :=
  s.setDpll d { s.dpllOf d with alBase := s.alignedNow d, alTick := s.tick, alRate := rate }

/-- Start the aligned time of a DPLL that has selected nothing (R79): PTP time when valid, else tick time, at the local
oscillator's nominal rate. -/
def alignFresh (s : State) (d : Nat) : State :=
  s.setDpll d { s.dpllOf d with
    alBase := if s.flag F.TIM_STATUS_TIME_VALID then s.ptpNow else s.tick * 65536, alTick := s.tick, alRate := 0 }

/-- Set a bit of REF_HIST. -/
def hist (s : State) (f : Fld) (d : Nat) : State := s.setFlag f true d

/-- The phase ambiguity of an input in ns (R84): 1 s for CLKIN with PPSIN, the reference's frame
period for black burst, tri-level and video; none for the rest. -/
def ambiguity (s : State) (i : Nat) : Nat :=
  if i = 2 then 1000000000
  else if i = 3 ∨ i = 4 then 0
  else
    let f :=
      if i < 2 then
        match s.fld F.REF_IN_CFG_KIND i with
        | 0 => fmtOf 0x40
        | 1 => fmtOf 0x41
        | _ => fmtOf (s.fld F.REF_IN_CFG_TRI_FMT i)
      else (s.inFlow (s.fld F.REF_IN_FLOW_FLOW (i - 5))).bind (fun x => fmtOf x.format)
    match f with
    | some f => 1000000000 * f.den / f.num
    | none => 0

/-- A phase reduced to the shorter direction modulo an ambiguity (R84). -/
def shorter (amb : Nat) (p : Int) : Int :=
  if amb = 0 then p
  else
    let r := p % (amb : Int)
    if 2 * r ≤ (amb : Int) then r else r - amb

/-- A measured offset in units of 10 ppb as a rate in 2^-40 (R47, R74). -/
def freqRate (f : Int) : Int := f * 1099511627776 / 100000000

/-- The aligned time that input `i` gives at its selection (R79), in 2^-16 ns: PTP time; the partner's time; with CLKIN and PPSIN
the second in progress by PTP time or the tick counter, with a free fraction, since no row brings the edges of PPSIN; with a video
input the DPLL's own time moved so that the input's newest frame start falls on the nearest frame boundary; otherwise moved by a
phase that is free within half the reference's frame period. -/
def refTime (s : State) (d i : Nat) : Nat × State :=
  if i = 3 then (s.ptpNow, s)
  else if i = 4 then (s.ref.partner.1 + (s.tick - s.ref.partner.2) * 65536, s)
  else
    let start := (s.ref.edges.find? (fun e => e.1 == i)).map (·.2)
    let fmt := (s.inFlow (s.fld F.REF_IN_FLOW_FLOW (i - 5))).bind (fun x => fmtOf x.format)
    match (if 5 ≤ i then start else none), fmt with
    | some e, some f =>
      let at' := s.alignedNow d / 65536 - (s.tick - e)
      ((s.alignedNow d : Int) - frameOffset f 0 at' * 65536 |>.toNat, s)
    | _, _ =>
    let (v, s) := s.fresh 32
    if i = 2 then
      let t := if s.flag F.TIM_STATUS_TIME_VALID then s.ptpNow else s.tick * 65536
      (t / secUnits * secUnits + v % 1000000000 * 65536, s)
    else ((s.alignedNow d + shorter (s.ambiguity i) (sext 32 v) * 65536).toNat, s)

/-- Phase still to absorb grows by `ns` (R54, R71, R84): a DPLL that follows a reference absorbs, and the raster is not aligned
until it has. -/
def absorbBy (s : State) (d : Nat) (ns : Int) : State :=
  if ns = 0 then s
  else
    let s := (s.setFlag F.REF_RAS_STAT_ALIGNED false d).setFld F.REF_DPLL_STAT_ABS_REM
      (toField 32 (rateClamp (s.sfld F.REF_DPLL_STAT_ABS_REM d + ns))) d
    let st := s.fld F.REF_DPLL_STAT_STATE d
    if st = dpllLocked ∨ st = dpllAcq then s.setFld F.REF_DPLL_STAT_STATE dpllAbs d else s

/-- Follow input `i` (R84): the switch is hitless, and a running generator absorbs the phase between its output and the new
reference in the shorter direction. A generator that does not run acquires at once. The first selection out of Free-run is no
switch (DESIGN CHOICE, log entry 98: no rule says). -/
def followInput (s : State) (d i : Nat) : State :=
  let old := s.alignedNow d
  let first := s.fld F.REF_DPLL_STAT_STATE d = dpllFree
  let (t, s) := s.refTime d i
  let s := s.setFld F.REF_DPLL_STAT_CUR_IN i d
  let s := s.setDpll d { s.dpllOf d with
    alBase := t, alTick := s.tick, alRate := freqRate (s.sfld F.REF_IN_STAT_FREQ i),
    wtrMet := (s.dpllOf d).wtrMet.filter (· != i), peersAside := [], seen := true, followed := true }
  let s := if first then s else s.hist F.REF_HIST_SWITCH d
  if s.running d then
    let ph := shorter (s.ambiguity i) (((t : Int) - old) / 65536)
    let s := s.setFld F.REF_DPLL_STAT_ABS_REM (toField 32 (rateClamp ph)) d
    (s.setFld F.REF_DPLL_STAT_STATE dpllAbs d).setFlag F.REF_RAS_STAT_ALIGNED false d
  else s.setFld F.REF_DPLL_STAT_STATE dpllAcq d

/-- Gates of 50 ms in HO_AVG seconds (R74, R90). -/
def avgGates (s : State) (d : Nat) : Nat := s.fld F.REF_DPLL_HO_HO_AVG d * 20

/-- The mean frequency over the last HO_AVG seconds in which the DPLL was locked, or over all of them where they are fewer
(R90). -/
def holdEstimate (s : State) (d : Nat) : Int :=
  let l := lastN (s.avgGates d) (s.dpllOf d).lockLog
  if l.isEmpty then 0 else l.foldl (· + ·) 0 / (l.length : Int)

/-- Enter holdover (R81, R90): the scale of the reference last followed goes on at the estimate, from the present output phase
where an absorption was under way (R86); REF_HOLDOVER is raised. `aside` are the peers that R88 puts aside. -/
def enterHoldover (s : State) (d : Nat) (aside : List Nat) : State :=
  let est := s.holdEstimate d
  let now := ((s.alignedNow d : Int) - s.sfld F.REF_DPLL_STAT_ABS_REM d * 65536).toNat
  let s := s.setDpll d { s.dpllOf d with alBase := now, alTick := s.tick, alRate := est, peersAside := aside }
  let s := s.setFld F.REF_DPLL_STAT_HO_FREQ (toField 32 (rateClamp est)) d
  let s := (s.setFld F.REF_DPLL_STAT_CUR_IN noInput d).setFld F.REF_DPLL_STAT_STATE dpllHold d
  let s := s.setFld F.REF_DPLL_STAT_ABS_REM 0 d
  (s.hist F.REF_HIST_HOLDOVER d).raise 38 [d]

/-- Whether a peer's frequency lies within HO_TOL of the holdover estimate (R88): FREQ counts 10 ppb,
the estimate 2^-40, the tolerance 0.1 ppm. -/
def peerWithin (s : State) (d i : Nat) : Bool :=
  decide ((s.sfld F.REF_IN_STAT_FREQ i * 1099511627776 - s.holdEstimate d * 100000000).natAbs ≤
    s.fld F.REF_DPLL_HO_HO_TOL d * 10 * 1099511627776)

/-- Switch from a reference that is gone; an absorption under way ends in holdover first (R81, R86). -/
def switchTo (s : State) (d b : Nat) : State :=
  if s.fld F.REF_DPLL_STAT_STATE d = dpllAbs then (s.enterHoldover d []).followInput d b else s.followInput d b

/-- The current reference `i` of DPLL `d` is gone (R81, R83, R86, R88): a forced input is not replaced; on a loss the peers of
its rank are taken only within HO_TOL. -/
def currentLost (s : State) (d i : Nat) (loss : Bool) : State :=
  if s.flag F.REF_DPLL_CFG_FORCE_EN d then
    let s := s.enterHoldover d []
    if s.fld F.REF_DPLL_CFG_FORCE_IN d = i then s.hist F.REF_HIST_FORCED_LOST d else s
  else
    match s.bestCand d [i] with
    | none => s.enterHoldover d []
    | some b =>
      if loss ∧ s.rankOf d b = s.rankOf d i then
        let peers := (List.range 9).filter (fun j => j != i && s.candidate d j && s.rankOf d j == s.rankOf d i)
        match peers.find? (fun j => s.peerWithin d j) with
        | some j => s.switchTo d j
        | none => s.enterHoldover d peers
      else s.switchTo d b

/-- What the selector does when its candidates, its configuration or a family changes (R73, R80, R83): the forced input while it
is qualified; a reference where none is followed; another one where the present one is no longer allowed. Nothing while an
absorption runs (R85). -/
def review (s : State) (d : Nat) : State :=
  let st := s.fld F.REF_DPLL_STAT_STATE d
  let cur := s.fld F.REF_DPLL_STAT_CUR_IN d
  if st = dpllOff ∨ st = dpllAbs then s
  else if s.flag F.REF_DPLL_CFG_FORCE_EN d then
    let i := s.fld F.REF_DPLL_CFG_FORCE_IN d
    if s.flag F.REF_IN_STAT_QUALIFIED i && !s.familyBad d i then (if cur = i then s else s.followInput d i)
    else if cur = noInput ∨ s.candidate d cur then s
    else s.currentLost d cur false
  else if cur = noInput then
    match s.bestCand d (s.dpllOf d).peersAside with
    | some i => s.followInput d i
    | none => s
  else if s.candidate d cur then s
  else s.currentLost d cur false

/-- The selectors of all four DPLLs. -/
def reviewAll (s : State) : State := (List.range 4).foldl (fun (s : State) d => s.review d) s

/-- Input `i` disqualifies (R76): every DPLL that has it as a candidate or follows it records it, and one that follows it
reacts. -/
def disqualify (s : State) (i : Nat) (loss : Bool) : State :=
  let was := s.flag F.REF_IN_STAT_QUALIFIED i
  let s := if loss then (s.setFlag F.REF_IN_STAT_PRESENT false i).setFlag F.REF_IN_STAT_LOS_SEEN true i else s
  let s := if was then (s.setFlag F.REF_IN_STAT_QUALIFIED false i).setFlag F.REF_IN_STAT_DISQ_SEEN true i else s
  (List.range 4).foldl (fun s d =>
    let follows := s.fld F.REF_DPLL_STAT_CUR_IN d == i && s.fld F.REF_DPLL_STAT_STATE d != dpllOff
    if !s.flag F.REF_DPLL_CAND_EN d i && !follows then s
    else
      let s := if loss then s.hist F.REF_HIST_LOS d else s
      let s := if was then s.hist F.REF_HIST_DISQ d else s
      let s := s.setDpll d { s.dpllOf d with wtrMet := (s.dpllOf d).wtrMet.filter (· != i) }
      if follows then s.currentLost d i loss else s) s

/-- A loss of a reference input (R72, R76). -/
def refLoss (s : State) (i : Nat) : State :=
  if s.flag F.REF_IN_CFG_EN i then s.disqualify i true else s

/-- An input whose EN is cleared is no longer measured or qualified (REF_IN_CFG.EN). -/
def inputOff (s : State) (i : Nat) : State :=
  let s := if s.flag F.REF_IN_STAT_QUALIFIED i then s.disqualify i false else s
  (s.setFlag F.REF_IN_STAT_PRESENT false i).setFlag F.REF_IN_STAT_IN_WIN false i

/-- A 50 ms gate of input `i` measured `f` in units of 10 ppb against the local oscillator (R74, R76, R87). The servo state stands
for the presence and the window test of the PTP input. A DPLL that follows the input takes its rate, and a locked one keeps
it for the holdover estimate (R90). -/
def refGate (s : State) (i : Nat) (f : Int) : State :=
  if !s.flag F.REF_IN_CFG_EN i ∨ 9 ≤ i then s
  else
    let s := s.setFld F.REF_IN_STAT_FREQ (toField 16 f) i
    let s := if i = 3 then s
      else
        let s := s.setFlag F.REF_IN_STAT_PRESENT true i
        let inW := decide (f.natAbs ≤ s.fld F.REF_IN_CFG_WIN i * 100)
        let s := s.setFlag F.REF_IN_STAT_IN_WIN inW i
        let n := if inW then 0 else s.ref.outGates.getD i 0 + 1
        let s := { s with ref := { s.ref with outGates := s.ref.outGates.set i n } }
        if 2 ≤ n ∧ s.flag F.REF_IN_STAT_QUALIFIED i then s.disqualify i false else s
    (List.range 4).foldl (fun s d =>
      let s := if s.fld F.REF_DPLL_STAT_CUR_IN d = i then
          let s := s.alignRebase d (freqRate f)
          if s.fld F.REF_DPLL_STAT_STATE d = dpllLocked then
            s.setDpll d { s.dpllOf d with lockLog := lastN (s.avgGates d) ((s.dpllOf d).lockLog ++ [freqRate f]) }
          else s
        else s
      let dis := (List.range 9).any (fun j => j != i && s.candidate d i && s.candidate d j &&
        s.rankOf d i == s.rankOf d j &&
        decide (s.fld F.REF_DPLL_CFG_PEER_THR d * 10 <
          (s.sfld F.REF_IN_STAT_FREQ i - s.sfld F.REF_IN_STAT_FREQ j).natAbs))
      if dis then s.hist F.REF_HIST_PEER_DISAGREE d else s) s

/-- Input `i` has been present, in its window and free of loss for QUAL seconds (R75). -/
def refQualified (s : State) (i : Nat) : State :=
  if s.flag F.REF_IN_CFG_EN i && s.flag F.REF_IN_STAT_PRESENT i && s.flag F.REF_IN_STAT_IN_WIN i then
    let s := s.setFlag F.REF_IN_STAT_QUALIFIED true i
    ((List.range 4).foldl (fun s d =>
      if s.candidate d i then s.setDpll d { s.dpllOf d with seen := true } else s) s).reviewAll
  else s

/-- Wait-to-restore of input `i` for DPLL `d` ended (R82, R85). -/
def refWtr (s : State) (d i : Nat) : State :=
  let cur := s.fld F.REF_DPLL_STAT_CUR_IN d
  let better := cur = noInput ∨ s.rankOf d i < s.rankOf d cur
  if s.flag F.REF_DPLL_CFG_REVERTIVE d && !s.flag F.REF_DPLL_CFG_FORCE_EN d && s.candidate d i &&
      s.fld F.REF_DPLL_STAT_STATE d != dpllOff && decide better && cur != i then
    if s.fld F.REF_DPLL_STAT_STATE d = dpllAbs then
      s.setDpll d { s.dpllOf d with wtrMet := (s.dpllOf d).wtrMet ++ [i] }
    else s.followInput d i
  else s

/-- Phase absorption of DPLL `d` completed (R84, R85): locked and aligned; a better reference that met wait-to-restore meanwhile is
then taken, where the selection is still revertive (R82) and not forced (R83), and a change that waited is looked at. -/
def absorbDone (s : State) (d : Nat) : State :=
  if s.fld F.REF_DPLL_STAT_STATE d ≠ dpllAbs ∧ s.flag F.REF_RAS_STAT_ALIGNED d then s
  else
    let s := s.setFld F.REF_DPLL_STAT_ABS_REM 0 d
    let s := if s.fld F.REF_DPLL_STAT_STATE d = dpllAbs then s.setFld F.REF_DPLL_STAT_STATE dpllLocked d else s
    let s := if s.running d then s.setFlag F.REF_RAS_STAT_ALIGNED true d else s
    let s := s.hist F.REF_HIST_ABS_DONE d
    let revert := s.flag F.REF_DPLL_CFG_REVERTIVE d && !s.flag F.REF_DPLL_CFG_FORCE_EN d
    match (if revert then ((s.dpllOf d).wtrMet.filter (fun i => s.candidate d i)).foldl (s.betterCand d) none else none) with
    | some i => if s.rankOf d i < s.rankOf d (s.fld F.REF_DPLL_STAT_CUR_IN d) then s.followInput d i else s.review d
    | none => s.review d

/-- DPLL `d` met its lock limits for 1 s (R89). -/
def dpllLock (s : State) (d : Nat) : State :=
  if s.fld F.REF_DPLL_STAT_STATE d = dpllAcq then s.setFld F.REF_DPLL_STAT_STATE dpllLocked d else s

/-- DPLL `d`'s error left the lock limits (R89). -/
def dpllUnlock (s : State) (d : Nat) : State :=
  if s.fld F.REF_DPLL_STAT_STATE d = dpllLocked then
    (s.setFld F.REF_DPLL_STAT_STATE dpllAcq d).hist F.REF_HIST_LOCK_LOST d
  else s

/-- The local oscillator is the OCXO (R74): one is selected, present and within its limits; otherwise it is the crystal. -/
def onOcxo (s : State) : Bool := s.fld F.REF_OSC_OSC != 0 && s.flag F.REF_OSC_OSC_OK

/-- The OSCIN input is chosen (REF_OSC): OSC_OK then tells whether an OCXO is there, which the environment decides: a free bit
(DESIGN CHOICE, log entry 99). -/
def oscChosen (s : State) : State :=
  if s.fld F.REF_OSC_OSC = 0 then s.setFlag F.REF_OSC_OSC_OK false
  else
    let (v, s) := s.fresh 1
    s.setFld F.REF_OSC_OSC_OK v

/-- The selected OCXO failed (R91): measurement and holdover continue on the crystal. -/
def ocxoFail (s : State) : State :=
  if s.fld F.REF_OSC_OSC = 0 then s
  else (s.setFlag F.REF_OSC_OSC_FAIL true).setFlag F.REF_OSC_OSC_OK false

/-- A phase outlier on input `i` (R77): counted, and ignored by the loop. -/
def refOutlier (s : State) (i : Nat) : State :=
  if !s.flag F.REF_IN_CFG_EN i then s
  else
    let s := s.incFld F.REF_IN_STAT_OUTLIER i
    (List.range 4).foldl (fun s d =>
      if s.fld F.REF_DPLL_STAT_CUR_IN d = i then s.hist F.REF_HIST_OUTLIER d else s) s

/-- The PTP input while the servo is locked (R72, R74): present, and the servo state stands for the window test. -/
def ptpPresent (s : State) : State :=
  if s.flag F.REF_IN_CFG_EN 3 then (s.setFlag F.REF_IN_STAT_PRESENT true 3).setFlag F.REF_IN_STAT_IN_WIN true 3 else s

/-- Start DPLL `d` with its generator (R89): it follows a reference where one may be selected; otherwise it runs free where no
candidate has qualified since reset, and is in holdover where one has. -/
def dpllStart (s : State) (d : Nat) : State :=
  if s.fld F.REF_DPLL_STAT_STATE d ≠ dpllOff then s
  else
    let x := s.dpllOf d
    let s := if x.followed then s else s.alignFresh d
    let s := (s.setFld F.REF_DPLL_STAT_STATE (if x.seen then dpllHold else dpllFree) d).review d
    if s.fld F.REF_DPLL_STAT_STATE d = dpllHold then s.enterHoldover d [] else s

/-- Stop DPLL `d` with its generator (R89). A scale that followed a reference goes on at the holdover estimate (R79). -/
def dpllStop (s : State) (d : Nat) : State :=
  let s := if s.fld F.REF_DPLL_STAT_CUR_IN d = noInput then s else s.alignRebase d (s.holdEstimate d)
  let s := s.setDpll d { s.dpllOf d with wtrMet := [], peersAside := [] }
  ((s.setFld F.REF_DPLL_STAT_STATE dpllOff d).setFld F.REF_DPLL_STAT_CUR_IN noInput d).setFld F.REF_DPLL_STAT_ABS_REM 0 d

/-- Clock outputs whose change waits for a frame boundary of domain `d` take it (R94). -/
def clkoutApply (s : State) (d : Nat) : State :=
  let due := s.ref.clkPend.filter (fun p => p.2 % 4 == d)
  let s := due.foldl (fun s p => s.setReg (F.REF_CLKOUT_CFG_EN.addr p.1 0) (BitVec.ofNat 32 p.2)) s
  { s with ref := { s.ref with clkPend := s.ref.clkPend.filter (fun p => p.2 % 4 != d) } }

end State

/-! ## The commands of family 0x08xx on references -/

/-- REF_INPUT (R74): the input's configuration word and, for inputs 5 to 8, its flow. -/
def applyRefInput (c : Cmd) (s : State) : CmdResult :=
  let i := byteAt c.params 0
  let w := u32 c.params 4
  let fl := u16 c.params 8
  guarded [lenIs c 12, (decide (8 < i), rej 0x0108 0),
    (bitsOf w 25 24 == 3, rej 0x0108 4), (bitsOf w 23 16 == 0, rej 0x0108 4),
    (bitsOf w 15 8 == 0, rej 0x0108 4), (!inRanges legalFormats (bitsOf w 7 0), rej 0x0108 4),
    (decide (5 ≤ i ∧ 0x7FF < fl), rej 0x0108 8)] fun _ =>
    let s := s.setFld F.REF_IN_CFG_EN (bitsOf w 31 31) i
    let s := (s.setFld F.REF_IN_CFG_KIND (bitsOf w 25 24) i).setFld F.REF_IN_CFG_WIN (bitsOf w 23 16) i
    let s := (s.setFld F.REF_IN_CFG_QUAL (bitsOf w 15 8) i).setFld F.REF_IN_CFG_TRI_FMT (bitsOf w 7 0) i
    let s := if 5 ≤ i then s.setFld F.REF_IN_FLOW_FLOW fl (i - 5) else s
    let s := if i = 3 ∧ s.fld F.TIM_STATUS_SERVO = 3 then s.ptpPresent else s
    .ok (if bitsOf w 31 31 = 0 then s.inputOff i else s).reviewAll []

/-- DPLL_CFG (R80, R83, R92): configuration, holdover word and the nine candidate bytes; the selector then looks at its
choice anew, after an absorption under way (R85). -/
def applyDpllCfg (c : Cmd) (s : State) : CmdResult :=
  let d := byteAt c.params 0
  let w := u32 c.params 4
  let h := u32 c.params 8
  guarded [lenIs c 24, (decide (3 < d), rej 0x0108 0), (decide (4 < bitsOf w 27 25), rej 0x0108 4),
    (decide (8 < bitsOf w 23 20), rej 0x0108 4), (bitsOf w 19 12 == 0, rej 0x0108 4),
    (bitsOf h 15 0 == 0, rej 0x0108 8)] fun _ =>
    let s := s.setReg (F.REF_DPLL_CFG_BW.addr d 0) (BitVec.ofNat 32 w)
    let s := (s.setFld F.REF_DPLL_HO_HO_TOL (bitsOf h 23 16) d).setFld F.REF_DPLL_HO_HO_AVG (bitsOf h 15 0) d
    let s := (List.range 9).foldl (fun s i =>
      let b := byteAt c.params (12 + i)
      (s.setFld F.REF_DPLL_CAND_EN (b / 128) d i).setFld F.REF_DPLL_CAND_RANK (b % 16) d i) s
    .ok (s.review d) []

/-- CLKOUT (R94): a change of FREQ or DPLL waits for the next frame boundary of the newly named DPLL's
domain; a stopped domain takes it at once. -/
def applyClkout (c : Cmd) (s : State) : CmdResult :=
  let o := byteAt c.params 0
  let w := u32 c.params 4
  guarded [lenIs c 8, (decide (8 < o), rej 0x0108 0),
    (decide (o < 8 ∧ 9 < bitsOf w 7 4), rej 0x0108 4)] fun _ =>
    let w' := (if o < 8 then w - bitsOf w 3 3 * 8 else w) % 4294967296
    let w' := bitsOf w' 31 31 * 2147483648 + bitsOf w' 7 4 * 16 + bitsOf w' 3 3 * 8 + bitsOf w' 1 0
    if s.running (w' % 4) then
      .ok { s with ref := { s.ref with clkPend := upsert (fun p => p.1 == o) (o, w') s.ref.clkPend } } []
        (some ((s.predictFrame (w' % 4)).map (·.2))) (s.frameNs (w' % 4))
    else .ok (s.setReg (F.REF_CLKOUT_CFG_EN.addr o 0) (BitVec.ofNat 32 w')) []

/-- OSC_SEL (R91): the OCXO input frequency. -/
def applyOscSel (c : Cmd) (s : State) : CmdResult :=
  guarded [lenIs c 4, (decide (2 < byteAt c.params 0), rej 0x0108 0)] fun _ =>
    .ok (s.setFld F.REF_OSC_OSC (byteAt c.params 0)).oscChosen []

end Sys2Proof.Machine
end

