-- ==== Sys2Proof/Machine/Inputs.lean ====
section
/-! DEFINITION. What every part of the device says of an input flow (chapter 06): its record, counters and status bits, loss, format
change and clock change, and the recovered clock of the video reference inputs. -/

namespace Sys2Proof.Machine

namespace State

/-- Replace an input flow's record. -/
def setFlow (s : State) (x : InFlow) : State :=
  { s with lad := { s.lad with flows := s.lad.flows.map (fun y => if y.flow == x.flow then x else y) } }

/-- Change an input flow's record. -/
def modFlow (s : State) (f : Nat) (g : InFlow → InFlow) : State :=
  { s with lad := { s.lad with flows := s.lad.flows.map (fun y => if y.flow == f then g y else y) } }

/-- Counter `i` of an input flow gains `n` (LAD_FLOW_CNT): a register of a video flow, a list of an ANC flow. -/
def flowCnt (s : State) (f i n : Nat) : State :=
  if f < 0x800 then s.addFld { F.LAD_FLOW_CNT_FRAMES_ADOPTED with off := F.LAD_FLOW_CNT_FRAMES_ADOPTED.off + 4 * i } n f
  else (if i = 10 then s.measAdd 3 f 2 n else s).modFlow f (fun x => { x with counts := x.counts.set i (satAdd 32 (x.counts.getD i 0) n) })

/-- Bit `i` of LAD_FLOW_STAT word 0. -/
def flowBit (s : State) (f i : Nat) : Bool :=
  if f < 0x800 then s.flag { F.LAD_FLOW_STAT_LOSS with hi := i, lo := i } f
  else match s.inFlow f with
    | some x => x.stat.testBit i
    | none => false

/-- Set bit `i` of LAD_FLOW_STAT word 0. -/
def setFlowBit (s : State) (f i : Nat) (b : Bool) : State :=
  if f < 0x800 then s.setFlag { F.LAD_FLOW_STAT_LOSS with hi := i, lo := i } b f
  else s.modFlow f (fun x => { x with stat := if b then x.stat ||| 2 ^ i else x.stat - (if x.stat.testBit i then 2 ^ i else 0) })

/-- Counters of LAD_FLOW_CNT by index. -/
def cntAdopted : Nat := 0
def cntRepeats : Nat := 1
def cntDrops : Nat := 2
def cntLost : Nat := 3
def cntCope : Nat := 4
def cntDup : Nat := 6
def cntLate : Nat := 7
def cntBad : Nat := 8
def cntClash : Nat := 9
def cntAncOvf : Nat := 10

/-- Bits of LAD_FLOW_STAT word 0. -/
def bitAdopted : Nat := 31
def bitLoss : Nat := 30
def bitMism : Nat := 29
def bitRelock : Nat := 28
def bitCopeUp : Nat := 27
def bitLossSeen : Nat := 23
def bitFmtSeen : Nat := 22
def bitSkewOver : Nat := 21
def bitClashSeen : Nat := 20

/-- The reference inputs 5 to 8 that a video flow supplies (R72, R181). -/
def refsOf (s : State) (f : Nat) : List Nat := [5, 6, 7, 8].filter (fun i => s.fld F.REF_IN_FLOW_FLOW (i - 5) == f)

/-- Any condition of R179 is a loss for the reference inputs that the flow supplies (R181). -/
def refsLost (s : State) (f : Nat) : State := (s.refsOf f).foldl State.refLoss s

/-- The recovered clock of the reference inputs that a flow supplies (R72, R181): the tick of its newest frame start. -/
def recovered (s : State) (f tick : Nat) : State :=
  { s with ref := { s.ref with edges := (s.refsOf f).foldl (fun l i => upsert (fun (e : Nat × Nat) => e.1 == i) (i, tick) l) s.ref.edges } }

/-- FMT_MISMATCH is set (R179, R181). -/
def formatLost (s : State) (f : Nat) : State := ((s.setFlowBit f bitMism true).setFlowBit f bitFmtSeen true).refsLost f

/-- The format verdict of one input frame (R179): four mismatching frames in a row set FMT_MISMATCH, four
matching ones clear it. -/
def formatVerdict (s : State) (f : Nat) (bad : Bool) : State :=
  match s.inFlow f with
  | none => s
  | some x =>
    let mism := if bad then x.mism + 1 else 0
    let ok := if bad then 0 else x.matchN + 1
    let s := s.modFlow f (fun y => { y with mism := min 4 mism, matchN := min 4 ok, curBad := false })
    if 4 ≤ mism ∧ !s.flowBit f bitMism then s.formatLost f
    else if 4 ≤ ok then s.setFlowBit f bitMism false
    else s

/-- An input is lost (R179). -/
def inputLoss (s : State) (f : Nat) : State :=
  match s.inFlow f with
  | none => s
  | some _ =>
    if s.flowBit f bitLoss then s
    else
      let s := (s.setFlowBit f bitLoss true).setFlowBit f bitLossSeen true
      let s := s.modFlow f (fun y => { y with lossS := (y.gen, y.sNext) })
      (s.refsLost f).raise fltLadInput [f, 0]

/-- An SDI input's clock changes (R179): within its family it re-locks, across families it is a format change. -/
def clockChange (s : State) (f : Nat) (within : Bool) : State :=
  if within then ((s.setFlowBit f bitRelock true).modFlow f (fun y => { y with relockS := (y.gen, y.sNext) })).refsLost f
  else (s.formatLost f).modFlow f (fun y => { y with matchN := 0, mism := 4 })

end State
end Sys2Proof.Machine
end

