-- ==== Sys2Proof/Machine/Lanes.lean ====
section
/-! DEFINITION. Serial lanes, Sprue links, the link layer and N+1 protection (chapter 04). -/

namespace Sys2Proof
open Sys2Proof.Machine

/-! ## Markers and container blocks on the link (R107, R112) -/

/-- Bits `hi` down to `lo` of a 256-bit block. -/
def blockBits (b : BitVec 256) (hi lo : Nat) : Nat := bitsOf b.toNat hi lo

/-- The 28 bytes of a marker that its CRC covers, bit 255 first. -/
def markerBytes (b : BitVec 256) : Bytes := (List.range 28).map (fun i => BitVec.ofNat 8 (blockBits b (255 - 8 * i) (248 - 8 * i)))

/-- Whether a block is a marker whose CRC passes (R107). -/
def Marker.crcOk (m : Marker) : Bool :=
  blockBits m.bits 255 240 == 0xA5C3 && blockBits m.bits 31 0 == (crc32c (markerBytes m.bits)).toNat

def Marker.linkId (m : Marker) : Nat := blockBits m.bits 239 232
def Marker.pos (m : Marker) : Nat := blockBits m.bits 231 227
def Marker.round (m : Marker) : Nat := blockBits m.bits 223 192
def Marker.reqLane (m : Marker) : Nat := blockBits m.bits 191 187
def Marker.bridged (m : Marker) : Nat := blockBits m.bits 186 182
def Marker.stby (m : Marker) : Bool := blockBits m.bits 181 181 == 1
def Marker.quench (m : Marker) : Bool := blockBits m.bits 180 180 == 1

/-- TIME of a marker in nanoseconds (R107). -/
def Marker.timeNs (m : Marker) : Nat := blockBits m.bits 175 128 * 1000000000 + blockBits m.bits 127 96

end Sys2Proof

namespace Sys2Proof.Machine

/-- A marker's bits (R107). `ns` is the time it carries. -/
def markerBits (linkId lane round reqLane bridged : Nat) (stby quench : Bool) (ns : Nat) : BitVec 256 :=
  let put (v hi lo : Nat) : Nat := v % 2 ^ (hi + 1 - lo) * 2 ^ lo
  let b := put 0xA5C3 255 240 + put linkId 239 232 + put lane 231 227 + put round 223 192 + put reqLane 191 187 + put bridged 186 182 +
    put (b2n stby) 181 181 + put (b2n quench) 180 180 + put (ns / 1000000000) 175 128 + put (ns % 1000000000) 127 96
  BitVec.ofNat 256 (b + (crc32c (markerBytes (BitVec.ofNat 256 b))).toNat)

/-- A container block's TYPE, COUNT and SEQ (R112). -/
def blockType (b : BitVec 256) : Nat := blockBits b 255 254
def blockCount (b : BitVec 256) : Nat := blockBits b 253 249
def blockSeq (b : BitVec 256) : Nat := blockBits b 248 240

/-- The first `n` words of a container block (R112). -/
def blockWords (b : BitVec 256) (n : Nat) : List (BitVec 10) :=
  (List.range n).map (fun i => BitVec.ofNat 10 (blockBits b (239 - 10 * i) (230 - 10 * i)))

/-- A container block of a header and its 240 payload bits (R112). -/
def blockOf (ty count seq payload : Nat) : BitVec 256 :=
  BitVec.ofNat 256 (ty * 2 ^ 254 + count % 32 * 2 ^ 249 + seq % 512 * 2 ^ 240 + payload % 2 ^ 240)

/-- The marker interval of a RATE in units of 10 ps (R106). -/
def markerInterval (rate : Nat) : Nat := [1967104, 983552, 491776, 245888].getD rate 245888

/-- Rounds of container blocks between two markers of a RATE: 1,920 data blocks of C containers (R106). -/
def roundsOf (rate : Nat) : Nat := 128 / 2 ^ rate

/-! ## Arrangements and rates -/

/-- Lanes of a MAC port by speed code and lane RATE (R97); none where the arrangement is not listed. -/
def portLanes (speed rate : Nat) : Option Nat :=
  match speed, rate with
  | 0, 0 => some 4 | 0, 1 => some 2 | 0, 2 => some 1
  | 1, 1 => some 4 | 1, 2 => some 2 | 1, 3 => some 1
  | 2, 1 => some 8 | 2, 2 => some 4 | 2, 3 => some 2
  | 3, 2 => some 8 | 3, 3 => some 4
  | _, _ => none

/-- Containers per lane of a RATE (R106). -/
def containersOf (rate : Nat) : Nat := 15 * 2 ^ rate

/-- S-lane rate codes of SDI (R101). -/
def sdiRate (code : Nat) : Bool := decide (code < 8)

/-- Whether an SDI rate code is the 1.001 form (R101). -/
def rate1001 (code : Nat) : Bool := code % 2 == 1

/-! ## Kinds of frames this device sends on the Akestim link -/

def aksRecord : Nat := 1
def aksRecAck : Nat := 2
def aksBlockAck : Nat := 3
def aksReplay : Nat := 4
def aksResync : Nat := 5
def aksSwap : Nat := 6
def aksReport : Nat := 7
def aksSign : Nat := 8
def aksMatch : Nat := 9
def aksCommand : Nat := 10
def aksReply : Nat := 11
def aksFull : Nat := 12
def aksGone : Nat := 13

namespace State

/-- H-lanes in a use that belong to an owner. -/
def ownedLanes (s : State) (uses : List Nat) (owner : Nat) : List Nat :=
  (List.range 144).filter (fun l => s.flag F.HLN_LANE_CFG_EN l && uses.contains (s.fld F.HLN_LANE_CFG_USE l) &&
    s.fld F.HLN_LANE_CFG_OWNER l == owner)

/-- Lanes of a Sprue or Akestim link. -/
def linkLanes (s : State) (link : Nat) : List Nat := s.ownedLanes [2, 3] link

/-- The working lane of a link at a position. -/
def laneAt (s : State) (link pos : Nat) : Option Nat :=
  (s.linkLanes link).find? (fun l => !s.flag F.HLN_LANE_CFG_SPARE l && s.fld F.HLN_LANE_CFG_POS l == pos)

/-- The spare lane of a link. -/
def spareLane (s : State) (link : Nat) : Option Nat :=
  (s.linkLanes link).find? (fun l => s.flag F.HLN_LANE_CFG_SPARE l)

/-- The record of a lane. -/
def laneRec (s : State) (l : Nat) : LaneRec :=
  (s.lane.lanes.find? (fun x => x.lane == l)).getD ⟨l, none, 0, false, 0, false, false, 0, none⟩

/-- Replace the record of a lane. -/
def setLane (s : State) (x : LaneRec) : State :=
  { s with lane := { s.lane with lanes := upsert (fun (y : LaneRec) => y.lane == x.lane) x s.lane.lanes } }

/-- The record of a link. -/
def linkRec (s : State) (l : Nat) : LinkRec :=
  (s.lane.links.find? (fun x => x.link == l)).getD ⟨l, 31, 31, [], 0, 31, false, [], none⟩

/-- Replace the record of a link. -/
def setLink (s : State) (x : LinkRec) : State :=
  { s with lane := { s.lane with links := upsert (fun (y : LinkRec) => y.link == x.link) x s.lane.links } }

/-- Whether a link carries an admitted flow (R132): a Sprue input or output bound to it. -/
def linkCarries (s : State) (link : Nat) : Bool :=
  s.lad.flows.any (fun x => x.src == 1 && x.link == link) ||
    s.shk.vouts.any (fun x => s.fld F.SHK_FLOW_CFG_KIND (x.flow - 0x800) == 1 &&
      s.fld F.SHK_FLOW_CFG_LINK (x.flow - 0x800) == link)

/-- Whether a MAC carries an admitted filter entry or template (R489). -/
def macCarries (s : State) (m : Nat) : Bool :=
  s.mac.filters.any (fun x => x.mac == m) || s.mac.templates.any (fun x => x.mac == m)

/-- Whether R132 holds a lane or link's owner: an admitted flow, or the Akestim link. -/
def ownerHeld (s : State) (use owner : Nat) : Bool :=
  match use with
  | 1 => s.macCarries owner
  | 2 => s.linkCarries owner
  | 3 => true
  | _ => false

/-- S-lanes in SDI use by a receiver, a transmitter or both (R103). -/
def sdiLanes (s : State) : List Nat :=
  (List.range 68).filter (fun l => s.fld F.SLN_LANE_CFG_USE l == 1 &&
    (s.flag F.SLN_LANE_CFG_RX_EN l || s.flag F.SLN_LANE_CFG_TX_EN l))

/-- Whether the lanes of MAC `m` are an arrangement R97 lists, as far as they are configured: one rate that
fits the port speed, one aligned group of one octet, no spare. R97 does not say which POS each lane has: only the lane's order
within the group is taken (DESIGN CHOICE, log entry 111). -/
def portOk (s : State) (m : Nat) : Bool :=
  let l := s.ownedLanes [1] m
  match l with
  | [] => true
  | x :: _ =>
    let r := s.fld F.HLN_LANE_CFG_RATE x
    match portLanes (s.fld F.MAC_CFG_SPEED m) r with
    | none => false
    | some n => l.all (fun y => s.fld F.HLN_LANE_CFG_RATE y == r && y / n == x / n &&
        s.fld F.HLN_LANE_CFG_POS y == y % n && !s.flag F.HLN_LANE_CFG_SPARE y)

/-- Whether all lanes of a link run at one rate (R99). -/
def linkRateOk (s : State) (link : Nat) : Bool :=
  match s.linkLanes link with
  | [] => true
  | x :: xs => xs.all (fun y => s.fld F.HLN_LANE_CFG_RATE y == s.fld F.HLN_LANE_CFG_RATE x)

/-! ## Link status and protection (R126 to R131) -/

/-- Whether the lane a link's spare would carry or carries works: the spare is configured, has sent markers
and has not failed. -/
def spareGood (s : State) (link : Nat) : Bool :=
  match s.spareLane link with
  | some l => !(s.laneRec l).failed && (s.laneRec l).round.isSome
  | none => false

/-- A switch to or from the spare: the register, the AXL event (R131, R552), the Notice fault for a
switch. -/
def selectSpare (s : State) (link pos : Nat) : State :=
  let old := s.fld F.SPR_LINK_STAT_RX_SEL link
  if old = pos then s
  else
    let s := s.setFld F.SPR_LINK_STAT_RX_SEL pos link
    let r := s.linkRec link
    if pos = 31 then s.axlEvent 0x0011 4 link old
    else ((s.setLink { r with switches := r.switches + 1 }).axlEvent 0x0010 4 link pos).raise fltLaneSwitch [link, pos]

/-- Whether a lane's markers align with those of every other lane of its link that works, on equal ROUND (R108): the lane is
waiting for the round the others show, or they wait for it. -/
def laneAligned (s : State) (link l : Nat) : Bool :=
  match (s.laneRec l).round with
  | none => false
  | some r => (s.linkLanes link).all (fun x =>
      let y := s.laneRec x
      y.failed || (match y.round with
        | none => true
        | some q => q == r || (q + 1) % 4294967296 == r || (r + 1) % 4294967296 == q))

/-- Failed working positions of a link in ascending order. -/
def failedPos (s : State) (link : Nat) : List Nat :=
  (List.range (s.fld F.SPR_LINK_CFG_LANES link)).filter (fun p =>
    match s.laneAt link p with
    | some l => (s.laneRec l).failed
    | none => false)

/-- Margin-low working positions. -/
def lowPos (s : State) (link : Nat) : List Nat :=
  (List.range (s.fld F.SPR_LINK_CFG_LANES link)).filter (fun p =>
    match s.laneAt link p with
    | some l => (s.laneRec l).low && !(s.laneRec l).failed
    | none => false)

/-- The position whose bridge the receiver asks for (R126, R127, R129): a failure wins over a margin-low
lane, of two that fail at the same marker the lower position; a clean lane on the spare gives way to a failure; else the
request stands while its lane still needs or holds the spare. A failed spare is asked for no margin-low lane. -/
def wantPos (s : State) (link : Nat) : Nat :=
  let cur := (s.linkRec link).reqLane
  let bad := s.failedPos link
  let at_ (p : Nat) : Option Nat := (s.laneAt link p).bind (fun l => (s.laneRec l).failRound)
  let tie := bad.find? (fun p => decide (p < cur) && s.fld F.SPR_LINK_STAT_RX_SEL link != cur && (at_ p).isSome && at_ p == at_ cur)
  let spareFailed := (s.spareLane link).any (fun l => (s.laneRec l).failed)
  if cur != 31 && bad.contains cur then tie.getD cur
  else match bad with
    | p :: _ => p
    | [] =>
      if spareFailed then 31
      else if cur != 31 then cur
      else match s.lowPos link with
        | p :: _ => p
        | [] => 31

/-- UP of a link; the Akestim link going down is the loss of reference input 4 (R72). -/
def setLinkUp (s : State) (link : Nat) (up : Bool) : State :=
  let down := s.flag F.SPR_LINK_STAT_UP link && !up && s.flag F.TWN_CFG_EN && s.fld F.TWN_CFG_LINK == link
  let lost := s.flag F.SPR_LINK_STAT_UP link && !up
  let s := s.setFlag F.SPR_LINK_STAT_UP up link
  let s := if lost then ((s.lad.flows.filter (fun x => x.src == 1 && !x.anc && x.link == link)).map InFlow.flow).foldl inputLoss s else s
  if down then s.refLoss 4 else s

/-- Recompute a link: the bridge request, the spare's selection, the lost lanes with their events, UP and DEGRADED, and the
faults they raise (R110, R122, R126 to R131). A lane that a failing spare carried is lost, and stays so while it needs the
spare and the spare is bad (R130). -/
def linkRefresh (s : State) (link : Nat) : State :=
  let want := s.wantPos link
  let r := s.linkRec link
  let sel := s.fld F.SPR_LINK_STAT_RX_SEL link
  let spareFailed := (s.spareLane link).any (fun l => (s.laneRec l).failed)
  let s := if spareFailed then s.setFld F.SPR_LINK_STAT_RX_SEL 31 link
    else if want ≠ r.reqLane ∧ sel ≠ 31 ∧ sel ≠ want then s.selectSpare link 31 else s
  let s := s.setLink { s.linkRec link with reqLane := want }
  let good := s.spareGood link
  let bad := s.failedPos link
  let s := if spareFailed && !s.flag F.SPR_LINK_STAT_SPARE_BAD link then
      (s.setFlag F.SPR_LINK_STAT_SPARE_BAD true link).raise fltLinkSpareBad [link]
    else s.setFlag F.SPR_LINK_STAT_SPARE_BAD spareFailed link
  let low := s.lowPos link
  let dropped := if spareFailed then (if sel = 31 then [] else [sel]) ++ r.lost.filter (fun p => low.contains p) else []
  let lost := ascending (bad.filter (fun p => !(p == want && good)) ++ dropped)
  let was := s.flag F.SPR_LINK_STAT_DEGRADED link
  let s := (s.setLink { s.linkRec link with lost := lost }).setFlag F.SPR_LINK_STAT_DEGRADED (!lost.isEmpty) link
  let s := (lost.filter (fun p => !r.lost.contains p)).foldl (fun (s : State) p => s.axlEvent 0x0012 4 link p) s
  let s := if !lost.isEmpty && !was then s.raise fltLinkDegraded [link] else s
  let up := s.flag F.SPR_LINK_CFG_EN link && (List.range (s.fld F.SPR_LINK_CFG_LANES link)).all (fun p =>
    match s.laneAt link p with
    | some l => !lost.contains p && ((s.laneAligned link l && !(s.laneRec l).failed) ||
        (s.fld F.SPR_LINK_STAT_RX_SEL link == p && good))
    | none => false)
  s.setLinkUp link (up && !r.idBad)

/-- The received tributaries with a container on working position `pos` of a link lose blocks (R115): container c lies on position
c modulo the working lanes. -/
def lanesLose (s : State) (link pos : Nat) : State :=
  let n := s.fld F.SPR_LINK_CFG_LANES link
  let hit (x : TribRx) : Bool := x.link == link && (List.range (2 ^ s.fld F.SPR_TRIB_CFG_SIZE link x.trib)).any (fun i =>
    (s.fld F.SPR_TRIB_CFG_START link x.trib + i) % max 1 n == pos)
  { s with lane := { s.lane with rx := s.lane.rx.map (fun (x : TribRx) =>
      if hit x then { x with gaps := upsert (· == x.words.length) x.words.length x.gaps } else x) } }

/-- A lane of a link fails (R109); the blocks of a lane that is not on the spare are lost (R115). -/
def laneFail (s : State) (l : Nat) : State :=
  let r := s.laneRec l
  let s := if r.failed then s else
    let link := s.fld F.HLN_LANE_CFG_OWNER l
    let pos := s.fld F.HLN_LANE_CFG_POS l
    let s := s.setLane { r with failed := true, clean := false, failRound := r.round }
    if s.flag F.HLN_LANE_CFG_SPARE l then s.lanesLose link (s.fld F.SPR_LINK_STAT_RX_SEL link)
    else if s.fld F.SPR_LINK_STAT_RX_SEL link = pos then s else s.lanesLose link pos
  let s := (s.setFlag F.HLN_LANE_STAT_FAIL_SEEN true l).setFlag F.HLN_LANE_STAT_DESKEWED false l
  s.linkRefresh (s.fld F.HLN_LANE_CFG_OWNER l)

/-- The tributary changes that wait for a link's marker boundary take effect (R132). -/
def tribApply (s : State) (link : Nat) : State :=
  let r := s.linkRec link
  let s := r.tribPend.foldl (fun s p => s.setReg (F.SPR_TRIB_CFG_EN.addr link p.1) p.2) s
  s.setLink { r with tribPend := [] }

/-- A marker that passed its checks (R107 to R110, R126): alignment, the far end's state, the bridge the far end asks for, which
begins at the next own marker, and the spare's selection once it carries the lane this receiver asked for. -/
def markerGood (s : State) (l link : Nat) (m : Marker) : State :=
  let r := s.laneRec l
  let gap := match r.round with
    | some k => (m.round + 4294967296 - k) % 4294967296 - 1
    | none => 0
  let r := { r with round := some m.round, missed := 0, seenAt := s.tick }
  let s := s.setLink { s.linkRec link with idBad := false }
  if 2 ≤ gap then (s.setLane r).laneFail l
  else
    let s := s.setLane { r with failed := false, failRound := none }
    let s := (s.setFlag F.HLN_LANE_STAT_CDR_LOCK true l).setFlag F.HLN_LANE_STAT_BLOCK_LOCK true l
    let s := (s.setFlag F.HLN_LANE_STAT_DESKEWED (s.laneAligned link l) l).setFld F.SPR_LINK_STAT_SKEW_NS
      (max m.skew (s.fld F.SPR_LINK_STAT_SKEW_NS link)) link
    let s := (s.setFlag F.SPR_LINK_STAT_FAR_STBY m.stby link).setFlag F.SPR_LINK_STAT_FAR_QUENCH m.quench link
    let s := (s.setLink { s.linkRec link with farBridged := m.bridged, bridgeNext := m.reqLane }).tribApply link
    let s := s.linkRefresh link
    let want := (s.linkRec link).reqLane
    let s := if want ≠ 31 ∧ m.bridged = want ∧ s.spareGood link then s.selectSpare link want else s
    s.linkRefresh link

/-- A lane receives an alignment marker (R106 to R110). -/
def markerRx (s : State) (l : Nat) (m : Marker) : State :=
  let use := s.fld F.HLN_LANE_CFG_USE l
  let link := s.fld F.HLN_LANE_CFG_OWNER l
  if ¬(l < 144 ∧ s.flag F.HLN_LANE_CFG_EN l ∧ (use = 2 ∨ use = 3) ∧ s.flag F.SPR_LINK_CFG_EN link) then s
  else
    let s := (s.addFld F.HLN_FEC_CNT_CORR m.fecCorr l).addFld F.HLN_FEC_CNT_UNCORR m.fecUncorr l
    let s := (s.measAdd 7 l 1 m.fecCorr).measAdd 7 l 2 m.fecUncorr
    let s := if 0 < m.fecUncorr then s.setLane { s.laneRec l with clean := false } else s
    if 4 ≤ m.fecUncorr then (s.setLane { s.laneRec l with seenAt := s.tick }).laneFail l
    else if !m.crcOk then
      let r := s.laneRec l
      let s := s.setLane { r with missed := r.missed + 1 }
      if 2 ≤ r.missed + 1 then s.laneFail l else s
    else if m.linkId ≠ s.fld F.SPR_LINK_CFG_LINK_ID link then
      ((s.setFlag F.SPR_LINK_STAT_ID_MISMATCH true link).setLink { s.linkRec link with idBad := true }).linkRefresh link
    else
      let pos := if s.flag F.HLN_LANE_CFG_SPARE l then 31 else s.fld F.HLN_LANE_CFG_POS l
      if m.pos ≠ pos ∨ 1024 < m.skew then
        (s.setFld F.SPR_LINK_STAT_SKEW_NS (max m.skew (s.fld F.SPR_LINK_STAT_SKEW_NS link)) link).laneFail l
      else s.markerGood l link m

/-- A lane loses CDR lock (R109). -/
def cdrLoss (s : State) (l : Nat) : State :=
  if ¬(l < 144 ∧ s.flag F.HLN_LANE_CFG_EN l) then s
  else
    let s := (s.setFlag F.HLN_LANE_STAT_CDR_LOCK false l).setFlag F.HLN_LANE_STAT_BLOCK_LOCK false l
    if s.fld F.HLN_LANE_CFG_USE l = 2 ∨ s.fld F.HLN_LANE_CFG_USE l = 3 then s.laneFail l
    else (s.setFlag F.HLN_LANE_STAT_FAIL_SEEN true l).setFlag F.HLN_LANE_STAT_DESKEWED false l

/-- Wait-to-restore ends on a link (R128): the clean lane on the spare is switched back, then the request
clears. -/
def wtrExpiry (s : State) (link : Nat) : State :=
  let p := s.fld F.SPR_LINK_STAT_RX_SEL link
  match s.laneAt link p with
  | some l =>
    if s.flag F.SPR_LINK_CFG_REVERT link && (s.laneRec l).clean && !(s.laneRec l).failed then
      let s := s.selectSpare link 31
      (s.setLink { s.linkRec link with reqLane := 31 }).linkRefresh link
    else s
  | none => s

/-- A margin of a lane: the smaller of the two offsets that pass, at the worst of its eyes (R124). -/
def eyeMargin (eyes : List (Nat × Nat)) : Nat :=
  let l := eyes.map (fun e => min e.1 e.2)
  l.foldl min (l.headD 0)

/-- A lane's margins are measured (R124, R125, R128), its passing offsets given for each eye as left and right in `h`, upper and
lower in `v`. Lanes from 0x100 on are S-lanes, whose margins are only reported. -/
def marginMeasure (s : State) (l : Nat) (h v : List (Nat × Nat)) : State :=
  let (h, v) := (eyeMargin h, eyeMargin v)
  if 144 ≤ l then
    (if 0x100 ≤ l ∧ l < 0x144 then
      { s with lane := { s.lane with sMargins := upsert (fun x => x.1 == l - 0x100) (l - 0x100, h, v) s.lane.sMargins } } else s)
  else
    let s := (s.setFld F.HLN_LANE_STAT_H_MARGIN (min 255 h) l).setFld F.HLN_LANE_STAT_V_MARGIN (min 255 v) l
    let use := s.fld F.HLN_LANE_CFG_USE l
    let link := s.fld F.HLN_LANE_CFG_OWNER l
    if ¬(s.flag F.HLN_LANE_CFG_EN l ∧ (use = 2 ∨ use = 3)) then s
    else
      let ht := s.fld F.HLN_MARGIN_CFG_H_THR
      let vt := s.fld F.HLN_MARGIN_CFG_V_THR
      let hy := s.fld F.HLN_MARGIN_CFG_HYST
      let r := s.laneRec l
      let run := if h < ht ∨ v < vt then r.lowRun + 1 else 0
      let clean := decide (ht + hy ≤ h) && decide (vt + hy ≤ v) && s.flag F.HLN_LANE_STAT_CDR_LOCK l &&
        s.flag F.HLN_LANE_STAT_BLOCK_LOCK l && !r.failed
      let found := decide (s.fld F.HLN_MARGIN_CFG_CONSEC ≤ run) && decide (0 < run) && !s.flag F.HLN_LANE_CFG_SPARE l
      let s := s.setLane { r with lowRun := run, low := (r.low && !clean) || found, clean := clean }
      let s := if found then s.setFlag F.HLN_LANE_STAT_MARGIN_LOW true l else s
      s.linkRefresh link

/-- A lane's transmitter becomes trained (R612). -/
def txTrained (s : State) (isS : Bool) (l : Nat) : State :=
  if isS then
    if l < 68 ∧ s.flag F.SLN_LANE_CFG_TX_EN l then s.setFlag F.SLN_LANE_STAT_TX_TRAINED true l else s
  else if l < 144 ∧ s.flag F.HLN_LANE_CFG_EN l then s.setFlag F.HLN_LANE_STAT_TX_TRAINED true l
  else s

/-- A received tributary's buffer. -/
def tribRx (s : State) (link trib : Nat) : TribRx :=
  (s.lane.rx.find? (fun x => x.link == link && x.trib == trib)).getD ⟨link, trib, [], []⟩

/-- The enabled receive tributary that a container belongs to (R111). -/
def tribOf (s : State) (link cont : Nat) : Option Nat :=
  (List.range 3840).find? (fun t => s.flag F.SPR_TRIB_CFG_EN link t &&
    !s.flag F.SPR_TRIB_CFG_DIR link t && decide (s.fld F.SPR_TRIB_CFG_START link t ≤ cont) &&
    decide (cont < s.fld F.SPR_TRIB_CFG_START link t + 2 ^ s.fld F.SPR_TRIB_CFG_SIZE link t))

/-- A container block of a Sprue link (R112, R113, R115), in the order of the aligned rounds: filler is deleted, malformed blocks
are discarded and counted, words go on to the flow's Ladle in order, and a SEQ gap passes as missing words at its position. -/
def sprueBlock (s : State) (link cont : Nat) (b : BitVec 256) : State :=
  let k := link * 2048 + cont
  let (ty, count, seq) := (blockType b, blockCount b, blockSeq b)
  if ¬(link < 16 ∧ s.flag F.SPR_LINK_CFG_EN link) then s
  else if ty = 3 ∨ 24 < count ∨ (ty = 1 ∧ count = 0) then
    { s with lane := { s.lane with
        badBlocks := sset (fun _ => 0) s.lane.badBlocks link (sget (fun _ => 0) s.lane.badBlocks link + 1) } }
  else
    let gap := match sfind s.lane.contSeq k with
      | some q => (q + 1) % 512 != seq
      | none => false
    let s := { s with lane := { s.lane with contSeq := sins s.lane.contSeq k seq } }
    match s.tribOf link cont with
    | none => s
    | some t =>
      let n := if ty = 1 then count else 0
      let old := (s.lane.rates.find? (fun x => x.link == link && x.trib == t)).getD ⟨link, t, 0, 0⟩
      let x := s.tribRx link t
      let x := { x with words := x.words ++ blockWords b n,
                        gaps := if gap then upsert (· == x.words.length) x.words.length x.gaps else x.gaps }
      { s with lane := { s.lane with
          rates := upsert (fun (x : TribRate) => x.link == link && x.trib == t) { old with words := old.words + n } s.lane.rates,
          rx := upsert (fun (y : TribRx) => y.link == link && y.trib == t) x s.lane.rx } }

/-! ## Room for the tributaries (R111) -/

/-- Containers a link has in each direction: C × N (R111); the rate of a link without lanes is the reset value's. -/
def linkRoom (s : State) (link : Nat) : Nat :=
  containersOf (match s.linkLanes link with
    | l :: _ => s.fld F.HLN_LANE_CFG_RATE l
    | [] => 3) * s.fld F.SPR_LINK_CFG_LANES link

/-! ## Frames of the link (R117 to R120) -/

/-- Whether the device takes part in a twin (R496). -/
def twinOn (s : State) : Bool :=
  let l := s.fld F.TWN_CFG_LINK
  s.flag F.TWN_CFG_EN && s.flag F.SPR_LINK_CFG_EN l && s.fld F.SPR_LINK_CFG_TYPE l == 1

/-- Whether the Akestim link is up (R122). -/
def aksUp (s : State) : Bool := s.twinOn && s.flag F.SPR_LINK_STAT_UP (s.fld F.TWN_CFG_LINK)

/-- Whether the Akestim link carries frames: it is up, outside Quench and Cold (R120, R122). -/
def aksOpen (s : State) : Bool := s.aksUp && s.rst.pUp && s.sys.mode != .quench && s.sys.mode != .cold

/-- Send a frame: it is held until acknowledged, while the link carries frames (R120). -/
def aksSend (s : State) (kind epoch : Nat) (body : Bytes) : State :=
  if !s.aksOpen then s
  else
    let q := s.lane.aksTx
    let s : State := { s with lane := { s.lane with aksTx := (q + 1) % 4294967296,
                                                    aksPend := s.lane.aksPend ++ [(⟨q, 1, kind, epoch, body⟩ : AksPending)] } }
    s.emit (.akestim kind q epoch body)

/-- An acknowledgement block frees its frame. -/
def aksAck (s : State) (seq : Nat) : State :=
  { s with lane := { s.lane with aksPend := s.lane.aksPend.filter (fun (p : AksPending) => p.seq != seq) } }

/-- No acknowledgement within 2 µs (R117): sent again, or abandoned after 3 attempts, counted and reported. -/
def aksRetry (s : State) (seq : Nat) : State :=
  match (if s.aksOpen then s.lane.aksPend.find? (fun p => p.seq == seq) else none) with
  | none => s
  | some p =>
    if p.attempts < 3 then
      let l := s.lane.aksPend.map (fun (x : AksPending) => if x.seq == seq then { x with attempts := x.attempts + 1 } else x)
      ({ s with lane := { s.lane with aksPend := l } }).emit (.akestim p.kind p.seq p.epoch p.body)
    else ((s.aksAck seq).incFld F.SPR_AKS_DROP_DROP (s.fld F.TWN_CFG_LINK)).event blkTwn 1 0x0001 [seq, p.kind, p.epoch]

end State

/-! ## Commands of family 0x0Axx -/

/-- The tributary words of a link with a command's changes (R132). -/
def tribWord (s : State) (link : Nat) (pend : List (Nat × Word)) (t : Nat) : Word :=
  match pend.reverse.find? (fun p => p.1 == t) with
  | some p => p.2
  | none => s.reg (F.SPR_TRIB_CFG_EN.addr link t)

/-- Containers of a tributary word as (first, count, direction), when it is enabled. -/
def tribSpan (w : Word) : Option (Nat × Nat × Nat) :=
  if getBits w 31 31 = 1 then some (getBits w 24 14, 2 ^ getBits w 26 25, getBits w 30 30) else none

/-- The tributaries of a link that are stored or wait. -/
def State.tribsOf (s : State) (link : Nat) : List Nat :=
  State.ascending ((s.regs.filter (fun e =>
      decide (F.SPR_TRIB_CFG_EN.addr link 0 ≤ e.1) && decide (e.1 < F.SPR_TRIB_CFG_EN.addr link 3840))).map
      (fun e => (e.1 - F.SPR_TRIB_CFG_EN.addr link 0) / F.SPR_TRIB_CFG_EN.st2) ++ (s.linkRec link).tribPend.map (·.1))

/-- Whether every enabled tributary of a link lies below C × N (R111). -/
def State.tribsFit (s : State) (link : Nat) : Bool :=
  (s.tribsOf link).all (fun t => match tribSpan (tribWord s link (s.linkRec link).tribPend t) with
    | some (st, k, _) => decide (st + k ≤ s.linkRoom link)
    | none => true)

/-- Store the fields a configuration word names. -/
def storeFields (s : State) (l : List Fld) (w i : Nat) : State :=
  l.foldl (fun s f => s.setFld f (bitsOf w f.hi f.lo) i) s

/-- Fields of HLN_LANE_CFG. -/
def hlaneFields : List Fld := [F.HLN_LANE_CFG_EN, F.HLN_LANE_CFG_USE, F.HLN_LANE_CFG_RATE, F.HLN_LANE_CFG_OWNER,
  F.HLN_LANE_CFG_POS, F.HLN_LANE_CFG_SPARE, F.HLN_LANE_CFG_TX_INV, F.HLN_LANE_CFG_RX_INV]

/-- Whether the mode is Pour or Hold, in which R132 and R489 hold configuration. -/
def State.inService (s : State) : Bool := s.sys.mode == .pour || s.sys.mode == .hold

/-- A disabled lane is untrained and unlocked; one whose rate changes from that of `old` is untrained until its PLL has locked
again (R612). -/
def State.laneOff (s old : State) (l : Nat) : State :=
  if s.flag F.HLN_LANE_CFG_EN l then
    (if s.fld F.HLN_LANE_CFG_RATE l = old.fld F.HLN_LANE_CFG_RATE l then s else s.setFlag F.HLN_LANE_STAT_TX_TRAINED false l)
  else
    let s := (s.setFlag F.HLN_LANE_STAT_TX_TRAINED false l).setFlag F.HLN_LANE_STAT_CDR_LOCK false l
    (s.setFlag F.HLN_LANE_STAT_BLOCK_LOCK false l).setFlag F.HLN_LANE_STAT_DESKEWED false l

/-- The link that a lane belongs to is looked at anew, before and after a change of the lane's configuration. -/
def State.ownersRefresh (s old : State) (l : Nat) : State :=
  let link (x : State) : List Nat :=
    if x.flag F.HLN_LANE_CFG_EN l && [2, 3].contains (x.fld F.HLN_LANE_CFG_USE l) then [x.fld F.HLN_LANE_CFG_OWNER l] else []
  (State.ascending (link old ++ link s)).foldl State.linkRefresh s

/-- HLANE_CFG (R97, R99, R132). -/
def applyHlaneCfg (c : Cmd) (s : State) : CmdResult :=
  let l := u16 c.params 0
  let w := u32 c.params 4
  let use := bitsOf w 30 28
  let owner := bitsOf w 25 21
  let oldUse := s.fld F.HLN_LANE_CFG_USE l
  let changed := bitsOf w 27 26 != s.fld F.HLN_LANE_CFG_RATE l || owner != s.fld F.HLN_LANE_CFG_OWNER l
  let t := storeFields s hlaneFields w l
  guarded [lenIs c 8, (decide (143 < l), rej 0x0108 0), (decide (4 < use), rej 0x0108 4),
      ((use == 2 || use == 3) && decide (15 < owner), rej 0x0108 4),
      (use == 4 && s.sys.mode != .melt && s.sys.mode != .proof, rejAll 0x0305),
      (s.inService && changed && s.flag F.HLN_LANE_CFG_EN l &&
        s.ownerHeld oldUse (s.fld F.HLN_LANE_CFG_OWNER l), rejAll 0x030D),
      (bitOf w 31 && use == 1 && !t.portOk owner, rej 0x0108 4),
      (bitOf w 31 && (use == 2 || use == 3) && !t.linkRateOk owner, rej 0x0108 4),
      ((use == 2 || use == 3) && !t.tribsFit owner, rej 0x0108 4)] fun _ =>
    .ok ((t.laneOff s l).ownersRefresh s l) []

/-- Fields of SLN_LANE_CFG. -/
def slaneFields : List Fld := [F.SLN_LANE_CFG_RX_EN, F.SLN_LANE_CFG_TX_EN, F.SLN_LANE_CFG_USE, F.SLN_LANE_CFG_RX_RATE,
  F.SLN_LANE_CFG_TX_RATE, F.SLN_LANE_CFG_MGMT_PORT]

/-- Whether an S-lane's transmit rate suits the family of domain `d` (R102). -/
def slaneFamilyOk (s : State) (d txRate : Nat) : Bool :=
  match s.compileFmt d with
  | some f => rate1001 txRate == (f.family == 2 || f.family == 4)
  | none => true

/-- The serial class a format needs: 0 for 1.485 Gb/s to 3 for 11.88 Gb/s (R101). -/
def sdiClass (f : Fmt) : Nat :=
  let fast := decide (30 * f.den < f.num)
  if f.code < 0x20 then (if fast then 3 else 2) else if f.code < 0x30 ∧ fast then 1 else 0

/-- S-lanes or tributaries an SDI picture uses (R102, R159): more than one where its lane's rate is below the format's. -/
def sdiLinks (f : Fmt) (rateCode : Nat) : Nat :=
  if rateCode < 8 then 2 ^ (sdiClass f - rateCode / 2) else 1

/-- S-lanes or tributaries of a video output from its PORT on (R102): PORT and those that follow it (DESIGN CHOICE, log entry
115: R102 does not say which lanes a quad-link or dual-link flow uses). -/
def State.outLinks (s : State) (o : VOut) : Nat :=
  let n := o.flow - 0x800
  let port := s.fld F.SHK_FLOW_CFG_PORT n
  match s.fld F.SHK_FLOW_CFG_KIND n, fmtOf o.format with
  | 0, some f => sdiLinks f (s.fld F.SLN_LANE_CFG_TX_RATE port)
  | 1, some f => sdiLinks f (2 * s.fld F.SPR_TRIB_CFG_SIZE (s.fld F.SHK_FLOW_CFG_LINK n) port)
  | _, _ => 0

/-- S-lanes or tributaries of an SDI input from its PORT on (R102, R159; DESIGN CHOICE, log entry 115). -/
def State.inLinks (s : State) (x : InFlow) : Nat :=
  match x.src, fmtOf x.format with
  | 0, some f => sdiLinks f (s.fld F.SLN_LANE_CFG_RX_RATE x.port)
  | 1, some f => sdiLinks f (2 * s.fld F.SPR_TRIB_CFG_SIZE x.link x.port)
  | _, _ => 0

/-- Video outputs on S-lane `l`. -/
def slaneOuts (s : State) (l : Nat) : List VOut :=
  s.shk.vouts.filter (fun x => s.fld F.SHK_FLOW_CFG_KIND (x.flow - 0x800) == 0 &&
    decide (s.fld F.SHK_FLOW_CFG_PORT (x.flow - 0x800) ≤ l) && decide (l < s.fld F.SHK_FLOW_CFG_PORT (x.flow - 0x800) + s.outLinks x))

/-- Video inputs on S-lane `l`. -/
def slaneIns (s : State) (l : Nat) : List InFlow :=
  s.lad.flows.filter (fun x => x.src == 0 && !x.anc && decide (x.port ≤ l) && decide (l < x.port + s.inLinks x))

/-- Video inputs on a tributary of a link. -/
def tribIns (s : State) (link t : Nat) : List InFlow :=
  s.lad.flows.filter (fun x => x.src == 1 && !x.anc && x.link == link && decide (x.port ≤ t) && decide (t < x.port + s.inLinks x))

/-- An S-lane whose transmitter is off, or has another rate than in `old`, is untrained (R612); one whose receiver is off is
unlocked. -/
def State.slaneOff (s old : State) (l : Nat) : State :=
  let s := if s.flag F.SLN_LANE_CFG_TX_EN l && s.fld F.SLN_LANE_CFG_TX_RATE l == old.fld F.SLN_LANE_CFG_TX_RATE l then s
    else s.setFlag F.SLN_LANE_STAT_TX_TRAINED false l
  if s.flag F.SLN_LANE_CFG_RX_EN l then s
  else ((s.setFlag F.SLN_LANE_STAT_CDR_LOCK false l).setFlag F.SLN_LANE_STAT_TRS_LOCK false l).setFld F.SLN_LANE_STAT_DET_RATE 15 l

/-- SLANE_CFG (R101 to R103, R105, R132). Both lanes stay where a second one takes a MGMT_PORT in use, for which no status is given
(DESIGN CHOICE, log entry 113). -/
def applySlaneCfg (c : Cmd) (s : State) : CmdResult :=
  let l := byteAt c.params 0
  let w := u32 c.params 4
  let use := bitsOf w 29 28
  let rx := bitsOf w 27 24
  let tx := bitsOf w 23 20
  let t := storeFields s slaneFields w l
  let n := t.sdiLanes.length
  let chg := (rx != s.fld F.SLN_LANE_CFG_RX_RATE l && !(slaneIns s l).isEmpty) ||
    (tx != s.fld F.SLN_LANE_CFG_TX_RATE l && !(slaneOuts s l).isEmpty)
  guarded [lenIs c 8, (decide (67 < l), rej 0x0108 0), (use == 3, rej 0x0108 4),
      (!inRanges [(0, 9), (14, 14)] rx || !inRanges [(0, 9)] tx, rej 0x0108 4),
      (use == 1 && ((bitOf w 31 && !(sdiRate rx || rx == 14)) || (bitOf w 30 && !sdiRate tx)), rej 0x0108 4),
      (use == 2 && ((bitOf w 31 && rx != 8 && rx != 9) || (bitOf w 30 && tx != 8 && tx != 9)), rej 0x0108 4),
      (use == 1 && (slaneOuts s l).any (fun o => !slaneFamilyOk s o.dom tx), rej 0x0108 4),
      (s.inService && chg, rejAll 0x030D),
      (decide (64 < n), rejRes 0x020D 64 n)] fun _ =>
    .ok (t.slaneOff s l) []

/-- Fields of SPR_LINK_CFG. -/
def linkFields : List Fld := [F.SPR_LINK_CFG_EN, F.SPR_LINK_CFG_TYPE, F.SPR_LINK_CFG_LANES, F.SPR_LINK_CFG_REVERT,
  F.SPR_LINK_CFG_WTR, F.SPR_LINK_CFG_LINK_ID]

/-- LINK_CFG (R132, SPR_LINK_CFG). -/
def applyLinkCfg (c : Cmd) (s : State) : CmdResult :=
  let l := byteAt c.params 0
  let w := u32 c.params 4
  let chg := bitsOf w 30 30 != s.fld F.SPR_LINK_CFG_TYPE l || bitsOf w 27 23 != s.fld F.SPR_LINK_CFG_LANES l
  let two := bitOf w 30 && (List.range 16).any (fun k => k != l && s.flag F.SPR_LINK_CFG_TYPE k)
  guarded [lenIs c 8, (decide (15 < l), rej 0x0108 0), (!inRanges [(1, 16)] (bitsOf w 27 23), rej 0x0108 4),
      (bitsOf w 21 12 == 0, rej 0x0108 4), (two, rej 0x0108 4),
      (s.inService && chg && (s.linkCarries l || s.flag F.SPR_LINK_CFG_TYPE l), rejAll 0x030D),
      (!(storeFields s linkFields w l).tribsFit l, rej 0x0108 4)] fun _ =>
    .ok ((storeFields s linkFields w l).linkRefresh l) []

/-- TRIB_SET (R111, R132): applied at the next marker boundary of the link. -/
def applyTribSet (c : Cmd) (s : State) : CmdResult :=
  let b := c.params
  let link := byteAt b 0
  let n := u16 b 2
  let ents := (List.range n).map (fun i => (u16 b (4 + 8 * i), BitVec.ofNat 32 (u32 b (8 + 8 * i) &&& 0xC7FFC000)))
  let room := s.linkRoom link
  let bad := (numbered 0 ents).find? (fun p => decide (3839 < p.2.1) ||
    (match tribSpan p.2.2 with
     | some (st, k, _) => st % k != 0 || decide (room < st + k)
     | none => false))
  let pend := (s.linkRec link).tribPend ++ ents
  let others := (s.setLink { s.linkRec link with tribPend := pend }).tribsOf link
  let clash := (numbered 0 ents).find? (fun p =>
    match tribSpan (tribWord s link pend p.2.1) with
    | none => false
    | some (st, k, d) => others.any (fun t => t != p.2.1 &&
        (match tribSpan (tribWord s link pend t) with
         | some (st', k', d') => d == d' && decide (st < st' + k') && decide (st' < st + k)
         | none => false)))
  guarded [(decide (b.length < 4), rej 0x0108 b.length), lenIs c (4 + 8 * n), (decide (15 < link), rej 0x0108 0),
      (bad.isSome, rej 0x0108 (4 + 8 * (bad.map (·.1)).getD 0)),
      (clash.isSome, rej 0x030C (4 + 8 * (clash.map (·.1)).getD 0))] fun _ =>
    .ok (s.setLink { s.linkRec link with tribPend := pend }) []

/-- Fields of HLN_MARGIN_CFG. -/
def marginFields : List Fld := [F.HLN_MARGIN_CFG_H_THR, F.HLN_MARGIN_CFG_V_THR, F.HLN_MARGIN_CFG_HYST,
  F.HLN_MARGIN_CFG_CONSEC, F.HLN_MARGIN_CFG_PERIOD]

/-- MARGIN_CFG. -/
def applyMarginCfg (c : Cmd) (s : State) : CmdResult :=
  let w := u32 c.params 0
  guarded [lenIs c 4, (bitsOf w 11 8 == 0, rej 0x0108 0), (bitsOf w 7 0 == 0, rej 0x0108 0)] fun _ =>
    .ok (storeFields s marginFields w 0) []

/-- Whether a lane number names an H-lane or an S-lane (EYE_MAP). -/
def eyeLane (l : Nat) : Bool := decide (l < 144) || (decide (0x100 ≤ l) && decide (l < 0x144))

/-- EYE_MAP (R490). -/
def applyEyeMap (c : Cmd) (s : State) : CmdResult :=
  let l := u16 c.params 0
  guarded [lenIs c 4, (!eyeLane l, rej 0x0108 0),
      (s.sys.mode == .quench && !s.rst.pUp, rejAll 0x0501), (s.lane.eyeRun.contains l, rejAll 0x0306)] fun _ =>
    .ok { s with lane := { s.lane with eyeRun := s.lane.eyeRun ++ [l],
                                       eyeMaps := s.lane.eyeMaps.filter (fun m => m.1 != l) } } []

/-! ## Events -/

/-- SPRUE_BLOCK_RECEIVE (R113): the block's header and its first and last 12 words (R112). -/
def execSprueBlockReceive (link cont : Nat) (header : BitVec 16) (first last : BitVec 120) (s : State) : Host.Outcome State Fault Refusal :=
  runEff (fun s => s.sprueBlock link cont (header ++ first ++ last)) s

/-- LANE_CDR_LOSS (R109). -/
def execLaneCdrLoss (lane : Nat) (s : State) : Host.Outcome State Fault Refusal := runEff (fun s => s.cdrLoss lane) s

/-- LANE_WTR_EXPIRY (R128). -/
def execLaneWtrExpiry (link : Nat) (s : State) : Host.Outcome State Fault Refusal :=
  runEff (fun s => s.wtrExpiry link) s

/-- MARGIN_MEASURE (R124, R125). -/
def execMarginMeasure (lane : Nat) (h v : List (Nat × Nat)) (s : State) : Host.Outcome State Fault Refusal :=
  runEff (fun s => s.marginMeasure lane h v) s

/-- LANE_TX_TRAINED (R612). -/
def execLaneTxTrained (isS : Bool) (lane : Nat) (s : State) : Host.Outcome State Fault Refusal :=
  runEff (fun s => s.txTrained isS lane) s

/-- EYE_MAP_DONE (R490): the map is kept until the next EYE_MAP of the lane. -/
def execEyeMapDone (lane : Nat) (map : Bytes) (s : State) : Host.Outcome State Fault Refusal :=
  runEff (fun s => if s.lane.eyeRun.contains lane then
    { s with lane := { s.lane with eyeRun := s.lane.eyeRun.filter (· != lane),
                                   eyeMaps := upsert (fun m => m.1 == lane) (lane, map) s.lane.eyeMaps } } else s) s

end Sys2Proof.Machine
end

