-- ==== Sys2Proof/Machine/Mac.lean ====
section
/-! DEFINITION. The frame MACs (chapter 05): filters and templates with their admission, frames on the wire,
gates, transmit queues, verification, statistics, and the commands of family 0x09xx. -/

namespace Sys2Proof.Machine

/-! ## Path blocks (Command Reference) -/

/-- Whether a path block is in use; an unused one is 16 zero bytes. -/
def pathUsed (b : Bytes) (o : Nat) : Bool := (slice b o 16).any (· != 0)

/-- The receive filter entry of a receive block (R137). -/
def rxBlock (b : Bytes) (o flow path : Nat) : RxFilter :=
  { mac := byteAt b o, vlan := if u16 b (o + 2) = 0xFFFF then none else some (u16 b (o + 2)), group := u32 b (o + 4),
    port := u16 b (o + 12), srcIp := if u32 b (o + 8) = 0 then none else some (u32 b (o + 8)), flow := flow,
    path := path }

/-- The header template of a send block (R148); the running fields' first values are not stated. -/
def txBlock (b : Bytes) (o flow path rate : Nat) (ini : Nat) : TxTemplate :=
  { flow := flow, path := path, mac := byteAt b o, payloadType := byteAt b (o + 1),
    vlan := if u16 b (o + 2) = 0xFFFF then none else some (u16 b (o + 2)), dstIp := u32 b (o + 4),
    dstPort := u16 b (o + 8), srcPort := u16 b (o + 10), maxPayload := u16 b (o + 12),
    udpCsum := bitOf (byteAt b (o + 14)) 0, idFixed := bitOf (byteAt b (o + 14)) 1, rateMbps := rate,
    rtpSeq := ini % 65536, extSeq := ini / 65536 % 65536, ipId := ini / 4294967296 % 65536,
    ssrc := ini / 281474976710656 % 4294967296 }

/-- A receive block's own limits. -/
def rxBlockOk (b : Bytes) (o : Nat) : Bool :=
  decide (byteAt b o < 32) && (decide (u16 b (o + 2) < 4096) || u16 b (o + 2) == 0xFFFF)

/-- A send block's own limits. -/
def txBlockOk (b : Bytes) (o : Nat) : Bool :=
  decide (byteAt b o < 32) && decide (byteAt b (o + 1) < 128) &&
    (decide (u16 b (o + 2) < 4096) || u16 b (o + 2) == 0xFFFF) && u16 b (o + 12) != 0

/-- Whether two entries have the same key (R137). -/
def RxFilter.sameKey (a b : RxFilter) : Bool :=
  a.mac == b.mac && a.vlan == b.vlan && a.group == b.group && a.port == b.port && a.srcIp == b.srcIp

/-- Port speed of a MAC in Gb/s. -/
def speedGbps (code : Nat) : Nat := 100 * 2 ^ code

/-- The size bin of a frame length (R155). -/
def sizeBin (n : Nat) : Nat :=
  if n ≤ 64 then 0 else if n ≤ 127 then 1 else if n ≤ 255 then 2 else if n ≤ 511 then 3 else if n ≤ 1023 then 4
  else if n ≤ 1518 then 5 else if n ≤ 2047 then 6 else if n ≤ 4095 then 7 else 8

/-- Whether a MAC address is a group address; all ones is broadcast. -/
def macGroup (a : Nat) : Bool := bitOf a 40

/-- The Ethernet address of an IPv4 destination: the standard mapping of a multicast group, else a value the
specification does not state. -/
def ethDst (ip : Nat) : Nat :=
  if ip / 268435456 = 14 then 0x01005E000000 + ip % 8388608 else (Config.unicastMac ip).toNat

/-- The Internet checksum of 16-bit words. -/
def inetSum (ws : List Nat) : Nat :=
  let t := ws.foldl (· + ·) 0
  let t := t % 65536 + t / 65536
  let t := t % 65536 + t / 65536
  65535 - t % 65536

/-- 16-bit big-endian words of a byte string. -/
def beWords : Nat → Bytes → List Nat
  | 0, _ => []
  | n + 1, b => (byteAt b 0 * 256 + byteAt b 1) :: beWords n (b.drop 2)

/-- `n` low bytes of `v`, most significant first. -/
def be (n v : Nat) : Bytes := (leBytes n v).reverse

/-- Octets of a frame on the line around its UDP payload: Ethernet, tag, IPv4, UDP, FCS, and the preamble and
gap (R154). -/
def frameOverhead (tagged : Bool) : Nat := 14 + (if tagged then 4 else 0) + 20 + 8 + 4 + 20

namespace State

/-! ## Tables (R137, R148, R154) -/

/-- MAC_TBL_USE, recounted. -/
def macUse (s : State) : State :=
  (s.setFld F.MAC_TBL_USE_FILTER_USED s.mac.filters.length).setFld F.MAC_TBL_USE_TPL_USED s.mac.templates.length

/-- Admit filter entries (R137, R154): key duplicates, then the table. -/
def filterAdmit (s : State) (l : List RxFilter) (off : Nat) : Option RefRec :=
  let dup := (List.range l.length).any (fun i =>
    match l[i]? with
    | some x => s.mac.filters.any (·.sameKey x) || (l.take i).any (·.sameKey x)
    | none => false)
  let n := s.mac.filters.length + l.length
  firstFail [(dup, rej 0x0309 off), (decide (16384 < n), rejRes 0x0203 16384 n none 1)]

/-- Admit templates (R154): the table, then each MAC's transmit bandwidth in Mb/s. -/
def templateAdmit (s : State) (l : List TxTemplate) : Option RefRec :=
  let n := s.mac.templates.length + l.length
  if 16384 < n then some (rejRes 0x0203 16384 n none 2)
  else l.findSome? (fun x =>
    let sum := (((s.mac.templates ++ l).filter (fun y => y.mac == x.mac)).map TxTemplate.rateMbps).foldl (· + ·) (s.measRate x.mac)
    let lim := speedGbps (s.fld F.MAC_CFG_SPEED x.mac) * 990
    if lim < sum then some (rejRes 0x0203 lim sum (some x.mac) 3) else none)

/-- Add templates. -/
def addTemplates (s : State) (l : List TxTemplate) : State :=
  ({ s with mac := { s.mac with templates := s.mac.templates ++ l } }).macUse

/-- A flow's templates go. -/
def dropTemplates (s : State) (flow : Nat) : State :=
  ({ s with mac := { s.mac with templates := s.mac.templates.filter (fun x => x.flow != flow) } }).macUse

/-- The PCS and FEC in force on a MAC (R134): the words of a codeword that are data and the symbols that the FEC corrects, none
where there is no FEC. -/
def macFec (s : State) (m : Nat) : Option (Nat × Nat) :=
  let quad : Bool := match s.ownedLanes [1] m with
    | l :: _ => s.fld F.HLN_LANE_CFG_RATE l == 0
    | [] => false
  if s.fld F.MAC_CFG_SPEED m = 0 ∧ quad then (if s.flag F.MAC_CFG_FEC_OFF m then none else some (514, (528 - 514) / 2))
  else some (514, (544 - 514) / 2)

/-- Draw the first running fields of a template. -/
def tplInit (s : State) : Nat × State := s.fresh 80

/-! ## Frames of templates (R148, R150) -/

/-- An RTP packet of a template: the frame's bytes with its FCS, from the RTP timestamp, M bit, and the bytes
after the RTP header. -/
def rtpFrame (s : State) (t : TxTemplate) (ts : Nat) (m : Bool) (payload : Bytes) : Bytes :=
  let rtp : Bytes := [0x80, BitVec.ofNat 8 (128 * b2n m + t.payloadType % 128)] ++ be 2 t.rtpSeq ++ be 4 ts ++ be 4 t.ssrc
  let udpLen := 8 + 12 + payload.length
  let src := s.fld F.MAC_IPV4_IPV4 t.mac
  let ipHead (c : Nat) : Bytes := [0x45, Config.ipTos] ++ be 2 (20 + udpLen) ++ be 2 t.ipId ++ [0, 0, Config.ipTtl, 17] ++
    be 2 c ++ be 4 src ++ be 4 t.dstIp
  let udp (c : Nat) : Bytes := be 2 t.srcPort ++ be 2 t.dstPort ++ be 2 udpLen ++ be 2 c ++ rtp ++ payload
  let pseudo := be 4 src ++ be 4 t.dstIp ++ [0, 17] ++ be 2 udpLen
  let uw := pseudo ++ udp 0
  let ck := if t.udpCsum then inetSum (beWords ((uw.length + 1) / 2) uw) else 0
  let own := s.fld F.MAC_ADDR_LO_ADDR_LO t.mac + 4294967296 * s.fld F.MAC_ADDR_HI_ADDR_HI t.mac
  let tag : Bytes := match t.vlan with
    | some v => [0x81, 0x00] ++ be 2 (Config.vlanPcp.toNat * 8192 + v)
    | none => []
  let body := be 6 (ethDst t.dstIp) ++ be 6 own ++ tag ++ [0x08, 0x00] ++ ipHead (inetSum (beWords 10 (ipHead 0))) ++
    udp (if t.udpCsum && ck == 0 then 65535 else ck)
  let body := padTo 60 body
  body ++ leBytes 4 (crc32 body).toNat

/-- The template after one packet (R150). -/
def tplNext (t : TxTemplate) : TxTemplate :=
  let q := (t.rtpSeq + 1) % 65536
  { t with rtpSeq := q, extSeq := if q = 0 then (t.extSeq + 1) % 65536 else t.extSeq,
           ipId := if t.idFixed then t.ipId else (t.ipId + 1) % 65536 }

/-- Replace a template. -/
def setTemplate (s : State) (t : TxTemplate) : State :=
  let l := upsert (fun (y : TxTemplate) => y.flow == t.flow && y.path == t.path) t s.mac.templates
  { s with mac := { s.mac with templates := l } }

/-! ## Transmission (R139 to R146, R151) -/

/-- Whether a MAC sends (R151): descriptor traffic in Pour only; other traffic in Pour and Hold, and in Melt
and Proof with TX_EN. -/
def macSends (s : State) (m : Nat) (desc : Bool) : Bool :=
  s.flag F.MAC_CFG_EN m && s.flag F.MAC_LINK_STAT_LINK_UP m &&
    (match s.sys.mode with
     | .pour => true
     | .hold => !desc
     | .melt | .proof => !desc && s.flag F.MAC_CFG_TX_EN m
     | _ => false)

/-- Hand a frame to a MAC: queued, or discarded and counted in TX_MUTED where a descriptor's frame is not
sent (R151, R313). -/
def offer (s : State) (f : TxFrame) (desc : Bool) : State :=
  if s.macSends f.mac desc then { s with mac := { s.mac with queue := s.mac.queue ++ [f] } }
  else if desc then s.macCount f.mac 48 1
  else s

/-! ## Group membership (R138) -/

/-- The message of an IGMP frame with its checksum: a version 3 report of one group record, or a version 2 report or leave
(PRESUMED, log entry 117: the layouts of IGMP). -/
def igmpSum (b : Bytes) : Bytes :=
  b.take 2 ++ be 2 (inetSum (beWords ((b.length + 1) / 2) b)) ++ b.drop 4

/-- Whether a MAC is in IGMPv2 compatibility mode (R133): a version 2 query came within 260 s (PRESUMED, log entry 117). -/
def igmpOld (s : State) (m : Nat) : Bool :=
  s.mac.igmpV2.any (fun p => p.1 == m && decide (s.tick < p.2 + 260000000000))

/-- An IGMP frame of firmware is queued in its order (R138, R139). -/
def igmpFrame (s : State) (m kind dst : Nat) (msg : Bytes) : State :=
  let src := s.fld F.MAC_IPV4_IPV4 m
  let own := s.fld F.MAC_ADDR_LO_ADDR_LO m + 4294967296 * s.fld F.MAC_ADDR_HI_ADDR_HI m
  let head (c : Nat) : Bytes := [0x46, Config.ipTos] ++ be 2 (24 + msg.length) ++ [0, 0, 0, 0, 1, 2] ++ be 2 c ++ be 4 src ++ be 4 dst ++
    [0x94, 4, 0, 0]
  let body := padTo 60 (be 6 (ethDst dst) ++ be 6 own ++ [0x08, 0x00] ++ head (inetSum (beWords 12 (head 0))) ++ msg)
  let body := body ++ leBytes 4 (crc32 body).toNat
  s.offer ⟨m, 3, kind, 0, 0, none, body.length, ethDst dst, body, 0⟩ false

/-- A membership message of a group on a MAC (R133, R138): kind 0x10 a report and 0x11 a leave. `rec` is the type of the version 3
group record and `srcs` its sources. -/
def igmpSend (s : State) (m group rec : Nat) (srcs : List Nat) (leave : Bool) : State :=
  let kind := if leave then 0x11 else 0x10
  if s.igmpOld m then
    s.igmpFrame m kind (if leave then 0xE0000002 else group) (igmpSum ([if leave then 0x17 else 0x16, 0, 0, 0] ++ be 4 group))
  else
    s.igmpFrame m kind 0xE0000016 (igmpSum ([0x22, 0, 0, 0, 0, 0, 0, 1, BitVec.ofNat 8 rec, 0] ++ be 2 srcs.length ++ be 4 group ++
      srcs.flatMap (be 4)))

/-- Whether firmware can send on a MAC now. -/
def igmpReady (s : State) (m : Nat) : Bool := s.fwServes && s.macSends m false

/-- The report of an entry that takes effect, or the leave of one that goes (R138); a report that cannot be sent now is due. -/
def igmp (s : State) (x : RxFilter) (leave : Bool) : State :=
  if s.igmpReady x.mac then
    match x.srcIp with
    | none => s.igmpSend x.mac x.group (if leave then 3 else 4) [] leave
    | some a => s.igmpSend x.mac x.group (if leave then 6 else 5) [a] leave
  else if leave then s
  else { s with mac := { s.mac with igmpDue := upsert (· == (x.mac, x.group)) (x.mac, x.group) s.mac.igmpDue } }

/-- A report of what a MAC receives of a group (R138). -/
def igmpState (s : State) (m group : Nat) : State :=
  let l := s.mac.filters.filter (fun x => x.mac == m && x.group == group)
  if l.isEmpty then s
  else if l.any (fun x => x.srcIp.isNone) then s.igmpSend m group 2 [] false
  else s.igmpSend m group 1 (l.filterMap RxFilter.srcIp) false

/-- Filter entries take effect with their first membership reports (R138). -/
def addFilters (s : State) (l : List RxFilter) : State :=
  let s := { s with mac := { s.mac with filters := s.mac.filters ++ l } }
  (l.foldl (fun s x => s.igmp x false) s).macUse

/-- A flow's entries go, each with its leave report (R138). -/
def dropFilters (s : State) (flow : Nat) : State :=
  let gone := s.mac.filters.filter (fun x => x.flow == flow)
  let s := { s with mac := { s.mac with filters := s.mac.filters.filter (fun x => x.flow != flow) } }
  (gone.foldl (fun s x => s.igmp x true) s).macUse

/-- The filter table becomes another, with the leaves and reports of the entries that differ (R138). -/
def setFilters (s : State) (l : List RxFilter) : State :=
  let gone := s.mac.filters.filter (fun x => !l.contains x)
  let new := l.filter (fun x => !s.mac.filters.contains x)
  let s := { s with mac := { s.mac with filters := l } }
  (new.foldl (fun s x => s.igmp x false) (gone.foldl (fun s x => s.igmp x true) s)).macUse

/-- Whether a MAC's gate is open at a line position (R143). -/
def gateAt (s : State) (m line slot : Nat) : Bool :=
  let d := s.fld F.MAC_GATE_CFG_DOMAIN m
  if !s.flag F.MAC_GATE_CFG_EN m || !s.running d then true
  else
    let cov := (List.range 16).filter (fun i => s.flag F.MAC_GATE_ENT_VALID m i &&
      decide (s.fld F.MAC_GATE_ENT_FIRST_LINE m i ≤ line) && decide (line ≤ s.fld F.MAC_GATE_ENT_LAST_LINE m i))
    if cov.isEmpty then s.flag F.MAC_GATE_CFG_DEFAULT_OPEN m
    else cov.any (fun i => decide (s.fld F.MAC_GATE_ENT_OPEN_SLOT m i ≤ slot) &&
      decide (slot ≤ s.fld F.MAC_GATE_ENT_CLOSE_SLOT m i))

/-- Slots a frame of `n` bytes takes on the line of a MAC whose gate follows domain `d`. -/
def frameSlots (s : State) (m n : Nat) : Nat :=
  match s.domFmt (s.fld F.MAC_GATE_CFG_DOMAIN m) with
  | some f => f.slotsUp (ceilDiv ((n + 20) * 8) (speedGbps (s.fld F.MAC_CFG_SPEED m)))
  | none => 0

/-- Whether the gate is open now and stays open for `n` more slots. -/
def gateStays (s : State) (m n : Nat) : Bool :=
  let d := s.fld F.MAC_GATE_CFG_DOMAIN m
  let tot := max 1 (fmtLines (s.fld F.REF_RAS_STAT_FORMAT_ACTIVE d))
  (List.range (n + 1)).all (fun k =>
    let p := (s.rasOf d).slot + k
    s.gateAt m (((s.rasOf d).line + p / 256 - 1) % tot + 1) (p % 256))

/-- Count a sent frame (R155). -/
def countTx (s : State) (f : TxFrame) : State :=
  let s := (s.macCount f.mac 32 f.len).macCount f.mac 33 1
  let s := s.macCount f.mac (if f.dst = 2 ^ 48 - 1 then 36 else if macGroup f.dst then 35 else 34) 1
  let s := s.macCount f.mac (37 + sizeBin f.len) 1
  if f.order < 4 then s.macCount f.mac 49 1 else s

/-- Discard preemptable frames still queued at the start of the second line after their descriptor's line
(R146). -/
def lateDrop (s : State) (m : Nat) : State :=
  let late (f : TxFrame) : Bool := f.mac == m && f.order == 4 && s.running f.dom && decide (f.ln + 2 ≤ s.absLine f.dom)
  let n := (s.mac.queue.filter late).length
  let s := { s with mac := { s.mac with queue := s.mac.queue.filter (fun f => !late f) } }
  if n = 0 then s else s.macCount m 51 n

/-- Frames that are late on any MAC, as a line starts (R146). -/
def lateDrops (s : State) : State := ((s.mac.queue.map TxFrame.mac).dedup).foldl lateDrop s

/-- The frame a MAC starts next (R139, R143, R145): the lowest express order in arrival order, then the
remainder of a preempted frame, then a preemptable frame while its gate is open (and, without merge, stays
open to its end). -/
def nextFrame (s : State) (m : Nat) : Option TxFrame :=
  let q := s.mac.queue.filter (fun f => f.mac == m)
  let ex := [1, 2, 3].findSome? (fun o => q.find? (fun f => f.order == o))
  match ex with
  | some f => some f
  | none =>
    let pre := (s.mac.held ++ q).find? (fun f => f.mac == m && f.order == 4)
    pre.filter (fun f =>
      if s.flag F.MAC_LINK_STAT_MERGE_ACTIVE m then s.gateStays m 0 else s.gateStays m (s.frameSlots m (f.len - f.done)))

/-- Remove the first occurrence of a frame. -/
def unqueue (s : State) (f : TxFrame) : State :=
  { s with mac := { s.mac with queue := s.mac.queue.erase f, held := s.mac.held.erase f } }

/-- Octets of a frame that pass on the line of a MAC before its gate closes. -/
def gateOctets (s : State) (m n : Nat) : Nat :=
  let d := s.fld F.MAC_GATE_CFG_DOMAIN m
  let tot := max 1 (fmtLines (s.fld F.REF_RAS_STAT_FORMAT_ACTIVE d))
  let opens := (List.range n).takeWhile (fun k =>
    let p := (s.rasOf d).slot + k
    s.gateAt m (((s.rasOf d).line + p / 256 - 1) % tot + 1) (p % 256))
  match s.domFmt d with
  | some f => opens.length * f.lpN * speedGbps (s.fld F.MAC_CFG_SPEED m) / (2048 * f.lpD)
  | none => 0

/-- The octets of the next fragment of a preemptable frame, where its gate closes before the frame ends (R145): up to the next
boundary at which 64 × (1 + ADD_FRAG) octets with the fragment's check have gone and at least 60 octets remain; none where the
frame ends first. -/
def fragmentOf (s : State) (f : TxFrame) : Option Nat :=
  let rest := f.len - f.done
  if f.order ≠ 4 ∨ !s.flag F.MAC_LINK_STAT_MERGE_ACTIVE f.mac ∨ s.gateStays f.mac (s.frameSlots f.mac rest) then none
  else
    let n := max (s.gateOctets f.mac (s.frameSlots f.mac rest) - 8) (64 * (1 + s.fld F.MAC_CFG_ADD_FRAG f.mac) - 4)
    if rest < n + 60 then none else some n

/-- A frame starts on the line (R145, R155). With merge, a preemptable frame that does not end before its gate closes is cut at the
next fragment boundary: the fragment leaves with its check (kind 0x22; the check's form is PRESUMED, log entry 118), and the
remainder waits. The last fragment has kind 0x23. -/
def startFrame (s : State) (f : TxFrame) : State :=
  let s := s.unqueue f
  match s.fragmentOf f with
  | some n =>
    let s := (s.macCount f.mac 46 1).macCount f.mac 47 1
    let ck := leBytes 4 (crc32 (f.body.take (f.done + n)) ^^^ 0x0000FFFF#32).toNat
    let s := s.emit (.frame f.mac 0x22 (slice f.body f.done n ++ ck))
    { s with mac := { s.mac with held := s.mac.held ++ [{ f with done := f.done + n }] } }
  | none =>
    if f.done = 0 then (s.countTx f).emit (.frame f.mac f.kind f.body)
    else ((s.macCount f.mac 46 1).countTx f).emit (.frame f.mac 0x23 (f.body.drop f.done))

/-! ## Link and verification (R140) -/

/-- A verify or respond frame of 64 octets leaves (R140, R155), where the MAC sends (R151). -/
def verifyFrame (s : State) (m kind : Nat) : State :=
  if s.macSends m false then
    (((s.macCount m 32 64).macCount m 33 1).macCount m 37 1).emit (.frame m kind [])
  else s

/-- A verify frame is sent. -/
def sendVerify (s : State) (m : Nat) : State :=
  let n := sget (fun _ => 0) s.mac.verify m + 1
  let s := { s with mac := { s.mac with verify := sset (fun _ => 0) s.mac.verify m n } }
  (if s.macSends m false then s.macCount m 52 1 else s).verifyFrame m 0x20

/-- A MAC link comes up (R140). -/
def linkUp (s : State) (m : Nat) : State :=
  if ¬(m < 32 ∧ s.flag F.MAC_CFG_EN m) then s
  else
    let s := s.setFlag F.MAC_LINK_STAT_LINK_UP true m
    let s := { s with mac := { s.mac with verify := sdel s.mac.verify m } }
    if !s.flag F.MAC_CFG_PREEMPT_EN m then (s.setFld F.MAC_LINK_STAT_VERIFY 0 m).setFlag F.MAC_LINK_STAT_MERGE_ACTIVE false m
    else if s.flag F.MAC_CFG_VERIFY_DIS m then
      (s.setFld F.MAC_LINK_STAT_VERIFY 0 m).setFlag F.MAC_LINK_STAT_MERGE_ACTIVE true m
    else ((s.setFld F.MAC_LINK_STAT_VERIFY 1 m).setFlag F.MAC_LINK_STAT_MERGE_ACTIVE false m).sendVerify m

/-- A MAC link goes down: a Notice fault (R541), and frames in flight are lost. -/
def linkDown (s : State) (m : Nat) : State :=
  if ¬(m < 32 ∧ s.flag F.MAC_LINK_STAT_LINK_UP m) then s
  else
    let s := (s.setFlag F.MAC_LINK_STAT_LINK_UP false m).setFlag F.MAC_LINK_STAT_LINK_DOWN_SEEN true m
    let s := (s.setFlag F.MAC_LINK_STAT_MERGE_ACTIVE false m).setFld F.MAC_LINK_STAT_VERIFY 0 m
    let s := { s with mac := { s.mac with held := s.mac.held.filter (fun f => f.mac != m),
                                          queue := s.mac.queue.filter (fun f => f.mac != m) } }
    if s.macCarries m then s.raise fltMacLinkDown [m] else s

/-- The verify interval expires (R140). -/
def verifyTimer (s : State) (m : Nat) : State :=
  if s.fld F.MAC_LINK_STAT_VERIFY m ≠ 1 then s
  else if sget (fun _ => 0) s.mac.verify m < 3 then s.sendVerify m
  else s.setFld F.MAC_LINK_STAT_VERIFY 3 m

/-- Answer a verification frame (R140). -/
def verifyRx (s : State) (m : Nat) (respond : Bool) : State :=
  if respond then
    if s.fld F.MAC_LINK_STAT_VERIFY m = 1 then
      (s.setFld F.MAC_LINK_STAT_VERIFY 2 m).setFlag F.MAC_LINK_STAT_MERGE_ACTIVE true m
    else s
  else s.verifyFrame m 0x21

/-! ## Statistics (R157) -/

/-- Every counter of a MAC into its snapshot. -/
def macSnap (s : State) (m : Nat) : State :=
  (List.range 64).foldl (fun (s : State) i =>
    let v := sget (fun _ => 0) s.mac.live (m * 64 + i)
    (s.setFld F.MAC_STAT_CNT_CNT_LO (v % 4294967296) m i).setFld F.MAC_STAT_CNT_CNT_HI (v / 4294967296) m i) s

/-- Every live counter of a MAC to zero. -/
def macClr (s : State) (m : Nat) : State :=
  { s with mac := { s.mac with live := s.mac.live.filter (fun e => e.1 / 64 != m) } }

/-! ## Gates (R147) -/

/-- A direct write of a gate register waits for the frame boundary like the command's (R147): word `i` of MAC_GATE_CFG and the
entries becomes `w`. -/
def gateWrite (s : State) (m i : Nat) (w : Word) : State :=
  let now := s.reg (F.MAC_GATE_CFG_EN.addr m 0) :: (List.range 32).map (fun k => s.reg (F.MAC_GATE_ENT_VALID.addr m 0 + 4 * k))
  let old := ((s.mac.gatePend.find? (fun p => p.1 == m)).map (·.2)).getD now
  { s with mac := { s.mac with gatePend := s.mac.gatePend.filter (fun p => p.1 != m) ++ [(m, old.set i w)] } }

/-- The gate changes that wait for the frame boundary of domain `d` take effect. -/
def gateFrame (s : State) (d : Nat) : State :=
  let due := s.mac.gatePend.filter (fun p => getBits (p.2.getD 0 0) 29 28 == d)
  let s := due.foldl (fun (s : State) p =>
    let s := s.setReg (F.MAC_GATE_CFG_EN.addr p.1 0) (p.2.getD 0 0 &&& 0xF0000000#32)
    (List.range 16).foldl (fun (s : State) i =>
      let a := F.MAC_GATE_ENT_VALID.addr p.1 i
      (s.setReg a (p.2.getD (1 + 2 * i) 0 &&& 0x8FFF0FFF#32)).setReg (a + 4) (p.2.getD (2 + 2 * i) 0xFF &&& 0xFFFF#32)) s) s
  { s with mac := { s.mac with gatePend := s.mac.gatePend.filter (fun p => !due.contains p) } }

end State

/-! ## Commands of family 0x09xx -/

/-- Fields of MAC_CFG. -/
def macFields : List Fld := [F.MAC_CFG_EN, F.MAC_CFG_SPEED, F.MAC_CFG_FEC_OFF, F.MAC_CFG_TX_EN, F.MAC_CFG_PREEMPT_EN,
  F.MAC_CFG_VERIFY_DIS, F.MAC_CFG_ADD_FRAG, F.MAC_CFG_MAX_FRAME]

/-- MAC_CFG (R489). -/
def applyMacCfg (c : Cmd) (s : State) : CmdResult :=
  let b := c.params
  let m := byteAt b 0
  let w := u32 b 4
  let chg := bitsOf w 31 28 != s.fld F.MAC_CFG_EN m * 8 + s.fld F.MAC_CFG_SPEED m * 2 + s.fld F.MAC_CFG_FEC_OFF m ||
    bitsOf w 13 0 != s.fld F.MAC_CFG_MAX_FRAME m
  let t := storeFields s macFields w m
  guarded [lenIs c 20, (decide (31 < m), rej 0x0108 0), (!inRanges [(1518, 9216)] (bitsOf w 13 0), rej 0x0108 4),
      (chg && s.macCarries m, rejAll 0x0305), (!t.portOk m, rej 0x0108 4)] fun _ =>
    let t := if t.flag F.MAC_CFG_EN m then t else (t.setFlag F.MAC_LINK_STAT_LINK_UP false m).setFlag
      F.MAC_LINK_STAT_MERGE_ACTIVE false m
    let t := (t.setFld F.MAC_ADDR_LO_ADDR_LO (u32 b 8) m).setFld F.MAC_ADDR_HI_ADDR_HI (u16 b 12) m
    .ok (t.setFld F.MAC_IPV4_IPV4 (u32 b 16) m) []

/-- A gate entry's form (MAC_GATE_ENT): a valid one names lines 1 to 2,250. -/
def gateEntOk (w0 : Nat) : Bool :=
  !bitOf w0 31 || (inRanges [(1, 2250)] (bitsOf w0 27 16) && inRanges [(1, 2250)] (bitsOf w0 11 0))

/-- MAC_GATE (R147, R489). -/
def applyMacGate (c : Cmd) (s : State) : CmdResult :=
  let b := c.params
  let m := byteAt b 0
  let n := byteAt b 1
  let w := u32 b 4
  let bad := (List.range n).find? (fun i => !gateEntOk (u32 b (8 + 8 * i)))
  guarded [(decide (b.length < 8), rej 0x0108 b.length), (decide (31 < m), rej 0x0108 0), (decide (16 < n), rej 0x0108 1),
      lenIs c (8 + 8 * n), (bad.isSome, rej 0x0108 (8 + 8 * bad.getD 0))] fun _ =>
    let words := BitVec.ofNat 32 w :: (List.range 16).flatMap (fun i =>
      if i < n then [BitVec.ofNat 32 (u32 b (8 + 8 * i)), BitVec.ofNat 32 (u32 b (12 + 8 * i))] else [0, 0xFF#32])
    let s := { s with mac := { s.mac with gatePend := s.mac.gatePend.filter (fun p => p.1 != m) ++ [(m, words)] } }
    .ok s [] (some ((s.predictFrame (bitsOf w 29 28)).map (·.2))) (s.frameNs (bitsOf w 29 28))

/-! ## Events -/

/-- MAC_LINK_UP (R140). -/
def execMacLinkUp (mac : Nat) (s : State) : Host.Outcome State Fault Refusal := runEff (fun s => s.linkUp mac) s

/-- MAC_LINK_DOWN. -/
def execMacLinkDown (mac : Nat) (s : State) : Host.Outcome State Fault Refusal := runEff (fun s => s.linkDown mac) s

/-- MAC_VERIFY_TIMER (R140). -/
def execMacVerifyTimer (mac : Nat) (s : State) : Host.Outcome State Fault Refusal :=
  runEff (fun s => s.verifyTimer mac) s

/-- IGMP_REPORT_SEND (R138): a report that is due, which answers a query. -/
def execIgmpReportSend (mac group : Nat) (s : State) : Host.Outcome State Fault Refusal :=
  runEff (fun s => if s.mac.igmpDue.contains (mac, group) && s.igmpReady mac then
    ({ s with mac := { s.mac with igmpDue := s.mac.igmpDue.filter (· != (mac, group)) } }).igmpState mac group else s) s

/-- SNAP (R157). -/
def execSnap (mac : Nat) (s : State) : Host.Outcome State Fault Refusal := runEff (fun s => s.macSnap mac) s

/-- CLR (R157). -/
def execClr (mac : Nat) (s : State) : Host.Outcome State Fault Refusal := runEff (fun s => s.macClr mac) s

end Sys2Proof.Machine
end

