-- ==== Sys2Proof/Machine/AudioMap.lean ====
section
/-! DEFINITION. The audio plane's tables as commands change them: writers and channels in use (R356,
R382), the crosspoint (R370 to R372), delay lines (R376 to R378), audio-follow-video (R283 to R285). -/

namespace Sys2Proof.Machine

/-- Indices a channel takes: two at 96 kHz (R356). -/
def chanSpan (rate : Nat) : Nat := if rate = 1 then 2 else 1

/-- Input streams are 0x1000 to 0x1FFF (R12). -/
def AStream.isIn (x : AStream) : Bool := decide (x.ident < 0x2000)

namespace State

/-- Channels a port direction reserves (R430): the larger of the TDM mask's and the AES3 mask's enabled slots. -/
def portSlots (mask : Nat) : Nat :=
  max ((List.range 32).filter (fun b => mask.testBit b)).length ((List.range 2).filter (fun b => mask.testBit b)).length

/-- The indices a port direction reserves from a base (R424, R430): two a channel where either format runs at 96 kHz. -/
def portRefs (s : State) (p mask base : Nat) : List Nat :=
  let wide := s.flag F.APT_TDM_CFG_RATE96 || s.flag F.APT_PORT_CFG_RATE96 p
  (List.range (portSlots mask * (if wide then 2 else 1))).map (· + base)

/-- Input channels a port writes itself: none with an SRC task, which writes them (R427). -/
def portIns (s : State) (p : Nat) : List Nat :=
  if s.flag F.APT_PORT_CFG_IN_EN p && !s.flag F.APT_PORT_CFG_SRC_EN p then
    s.portRefs p (s.fld F.APT_MASK_IN_MASK p ||| s.fld F.APT_MASK_ACTIVE_IN_MASK p) (s.fld F.APT_PORT_CFG_IN_BASE p) else []

/-- Output channels a port reads. -/
def portOuts (s : State) (p : Nat) : List Nat :=
  if s.flag F.APT_PORT_CFG_OUT_EN p then
    s.portRefs p (s.fld F.APT_MASK_OUT_MASK p ||| s.fld F.APT_MASK_ACTIVE_OUT_MASK p) (s.fld F.APT_PORT_OUT_OUT_BASE p) else []

/-- Input channel references with a writer (R356), with repeats where two would write: streams,
de-embedders, ports, SRC tasks. -/
def inWriters (s : State) : List Nat :=
  (s.aud.streams.filter AStream.isIn).flatMap (fun x => (List.range (x.chans * chanSpan x.rate)).map (· + x.base)) ++
  (s.aud.maps.filter (fun m => !m.embed && !m.srcEn)).flatMap (fun m => (m.entries.map (·.2)).filter (· != 0xFFFF)) ++
  (List.range 16).flatMap s.portIns ++
  s.nwt.cores.flatMap (fun c => c.tasks.flatMap (fun t => t.outs.filter (fun x => decide (x < 0x8000))))

/-- Internal channel references with a writer: Newt tasks and delay-line returns (R356). -/
def intWriters (s : State) : List Nat :=
  s.nwt.cores.flatMap (fun c => c.tasks.flatMap (fun t => t.outs.filter (fun x => decide (0x8000 ≤ x)))) ++
  s.aud.delays.flatMap (fun x => (List.range (x.chans * chanSpan x.rate)).map (· + x.ret))

/-- Whether any of `n` references from `b` already has a writer. -/
def hasWriter (s : State) (b n : Nat) : Bool :=
  let w := if b < 0x8000 then s.inWriters else s.intWriters
  (List.range n).any (fun k => w.contains (b + k))

/-- Output channels in use: senders, delay-line sends, embedders, ports (AUD_USE). -/
def outUsed (s : State) : List Nat :=
  ascending (
    (s.aud.streams.filter (fun x => !x.isIn)).flatMap (fun x =>
      (List.range (x.chans * chanSpan x.rate)).map (· + x.base)) ++
    s.aud.delays.flatMap (fun x => (List.range (x.chans * chanSpan x.rate)).map (· + x.send)) ++
    (s.aud.maps.filter EmbMap.embed).flatMap (fun m => (m.entries.map (·.2)).filter (· != 0xFFFF)) ++
    (List.range 16).flatMap s.portOuts)

/-- AUD_USE, recounted. -/
def audUse (s : State) : State :=
  let s := (s.setFld F.AUD_USE_IN_CH (ascending s.inWriters).length).setFld F.AUD_USE_OUT_CH s.outUsed.length
  let s := (s.setFld F.AUD_USE_INT_CH (ascending s.intWriters).length).setFld F.AUD_USE_BUNDLES s.aud.delays.length
  (s.setFld F.AUD_USE_IN_STREAMS ((s.aud.streams.filter AStream.isIn).length + s.aud.delays.length)).setFld
    F.AUD_USE_OUT_STREAMS (s.aud.streams.filter (fun x => !x.isIn)).length

/-- Set a selection at once (R370). -/
def xpSet (s : State) (ch src : Nat) : State :=
  ((s.setFld F.AUD_XP_SRC src ch).setFlag F.AUD_XP_PEND false ch).setFlag F.AUD_XP_AFV_PEND false ch

/-- Put a change in waiting (R371, R372): a later change of the channel withdraws one that waits; a
withdrawn change of a take writes an event naming output and channel. -/
def xpWait (s : State) (x : XpChange) : State :=
  let old := s.aud.pend.filter (fun y => y.ch == x.ch)
  let s := old.foldl (fun (t : State) (y : XpChange) =>
    match y.viaOut with
    | some o => if x.viaOut.isNone then t.event blkAud 0 0x0104 [o, y.ch] else t
    | none => t) s
  let s := { s with aud := { s.aud with pend := s.aud.pend.filter (fun (y : XpChange) => y.ch != x.ch) ++ [x] } }
  let s := (s.setFld F.AUD_XP_SRC_PEND x.src x.ch).setFlag F.AUD_XP_PEND true x.ch
  s.setFlag F.AUD_XP_AFV_PEND x.viaOut.isSome x.ch

/-! ## Delay lines -/

/-- Ring tiles of a delay line: ceil(D / S_t) + 2 (R378). -/
def delayTiles (x : DelayLine) : Nat := ceilDiv x.delay (max 1 (tileSamples x * chanSpan x.rate)) + 2

/-- The limits of R376 and R378. -/
def delayForm (x : DelayLine) : Bool :=
  let st := tileSamples x * chanSpan x.rate
  decide (1 ≤ x.chans) && decide (x.chans ≤ 64) && decide (0 < st) && decide (max 96 (3 * st) ≤ x.delay) &&
    decide (x.delay ≤ 10 * (if x.rate = 1 then 96000 else 48000))

/-- The first bundle number no line uses; which one an automatic line takes is not stated (DESIGN CHOICE, log entry 108). -/
def freeBundle (s : State) : Option Nat :=
  (List.range 4096).find? (fun b => !s.aud.delays.any (fun x => x.bundle == b))

/-- The first label that names no stream and no line. The specification does not say which identifier an automatic line takes
(DESIGN CHOICE, log entry 108). -/
def freeLabel (s : State) : Option Nat :=
  ((List.range 4096).map (· + 0x1000)).find? (fun l =>
    !s.aud.delays.any (fun x => x.label == l) && !s.aud.streams.any (fun x => x.ident == l))

/-- The first base, a multiple of 64, of 64 unused output channels (DESIGN CHOICE, log entry 108). -/
def freeSend (s : State) : Option Nat :=
  let u := s.outUsed
  ((List.range 512).map (· * 64)).find? (fun b =>
    u.all (fun x => decide (x < b) || decide (b + 64 ≤ x)) &&
      (List.range 64).all (fun k => s.fld F.AUD_XP_SRC (b + k) == 0xFFFF))

/-- The first base, a multiple of 64, of 64 internal channels without a writer (DESIGN CHOICE, log entry 108). -/
def freeReturn (s : State) : Option Nat :=
  let u := s.intWriters
  ((List.range 256).map (fun k => 0x8000 + k * 64)).find? (fun b =>
    u.all (fun x => decide (x < b) || decide (b + 64 ≤ x)))

/-- Automatic lines are those with a user (R284). -/
def autoLines (s : State) : List DelayLine := s.aud.delays.filter (fun x => !x.users.isEmpty)

/-- The internal channel that carries a source channel delayed by `n` samples, made if it is missing
(R284): one line serves every route that shares source channel and delay. An automatic line has 64
channels (DESIGN CHOICE). -/
def afvReturn (s : State) (dom ch n : Nat) : Option (State × Nat) :=
  let same := s.autoLines.filter (fun x => x.delay == n && x.dom == dom)
  match same.findSome? (fun x => (x.users.find? (fun u => u.2.1 == ch)).map (fun u => x.ret + u.1)) with
  | some r => some (s, r)
  | none =>
    match same.find? (fun x => decide (x.users.length < 64)) with
    | some x =>
      let used := x.users.map (fun u => u.1)
      let k := ((List.range 64).find? (fun k => !used.contains k)).getD 0
      let x' := { x with users := x.users ++ [(k, ch, 0)] }
      let s := { s with aud := { s.aud with
        delays := s.aud.delays.map (fun (y : DelayLine) => if y.bundle == x.bundle then x' else y) } }
      some (s.xpSet (x.send + k) ch, x.ret + k)
    | none =>
      match s.freeBundle, s.freeLabel, s.freeSend, s.freeReturn with
      | some b, some l, some sd, some rt =>
        let x : DelayLine := ⟨b, l, 64, sd, rt, dom, 0, n, [(0, ch, 0)], none, 0, 0, 0, [], []⟩
        if delayForm x then
          some (({ s with aud := { s.aud with delays := s.aud.delays ++ [x] } }).xpSet sd ch, rt)
        else none
      | _, _, _, _ => none

/-- A source frame's delay in samples at 48 kHz, to the nearest sample (R284). -/
def frameSamples (f : Fmt) (d : Nat) : Nat := (2 * d * f.den * 48000 + f.num) / (2 * f.num)

/-- The input channel at a position of a source's de-embed map; silence where it has none. -/
def deembedAt (s : State) (src pos : Nat) : Nat :=
  match s.aud.maps.find? (fun m => m.flow == src && !m.embed) with
  | some m => ((m.entries.find? (fun e => e.1 == pos)).map (·.2)).getD 0xFFFF
  | none => 0xFFFF

/-- The crosspoint changes of one route with AFV (R283, R284), waiting for the flip of its domain. -/
def afvRoute (s : State) (r : Route) : Option State :=
  match s.vout r.out with
  | none => some s
  | some o =>
    o.follow.foldl (fun (acc : Option State) p =>
      match acc with
      | none => none
      | some s =>
        let ch := s.deembedAt r.src p.2
        let n := ((s.picture r.src).bind (fun x => fmtOf x.format)).map (fun f => frameSamples f r.delay)
        let got := if r.delay = 0 ∨ ch = 0xFFFF then some (s, ch) else s.afvReturn o.dom ch (n.getD 0)
        match got with
        | none => none
        | some (s, src) =>
          some (s.xpWait ⟨p.1, src, s.fld F.AUD_XP_XFADE p.1, some r.out, o.dom, none⟩)) (some s)

/-- Drop automatic delay-line users that no applied or active route needs any more, with their lines. -/
def afvGc (s : State) : State :=
  let routes := s.pat.routes ++ (List.range 4).flatMap (fun d => (s.activeBank d).routes)
  let need (dom ch n : Nat) : Bool := routes.any (fun r => r.afv && r.delay != 0 &&
    (match s.vout r.out with
     | some o => o.dom == dom && o.follow.any (fun p => s.deembedAt r.src p.2 == ch)
     | none => false) &&
    (((s.picture r.src).bind (fun x => fmtOf x.format)).map (fun f => frameSamples f r.delay)) == some n)
  let keep (x : DelayLine) : List (Nat × Nat × Nat) := x.users.filter (fun u => need x.dom u.2.1 x.delay)
  { s with aud := { s.aud with
      delays := (s.aud.delays.filter (fun x => x.users.isEmpty || !(keep x).isEmpty)).map (fun x =>
        { x with users := keep x }) } }

end State
end Sys2Proof.Machine
end

