-- ==== Sys2Proof/Machine/Pool.lean ====
section
/-! DEFINITION. The tile pool (chapter 07): tiles and trailers, rings and the free list, reads with
retries and concealment, retirement and repair, Riddle, and the windows. -/

namespace Sys2Proof.Machine

/-! ## Tiles (R185 to R190) -/

/-- What a byte of the pool reads as when nothing has written it: an initialised tile (R217). -/
def initByte (a : Nat) : Byte :=
  let o := a % 4096
  if o = 4032 ∨ o = 4033 then 0xFF
  else if 4092 ≤ o then (leBytes 4 466854820).getD (o - 4092) 0
  else 0

/-- Channel of a tile index (R185). -/
def tileChannel (t : Nat) : Nat := t % 128

/-- First reserve tile (R186). -/
def reserveBase : Nat := 0x1F00000

/-- Identifiers that may hold a ring (R192): video inputs, delay-line labels, ANC inputs, surfaces and test sources. -/
def ringIds : List (Nat × Nat) := [(0, 0x7FF), (0x1000, 0x1FFF), (0x3000, 0x33FF), (0x4000, 0x41FF)]

/-- FLAGS bits of R189. -/
def flagConceal : Nat := 1
def flagRepeat : Nat := 2
def flagTest : Nat := 4
def flagTwin : Nat := 8
def flagLost : Nat := 16
def flagHostw : Nat := 32

/-- The trailer's CRC over 4,032 payload bytes and 60 trailer bytes (R188). -/
def tileCrc (payload trailer : Bytes) : Bytes := leBytes 4 (crc32c (payload ++ trailer)).toNat

/-- The first 60 bytes of a trailer (R188). -/
def trailerHead (flow frame line seg fill flags cast : Nat) : Bytes :=
  leBytes 2 flow ++ leBytes 4 frame ++ leBytes 2 line ++ leBytes 1 seg ++ leBytes 2 fill ++ [0] ++
    leBytes 2 flags ++ [0, 0] ++ leBytes 8 cast ++ List.replicate 36 0

namespace State

/-- The stored bytes of a tile from a byte. -/
def tileBytes (s : State) (t off n : Nat) : Bytes := sgetMany initByte s.pool.mem (t * 4096 + off) n

/-- Store bytes of a tile. -/
def tileWrite (s : State) (t off : Nat) (b : Bytes) : State :=
  { s with pool := { s.pool with mem := ssetMany initByte s.pool.mem (t * 4096 + off) b } }

/-- FLOW of a tile's trailer. -/
def tileFlow (s : State) (t : Nat) : Nat := u16 (s.tileBytes t 4032 2) 0

/-- FLAGS of a tile's trailer. -/
def tileFlags (s : State) (t : Nat) : Nat := u16 (s.tileBytes t 4044 2) 0

/-- Whether a tile's stored CRC matches (R188); a tile with no written byte is as initialised (R217). -/
def tileCrcOk (s : State) (t : Nat) : Bool :=
  !s.pool.mem.any (fun c => c.1 / 4096 == t) ||
    s.tileBytes t 4092 4 == tileCrc (s.tileBytes t 0 4032) (s.tileBytes t 4032 60)

/-- Write a tile's trailer, CRC last (R168, R188). -/
def writeTrailer (s : State) (t flow frame line seg fill flags : Nat) : State :=
  let h := trailerHead flow frame line seg fill flags s.sys.epoch
  s.tileWrite t 4032 (h ++ tileCrc (s.tileBytes t 0 4032) h)

/-! ## Rings and the free list (R192 to R197) -/

/-- The ring of a flow's generation. -/
def ring (s : State) (flow gen : Nat) : Option Ring := s.pool.rings.find? (fun r => r.flow == flow && r.gen == gen)

/-- A retired tile resolves to its reserve tile (R193, R211). -/
def remapped (s : State) (t : Nat) : Nat := ((s.pool.remap.find? (fun p => p.1 == t)).map (·.2)).getD t

/-- The tile index of a ring position before the remap (R193). -/
def extentTile : List (Nat × Nat) → Nat → Option Nat
  | [], _ => none
  | (a, n) :: es, p => if p < n then some (a + p) else extentTile es (p - n)

/-- The tile a ring position resolves to; none at a bad position (R193, R211, R212). -/
def resolve (s : State) (flow gen pos : Nat) : Option Nat :=
  match s.ring flow gen with
  | none => none
  | some r =>
    match extentTile r.extents pos with
    | none => none
    | some t => if s.pool.bad.any (fun b => b.1 == flow && b.2 == t) then none else some (s.remapped t)

end State

/-- Free extents in allocation order: largest first, then the lowest index (R195). -/
def allocOrder (l : List (Nat × Nat)) : List (Nat × Nat) :=
  l.foldl (fun acc x => ins x acc) []
where
  ins (x : Nat × Nat) : List (Nat × Nat) → List (Nat × Nat)
    | [] => [x]
    | y :: ys => if y.2 < x.2 ∨ (y.2 = x.2 ∧ x.1 < y.1) then x :: y :: ys else y :: ins x ys

/-- Place `need` tiles over extents in order, each but the first beginning in the channel after the last
placed (R194, R195): the extents taken, and the tiles not placed. -/
def place : List (Nat × Nat) → Option Nat → Nat → List (Nat × Nat) × Nat
  | [], _, need => ([], need)
  | (a, n) :: es, ch, need =>
    if need = 0 then ([], 0)
    else
      let trim := match ch with
        | none => 0
        | some c => (c + 128 - a % 128) % 128
      if n ≤ trim then place es ch need
      else
        let take := min (n - trim) need
        let (l, short) := place es (some ((a + trim + take) % 128)) (need - take)
        ((a + trim, take) :: l, short)

/-- Remove a taken range from a free list in ascending order. -/
def takeRange (x : Nat × Nat) : List (Nat × Nat) → List (Nat × Nat)
  | [] => []
  | (a, n) :: es =>
    if a ≤ x.1 ∧ x.1 + x.2 ≤ a + n then
      (if a < x.1 then [(a, x.1 - a)] else []) ++ (if x.1 + x.2 < a + n then [(x.1 + x.2, a + n - (x.1 + x.2))] else [])
        ++ es
    else (a, n) :: takeRange x es

/-- Give a range back to a free list in ascending order, merging neighbours (R197). -/
def giveRange (x : Nat × Nat) : List (Nat × Nat) → List (Nat × Nat)
  | [] => [x]
  | (a, n) :: es =>
    if x.1 + x.2 < a then x :: (a, n) :: es
    else if x.1 + x.2 = a then (x.1, x.2 + n) :: es
    else if a + n = x.1 then giveRange (a, n + x.2) es
    else (a, n) :: giveRange x es

/-- What an allocation found (R195, R196). -/
inductive AllocResult where
  | ok (extents : List (Nat × Nat))
  | bad (r : RefRec)

namespace State

/-- Extents in use by all rings. -/
def extentsUsed (s : State) : Nat := (s.pool.rings.map (fun r => r.extents.length)).foldl (· + ·) 0

/-- Try to allocate a ring (R194 to R196). -/
def allocTry (s : State) (tiles : Nat) : AllocResult :=
  let (l, short) := place (allocOrder s.pool.free) none tiles
  let (_, short256) := (l.take 256, ((l.drop 256).map (·.2)).foldl (· + ·) 0)
  if 256 < l.length ∧ 0 < short256 then .bad (rejRes 0x0205 256 l.length)
  else if 0 < short then .bad { rejRes 0x0204 (tiles - short) tiles with shortfall := short }
  else if 65536 < s.extentsUsed + l.length then
    .bad (rejRes 0x0205 (65536 - s.extentsUsed) l.length)
  else .ok l

/-- Give a ring its extents. -/
def allocRing (s : State) (flow gen dom tiles : Nat) (l : List (Nat × Nat)) : State :=
  { s with pool := { s.pool with
      free := l.foldl (fun fr x => takeRange x fr) s.pool.free
      rings := s.pool.rings ++ [⟨flow, gen, dom, tiles, l⟩] } }

/-- Release a ring (R197): at the next frame boundary of its domain, at once while it is stopped. -/
def releaseRing (s : State) (flow gen : Nat) : State :=
  match s.ring flow gen with
  | none => s
  | some r =>
    let rings := s.pool.rings.filter (fun x => !(x.flow == flow && x.gen == gen))
    let bad := s.pool.bad.filter (fun b => b.1 != flow)
    if s.running r.dom then
      { s with pool := { s.pool with rings := rings, bad := bad,
                                     release := s.pool.release ++ r.extents.map (fun x => (r.dom, x.1, x.2)) } }
    else
      { s with pool := { s.pool with rings := rings, bad := bad,
                                     free := r.extents.foldl (fun fr x => giveRange x fr) s.pool.free } }

/-- Release every ring of a flow. -/
def releaseFlow (s : State) (flow : Nat) : State :=
  ((s.pool.rings.filter (fun r => r.flow == flow)).map Ring.gen).foldl (fun s g => s.releaseRing flow g) s

/-- Free tiles and reserve figures (POOL_FREE, POOL_CH_CNT word 6). -/
def freeTiles (s : State) : Nat := (s.pool.free.map (·.2)).foldl (· + ·) 0

/-- Reserve tiles a channel has left (R211, R214). -/
def reserveLeft (s : State) (ch : Nat) : Nat :=
  8192 - sget (fun _ => 0) s.pool.resUsed ch + (s.pool.resBack.filter (fun t => t % 128 == ch)).length

/-! ## Retirement and repair (R209 to R214) -/

/-- The ring that holds a tile, before the remap, with its domain. -/
def ringOfTile (s : State) (t : Nat) : Option Ring :=
  s.pool.rings.find? (fun r => r.extents.any (fun x => decide (x.1 ≤ t) && decide (t < x.1 + x.2)))

/-- A reserve tile of a channel for a remap (R211): repaired indices that joined the reserve last. -/
def takeReserve (s : State) (ch : Nat) : Option (Nat × State) :=
  let used := sget (fun _ => 0) s.pool.resUsed ch
  if used < 8192 then
    some (reserveBase + used * 128 + ch,
      { s with pool := { s.pool with resUsed := sset (fun _ => 0) s.pool.resUsed ch (used + 1) } })
  else
    match s.pool.resBack.find? (fun t => t % 128 == ch) with
    | some t => some (t, { s with pool := { s.pool with resBack := s.pool.resBack.erase t } })
    | none => none

/-- Queue a retired tile's DRAM row (R213). -/
def pprQueue (s : State) (t : Nat) : State :=
  let ch := tileChannel t
  let bank := (Config.tileBank t).toNat
  let row := (Config.tileRow t).toNat
  if s.pool.ppr.any (fun r => r.channel == ch && r.bank == bank && r.row == row) then
    { s with pool := { s.pool with ppr := s.pool.ppr.map (fun (r : PprRow) =>
        if r.channel == ch && r.bank == bank && r.row == row then { r with tiles := r.tiles ++ [t] } else r) } }
  else if s.pool.ppr.length < 1024 then
    { s with pool := { s.pool with ppr := s.pool.ppr ++ [⟨ch, bank, row, t, [t], false⟩] } }
  else (s.setFlag F.POOL_STAT_PPR_OVF true).axlEvent 0x0023 ch bank row

/-- Note a channel's reserve: POOL_STAT.RESERVE_LOW and the Degrade raise below 819 tiles (R212). -/
def reserveCheck (s : State) (ch : Nat) : State :=
  let s := s.setFld F.POOL_CH_CNT_RESERVE_FREE (s.reserveLeft ch) ch
  let low := (List.range 128).any (fun c => decide (s.reserveLeft c < 819))
  let s := s.setFlag F.POOL_STAT_RESERVE_LOW low
  if s.reserveLeft ch < 819 then s.raise fltPoolReserve [ch] else s

/-- Apply a remap now: reads of the tile resolve to the reserve tile (R211). -/
def remapNow (s : State) (t r : Nat) : State :=
  { s with pool := { s.pool with remap := s.pool.remap ++ [(t, r)],
                                 remapPend := s.pool.remapPend.filter (fun p => p.1 != t) } }

/-- Retire a tile (R210 to R213): a tile of a ring remaps at the next frame boundary of its running
domain, else at once; without a reserve tile or a free remap entry its position goes bad. -/
def retire (s : State) (t : Nat) : State :=
  let ch := tileChannel t
  let rg := s.ringOfTile t
  let s := s.incFld F.POOL_CH_CNT_RETIRED ch
  let s := (s.axlEvent 0x0020 0xFF ch t).event blkPool 1 0x0020 [t, (rg.map Ring.flow).getD 0xFFFF, ch]
  let s := (s.raise fltPoolRetire [t, ch]).pprQueue t
  match (if s.pool.remap.length + s.pool.remapPend.length < 65536 then s.takeReserve ch else none) with
  | some (r, s) =>
    let s := s.reserveCheck ch
    match rg with
    | some g =>
      if s.running g.dom then
        { s with pool := { s.pool with remapPend := s.pool.remapPend ++ [(t, r, g.dom)] } }
      else s.remapNow t r
    | none => s.remapNow t r
  | none =>
    let s := match rg with
      | some g => { s with pool := { s.pool with bad := s.pool.bad ++ [(g.flow, t)] } }
      | none => s
    (s.setFlag F.POOL_STAT_MAP_BAD_ANY true).raise fltPoolReserve [ch]

/-- A failing CRC check of a tile (R208, R209): counted for the channel and in the suspect table; at 3 the
tile retires while RETIRE_EN is set. -/
def suspectAdd (s : State) (t : Nat) : State :=
  let s := s.incFld F.POOL_CH_CNT_CRC_FAIL (tileChannel t)
  let s : State := match s.pool.suspect.find? (fun x => x.tile == t) with
    | some x => { s with pool := { s.pool with suspect := s.pool.suspect.map (fun (y : Suspect) =>
        if y.tile == t then { y with count := x.count + 1 } else y) } }
    | none =>
      if s.pool.suspect.length < 4096 then
        { s with pool := { s.pool with suspect := s.pool.suspect ++ [(⟨t, 1, s.tick⟩ : Suspect)] } }
      else
        let old := s.pool.suspect.foldl (fun m x => min m x.first) s.tick
        let rest := match s.pool.suspect.find? (fun x => x.first == old) with
          | some x => s.pool.suspect.erase x
          | none => s.pool.suspect.drop 1
        ({ s with pool := { s.pool with suspect := rest ++ [(⟨t, 1, s.tick⟩ : Suspect)] } }).setFlag F.POOL_STAT_SUSPECT_OVF true
  match s.pool.suspect.find? (fun x => x.tile == t) with
  | some x =>
    if 3 ≤ x.count ∧ s.flag F.POOL_CFG_RETIRE_EN then
      let known := s.pool.remap.any (fun p => p.1 == t) || s.pool.remapPend.any (fun p => p.1 == t)
      let s := { s with pool := { s.pool with suspect := s.pool.suspect.erase x } }
      if known then s else s.retire t
    else s
  | none => s

/-- A suspect entry expires 10 s after its first failure (R209). -/
def suspectExpire (s : State) (t : Nat) : State :=
  { s with pool := { s.pool with suspect := s.pool.suspect.filter (fun x => x.tile != t) } }

/-- The next row a running repair takes (R213): the first without NO_SPARE. -/
def pprNext (s : State) : Option PprRow := s.pool.ppr.find? (fun r => !r.noSpare)

/-- A row's repair completes (R213, R214): repaired, its tiles join the reserve and its contents are lost;
or the bank has no spare row left. -/
def pprDone (s : State) (ok : Bool) : State :=
  if !s.pool.pprRun then s
  else
    match s.pprNext with
    | none => { s with pool := { s.pool with pprRun := false } }
    | some r =>
      let s :=
        if ok then
          let s := { s with pool := { s.pool with
              ppr := s.pool.ppr.erase r, resBack := s.pool.resBack ++ r.tiles,
              mem := s.pool.mem.filter (fun c => !r.tiles.contains (c.1 / 4096)) } }
          ((s.axlEvent 0x0021 r.channel r.bank r.row).event blkPool 0 0x0021 [r.channel, r.bank, r.row]).setFld
            F.POOL_CH_CNT_RESERVE_FREE (s.reserveLeft r.channel) r.channel
        else
          let s := { s with pool := { s.pool with
              ppr := s.pool.ppr.map (fun (x : PprRow) => if x == r then { x with noSpare := true } else x) } }
          (s.axlEvent 0x0022 r.channel r.bank r.row).event blkPool 0 0x0022 [r.channel, r.bank, r.row]
      match s.pprNext with
      | none => { s with pool := { s.pool with pprRun := false } }
      | some _ => s

/-- The pool's part of a frame boundary of domain `d`: remaps and releases that waited (R197, R210). -/
def poolFrame (s : State) (d : Nat) : State :=
  let s := (s.pool.remapPend.filter (fun p => p.2.2 == d)).foldl (fun s p => s.remapNow p.1 p.2.1) s
  let due := s.pool.release.filter (fun p => p.1 == d)
  { s with pool := { s.pool with free := due.foldl (fun fr x => giveRange x.2 fr) s.pool.free,
                                 release := s.pool.release.filter (fun p => p.1 != d) } }

/-! ## Reads (R205 to R208) -/

end State

/-- Whether a read's own transaction has begun and has not returned. -/
def PoolRead.origOut (r : PoolRead) : Bool := r.tile.isSome && r.tries == 0 && !r.good && !r.noRetry && !r.waiting

/-- Whether a read holds a recovery tag for a retry: one is in flight or waits. -/
def PoolRead.retryOut (r : PoolRead) : Bool := decide (0 < r.tries) && !r.good && !r.noRetry

/-- Whether a read lies on a channel. -/
def PoolRead.on (r : PoolRead) (ch : Nat) : Bool := (r.tile.map tileChannel) == some ch

/-- Whether a read's concealment read lies on a channel. -/
def PoolRead.concOn (r : PoolRead) (ch : Nat) : Bool := (r.conceal.map tileChannel) == some ch

namespace State

/-- Pattern tags in use on a channel (R200). -/
def patternUse (s : State) (ch : Nat) : Nat := (s.pool.reads.filter (fun r => r.on ch && r.origOut)).length

/-- Recovery tags in use on a channel (R200, R203): retries and concealment reads. -/
def recoveryUse (s : State) (ch : Nat) : Nat :=
  (s.pool.reads.filter (fun r => r.on ch && r.retryOut)).length +
    (s.pool.reads.filter (fun r => r.concOn ch && (r.concOut || r.concWait))).length

/-- Whether a pattern transaction waits on a channel (R202). Those of a channel begin in the order of their issue (R238). -/
def patternWaits (s : State) (ch : Nat) : Bool := s.pool.reads.any (fun r => r.on ch && r.waiting)

/-- Whether a pattern transaction can begin on a channel (R200, R202): of its 96 tags one is free, and none waits. -/
def patternFree (s : State) (ch : Nat) : Bool := !s.patternWaits ch && decide (s.patternUse ch < 96)

/-- Whether a transaction of the pattern or recovery class waits on a channel (R204). -/
def earlyWaits (s : State) (ch : Nat) : Bool :=
  s.pool.reads.any (fun r => (r.on ch && (r.waiting || r.retryWait)) || (r.concOn ch && r.concWait))

/-- The highest tag use of a channel is noted (POOL_CH_CNT word 6), with `n` writes that begin now. -/
def tagPeak (s : State) (ch n : Nat) : State :=
  let s := s.setFld F.POOL_CH_CNT_TAG_PEAK_PAT (max (s.fld F.POOL_CH_CNT_TAG_PEAK_PAT ch) (s.patternUse ch + n)) ch
  s.setFld F.POOL_CH_CNT_TAG_PEAK_REC (max (s.fld F.POOL_CH_CNT_TAG_PEAK_REC ch) (s.recoveryUse ch)) ch

/-- Whether the frame in progress of an input flow is a repeat (R189). -/
def repeats (s : State) (flow : Nat) : Bool := (s.inFlow flow).any InFlow.rep

/-- Issue the read of one ring position (R233, R205): the concealment position of a video read lies TPF
below it. It waits where its channel has no free pattern tag (R202). What it finds later changes the content alone (R236). -/
def issueRead (s : State) (exec d : Nat) (rd : Reader) (flow gen pos k : Nat) (concPos : Option Nat) : State :=
  let t := s.resolve flow gen pos
  let c := if t.isNone then none else concPos.bind (fun p => s.resolve flow gen p)
  let wait := t.any (fun x => !s.patternFree (tileChannel x))
  let r : PoolRead := ⟨s.pool.nextRead, exec, d, rd, flow, gen, pos, k, t, c, false, false, false, 0,
    if t.isSome && !wait then 1 else 0, false, false, t.isNone, false, (s.rasOf d).line, (s.rasOf d).slot, (s.rasOf d).frameN,
    wait, false, false, s.repeats flow⟩
  let s := { s with pool := { s.pool with reads := s.pool.reads ++ [r], nextRead := s.pool.nextRead + 1 } }
  match t with
  | some x => s.tagPeak (tileChannel x) 0
  | none => s

/-- Replace a read by its number. -/
def setRead (s : State) (r : PoolRead) : State :=
  { s with pool := { s.pool with reads := s.pool.reads.map (fun x => if x.ident == r.ident then r else x) } }

/-- Issue the one concealment read of a failing read, while a recovery tag is free (R203, R205); it waits behind a pattern
transaction that waits on its channel (R204). -/
def concealStart (s : State) (r : PoolRead) : PoolRead :=
  match r.conceal with
  | some c =>
    let ch := tileChannel c
    if r.concOut || r.concWait || r.concGood || decide (16 ≤ s.recoveryUse ch) then r
    else if s.patternWaits ch then { r with concWait := true }
    else { r with concOut := true, inFlight := r.inFlight + 1 }
  | none => r

/-- Data of a read or retry returns (R198, R205, R208). At a CRC failure with every recovery tag of the channel in use there is
neither a retry nor a concealment read (R203). -/
def readBack (s : State) (r : PoolRead) (t : Nat) (ecc : Bool) : State :=
  let ch := tileChannel t
  if ecc || !s.tileCrcOk t then
    let s := (s.suspectAdd t).setRead { r with inFlight := r.inFlight - 1, noRetry := true }
    let room := decide (s.recoveryUse ch < 16)
    let retry := decide (r.tries < 2) && !r.budgetOver && room
    let wait := s.patternWaits ch
    let r1 := if retry then { r with tries := r.tries + 1, inFlight := if wait then r.inFlight - 1 else r.inFlight, retryWait := wait }
      else { r with inFlight := r.inFlight - 1, noRetry := true }
    let s := s.setRead r1
    let s := s.setRead (if r.tries = 0 ∧ room then s.concealStart r1 else r1)
    if retry then s.tagPeak ch 0 else s
  else if s.tileFlow t ≠ r.flow then
    let s := s.incFld F.POOL_CH_CNT_FLOW_MISM ch
    s.setRead (s.concealStart { r with inFlight := r.inFlight - 1, noRetry := true, lost := true })
  else if s.tileFlags t &&& flagLost ≠ 0 then
    s.setRead (s.concealStart { r with inFlight := r.inFlight - 1, noRetry := true, lost := true })
  else
    let s := if 0 < r.tries then s.incFld F.POOL_CH_CNT_RETRY_OK ch else s
    s.setRead { r with good := true, inFlight := r.inFlight - 1 }

/-- Data of a concealment read returns (R206 item 2): good when its CRC passes, its FLOW matches and LOST
is 0; a FLOW that differs is counted as of every read (R198). -/
def concealBack (s : State) (r : PoolRead) (c : Nat) (ecc : Bool) : State :=
  if ecc || !s.tileCrcOk c then
    (s.suspectAdd c).setRead { r with concOut := false, inFlight := r.inFlight - 1 }
  else
    let s := if s.tileFlow c = r.flow then s else s.incFld F.POOL_CH_CNT_FLOW_MISM (tileChannel c)
    s.setRead { r with concOut := false, inFlight := r.inFlight - 1,
                       concGood := s.tileFlow c == r.flow && s.tileFlags c &&& flagLost == 0 }

/-- Single-bit errors that the ECC corrects in a tile as it is read are counted on its channel. -/
def readCorrected (s : State) (ident which corr : Nat) : State :=
  match s.pool.reads.find? (fun r => r.ident == ident) with
  | none => s
  | some r => if r.inFlight = 0 ∨ corr = 0 then s
    else s.addFld F.POOL_CH_CNT_ECC_CORR corr (tileChannel ((if which = 0 then r.tile else r.conceal).getD 0))

/-- POOL_READ_RETURN: a read's data returns, the original or a retry (`which` 0), or the concealment
read; `ecc` marks an uncorrectable burst. Data after the deadline is discarded (R207). -/
def readReturn (s : State) (ident which : Nat) (ecc : Bool) : State :=
  match s.pool.reads.find? (fun r => r.ident == ident) with
  | none => s
  | some r =>
    if r.inFlight = 0 then s
    else if r.late then
      let s := s.incFld F.POOL_CH_CNT_LATE_DISC (tileChannel ((if which = 0 then r.tile else r.conceal).getD 0))
      if r.inFlight = 1 then { s with pool := { s.pool with reads := s.pool.reads.erase r } }
      else s.setRead (if which = 0 then { r with inFlight := r.inFlight - 1, noRetry := true }
        else { r with inFlight := r.inFlight - 1, concOut := false })
    else if which = 0 then
      if r.good || r.retryWait || (r.concOut && r.inFlight = 1) then s
      else
        match r.tile with
        | some t => s.readBack r t ecc
        | none => s
    else
      match r.conceal with
      | some c => if r.concOut then s.concealBack r c ecc else s
      | none => s

/-- The retry budget of a read ended (R205): a retry that waits is not begun. -/
def retryBudget (s : State) (ident : Nat) : State :=
  match s.pool.reads.find? (fun r => r.ident == ident) with
  | some r => s.setRead { r with budgetOver := true, noRetry := r.noRetry || r.retryWait, retryWait := false }
  | none => s

/-! ## Riddle (R218, R219) -/

/-- Riddle's read of a tile: one of a ring whose FLOW matches is checked. -/
def scrubTile (s : State) (p : Nat) : State :=
  match s.ringOfTile p with
  | some r => if s.tileFlow p = r.flow ∧ !s.tileCrcOk p then s.suspectAdd p else s
  | none => s

/-- One scrub read; it waits while a transaction of an earlier class waits on its channel (R204). -/
def scrubOne (s : State) : State :=
  let p := s.fld F.POOL_RIDDLE_POSITION
  let s := if s.earlyWaits (tileChannel p) then { s with pool := { s.pool with scrubWait := s.pool.scrubWait ++ [p] } } else s.scrubTile p
  if p + 1 < 33554432 then s.setFld F.POOL_RIDDLE_POSITION (p + 1)
  else (s.setFld F.POOL_RIDDLE_POSITION 0).setPair F.POOL_RIDDLE_PASS_DONE_EPOCH_W1
    F.POOL_RIDDLE_PASS_DONE_EPOCH_W2 s.sys.epoch

/-- A SCRUB_WINDOW of `n` tiles (R218). -/
def scrub (s : State) : Nat → State
  | 0 => s
  | n + 1 => if s.flag F.POOL_CFG_RIDDLE_EN then s.scrubOne.scrub n else s

/-! ## Masters and the default target of the control bus (R573, R576, R577) -/

/-- Whether a master exists and its port is out of reset (R573, R577). -/
def masterUp (s : State) (m : Nat) : Bool :=
  match m with
  | 4 => s.rst.aUp && (s.rst.hUp || s.sys.mode == .cold)
  | 5 => s.rst.aUp
  | 6 | 7 => s.rst.pUp && s.rst.cUp
  | _ => decide (m < 4) && s.rst.cUp

/-- Write BUS_ERR_LOG (R573). -/
def busLog (s : State) (a : BusAccess) (write : Bool) (kind : Nat) : State :=
  let s := ((s.setFlag F.BUS_ERR_LOG_VALID true).setFlag F.BUS_ERR_LOG_WRITE write).setFld F.BUS_ERR_LOG_KIND kind
  let s := (s.setFld F.BUS_ERR_LOG_MASTER a.master).setFld F.BUS_ERR_LOG_ID a.id
  (s.setFld F.BUS_ERR_LOG_ADDR_LO (a.addr % 4294967296)).setFld F.BUS_ERR_LOG_ADDR_HI (a.addr / 4294967296)

/-- The answer of the default target (R576): an error, but to a host read all ones unless HOST_CA is set. -/
def badAnswer (s : State) (a : BusAccess) (write : Bool) : State :=
  if a.master = 4 ∧ !write ∧ !s.flag F.BUS_CFG_HOST_CA then s.emit (.busData 4 [0xFFFFFFFF#32] false)
  else if a.master = 4 then s.emit (.busData 4 [] true)
  else s.emit (.busData a.master [0] true)

/-- An access of the default target recorded in the BUS block (R576), where domain C is up. -/
def defaultMark (s : State) (a : BusAccess) (write : Bool) : State :=
  if !s.rst.cUp then s else (((s.setFlag F.BUS_STAT_DEF_HIT true).incFld F.BUS_CNT_DEF_HITS).busLog a write 0)

/-- An access that the default target completes (R576). -/
def defaultHit (s : State) (a : BusAccess) (write : Bool) : State := (s.defaultMark a write).badAnswer a write

/-! ## Windows (R220 to R223) -/

/-- Bytes of a window's region. -/
def winSize (s : State) (w : Nat) : Nat := 2 ^ s.fld F.POOL_WIN_CFG_SIZE w

/-- Bytes from byte `b` of a window's region to its end: none where the window or domain P is off. The region ends at the latest
where BAR2 (R587) or the aperture ends. -/
def winRoom (s : State) (w b : Nat) : Nat :=
  if 16 ≤ w || !s.flag F.POOL_WIN_CFG_EN w || !s.rst.pUp then 0
  else min (s.winSize w) ((if w < 12 then 2 ^ s.rst.bar2 else 0x2000000000) - s.fld F.POOL_WIN_CFG_OFFSET w * 4096) - b

/-- A window access as BUS_ERR_LOG records it: windows 12 to 15 lie at their control address; the control address of an access to
BAR2, and the ID, are open (log entry 133). -/
def winAccess (s : State) (m w b : Nat) : BusAccess × State :=
  let x := s.fresh 44
  ({ master := m, id := x.1 % 16,
     addr := if w < 12 then x.1 / 16 else (0x1000000000 + s.fld F.POOL_WIN_CFG_OFFSET w * 4096 + b) % 2 ^ 40 }, x.2)

/-- The tile that holds byte `b` of a window's region (R220): none beyond the ring. -/
def winTile (s : State) (w b : Nat) : Option Nat :=
  let base := s.fld F.POOL_WIN_CFG_BASE w + b / 4096
  if s.flag F.POOL_WIN_CFG_RING w then
    let fl := s.fld F.POOL_WIN_CFG_FLOW w
    match s.pool.rings.filter (fun r => r.flow == fl) |>.getLast? with
    | some r => if base < r.tiles then (extentTile r.extents base).map s.remapped else none
    | none => none
  else if base < 33554432 then some base else none

/-- Whether a window write is accepted (R223). -/
def winWritable (s : State) (w : Nat) : Bool :=
  s.sys.mode == .melt || s.sys.mode == .proof || s.sys.unlock ||
    (s.sys.mode != .cold && s.sys.mode != .quench && s.flag F.POOL_WIN_CFG_RING w &&
      inRanges [(0x4000, 0x40FF)] (s.fld F.POOL_WIN_CFG_FLOW w))

/-- A new trailer for a tile written through a window (R223). -/
def winTrailer (s : State) (w t : Nat) : State :=
  let fr := u32 (s.tileBytes t 4034 4) 0
  let ln := u16 (s.tileBytes t 4038 2) 0
  s.writeTrailer t (s.fld F.POOL_WIN_CFG_FLOW w) fr ln 0 4032 flagHostw

/-- Count a write into a surface's FRONT buffer (R342). -/
def frontWrite (s : State) (w b : Nat) : State :=
  let fl := s.fld F.POOL_WIN_CFG_FLOW w
  if s.flag F.POOL_WIN_CFG_RING w && s.surfEn fl then
    let n := fl - 0x4000
    let tpf := surfTpf (s.fld F.CHM_SURF_CFG_FORMAT n) (s.fld F.CHM_SURF_CFG_WIDTH n) (s.fld F.CHM_SURF_CFG_HEIGHT n)
    let pos := s.fld F.POOL_WIN_CFG_BASE w + b / 4096
    if pos / max 1 tpf = s.fld F.CHM_SURF_CFG_FRONT n then s.incFld F.CHM_SURF_CFG_FRONT_WRITES n else s
  else s

/-- The bytes of a write that fall into one tile, stored (R223): with AUTO_TRAILER payload bytes only,
committed when byte 4,031 is reached. -/
def winPut (s : State) (w b : Nat) (data : Bytes) : State :=
  match s.winTile w b with
  | none => s
  | some t =>
    let o := b % 4096
    let s := s.frontWrite w b
    if s.flag F.POOL_WIN_CFG_AUTO_TRAILER w then
      let d := data.take (4032 - o)
      let s := s.tileWrite t o d
      if o < 4032 ∧ 4032 ≤ o + data.length then s.winTrailer w t else s
    else s.tileWrite t o data

/-- Store a write tile by tile, at most `fuel` tiles. -/
def winPuts (s : State) (w b : Nat) (data : Bytes) : Nat → State
  | 0 => s
  | fuel + 1 =>
    if data.isEmpty then s
    else
      let n := 4096 - b % 4096
      (s.winPut w b (data.take n)).winPuts w (b + n) (data.drop n) fuel

/-- A window write refused by R223, with its marks. -/
def winRefuse (s : State) (w : Nat) : State :=
  (s.setFlag F.POOL_WIN_CFG_WR_REFUSED true w).incFld F.POOL_WIN_CFG_WR_REFUSED_CNT w

/-- A window write (R220, R223, R585): the bytes inside the region are stored or refused; bytes outside it get the default target's
response, and bytes beyond the ring an error. -/
def winWrite (s : State) (m w b : Nat) (data : Bytes) : State :=
  let room := s.winRoom w b
  let own := data.take room
  let past := !own.isEmpty && s.winWritable w && (s.winTile w (b + own.length - 1)).isNone
  let t := if own.isEmpty then s else if !s.winWritable w then s.winRefuse w else s.winPuts w b own (own.length / 4096 + 2)
  if room < data.length then
    let x := t.winAccess m w b
    x.2.defaultHit x.1 true
  else if past then t.emit (.busData m [] true)
  else t

/-- Check the tiles a window read touches (R222). -/
def winCheck (s : State) (w b : Nat) : Nat → State
  | 0 => s
  | n + 1 =>
    let s := s.winCheck w b n
    match s.winTile w (b + 4096 * n) with
    | some t =>
      if s.tileCrcOk t then s
      else ((s.setFlag F.POOL_WIN_CFG_CRC_BAD true w).setFld F.POOL_WIN_CFG_ERR_TILE t w).suspectAdd t
    | none => s

/-- The stored bytes from byte `b` of a window's region, as words (R222). -/
def winWords (s : State) (w b n : Nat) : List Word :=
  let data := (List.range n).map (fun k => ((s.winTile w (b + k)).map (fun t => (s.tileBytes t ((b + k) % 4096) 1).headD 0)).getD 0)
  (List.range (ceilDiv n 4)).map (fun k => BitVec.ofNat 32 (u32 data (4 * k)))

/-- A window read of `n` bytes (R222, R585): the stored bytes, trailer included. One that leaves the region gets the default
target's response (R587), and one beyond the ring an error (R220); the tiles that its other parts touch are checked all the same. -/
def winRead (s : State) (m w b n : Nat) : State :=
  let room := s.winRoom w b
  let k := min n room
  let t := if k = 0 then s else s.winCheck w (b - b % 4096) ((b % 4096 + k + 4095) / 4096)
  if room < n then
    let x := t.winAccess m w b
    x.2.defaultHit x.1 false
  else if n ≠ 0 ∧ (s.winTile w (b + n - 1)).isNone then t.emit (.busData m [] true)
  else t.emit (.busData m (s.winWords w b n) false)

/-- A write of 1 to POOL_WIN_CTL.FLUSH (R223). -/
def winFlush (s : State) (w pos : Nat) : State :=
  if !s.flag F.POOL_WIN_CFG_EN w || !s.flag F.POOL_WIN_CFG_AUTO_TRAILER w then s
  else if !s.winWritable w then s.winRefuse w
  else
    match s.winTile w (pos * 4096) with
    | some t => s.winTrailer w t
    | none => s

/-! ## The order of the classes (R204) -/

/-- The tiles that a window access touches. -/
def winTiles (s : State) : WinOp → List Nat
  | .read _ w b n => (List.range ((b % 4096 + n + 4095) / 4096)).filterMap (fun k => s.winTile w (b + 4096 * k))
  | .write _ w b data => (List.range ((b % 4096 + data.length + 4095) / 4096)).filterMap (fun k => s.winTile w (b + 4096 * k))
  | .flush w pos => (s.winTile w (pos * 4096)).toList

/-- Whether a transaction of an earlier class waits on a channel of a window access. -/
def winBlocked (s : State) (op : WinOp) : Bool :=
  (s.winTiles op).any (fun t => s.earlyWaits (tileChannel t) || s.pool.scrubWait.any (fun p => p % 128 == t % 128))

/-- A window access. -/
def winDo (s : State) : WinOp → State
  | .read m w b n => if s.masterUp m then s.winRead m w b n else s
  | .write m w b data => if s.masterUp m then s.winWrite m w b data else s
  | .flush w pos => s.winFlush w pos

/-- A window access begins, or waits behind the earlier classes and the accesses that wait already. -/
def winAsk (s : State) (op : WinOp) : State :=
  if s.pool.winWait.isEmpty && !s.winBlocked op then s.winDo op
  else { s with pool := { s.pool with winWait := s.pool.winWait ++ [op] } }

/-- The first read that waits on a channel begins where a pattern tag is free. -/
def startWaiting (s : State) (ch : Nat) : Nat → State
  | 0 => s
  | n + 1 =>
    match s.pool.reads.find? (fun r => r.on ch && r.waiting) with
    | some r =>
      if s.patternUse ch < 96 then ((s.setRead { r with waiting := false, inFlight := 1 }).tagPeak ch 0).startWaiting ch n else s
    | none => s

/-- The retries and concealment reads that wait on a channel begin once no pattern transaction waits there. -/
def startRecovery (s : State) (ch : Nat) : State :=
  if s.patternWaits ch then s
  else
    let go (r : PoolRead) : PoolRead :=
      let r := if r.on ch && r.retryWait then { r with retryWait := false, inFlight := r.inFlight + 1 } else r
      if r.concOn ch && r.concWait then { r with concWait := false, concOut := true, inFlight := r.inFlight + 1 } else r
    { s with pool := { s.pool with reads := s.pool.reads.map go } }

/-- Riddle's reads that wait on a channel begin once no transaction of an earlier class waits there. -/
def startScrub (s : State) (ch : Nat) : State :=
  if s.earlyWaits ch then s
  else
    let l := s.pool.scrubWait.filter (fun p => tileChannel p == ch)
    l.foldl scrubTile { s with pool := { s.pool with scrubWait := s.pool.scrubWait.filter (fun p => tileChannel p != ch) } }

/-- The window accesses that wait begin in their order. -/
def startWindows (s : State) : Nat → State
  | 0 => s
  | n + 1 =>
    match s.pool.winWait with
    | [] => s
    | op :: ops => if s.winBlocked op then s else (({ s with pool := { s.pool with winWait := ops } }).winDo op).startWindows n

/-- What waits in the pool begins in the order of the classes (R202, R204). -/
def poolServe (s : State) : State :=
  let chs := ((s.pool.reads.flatMap (fun r => (if r.waiting || r.retryWait then r.tile.toList else []) ++
    (if r.concWait then r.conceal.toList else []))) ++ s.pool.scrubWait).map tileChannel
  let s := chs.dedup.foldl (fun (s : State) ch => ((s.startWaiting ch 96).startRecovery ch).startScrub ch) s
  s.startWindows s.pool.winWait.length

/-! ## Bandwidth (R199) -/

/-- Tiles in two frames that a raw bank's entries of some operations move (R199, R228). -/
def bankTiles (s : State) (b : PatBank) (ops : List Nat) : Nat :=
  ((b.runs.filter (fun p => runValid p.2)).map (fun p =>
    let lines := runLast p.2 + 1 - runFirst p.2
    let frames := if runParity p.2 = 0 then 2 else if runParity p.2 = 3 then 0 else 1
    lines * frames * (((List.range (runTC p.2)).map (fun k => b.ent (runTF p.2 + k))).map (fun e =>
      if ops.contains (entOp e) then entryN s.ancTpf e else 0)).foldl (· + ·) 0)).foldl (· + ·) 0

/-- What the raw patterns of all domains move, in bits per 1,001 s: the larger of a domain's banks. -/
def rawBits (s : State) (ops : List Nat) : List Nat :=
  ((List.range 4).filter (fun d => (s.patDom d).raw)).map (fun d => match s.compileFmt d with
    | some f => max (s.bankTiles (s.bank d 0) ops) (s.bankTiles (s.bank d 1) ops) * 16384 * f.num * (1001 / f.den)
    | none => 0)

/-- Bits per 1,001 s of whole tiles at a frame rate (R163, R296): a whole number for every rate of R64. -/
def tileBits (tiles : Nat) (f : Fmt) : Nat := tiles * 32768 * f.num * (1001 / f.den)

/-- A rate in units of 10 Mb/s, rounded up, from bits per 1,001 s. -/
def rate10 (bits : List Nat) : Nat := ceilDiv (bits.foldl (· + ·) 0) 10010000000

/-- Ingress writes admitted (R199 row 1). -/
def rateIn (s : State) : Nat :=
  rate10 (s.lad.flows.map (fun x => match fmtOf x.format with
    | some f => tileBits x.tpf f
    | none => 0) ++ s.rawBits [1])

/-- The reads of an ANC flow by an output (R199, R301). -/
def ancBits (s : State) (flow : Option Nat) : Nat :=
  match flow.bind s.inFlow with
  | some x => ((fmtOf x.format).map (tileBits x.tpf)).getD 0
  | none => 0

/-- Egress reads admitted (R199 row 2, R296): the routes' pictures, the ancillary data embedded with them, and the ANC outputs. -/
def rateOut (s : State) : Nat :=
  rate10 (s.pat.routes.map (fun r => match s.picture r.src with
    | some p => (match fmtOf p.format with
      | some f => tileBits p.tpf f
      | none => 0)
    | none => 0) ++ s.pat.routes.map (fun r => if r.anc then s.ancBits (s.companion r.src) else 0) ++
    s.shk.ancOuts.map (fun o => s.ancBits o.source) ++ s.rawBits [2, 5])

/-- Chameleon reads admitted (R199 row 3): the tiles each READ_LAYER run reads. -/
def rateChm (s : State) : Nat :=
  rate10 ((List.range 4).flatMap (fun d => (s.domLayers d).map (fun n =>
    match s.picture (s.layerFld n F.CHM_LAYER_CFG_SRC), s.compileFmt d with
    | some p, some f => tileBits p.tpf (((fmtOf p.format).getD f))
    | _, _ => 0)) ++ s.rawBits [3])

/-- Audio delay-line traffic of both directions (R199 row 5, R378): every execution counts. -/
def rateAudio (s : State) : Nat :=
  rate10 (s.aud.delays.map (fun x => match s.compileFmt x.dom with
    | some f => 2 * tileBits (bundleLines f x).length f
    | none => 0) ++ s.rawBits [4])

/-- The budget check of R199. -/
def bwCheck (s : State) : Option RefRec :=
  firstFail [(decide (1360000 < s.rateIn), rejRes 0x0206 1360000 s.rateIn none 1),
    (decide (1360000 < s.rateOut), rejRes 0x0206 1360000 s.rateOut none 2),
    (decide (680000 < s.rateChm), rejRes 0x0206 680000 s.rateChm none 3),
    (decide (20000 < s.rateAudio), rejRes 0x0222 20000 s.rateAudio)]

end State

/-! ## Commands of family 0x0Bxx and the pool's events -/

/-- POOL_CFG (R491). -/
def applyPoolCfg (c : Cmd) (s : State) : CmdResult :=
  let w := u32 c.params 0
  guarded [lenIs c 4, (!inRanges [(6, 600)] (bitsOf w 21 12), rej 0x0108 0),
    (s.flag F.POOL_CFG_RIDDLE_EN && bitsOf w 1 1 == 0 && s.sys.mode != .melt && s.sys.mode != .proof, rejAll 0x0302),
    (s.flag F.POOL_CFG_RETIRE_EN && bitsOf w 0 0 == 0 && s.sys.mode != .proof, rejAll 0x0302)] fun _ =>
    .ok (((s.setFld F.POOL_CFG_SCRUB_PERIOD (bitsOf w 21 12)).setFld F.POOL_CFG_RIDDLE_EN (bitsOf w 1 1)).setFld
      F.POOL_CFG_RETIRE_EN (bitsOf w 0 0)) []

/-- PPR_RUN (R213, R492): the repair of every queued row begins. -/
def applyPprRun (c : Cmd) (s : State) : CmdResult :=
  guarded [lenIs c 0] fun _ =>
    let n := (s.pool.ppr.filter (fun r => !r.noSpare)).length
    .ok { s with pool := { s.pool with pprRun := decide (0 < n) } } (leBytes 2 n)

/-- POOL_WINDOW (R220): windows 0 to 11. -/
def applyPoolWindow (c : Cmd) (s : State) : CmdResult :=
  let w := byteAt c.params 0
  let w0 := u32 c.params 4
  guarded [lenIs c 16, (decide (11 < w), rej 0x0108 0),
      (!inRanges [(12, 34)] (bitsOf w0 21 16) || (bitsOf w0 30 30 == 1 && !inRanges ringIds (bitsOf w0 15 0)), rej 0x0108 4)] fun _ =>
    let s := (s.setFld F.POOL_WIN_CFG_EN (bitsOf w0 31 31) w).setFld F.POOL_WIN_CFG_RING (bitsOf w0 30 30) w
    let s := (s.setFld F.POOL_WIN_CFG_AUTO_TRAILER (bitsOf w0 29 29) w).setFld F.POOL_WIN_CFG_SIZE (bitsOf w0 21 16) w
    let s := (s.setFld F.POOL_WIN_CFG_FLOW (bitsOf w0 15 0) w).setFld F.POOL_WIN_CFG_OFFSET (u32 c.params 8) w
    .ok (s.setFld F.POOL_WIN_CFG_BASE (u32 c.params 12 % 2 ^ 25) w) []

/-- SUSPECT_EXPIRY (R209). -/
def execSuspectExpiry (tile : Nat) (s : State) : Host.Outcome State Fault Refusal :=
  runEff (fun s => s.suspectExpire tile) s

/-- PPR_ROW_DONE (R213, R214). -/
def execPprRowDone (ok : Bool) (s : State) : Host.Outcome State Fault Refusal :=
  runEff (fun s => s.pprDone ok) s

/-- The master of a window access by command: the host through windows 0 to 11 (R573); firmware's through windows 12 to 15, of which
the command names none and the model takes the first (DESIGN CHOICE, log entry 133). -/
def winMaster (w : Nat) : Nat := if w < 12 then 4 else 0

/-- POOL_WINDOW_READ (R222). -/
def execPoolWindowRead (w off n : Nat) (s : State) : Host.Outcome State Fault Refusal :=
  runEff (fun s => s.winAsk (.read (winMaster w) w off n)) s

/-- POOL_WINDOW_WRITE (R223). -/
def execPoolWindowWrite (w off : Nat) (data : Bytes) (s : State) : Host.Outcome State Fault Refusal :=
  runEff (fun s => s.winAsk (.write (winMaster w) w off data)) s

/-- FLUSH (R223). -/
def execFlush (w pos : Nat) (s : State) : Host.Outcome State Fault Refusal :=
  runEff (fun s => s.winAsk (.flush w pos)) s

end Sys2Proof.Machine
end

