-- ==== Sys2Proof/Machine/Crypto.lean ====
section
/-! DEFINITION. The cryptographic functions the chapters name: SHA-256, HMAC-SHA-256 (R450), SHA-384
(R410, R564), and ECDSA over P-384 (R479). -/

namespace Sys2Proof.Machine

/-- Big-endian value of a byte string. -/
def beNat (b : Bytes) : Nat := b.foldl (fun n x => n * 256 + x.toNat) 0

/-- The `n` low bytes of `v`, big-endian. -/
def beBytes (n v : Nat) : Bytes := (leBytes n v).reverse

/-- A rotation right by `n` of a `w`-bit word. -/
def rotr (w n x : Nat) : Nat := (x >>> n) ||| ((x <<< (w - n)) % 2 ^ w)

/-- Words of a block. -/
def wordsOf (bpw : Nat) : Nat → Bytes → List Nat
  | 0, _ => []
  | n + 1, b => beNat (b.take bpw) :: wordsOf bpw n (b.drop bpw)

/-- The parameters of a SHA-2 function: word bits, rounds' constants, rotation amounts. -/
structure Sha2 where
  w : Nat
  k : List Nat
  s0 : Nat × Nat × Nat
  s1 : Nat × Nat × Nat
  e0 : Nat × Nat × Nat
  e1 : Nat × Nat × Nat

/-- Message-schedule words still to come, from the last sixteen, newest last. -/
def shaSchedule (p : Sha2) : Nat → List Nat → List Nat
  | 0, _ => []
  | n + 1, l =>
    let a := l.getD 1 0
    let b := l.getD 14 0
    let x := (l.getD 0 0 + (rotr p.w p.s0.1 a ^^^ rotr p.w p.s0.2.1 a ^^^ a >>> p.s0.2.2) + l.getD 9 0 +
      (rotr p.w p.s1.1 b ^^^ rotr p.w p.s1.2.1 b ^^^ b >>> p.s1.2.2)) % 2 ^ p.w
    x :: shaSchedule p n (l.drop 1 ++ [x])

/-- One round on the eight working words. -/
def shaRound (p : Sha2) (v : List Nat) (kw : Nat × Nat) : List Nat :=
  match v with
  | [a, b, c, d, e, f, g, h] =>
    let t1 := h + (rotr p.w p.e1.1 e ^^^ rotr p.w p.e1.2.1 e ^^^ rotr p.w p.e1.2.2 e) +
      ((e &&& f) ^^^ ((2 ^ p.w - 1 - e) &&& g)) + kw.1 + kw.2
    let t2 := (rotr p.w p.e0.1 a ^^^ rotr p.w p.e0.2.1 a ^^^ rotr p.w p.e0.2.2 a) +
      ((a &&& b) ^^^ (a &&& c) ^^^ (b &&& c))
    [(t1 + t2) % 2 ^ p.w, a, b, c, (d + t1) % 2 ^ p.w, e, f, g]
  | _ => v

/-- One block. -/
def shaBlock (p : Sha2) (h : List Nat) (b : Bytes) : List Nat :=
  let w := wordsOf (p.w / 8) 16 b
  let ws := w ++ shaSchedule p (p.k.length - 16) w
  let v := (p.k.zip ws).foldl (shaRound p) h
  (h.zip v).map (fun x => (x.1 + x.2) % 2 ^ p.w)

/-- The blocks of a padded message. -/
def shaBlocks (p : Sha2) : Nat → List Nat → Bytes → List Nat
  | 0, h, _ => h
  | n + 1, h, b => shaBlocks p n (shaBlock p h (b.take (2 * p.w))) (b.drop (2 * p.w))

/-- A message with its padding. -/
def shaPad (p : Sha2) (b : Bytes) : Bytes :=
  let blk := 2 * p.w
  let z := (blk - (b.length + 1 + p.w / 4) % blk) % blk
  b ++ [0x80] ++ List.replicate z 0 ++ beBytes (p.w / 4) (8 * b.length)

/-- A SHA-2 digest of all eight words. -/
def sha2 (p : Sha2) (h0 : List Nat) (b : Bytes) : Bytes :=
  let m := shaPad p b
  (shaBlocks p (m.length / (2 * p.w)) h0 m).flatMap (beBytes (p.w / 8))

/-- The `n` words of `w` bits of a long constant, the most significant first. -/
def constWords (w n v : Nat) : List Nat := (List.range n).map (fun i => (v >>> (w * (n - 1 - i))) % 2 ^ w)

/-- The 80 round constants of SHA-512, ten to a number. -/
def kWords : List Nat := [
  0x428a2f98d728ae227137449123ef65cdb5c0fbcfec4d3b2fe9b5dba58189dbbc3956c25bf348b53859f111f1b605d019923f82a4af194f9bab1c5ed5da6d8118d807aa98a303024212835b0145706fbe,
  0x243185be4ee4b28c550c7dc3d5ffb4e272be5d74f27b896f80deb1fe3b1696b19bdc06a725c71235c19bf174cf692694e49b69c19ef14ad2efbe4786384f25e30fc19dc68b8cd5b5240ca1cc77ac9c65,
  0x2de92c6f592b02754a7484aa6ea6e4835cb0a9dcbd41fbd476f988da831153b5983e5152ee66dfaba831c66d2db43210b00327c898fb213fbf597fc7beef0ee4c6e00bf33da88fc2d5a79147930aa725,
  0x06ca6351e003826f142929670a0e6e7027b70a8546d22ffc2e1b21385c26c9264d2c6dfc5ac42aed53380d139d95b3df650a73548baf63de766a0abb3c77b2a881c2c92e47edaee692722c851482353b,
  0xa2bfe8a14cf10364a81a664bbc423001c24b8b70d0f89791c76c51a30654be30d192e819d6ef5218d69906245565a910f40e35855771202a106aa07032bbd1b819a4c116b8d2d0c81e376c085141ab53,
  0x2748774cdf8eeb9934b0bcb5e19b48a8391c0cb3c5c95a634ed8aa4ae3418acb5b9cca4f7763e373682e6ff3d6b2b8a3748f82ee5defb2fc78a5636f43172f6084c87814a1f0ab728cc702081a6439ec,
  0x90befffa23631e28a4506cebde82bde9bef9a3f7b2c67915c67178f2e372532bca273eceea26619cd186b8c721c0c207eada7dd6cde0eb1ef57d4f7fee6ed17806f067aa72176fba0a637dc5a2c898a6,
  0x113f9804bef90dae1b710b35131c471b28db77f523047d8432caab7b40c724933c9ebe0a15c9bebc431d67c49c100d4c4cc5d4becb3e42b6597f299cfc657e2a5fcb6fab3ad6faec6c44198c4a475817].flatMap (constWords 64 10)

/-- SHA-256: its constants are the upper halves of SHA-512's first 64. -/
def sha256P : Sha2 :=
  ⟨32, (kWords.take 64).map (fun x => x / 4294967296), (7, 18, 3), (17, 19, 10), (2, 13, 22), (6, 11, 25)⟩

/-- SHA-512's parameters, which SHA-384 uses. -/
def sha512P : Sha2 := ⟨64, kWords, (1, 8, 7), (19, 61, 6), (28, 34, 39), (14, 18, 41)⟩

/-- SHA-256. -/
def sha256 (b : Bytes) : Bytes :=
  sha2 sha256P (constWords 32 8 0x6a09e667bb67ae853c6ef372a54ff53a510e527f9b05688c1f83d9ab5be0cd19) b

/-- SHA-384: 48 bytes. -/
def sha384 (b : Bytes) : Bytes :=
  (sha2 sha512P (constWords 64 8
    0xcbbb9d5dc1059ed8629a292a367cd5079159015a3070dd17152fecd8f70e593967332667ffc00b318eb44a8768581511db0c2e0d64f98fa747b5481dbefa4fa4) b).take 48

/-- HMAC-SHA-256. -/
def hmacSha256 (key msg : Bytes) : Bytes :=
  let k := padTo 64 (if 64 < key.length then sha256 key else key)
  sha256 (k.map (· ^^^ 0x5c) ++ sha256 (k.map (· ^^^ 0x36) ++ msg))

/-! ## ECDSA over P-384 -/

/-- The field prime of P-384. -/
def p384 : Nat := 2 ^ 384 - 2 ^ 128 - 2 ^ 96 + 2 ^ 32 - 1

/-- The group order of P-384. -/
def n384 : Nat :=
  0xffffffffffffffffffffffffffffffffffffffffffffffffc7634d81f4372ddf581a0db248b0a77aecec196accc52973

/-- The base point. -/
def g384 : Nat × Nat :=
  (0xaa87ca22be8b05378eb1c71ef320ad746e1d3b628ba79b9859f741e082542a385502f25dbf55296c3a545e3872760ab7,
   0x3617de4a96262c6f5d9e98bf9292dc29f8f41dbd289a147ce9da3113b5f0b8c00a60b1ce1d7e819d7a431d7c90ea0e5f)

/-- `b` to the power `e` modulo `m`, over `fuel` bits. -/
def powMod (m : Nat) : Nat → Nat → Nat → Nat
  | 0, _, _ => 1 % m
  | n + 1, b, e =>
    let r := powMod m n (b * b % m) (e / 2)
    if e % 2 = 1 then b * r % m else r

/-- The inverse modulo a prime below 2^384. -/
def invMod (m a : Nat) : Nat := powMod m 384 (a % m) (m - 2)

/-- Point addition; `none` is the point at infinity. -/
def ecAdd : Option (Nat × Nat) → Option (Nat × Nat) → Option (Nat × Nat)
  | none, q => q
  | p, none => p
  | some (x, y), some (u, v) =>
    if x = u ∧ (y + v) % p384 = 0 then none
    else
      let l := if x = u ∧ y = v then (3 * x * x + (p384 - 3)) * invMod p384 (2 * y) % p384
        else (v + (p384 - y)) * invMod p384 (u + (p384 - x)) % p384
      let z := (l * l + (p384 - x) + (p384 - u)) % p384
      some (z, (l * (x + (p384 - z)) + (p384 - y)) % p384)

/-- A multiple of a point, over `fuel` bits. -/
def ecMul : Nat → Nat → Option (Nat × Nat) → Option (Nat × Nat)
  | 0, _, _ => none
  | n + 1, k, p =>
    let r := ecMul n (k / 2) (ecAdd p p)
    if k % 2 = 1 then ecAdd p r else r

/-- The curve's b. -/
def b384 : Nat :=
  0xb3312fa7e23ee7e4988e056be3f82d19181d9c6efe8141120314088f5013875ac656398d8a2ed19d2a85c8edd3ec2aef

/-- A SEC 1 compressed point of 49 bytes; none where byte 0 is neither 2 nor 3 or no point has that x. -/
def ecPoint (b : Bytes) : Option (Nat × Nat) :=
  let x := beNat (slice b 1 48)
  let c := (x * x * x + (p384 - 3) * x + b384) % p384
  let y := powMod p384 384 c ((p384 + 1) / 4)
  let y := if y % 2 = byteAt b 0 % 2 then y else p384 - y
  if (byteAt b 0 = 2 ∨ byteAt b 0 = 3) ∧ x < p384 ∧ y * y % p384 = c ∧ y < p384 then some (x, y) else none

/-- ECDSA verification of a signature r then s (48 bytes each, big-endian) over a SHA-384 digest, with a
public point. -/
def ecdsaOk (q : Nat × Nat) (digest sig : Bytes) : Bool :=
  let r := beNat (slice sig 0 48)
  let s := beNat (slice sig 48 48)
  if r = 0 ∨ n384 ≤ r ∨ s = 0 ∨ n384 ≤ s then false
  else
    let w := invMod n384 s
    let u1 := beNat digest * w % n384
    let u2 := r * w % n384
    match ecAdd (ecMul 384 u1 (some g384)) (ecMul 384 u2 (some q)) with
    | none => false
    | some (x, _) => x % n384 == r

end Sys2Proof.Machine
end

