-- ==== Sys2Proof/Machine/Wire.lean ====
section
/-! DEFINITION. Packets on the wire (R449 to R453) and the opcode table's columns (R474 to R477). -/

namespace Sys2Proof

/-- FLAGS bits (R449). -/
def Cmd.ackMirror (c : Cmd) : Bool := c.flags.getLsbD 0
def Cmd.isTimed (c : Cmd) : Bool := c.flags.getLsbD 1
def Cmd.isAuth (c : Cmd) : Bool := c.flags.getLsbD 2
def Cmd.isDry (c : Cmd) : Bool := c.flags.getLsbD 3
def Cmd.whenEpoch (c : Cmd) : Bool := c.flags.getLsbD 4

end Sys2Proof

namespace Sys2Proof.Machine

/-- How an opcode's reply names its instant (R33): at boundary N, at a frame boundary or switch line, at a
port frame. -/
inductive EffClass where
  | cast | frame | portFrame
  deriving DecidableEq, Repr

/-- What Hold does with an opcode (R476): refuses it by mode, applies it on the standby itself, or refuses
it as mirrored. -/
inductive HoldMark where
  | no | here | mirrored
  deriving DecidableEq, Repr

/-- One opcode's columns (R476, R477): `melt`, `pour`, `proof`, `quench` accept it; `timed` and `macro` mark T
and G; `who` 0 any source, 1 CS15 only, 2 CS0 to CS7 and CS15 only. -/
structure OpInfo where
  op : Nat
  melt : Bool
  pour : Bool
  proof : Bool
  quench : Bool
  hold : HoldMark
  timed : Bool
  gpi : Bool
  who : Nat
  cls : EffClass
  deriving DecidableEq, Repr

/-! ## Opcodes -/

def opSessionOpen : Nat := 0x0001
def opPing : Nat := 0x0002
def opIdent : Nat := 0x0003
def opModeSet : Nat := 0x0010
def opDebugChallenge : Nat := 0x0020
def opDebugUnlock : Nat := 0x0021
def opVinDefine : Nat := 0x0101
def opFlowDelete : Nat := 0x0102
def opVinDepth : Nat := 0x0103
def opAncInDefine : Nat := 0x0105
def opVoutDefine : Nat := 0x0110
def opAncOutDefine : Nat := 0x0111
def opAncOutRoute : Nat := 0x0112
def opTestDefine : Nat := 0x0120
def opTake : Nat := 0x0201
def opMacroStore : Nat := 0x0210
def opMacroArm : Nat := 0x0211
def opMacroDelete : Nat := 0x0212
def opPatWrite : Nat := 0x0301
def opPatClear : Nat := 0x0302
def opPatShare : Nat := 0x0303
def opSchedCancel : Nat := 0x0310
def opAstreamIn : Nat := 0x0401
def opAstreamOut : Nat := 0x0402
def opAstreamDelete : Nat := 0x0403
def opXpSet : Nat := 0x0410
def opDeembedMap : Nat := 0x0420
def opEmbedMap : Nat := 0x0421
def opDelayDefine : Nat := 0x0430
def opDelayDelete : Nat := 0x0431
def opAptPort : Nat := 0x0440
def opAptMask : Nat := 0x0441
def opAptTdm : Nat := 0x0442
def opAptCsTx : Nat := 0x0443
def opAptRestart : Nat := 0x0444
def opAudCfg : Nat := 0x0450
def opImageLoad : Nat := 0x0501
def opImageDelete : Nat := 0x0502
def opTaskDefine : Nat := 0x0510
def opTaskRemove : Nat := 0x0511
def opTaskParam : Nat := 0x0513
def opTaskEnable : Nat := 0x0514
def opPipeDefine : Nat := 0x0601
def opPipeDelete : Nat := 0x0602
def opLayerSet : Nat := 0x0610
def opSurfaceDefine : Nat := 0x0620
def opSurfaceDelete : Nat := 0x0621
def opSurfaceFlip : Nat := 0x0630
def opFlipCancel : Nat := 0x0631
def opMeasCfg : Nat := 0x0701
def opMeasDest : Nat := 0x0702
def opAllowStep : Nat := 0x0801
def opTimSet : Nat := 0x0802
def opStepThr : Nat := 0x0803
def opPtpCfg : Nat := 0x0810
def opPtpPort : Nat := 0x0811
def opRefInput : Nat := 0x0820
def opDpllCfg : Nat := 0x0821
def opRaster : Nat := 0x0822
def opClkout : Nat := 0x0823
def opOscSel : Nat := 0x0824
def opMacCfg : Nat := 0x0901
def opMacGate : Nat := 0x0902
def opHlaneCfg : Nat := 0x0A01
def opSlaneCfg : Nat := 0x0A02
def opLinkCfg : Nat := 0x0A03
def opTribSet : Nat := 0x0A04
def opMarginCfg : Nat := 0x0A05
def opEyeMap : Nat := 0x0A10
def opPoolCfg : Nat := 0x0B01
def opPprRun : Nat := 0x0B02
def opPoolWindow : Nat := 0x0B03
def opSpareSubst : Nat := 0x0B10
def opTwinCfg : Nat := 0x0C01
def opPromote : Nat := 0x0C02
def opResync : Nat := 0x0C03
def opRoleSwap : Nat := 0x0C04
def opEgressLoop : Nat := 0x0C05
def opKeyWrite : Nat := 0x0D01
def opKeyErase : Nat := 0x0D02
def opAttest : Nat := 0x0D10
def opReset : Nat := 0x0E01
def opFltClear : Nat := 0x0E02
def opQuench : Nat := 0x0E03
def opCauseClear : Nat := 0x0E04
def opRstcntClear : Nat := 0x0E05
def opOptProgram : Nat := 0x0E06
def opRead : Nat := 0x0F01
def opSnapshot : Nat := 0x0F02

/-- The command reference, one row per opcode (chapter 17). -/
def opTable0 : List OpInfo := [
  ⟨opSessionOpen, true, true, true, true, .here, false, false, 0, .cast⟩,
  ⟨opPing, true, true, true, false, .here, false, false, 0, .cast⟩,
  ⟨opIdent, true, true, true, false, .here, false, false, 0, .cast⟩,
  ⟨opModeSet, true, true, true, false, .here, false, false, 0, .cast⟩,
  ⟨opDebugChallenge, true, true, true, false, .here, false, false, 1, .cast⟩,
  ⟨opDebugUnlock, true, true, true, false, .here, false, false, 1, .cast⟩,
  ⟨opVinDefine, true, true, true, false, .mirrored, false, false, 0, .cast⟩,
  ⟨opFlowDelete, true, true, true, false, .mirrored, false, false, 0, .cast⟩,
  ⟨opVinDepth, true, true, true, false, .mirrored, false, false, 0, .frame⟩,
  ⟨opAncInDefine, true, true, true, false, .mirrored, false, false, 0, .cast⟩,
  ⟨opVoutDefine, true, true, true, false, .mirrored, false, false, 0, .cast⟩,
  ⟨opAncOutDefine, true, true, true, false, .mirrored, false, false, 0, .cast⟩,
  ⟨opAncOutRoute, true, true, true, false, .mirrored, true, true, 0, .frame⟩,
  ⟨opTestDefine, true, true, true, false, .mirrored, false, false, 0, .cast⟩,
  ⟨opTake, true, true, true, false, .mirrored, true, true, 0, .frame⟩,
  ⟨opMacroStore, true, true, true, false, .mirrored, false, false, 0, .cast⟩,
  ⟨opMacroArm, true, true, true, false, .mirrored, false, false, 0, .cast⟩,
  ⟨opMacroDelete, true, true, true, false, .mirrored, false, false, 0, .cast⟩,
  ⟨opPatWrite, true, false, true, false, .no, false, false, 0, .cast⟩,
  ⟨opPatClear, true, false, true, false, .no, false, false, 0, .cast⟩,
  ⟨opPatShare, true, true, true, false, .mirrored, false, false, 0, .cast⟩,
  ⟨opSchedCancel, true, true, true, false, .mirrored, false, false, 0, .cast⟩,
  ⟨opAstreamIn, true, true, true, false, .mirrored, false, false, 0, .cast⟩,
  ⟨opAstreamOut, true, true, true, false, .mirrored, false, false, 0, .cast⟩,
  ⟨opAstreamDelete, true, true, true, false, .mirrored, false, false, 0, .cast⟩,
  ⟨opXpSet, true, true, true, false, .mirrored, true, true, 0, .cast⟩,
  ⟨opDeembedMap, true, true, true, false, .mirrored, true, false, 0, .cast⟩,
  ⟨opEmbedMap, true, true, true, false, .mirrored, true, false, 0, .frame⟩,
  ⟨opDelayDefine, true, true, true, false, .mirrored, false, false, 0, .cast⟩,
  ⟨opDelayDelete, true, true, true, false, .mirrored, false, false, 0, .cast⟩]

def opTable1 : List OpInfo := [
  ⟨opAptPort, true, true, true, false, .mirrored, false, false, 0, .cast⟩,
  ⟨opAptMask, true, true, true, false, .mirrored, true, true, 0, .portFrame⟩,
  ⟨opAptTdm, true, false, true, false, .no, false, false, 0, .cast⟩,
  ⟨opAptCsTx, true, true, true, false, .mirrored, false, false, 0, .portFrame⟩,
  ⟨opAptRestart, true, true, true, false, .here, false, true, 0, .portFrame⟩,
  ⟨opAudCfg, true, true, true, false, .mirrored, false, false, 0, .cast⟩,
  ⟨opImageLoad, true, true, true, false, .mirrored, false, false, 0, .cast⟩,
  ⟨opImageDelete, true, true, true, false, .mirrored, false, false, 0, .cast⟩,
  ⟨opTaskDefine, true, true, true, false, .mirrored, false, false, 0, .cast⟩,
  ⟨opTaskRemove, true, true, true, false, .mirrored, false, false, 0, .cast⟩,
  ⟨opTaskParam, true, true, true, false, .mirrored, true, true, 0, .cast⟩,
  ⟨opTaskEnable, true, true, true, false, .mirrored, false, false, 0, .cast⟩,
  ⟨opPipeDefine, true, true, true, false, .mirrored, false, false, 0, .frame⟩,
  ⟨opPipeDelete, true, true, true, false, .mirrored, false, false, 0, .frame⟩,
  ⟨opLayerSet, true, true, true, false, .mirrored, true, true, 0, .frame⟩,
  ⟨opSurfaceDefine, true, true, true, false, .mirrored, false, false, 0, .cast⟩,
  ⟨opSurfaceDelete, true, true, true, false, .mirrored, false, false, 0, .cast⟩,
  ⟨opSurfaceFlip, true, true, true, false, .mirrored, true, true, 0, .frame⟩,
  ⟨opFlipCancel, true, true, true, false, .mirrored, false, false, 0, .cast⟩,
  ⟨opMeasCfg, true, true, true, false, .here, false, false, 0, .cast⟩,
  ⟨opMeasDest, true, true, true, false, .here, false, false, 0, .cast⟩,
  ⟨opAllowStep, true, true, true, false, .here, false, false, 0, .cast⟩,
  ⟨opTimSet, true, false, false, false, .no, false, false, 0, .cast⟩,
  ⟨opStepThr, true, true, true, false, .here, false, false, 0, .cast⟩,
  ⟨opPtpCfg, true, false, false, false, .no, false, false, 0, .cast⟩,
  ⟨opPtpPort, true, true, true, false, .here, false, false, 0, .cast⟩,
  ⟨opRefInput, true, true, true, false, .here, false, false, 0, .cast⟩,
  ⟨opDpllCfg, true, true, true, false, .here, false, false, 0, .cast⟩,
  ⟨opRaster, true, true, true, false, .mirrored, false, false, 0, .frame⟩,
  ⟨opClkout, true, true, true, false, .here, false, false, 0, .frame⟩]

def opTable2 : List OpInfo := [
  ⟨opOscSel, true, false, false, false, .no, false, false, 0, .cast⟩,
  ⟨opMacCfg, true, true, true, false, .here, false, false, 0, .cast⟩,
  ⟨opMacGate, true, true, true, false, .here, false, false, 0, .frame⟩,
  ⟨opHlaneCfg, true, true, true, false, .here, false, false, 0, .cast⟩,
  ⟨opSlaneCfg, true, true, true, false, .here, false, false, 0, .cast⟩,
  ⟨opLinkCfg, true, true, true, false, .here, false, false, 0, .cast⟩,
  ⟨opTribSet, true, true, true, false, .mirrored, false, false, 0, .cast⟩,
  ⟨opMarginCfg, true, true, true, false, .here, false, false, 0, .cast⟩,
  ⟨opEyeMap, true, true, true, true, .here, false, false, 0, .cast⟩,
  ⟨opPoolCfg, true, true, true, false, .here, false, false, 0, .cast⟩,
  ⟨opPprRun, false, false, true, false, .no, false, false, 0, .cast⟩,
  ⟨opPoolWindow, true, true, true, false, .here, false, false, 0, .cast⟩,
  ⟨opSpareSubst, true, true, true, false, .here, false, false, 0, .frame⟩,
  ⟨opTwinCfg, true, false, false, false, .no, false, false, 0, .cast⟩,
  ⟨opPromote, false, false, false, false, .here, false, false, 0, .cast⟩,
  ⟨opResync, false, false, false, false, .here, false, false, 0, .cast⟩,
  ⟨opRoleSwap, false, true, false, false, .no, false, false, 0, .cast⟩,
  ⟨opEgressLoop, false, false, true, false, .no, false, false, 0, .cast⟩,
  ⟨opKeyWrite, true, true, true, false, .here, false, false, 0, .cast⟩,
  ⟨opKeyErase, true, true, true, false, .here, false, false, 0, .cast⟩,
  ⟨opAttest, true, true, true, false, .here, false, false, 0, .cast⟩,
  ⟨opReset, true, true, true, false, .here, false, false, 0, .cast⟩,
  ⟨opFltClear, true, true, true, false, .here, false, false, 0, .cast⟩,
  ⟨opQuench, true, true, true, false, .here, false, false, 0, .cast⟩,
  ⟨opCauseClear, true, true, true, false, .here, false, false, 0, .cast⟩,
  ⟨opRstcntClear, true, true, true, false, .here, false, false, 2, .cast⟩,
  ⟨opOptProgram, true, false, false, false, .no, false, false, 1, .cast⟩,
  ⟨opRead, true, true, true, true, .here, false, false, 0, .cast⟩,
  ⟨opSnapshot, true, true, true, true, .here, false, false, 0, .cast⟩]

/-- The whole table. -/
def opTable : List OpInfo := opTable0 ++ opTable1 ++ opTable2

/-- The columns of an opcode, if the device recognises it (R474). -/
def opInfo (op : Nat) : Option OpInfo := opTable.find? (fun x => x.op == op)

/-- Whether a mode accepts an opcode (R292, R476, R473). -/
def OpInfo.acceptedIn (x : OpInfo) : Mode → Bool
  | .melt => x.melt
  | .pour => x.pour
  | .proof => x.proof
  | .hold => x.hold != .no
  | .quench => x.quench
  | .cold => false

/-! ## Packet fields (R449, R450) -/

/-- Whether a source is a network endpoint, whose packets carry a tag. -/
def isNet (src : Nat) : Bool := decide (8 ≤ src) && decide (src ≤ 11)

/-- Header bytes 0 to 27 of a packet. -/
def cmdHead (op : Nat) (c : Cmd) : Bytes :=
  leBytes 2 c.magic.toNat ++ [c.version, c.flags] ++ leBytes 4 c.seq.toNat ++ leBytes 2 op ++
    leBytes 2 c.tag.toNat ++ leBytes 4 c.paramLen.toNat ++ leBytes 8 c.whenF.toNat ++ leBytes 4 c.session.toNat

/-- The packet's bytes. -/
def cmdBytes (op : Nat) (c : Cmd) : Bytes :=
  cmdHead op c ++ leBytes 4 c.hdrCrc.toNat ++ c.params ++ leBytes 4 c.bodyCrc.toNat ++ c.auth

/-- The opcode and fields of a packet's bytes; bytes the packet does not hold read as zero (R453). -/
def parseCmd (src : Fin 16) (slot rplCap : Nat) (ip : BitVec 32) (port : BitVec 16) (b : Bytes) : Nat × Cmd :=
  let n := u32 b 12
  (u16 b 8,
   { src := src, slot := slot, rplCap := rplCap, peerIp := ip, peerPort := port,
     magic := BitVec.ofNat 16 (u16 b 0), version := BitVec.ofNat 8 (byteAt b 2),
     flags := BitVec.ofNat 8 (byteAt b 3), seq := BitVec.ofNat 32 (u32 b 4),
     tag := BitVec.ofNat 16 (u16 b 10), paramLen := BitVec.ofNat 32 n, whenF := BitVec.ofNat 64 (u64 b 16),
     session := BitVec.ofNat 32 (u32 b 24), hdrCrc := BitVec.ofNat 32 (u32 b 28), params := slice b 32 n,
     bodyCrc := BitVec.ofNat 32 (u32 b (32 + n)), auth := b.drop (36 + n) })

/-- The longest parameters of a source (R449). -/
def maxParams (src : Nat) : Nat := if isNet src then 65484 else 65500

/-- Steps 0 to 4 of R453 on a packet's bytes: the status of the first failing step. -/
def packetCheck (src : Nat) (b : Bytes) : Option Nat :=
  let n := u32 b 12
  firstFail [(decide (b.length < 36), 0x0104), (u16 b 0 != 0x4C54, 0x0100),
    (u32 b 28 != (crc32c (b.take 28)).toNat, 0x0101), (byteAt b 2 != 1, 0x0103),
    (decide (31 < byteAt b 3), 0x0106),
    (n % 4 != 0 || decide (maxParams src < n) || b.length != 36 + n + (if isNet src then 16 else 0), 0x0104),
    (u32 b (32 + n) != (crc32c (b.take (32 + n))).toNat, 0x0102)]

/-- Step 5 of R453: AUTH set and the tag right under a key (R450). -/
def tagOk (key : Bytes) (b : Bytes) : Bool :=
  bitOf (byteAt b 3) 2 && b.drop (b.length - 16) == (hmacSha256 key (b.take (b.length - 16))).take 16

/-- A refusal record's 32 bytes (R452). -/
def RefRec.bytes (r : RefRec) : Bytes :=
  leBytes 4 (r.off.getD 0xFFFFFFFF) ++ leBytes 2 (r.unit.getD 0xFFFF) ++ leBytes 1 (r.domain.getD 0xFF) ++
    leBytes 1 (r.bank.getD 0xFF) ++ leBytes 2 r.line ++ leBytes 1 r.slot ++ leBytes 1 r.resource ++
    leBytes 4 r.limit ++ leBytes 4 r.demand ++
    leBytes 4 (if r.status / 256 = 2 then r.shortfall else 0) ++ leBytes 8 r.extra

/-- Header bytes 0 to 27 of a reply (R451). -/
def Reply.head (r : Reply) : Bytes :=
  leBytes 2 0x4C59 ++ leBytes 2 r.status ++ leBytes 2 r.tag ++ leBytes 2 (pad4 r.payload.length) ++
    leBytes 4 r.seq ++ leBytes 8 (r.epoch.getD (2 ^ 64 - 1)) ++ leBytes 8 (r.time.getD (2 ^ 64 - 1))

/-- A reply's bytes without its tag (R451). -/
def Reply.bytes (r : Reply) : Bytes :=
  let b := r.head ++ leBytes 4 (crc32c r.head).toNat ++ padTo (pad4 r.payload.length) r.payload
  b ++ leBytes 4 (crc32c b).toNat

end Sys2Proof.Machine
end

