-- ==== Sys2Proof/Machine/Routes.lean ====
section
/-! DEFINITION. Routes and takes (R264 to R293), GPI macros as commands (R287, R481), and the pattern
commands of family 0x03xx (R482, R483). -/

namespace Sys2Proof.Machine

/-! ## What reads a flow -/

/-- The destinations and sources of a take's descriptors (R268). -/
def takeReads (b : Bytes) : List (Nat × Nat) :=
  (List.range (u16 b 0)).map (fun i => (u16 b (4 + 8 * i), u16 b (6 + 8 * i)))

namespace State

/-- Outputs that read a flow by a route, applied or in a bank, or by a pending timed take (R270). -/
def routeReaders (s : State) (f : Nat) : List Nat :=
  let banks := (List.range 4).flatMap (fun d => (s.bank d 0).routes ++ (s.bank d 1).routes)
  let timed := (s.pat.sched.filter (fun t => t.op == opTake)).flatMap (fun t => takeReads t.cmd.params)
  ascending (((s.pat.routes ++ banks).filter (fun r => r.src == f)).map Route.out ++
    (timed.filter (fun p => p.2 == f)).map (·.1))

/-- The refusal of R270: 0x0312 names the lowest-numbered output that reads the flow. -/
def flowRouted (s : State) (f off : Nat) : Option RefRec :=
  match s.routeReaders f with
  | [] => none
  | o :: _ => some { rej 0x0312 off with unit := some o }

/-- Whether an output has a route or a pending take (R322). -/
def outputRouted (s : State) (o : Nat) : Bool :=
  let banks := (List.range 4).flatMap (fun d => (s.bank d 0).routes ++ (s.bank d 1).routes)
  let timed := (s.pat.sched.filter (fun t => t.op == opTake)).flatMap (fun t => takeReads t.cmd.params)
  (s.pat.routes ++ banks).any (fun r => r.out == o) || timed.any (fun p => p.1 == o)

/-- The pipe a video output is bound to for admission, if one (R321). -/
def pipeOf (s : State) (o : Nat) : Option Nat :=
  (List.range 34).find? (fun p => s.flag F.CHM_PIPE_CFG_EN p && s.fld F.CHM_PIPE_CFG_OUT_FLOW p == o)

/-- The pipe that supplies a video output's picture now: bindings change at a flip of the domain (R34, R322). -/
def pipeLive (s : State) (o : Nat) : Option Nat := (s.chm.bound.find? (fun x => x.2.1 == o)).map (·.1)

/-- A flip of domain `d` puts its pipes' configured bindings in force (R33, R322). -/
def pipeFlip (s : State) (d : Nat) : State :=
  let now := ((List.range 34).filter (fun p => s.flag F.CHM_PIPE_CFG_EN p && s.fld F.CHM_PIPE_CFG_DOMAIN p == d)).map
    (fun p => (p, s.fld F.CHM_PIPE_CFG_OUT_FLOW p, d))
  { s with chm := { s.chm with bound := s.chm.bound.filter (fun x => x.2.2 != d) ++ now } }

/-! ## Shared admission of pattern changes -/

/-- A domain that holds raw entries takes no compiled ones (R482). -/
def rawRefusal (s : State) (doms : List Nat) : Option RefRec :=
  if doms.any (fun d => (s.patDom d).raw) then some (rejAll 0x0318) else none

/-- Admission of a change whose tables `s` holds: every named domain's pattern (R244, R614), then the pool
budget (R199). -/
def admitDoms (s : State) (doms : List Nat) : Option RefRec :=
  match s.rawRefusal doms with
  | some r => some r
  | none =>
    match doms.findSome? s.patAdmit with
    | some r => some r
    | none => s.bwCheck

/-- Write the patterns of the named domains (R240). -/
def writeDoms (s : State) (doms : List Nat) : State := doms.foldl (fun s d => s.patWrite d) s

/-- Give every delay line without a ring its ring (R284, R378) and release the rings of lines that are
gone; a line's ring is kept under its label. -/
def syncDelayRings (s : State) : Option RefRec × State :=
  let gone := (s.pool.rings.filter (fun r => decide (0x1000 ≤ r.flow ∧ r.flow < 0x2000) &&
    !s.aud.delays.any (fun x => x.label == r.flow))).map Ring.flow
  let s := gone.foldl (fun s f => s.releaseFlow f) s
  s.aud.delays.foldl (fun (acc : Option RefRec × State) x =>
    match acc.1 with
    | some _ => acc
    | none =>
      let s := acc.2
      if s.pool.rings.any (fun r => r.flow == x.label) then acc
      else match s.allocTry (delayTiles x) with
        | .bad r => (some r, s)
        | .ok l => (none, s.allocRing x.label 0 x.dom (delayTiles x) l)) (none, s)

end State

/-! ## TAKE -/

/-- Scan, rate, size and sampling agree (R266). -/
def formatsAgree (p : Picture) (o : VOut) : Bool :=
  match fmtOf p.format, fmtOf o.format with
  | some a, some b =>
    p.width == o.width && p.height == o.height && a.interlaced == b.interlaced &&
      a.num * b.den == b.num * a.den && p.sampling == o.sampling
  | _, _ => false

/-- The largest delay of a source's routes (R267). -/
def maxDelay (s : State) (src : Nat) : Nat := ((s.inFlow src).map (fun x => x.depth - 2)).getD 0

/-- The checks of one route descriptor, in the model's order (R277): destination, source, domain, format,
delay. `off` is the descriptor's byte offset. -/
def descCheck (s : State) (dest src delay off : Nat) (dup : Bool) : Option RefRec :=
  let pic := s.picture src
  let o := s.vout dest
  firstFail [
    (!(decide (0x0800 ≤ dest) && decide (dest ≤ 0x0FFF)), rej 0x0108 off),
    (dup, rej 0x0108 off),
    (o.isNone, rej 0x030F off),
    ((s.pipeOf dest).isSome, { rej 0x0313 off with unit := s.pipeOf dest }),
    (src != 0xFFFF && !(decide (src < 0x0800) || decide (0x4000 ≤ src ∧ src ≤ 0x41FF)), rej 0x0108 off),
    (src != 0xFFFF && pic.isNone, rej 0x030F off),
    (src != 0xFFFF && (pic.map Picture.dom) != (o.map VOut.dom), rej 0x0310 off),
    (src != 0xFFFF && !((pic.bind (fun p => o.map (fun o => formatsAgree p o))).getD false), rej 0x0311 off),
    (src != 0xFFFF && decide (maxDelay s src < delay),
      { rejRes 0x0200 (maxDelay s src) delay with off := some off })]

/-- The checks of a take's descriptors, first failing descriptor first (R276, R277). -/
def takeChecks (s : State) (b : Bytes) : Option RefRec :=
  let l := takeReads b
  (List.range l.length).findSome? (fun i =>
    let p := l.getD i (0, 0)
    descCheck s p.1 p.2 (byteAt b (8 + 8 * i)) (4 + 8 * i) ((l.take i).any (fun q => q.1 == p.1)))

/-- The route table after one descriptor (R264, R269). -/
def routeTable (routes : List Route) (b : Bytes) (i : Nat) : List Route :=
  let dest := u16 b (4 + 8 * i)
  let src := u16 b (6 + 8 * i)
  let fl := byteAt b (9 + 8 * i)
  let rest := routes.filter (fun r => r.out != dest)
  if src = 0xFFFF then rest else rest ++ [⟨dest, src, byteAt b (8 + 8 * i), bitOf fl 0, bitOf fl 1⟩]

/-- One take result record (R275); a record without a known flip prints all ones. -/
def takeRecord (dom routes : Nat) (p : Option (Nat × Nat)) : Bytes :=
  [BitVec.ofNat 8 dom, 0] ++ leBytes 2 routes ++
    (match p with
     | some (fr, ep) => leBytes 4 fr ++ leBytes 8 ep
     | none => List.replicate 12 0xFF)

/-- The reply's EPOCH over its records: the largest known, else all ones (R275). -/
def recordsEpoch (l : List (Option (Nat × Nat))) : Option Nat :=
  (l.filterMap (fun p => p.map (·.2))).foldl (fun (m : Option Nat) e => some (max e (m.getD 0))) none

/-- The tables of a take after its descriptors, with audio-follow changes (R283, R284). -/
def takeTables (s : State) (b : Bytes) : Option State :=
  let n := u16 b 0
  let routes := (List.range n).foldl (fun r i => routeTable r b i) s.pat.routes
  let s1 := { s with pat := { s.pat with routes := routes } }
  let new := (List.range n).filterMap (fun i => routes.find? (fun r => r.out == u16 b (4 + 8 * i) && r.afv))
  (new.foldl (fun (acc : Option State) r => acc.bind (fun s => s.afvRoute r)) (some s1)).map State.afvGc

/-- TAKE (R264 to R285). -/
def applyTake (c : Cmd) (s : State) : CmdResult :=
  let b := c.params
  let n := u16 b 0
  guarded [(decide (b.length < 4), rej 0x0108 b.length), (decide (n = 0 ∨ 2048 < n), rej 0x0108 0),
      lenIs c (4 + 8 * n)] fun _ =>
    match takeChecks s b with
    | some r => .bad r
    | none =>
      match takeTables s b with
      | none => .bad (rejAll 0x0222)
      | some s1 =>
        match s1.syncDelayRings with
        | (some r, _) => .bad r
        | (none, s1) =>
          let dests := (takeReads b).map (·.1)
          let doms := (List.range 4).filter (fun d => dests.any (fun o => (s.vout o).any (fun x => x.dom == d)))
          match s1.admitDoms doms with
          | some r => .bad r
          | none =>
            let recs := doms.map (fun d => (d, (dests.filter (fun o => (s.vout o).any (fun x => x.dom == d))).length,
              s.predictFlip d))
            let s2 := dests.foldl (fun s o => s.routePend o) (s1.writeDoms doms).audUse
            .ok s2 (recs.flatMap (fun x => takeRecord x.1 x.2.1 x.2.2)) (some (recordsEpoch (recs.map (·.2.2))))
              (State.latest (doms.map s.flipNs))

/-! ## Macros (R287, R481) -/

/-- The macro body of an index. -/
def macroBody (s : State) (i : Nat) : Option MacroBody := s.cmd.macros.find? (fun m => m.index == i)

/-- MACRO_STORE (R481): the stored packet passes steps 1 to 4 of R453 and its opcode is marked G. -/
def applyMacroStore (c : Cmd) (s : State) : CmdResult :=
  let b := c.params
  let p := b.drop 8
  let i := byteAt b 0
  let ok := ((opInfo (u16 p 8)).map OpInfo.gpi).getD false
  guarded [(decide (b.length < 8), rej 0x0108 b.length), (!inRanges [(0, 2)] (byteAt b 1), rej 0x0108 1),
      (decide (63 < byteAt b 2), rej 0x0108 2), (decide (1 < byteAt b 3), rej 0x0108 3),
      (decide (4096 < p.length), rej 0x0108 4104),
      ((packetCheck 12 p).isSome, rej ((packetCheck 12 p).getD 0) 8), (!ok, rej 0x0108 16)] fun _ =>
    let s := { s with cmd := { s.cmd with macros := upsert (fun (m : MacroBody) => m.index == i) ⟨i, p⟩ s.cmd.macros } }
    let s := (s.setFlag F.CMD_MACRO_VALID true i).setFld F.CMD_MACRO_LEN p.length i
    let s := (s.setFld F.CMD_MACRO_EDGE (byteAt b 1) i).setFld F.CMD_MACRO_PIN (byteAt b 2) i
    .ok (s.setFld F.CMD_MACRO_ARMED (byteAt b 3) i) []

/-- MACRO_ARM. -/
def applyMacroArm (c : Cmd) (s : State) : CmdResult :=
  let b := c.params
  let i := byteAt b 0
  guarded [lenIs c 4, (decide (1 < byteAt b 1), rej 0x0108 1), (!inRanges [(0, 2)] (byteAt b 2), rej 0x0108 2),
      (decide (63 < byteAt b 3), rej 0x0108 3), ((macroBody s i).isNone, rej 0x030F 0)] fun _ =>
    let s := s.setFld F.CMD_MACRO_ARMED (byteAt b 1) i
    .ok ((s.setFld F.CMD_MACRO_EDGE (byteAt b 2) i).setFld F.CMD_MACRO_PIN (byteAt b 3) i) []

/-- MACRO_DELETE. -/
def applyMacroDelete (c : Cmd) (s : State) : CmdResult :=
  let i := byteAt c.params 0
  guarded [lenIs c 4, ((macroBody s i).isNone, rej 0x030F 0)] fun _ =>
    let s := { s with cmd := { s.cmd with macros := s.cmd.macros.filter (fun m => m.index != i) } }
    let s := (s.setFlag F.CMD_MACRO_VALID false i).setFlag F.CMD_MACRO_ARMED false i
    .ok (s.setFld F.CMD_MACRO_LEN 0 i) []

/-! ## Family 0x03xx -/

/-- The entries of a PAT_WRITE as (isRun, index, entry). -/
def rawEntries (b : Bytes) : List (Bool × Nat × BitVec 128) :=
  let ne := u16 b 2
  (List.range (ne + u16 b 4)).map (fun i =>
    let o := 8 + 20 * i
    (decide (ne ≤ i), u16 b o, BitVec.ofNat 128 (u64 b (o + 4) + 18446744073709551616 * u64 b (o + 12))))

/-- Whether a domain holds compiled entries (R482): anything is bound to it, or its banks were compiled. -/
def holdsCompiled (s : State) (d : Nat) : Bool :=
  !(s.patDom d).raw && (!((s.domIns d false).isEmpty && (s.domIns d true).isEmpty && (s.domOuts d).isEmpty &&
    s.shk.ancOuts.all (fun x => x.dom != d) && (s.domLayers d).isEmpty && s.aud.delays.all (fun x => x.dom != d)) ||
    !((s.bank d 0).tmpl.isEmpty && (s.bank d 1).tmpl.isEmpty))

/-- PAT_WRITE (R482). -/
def applyPatWrite (c : Cmd) (s : State) : CmdResult :=
  let b := c.params
  let d := byteAt b 0
  let l := rawEntries b
  let bad := (numbered 0 l).find? (fun p => !guardOk p.2.2.2 ||
    decide ((if p.2.1 then 4096 else 16384) ≤ p.2.2.1))
  guarded [(decide (b.length < 8), rej 0x0108 b.length), (decide (3 < d), rej 0x0108 0),
      lenIs c (8 + 20 * (u16 b 2 + u16 b 4)), (bad.isSome, rej 0x0108 (8 + 20 * ((bad.map (·.1)).getD 0))),
      (holdsCompiled s d, rejAll 0x0318)] fun _ =>
    match s.compileFmt d with
    | none => .bad (rejAll 0x0305)
    | some f =>
      let k := 1 - s.activeNo d
      let bk := l.foldl (fun (q : PatBank) (x : Bool × Nat × BitVec 128) =>
        if x.1 then { q with runs := sset emptyEntry q.runs x.2.1 x.2.2 }
        else { q with tmpl := sset emptyEntry q.tmpl x.2.1 x.2.2 }) (s.bank d k)
      match s.bankCheck d k bk f <|> ((s.setBank d k bk).setPatDom d { (s.setBank d k bk).patDom d with raw := true }).bwCheck with
      | some r => .bad r
      | none =>
        let flip := bitOf (byteAt b 1) 0
        .ok (s.rawWrite d l flip) [] (if flip then some ((s.predictFlip d).map (·.2)) else none)
          (if flip then s.flipNs d else none)

/-- PAT_CLEAR (R482). -/
def applyPatClear (c : Cmd) (s : State) : CmdResult :=
  let d := byteAt c.params 0
  guarded [lenIs c 4, (decide (3 < d), rej 0x0108 0), (holdsCompiled s d, rejAll 0x0318)] fun _ =>
    .ok (s.patClear d) []

/-- The admitted demand of a domain in its two banks: tags and tiles. -/
def admittedDemand (s : State) (d : Nat) (f : Fmt) : Nat × Nat :=
  let n := entryN s.ancTpf
  (max (bankWorst (s.bank d 0) f n (fun x => x.2.1)).1 (bankWorst (s.bank d 1) f n (fun x => x.2.1)).1,
   max (bankWorst (s.bank d 0) f n (fun x => x.2.2)).1 (bankWorst (s.bank d 1) f n (fun x => x.2.2)).1)

/-- PAT_SHARE (R246, R247, PAT_DOM_CFG). -/
def applyPatShare (c : Cmd) (s : State) : CmdResult :=
  let b := c.params
  let d := byteAt b 0
  let tag := byteAt b 1
  let bw := byteAt b 2
  let others (f : Fld) : Nat := (((List.range 4).filter (· != d)).map (fun k => s.fld f k)).foldl (· + ·) 0
  let below := match s.compileFmt d with
    | some f => decide (tag < (admittedDemand s d f).1) || decide (bwLimit f bw < (admittedDemand s d f).2)
    | none => false
  guarded [lenIs c 8, (decide (3 < d), rej 0x0108 0), (decide (96 < tag), rej 0x0108 1),
      (decide (66 < bw), rej 0x0108 2), (byteAt b 3 == 0, rej 0x0108 3), (byteAt b 4 == 0, rej 0x0108 4),
      (decide (96 < tag + others F.PAT_DOM_CFG_TAG_SHARE), rej 0x0108 1),
      (decide (66 < bw + others F.PAT_DOM_CFG_BW_SHARE), rej 0x0108 2), (below, rejAll 0x030B)] fun _ =>
    let s := (s.setFld F.PAT_DOM_CFG_TAG_SHARE tag d).setFld F.PAT_DOM_CFG_BW_SHARE bw d
    .ok ((s.setFld F.PAT_DOM_CFG_SLIP_THR (byteAt b 3) d).setFld F.PAT_DOM_CFG_SLIP_WIN (byteAt b 4) d) []

/-- The second reply of a timed command (R255): only the device that accepted it sends one, while it is not
a standby; ACK_AFTER_MIRROR delays an OK reply of an active to its record's acknowledgement. -/
def State.secondReply (s : State) (t : Timed) (status : Nat) (payload : Bytes) (epoch time : Option Nat) : State :=
  if !t.own || s.sys.role == .standby then s
  else
    let r : Reply := ⟨t.cmd.src.val, t.cmd.slot, t.cmd.rplCap, status, t.cmd.tag.toNat, t.cmd.seq.toNat, epoch, time,
      payload, (t.cmd.peerIp.toNat, t.cmd.peerPort.toNat), t.cmd.key⟩
    let ack := if s.sys.role == .active && t.cmd.ackMirror && status == 0 then some s.sys.epoch else none
    { s with cmd := { s.cmd with unreleased := s.cmd.unreleased ++ [⟨t.op, t.cmd, r, ack, false, true⟩] } }

/-- PAT_SCHED_STAT.PENDING, recounted. -/
def State.schedCount (s : State) : State := s.setFld F.PAT_SCHED_STAT_PENDING s.pat.sched.length

/-- SCHED_CANCEL (R257, R483). -/
def applySchedCancel (c : Cmd) (s : State) : CmdResult :=
  let b := c.params
  let src := byteAt b 0
  let isIt (t : Timed) : Bool := t.cmd.src.val == src && t.cmd.seq.toNat == u32 b 4
  guarded [lenIs c 8, (decide (15 < src), rej 0x0108 0)] fun _ =>
    match s.pat.sched.find? isIt with
    | none => .bad (rejAll 0x0316)
    | some t =>
      if t.released then .bad (rejAll 0x0315)
      else
        let s := { s with pat := { s.pat with sched := s.pat.sched.filter (fun x => !isIt x) },
                          twn := { s.twn with cancelledNow := s.twn.cancelledNow ++ [(src, u32 b 4)] } }
        .ok (s.schedCount.secondReply t 0x031A (rejAll 0x031A).bytes (some s.sys.epoch) none) []

end Sys2Proof.Machine
end

