-- ==== Sys2Proof/Machine/Units.lean ====
section
/-! DEFINITION. The unit a command is bound to (R475), and what the units carry (R162, R295). -/

namespace Sys2Proof.Machine

/-- What choosing a unit answers. -/
inductive UnitPick where
  | unit (u : Nat)
  | bad (r : RefRec)

/-- The better of two refusals for R475: the smaller shortfall, the earlier among equals. -/
def lesser (best : Option (Nat × RefRec)) (u : Nat) (r : RefRec) : Option (Nat × RefRec) :=
  match best with
  | none => some (u, r)
  | some (v, q) => if r.shortfall < q.shortfall then some (u, r) else some (v, q)

/-- Try eligible units in ascending number (R475). -/
def tryUnits (check : Nat → Option RefRec) : List Nat → Option (Nat × RefRec) → UnitPick
  | [], none => .bad (rejAll 0x0501)
  | [], some (u, r) => .bad { r with unit := some u }
  | u :: us, best =>
    match check u with
    | none => .unit u
    | some r => tryUnits check us (lesser best u r)

/-- The unit a command names, or the one admission chooses for 0xFF (R475). A named unit that is in fault is
refused with 0x0501 (R545); a spare or a shadow target is no eligible unit. `off` is the field's offset. -/
def pickUnit (s : State) (k : UnitKind) (want off : Nat) (check : Nat → Option RefRec) : UnitPick :=
  if want = 0xFF then tryUnits check ((List.range (unitCount k)).filter (s.eligible k)) none
  else if unitCount k ≤ want then .bad (rej 0x0108 off)
  else if s.unitFault k want then .bad { rej 0x0501 off with unit := some want }
  else if !s.eligible k want then .bad { rej 0x0108 off with unit := some want }
  else
    match check want with
    | some r => .bad { r with unit := some want }
    | none => .unit want

namespace State

/-- A stream's channels as bits per 1,001 s (R163). -/
def streamBits (x : AStream) : Nat := x.chans * chanSpan x.rate * 48000 * 32 * 1001

/-- LIMIT checks of a unit: the first exceeded row of its table, as (row, limit, demand). -/
def rowCheck (status : Nat) (rows : List (Nat × Nat)) : Option RefRec :=
  (numbered 1 rows).findSome? (fun p => if p.2.1 < p.2.2 then some (rejRes status p.2.1 p.2.2 none p.1) else none)

/-- The streams a Ladle or Shakeout carries. -/
def unitStreams (s : State) (isIn : Bool) (u : Nat) : List AStream :=
  s.aud.streams.filter (fun x => x.isIn == isIn && x.unit == u)

/-- A Ladle's input flows. -/
def ladFlows (s : State) (u : Nat) : List InFlow := s.lad.flows.filter (fun x => x.ladle == u)

/-- A Ladle's written rate in units of 10 Mb/s (R163). -/
def ladRate (s : State) (u : Nat) : Nat :=
  rate10 ((s.ladFlows u).map (fun x => match fmtOf x.format with
    | some f => tileBits x.tpf f
    | none => 0) ++ (s.unitStreams true u).map streamBits)

/-- A Ladle's reserved intake on a path in units of 10 Mb/s (R163): type W counts 1.10. -/
def ladIntake (s : State) (u path : Nat) : Nat :=
  ceilDiv (((s.ladFlows u).map (fun x =>
    if bitOf x.paths path then
      x.wireRate * (if x.flow < 0x800 ∧ x.rxType = 2 then 11 else 10) else 0)).foldl (· + ·) 0) 100

/-- SDI inputs of a Ladle, by S-lanes or tributaries: a quad-link counts 4. -/
def ladSdi (s : State) (u : Nat) : Nat :=
  ((s.ladFlows u).map (fun x => if x.anc then 0 else s.inLinks x)).foldl (· + ·) 0

/-- The Ladle table of R162 for unit `u`. -/
def ladCheck (s : State) (u : Nat) : Option RefRec :=
  rowCheck 0x0201 [(21250, s.ladRate u), (21250, s.ladIntake u 0), (21250, s.ladIntake u 1),
    (64, ((s.ladFlows u).filter (fun x => !x.anc)).length), (32, ((s.ladFlows u).filter InFlow.anc).length),
    (128, (s.unitStreams true u).length), (32, s.ladSdi u)]

/-- LAD_UNIT_STAT and LAD_UNIT_LOAD of a unit, recounted. -/
def ladUse (s : State) (u : Nat) : State :=
  let nv := ((s.ladFlows u).filter (fun x => !x.anc)).length
  let na := ((s.ladFlows u).filter InFlow.anc).length
  let ns := (s.unitStreams true u).length
  let s := (s.setFld F.LAD_UNIT_STAT_VIDEO_FLOWS nv u).setFld F.LAD_UNIT_STAT_ANC_FLOWS na u
  let s := (s.setFld F.LAD_UNIT_STAT_AUDIO_STREAMS ns u).setFlag F.LAD_UNIT_STAT_IN_SERVICE (decide (0 < nv + na + ns)) u
  (s.setFld F.LAD_UNIT_LOAD_WRITE_RATE (s.ladRate u) u).setFld F.LAD_UNIT_LOAD_INTAKE
    (max (s.ladIntake u 0) (s.ladIntake u 1)) u

end State
end Sys2Proof.Machine
end

