-- ==== Sys2Proof/Machine/Ladle.lean ====
section
/-! DEFINITION. The Ladles (chapter 06): packets and SDI frames into tiles, completion, frame
synchronisation, loss, depth changes, and the definitions of input flows. -/

namespace Sys2Proof.Machine

/-! ## Frames in a ring -/

/-- Whether two runs of `n` positions from `a` and `b` in a ring of `r` positions overlap. -/
def posOverlap (r n a b : Nat) : Bool :=
  decide ((b + r - a % r) % r < n) || decide ((a + r - b % r) % r < n)

/-- Whether ring position `p` lies in the run of `n` from `a`. -/
def posIn (r n a p : Nat) : Bool := decide ((p + r - a % r) % r < n)

/-- Merge a range into a list of disjoint ranges in ascending order. -/
def addRange (x : Nat × Nat) : List (Nat × Nat) → List (Nat × Nat)
  | [] => if x.2 = 0 then [] else [x]
  | (a, n) :: es =>
    if x.1 + x.2 < a then x :: (a, n) :: es
    else if a + n < x.1 then (a, n) :: addRange x es
    else addRange (min a x.1, max (a + n) (x.1 + x.2) - min a x.1) es

/-- Bytes of `[a, a + n)` the ranges hold. -/
def coveredIn (l : List (Nat × Nat)) (a n : Nat) : Nat :=
  (l.map (fun p => min (p.1 + p.2) (a + n) - max p.1 a)).foldl (· + ·) 0

/-- The parts of `[a, a + n)` the ranges leave out. -/
def gapsIn : List (Nat × Nat) → Nat → Nat → List (Nat × Nat)
  | [], a, n => if n = 0 then [] else [(a, n)]
  | (x, k) :: es, a, n =>
    if x + k ≤ a then gapsIn es a n
    else if a + n ≤ x then (if n = 0 then [] else [(a, n)])
    else (if a < x then [(a, x - a)] else []) ++ gapsIn es (x + k) (a + n - (x + k))

/-- Insert a complete frame in the order of generations and indices. -/
def insDone (x : DoneFrame) : List DoneFrame → List DoneFrame
  | [] => [x]
  | y :: ys => if x.gen < y.gen ∨ (x.gen = y.gen ∧ x.s < y.s) then x :: y :: ys else y :: insDone x ys

/-- The ancillary packets stored in ST 2110-40 form: each a header of 62 bits, its user words and a checksum, padded to
32 bits (R305). A zero header ends the list. -/
def ancPackets (b : Bytes) : Nat → List Bytes
  | 0 => []
  | n + 1 =>
    if b.length < 12 || (b.take 12).all (· == 0) then []
    else
      let dc := beField b 54 8
      let len := (72 + 10 * dc + 31) / 32 * 4
      b.take len :: ancPackets (b.drop len) n

/-- Whether an ancillary packet's checksum holds (ST 291-1): the nine-bit sum of DID, SDID, DC and the user words, bit 9 the
inverse of bit 8. -/
def ancSumOk (p : Bytes) : Bool :=
  let n := 3 + beField p 54 8
  let sum := ((List.range n).map (fun i => beField p (32 + 10 * i) 9)).foldl (· + ·) 0 % 512
  let c := beField p (32 + 10 * n) 10
  c % 512 == sum && bitOf c 9 == !bitOf sum 8

namespace InFlow

/-- Active bytes of a frame (R167). -/
def bytes (x : InFlow) : Nat := if x.anc then x.tpf * tilePayload else rowBytes x.sampling x.width * x.height

/-- Valid payload bytes of tile `k` (R168). -/
def fill (x : InFlow) (k : Nat) : Nat := min tilePayload (x.bytes - k * tilePayload)

/-- Frames still open that BASE has overtaken. -/
def overtaken (x : InFlow) : List OpenFrame :=
  match x.base with
  | none => []
  | some b => x.opens.filter (fun o => decide (o.gen < b.gen ∨ (o.gen = b.gen ∧ o.s < b.s)))

/-- An open frame as one that completes now, with its tiles that have no trailer lost. -/
def asDone (x : InFlow) (o : OpenFrame) : DoneFrame :=
  ⟨o.s, o.gen, o.frame, 0, o.seqs, o.ts, (List.range x.tpf).filter (fun k => o.lost.contains k || !o.closed.contains k), o.ancPos,
    o.seq0, o.fin⟩

/-- The frames up to and with BASE, oldest first: complete ones, and open ones that BASE has overtaken, which occupy their
positions in the readable window all the same (R172, R173). -/
def held (x : InFlow) : List DoneFrame :=
  match x.base with
  | none => []
  | some b => (x.overtaken.map x.asDone).foldl (fun l f => insDone f l)
      (x.done.filter (fun f => decide (f.gen < b.gen ∨ (f.gen = b.gen ∧ f.s ≤ b.s))))

/-- Complete frames newer than BASE, oldest first. -/
def newer (x : InFlow) : List DoneFrame :=
  match x.base with
  | none => x.done
  | some b => x.done.filter (fun f => decide (b.gen < f.gen ∨ (f.gen = b.gen ∧ b.s < f.s)))

/-- AVAIL: the largest delay for which a frame is held (R174). -/
def avail (x : InFlow) : Nat := min (x.depth - 2) (x.held.length - 1)

/-- The frame a read at delay `d` selects: the oldest held beyond AVAIL (R174). -/
def frameAt (x : InFlow) (d : Nat) : Option DoneFrame :=
  let h := x.held
  h[h.length - 1 - min d x.avail]?

/-- The readable window: the last DEPTH − 1 frames up to BASE (R173). -/
def window (x : InFlow) : List DoneFrame := lastN (x.depth - 1) x.held

/-- Whether a new frame may begin in the ring of the newest generation (R176). -/
def mayBegin (x : InFlow) : Bool :=
  (x.window ++ x.newer).all (fun f => f.gen != x.gen ||
    !posOverlap (max 1 x.ringTiles) x.tpf (x.sNext * x.tpf) (f.s * x.tpf))

/-- Whether tile `k` of an open frame lies in the readable window (R173). -/
def clashes (x : InFlow) (o : OpenFrame) (k : Nat) : Bool :=
  x.window.any (fun f => f.gen == o.gen && posIn (max 1 x.ringTiles) x.tpf (f.s * x.tpf) (o.s * x.tpf + k))

/-- Valid payload bytes of tile `k` of a frame: of an ANC frame, those stored so far. -/
def fillOf (x : InFlow) (o : OpenFrame) (k : Nat) : Nat := if x.anc then min tilePayload (o.ancPos - k * tilePayload) else x.fill k

/-- Active bytes of one frame of the SDI word stream, 10 bits a word (R158): 148.5 million words a second for each 1.485 Gb/s,
in the 1.001 form where the frame rate is. -/
def streamBytes (x : InFlow) : Nat :=
  match fmtOf x.format with
  | some f => 185625000 * 2 ^ sdiClass f / ((f.num + f.den - 1) / f.den)
  | none => 0

/-- Datagrams of an ST 2022-6 frame (R164). -/
def datagrams (x : InFlow) : Nat := max 1 (ceilDiv x.streamBytes 1376)

/-- The raster line of tile `k`'s first byte (R168). -/
def tileLine (x : InFlow) (k : Nat) : Nat := rowLine x.format (k * tilePayload / max 1 (rowBytes x.sampling x.width))

/-- SEG: earlier tiles of the frame whose first byte lies in the same line (R168). -/
def tileSeg (x : InFlow) (k : Nat) : Nat :=
  ((List.range (min k 64)).filter (fun j => x.tileLine (k - 1 - j) == x.tileLine k)).length

end InFlow

namespace State

/-- The physical tile of tile `k` of a frame. -/
def frameTile (s : State) (x : InFlow) (gen ix k : Nat) : Option Nat :=
  match s.ring x.flow gen with
  | some r => s.resolve x.flow gen ((ix * x.tpf + k) % max 1 r.tiles)
  | none => none

/-- Now as an absolute slot of a domain. -/
def absSlot (s : State) (d : Nat) : Nat := s.absLine d * 256 + (s.rasOf d).slot

/-! ## Writing tiles (R168, R169, R234) -/

/-- Store bytes of a frame's stream from byte `off`, tile by tile. -/
def storeStream (s : State) (x : InFlow) (gen ix off : Nat) (b : Bytes) : Nat → State
  | 0 => s
  | n + 1 =>
    if b.isEmpty then s
    else
      let k := off / tilePayload
      let o := off % tilePayload
      let here := b.take (tilePayload - o)
      let s := match s.frameTile x gen ix k with
        | some t => s.tileWrite t o here
        | none => s
      storeStream s x gen ix (off + here.length) (b.drop (tilePayload - o)) n

/-- FLAGS of a tile written at ingest (R168): LOST and TWIN_ORIGIN. -/
def ingestFlags (s : State) (lost : Bool) : Nat :=
  (if lost then flagLost else 0) + (if s.sys.role = .standby then flagTwin else 0)

/-- Write the trailer of tile `k` (R168). LINE and SEG of an ANC tile are values the specification does not
state. -/
def closeTile (s : State) (x : InFlow) (o : OpenFrame) (k : Nat) (lost : Bool) : State :=
  match s.frameTile x o.gen o.s k with
  | none => s
  | some t =>
    if x.anc then
      let (v, s) := s.fresh 24
      s.writeTrailer t x.flow o.frame (v % 65536) (v / 65536) (min tilePayload (o.ancPos - k * tilePayload)) (s.ingestFlags lost)
    else s.writeTrailer t x.flow o.frame (x.tileLine k) (x.tileSeg k) (x.fill k) (s.ingestFlags lost)

/-- Replace an open frame of a flow. -/
def setOpen (s : State) (f : Nat) (o : OpenFrame) : State :=
  s.modFlow f (fun x => { x with opens := x.opens.map (fun y => if y.s == o.s && y.gen == o.gen then o else y) })

/-- Close tile `k` with its missing bytes written as zeros and LOST set (R169, R170). -/
def loseTile (s : State) (x : InFlow) (o : OpenFrame) (k : Nat) : State :=
  let s := (gapsIn o.present (k * tilePayload) (x.fillOf o k)).foldl (fun s g =>
    s.storeStream x o.gen o.s g.1 (List.replicate g.2 0) 2) s
  (s.closeTile x o k true).flowCnt x.flow cntLost 1

/-- A frame completes (R165, R169): tiles with bytes missing are lost, and the frame joins the complete ones. -/
def completeFrame (s : State) (f : Nat) (o : OpenFrame) : State :=
  match s.inFlow f with
  | none => s
  | some x =>
    let rest := (List.range x.tpf).filter (fun k => !o.closed.contains k)
    let lost := rest.filter (fun k => coveredIn o.present (k * tilePayload) (x.fillOf o k) != x.fillOf o k)
    let s := rest.foldl (fun s k => if lost.contains k then s.loseTile x o k else s.closeTile x o k false) s
    let s := if lost.isEmpty then s else s.raise fltLadLost [f, lost.length]
    let d : DoneFrame := ⟨o.s, o.gen, o.frame, s.absSlot x.dom, o.seqs, o.ts, State.ascending (o.lost ++ lost), o.ancPos, o.seq0, o.fin⟩
    s.modFlow f (fun x => { x with opens := x.opens.filter (fun y => !(y.s == o.s && y.gen == o.gen)),
                                   done := insDone d x.done })

/-- After bytes were written: tiles that are whole get their trailers, and a whole frame completes. -/
def finishTiles (s : State) (f : Nat) (o : OpenFrame) : State :=
  match s.inFlow f with
  | none => s
  | some x =>
    let whole := (List.range x.tpf).filter (fun k => !o.closed.contains k &&
      coveredIn o.present (k * tilePayload) (x.fill k) == x.fill k)
    let s := whole.foldl (fun s k => s.closeTile x o k false) s
    let o := { o with closed := o.closed ++ whole }
    let s := s.setOpen f o
    if !x.anc && o.closed.length == x.tpf && coveredIn o.present 0 x.bytes == x.bytes then s.completeFrame f o else s

/-- The waiting bytes of tiles `ks` of an open frame are written (R234). -/
def writeWaiting (s : State) (x : InFlow) (o : OpenFrame) (ks : List Nat) : State :=
  let (w, r) := o.wait.partition (fun p => ks.contains (p.2.1 / tilePayload))
  let s := w.foldl (fun s p => s.storeStream x o.gen o.s p.2.1 p.2.2 2) s
  s.finishTiles x.flow { o with wait := r, present := w.foldl (fun l p => addRange (p.2.1, p.2.2.length) l) o.present }

/-- Whether a pattern tag is free for a write to tile `k` of a frame (R200, R202). -/
def tileTag (s : State) (x : InFlow) (o : OpenFrame) (k : Nat) : Bool :=
  match s.frameTile x o.gen o.s k with
  | some t => s.patternFree (tileChannel t)
  | none => true

/-- The open tiles of a frame that hold bytes not yet written, each with the number of its opening (R234). -/
def dueOf (o : OpenFrame) : List (Nat × Nat) :=
  o.opened.filter (fun p => o.wait.any (fun w => w.2.1 / tilePayload == p.1))

/-- Issue the writes of the open tiles numbered `nos`; a tile whose channel has no free pattern tag stalls (R202). -/
def issueWrites (s : State) (f : Nat) (nos : List Nat) : State :=
  match s.inFlow f with
  | none => s
  | some x =>
    let part (o : OpenFrame) (free : Bool) : List (Nat × Nat) := (dueOf o).filter (fun p => nos.contains p.2 && s.tileTag x o p.1 == free)
    let s := s.modFlow f (fun y => { y with stall := State.ascending (x.opens.flatMap (fun o => (part o false).map (·.2))) })
    x.opens.foldl (fun s o =>
      let ks := (part o true).map (·.1)
      if ks.isEmpty then s else (ks.foldl (fun s k => match s.frameTile x o.gen o.s k with
        | some t => s.tagPeak (tileChannel t) 1
        | none => s) s).writeWaiting x o ks) s

/-- The write slips of a flow's MOVE_IN: writes of its last execution that have not issued (R248, R249). -/
def writeSlips (s : State) (x : InFlow) (late : List Nat) : State :=
  let r := s.rasOf x.dom
  let tile := x.opens.findSome? (fun o => ((dueOf o).find? (fun p => some p.2 == late.head?)).bind (fun p => s.frameTile x o.gen o.s p.1))
  s.slip x.dom false late.length x.flow 0 ((tile.map tileChannel).getD 0) r.line r.slot (some (.ladle, x.ladle))

/-- One execution of a MOVE_IN with WR_MAX `n` (R234): the waiting bytes of the `n` oldest tiles, behind the writes of its last
execution that still stall, which are slips (R248). -/
def moveIn (s : State) (f n : Nat) : State :=
  if s.lad.writesStopped then s
  else match s.inFlow f with
    | none => s
    | some x =>
      let due := State.ascending (x.opens.flatMap (fun o => (dueOf o).map (·.2)))
      let late := x.stall.filter (fun k => due.contains k)
      let new := (due.filter (fun k => !late.contains k)).take n
      (s.writeSlips x late).issueWrites f (late ++ new)

/-- What waits for a tag begins where one is free: the pool's reads and accesses, then the Ladles' stalled writes (R202, R204). -/
def serve (s : State) : State :=
  let s := s.poolServe
  (s.lad.flows.filter (fun x => !x.stall.isEmpty)).foldl (fun (s : State) x =>
    if s.lad.writesStopped then s else s.issueWrites x.flow x.stall) s

/-! ## A frame begins (R165, R168, R176, R182) -/

/-- TIMING of an IP frame from its first packet (R438), and the recovered clock: the packet's tick less its RTP timestamp's offset
from the frame start (R181). -/
def firstPacket (s : State) (f rate stamp ts : Nat) : State :=
  match (s.inFlow f).bind (fun x => fmtOf x.format) with
  | some g =>
    if f < 0x800 then
      let ns := ptpAt s.tim stamp / 65536
      let late := frameOffset g 0 (rtpNear ns rate ts * 1000000000 / rate)
      (s.measBoth 1 f kTimMin kTimMax (rtpOffset g ns rate ts)).recovered f ((stamp : Int) - late).toNat
    else s
  | none => s

/-- A frame that is not begun, named by its timestamp or first sequence number; the newest 8 are kept. -/
def skipFrame (s : State) (f key : Nat) : State := s.modFlow f (fun x => { x with gone := lastN 8 (x.gone ++ [key]) })

/-- Begin an input frame, or discard it whole where R176 forbids it. -/
def beginFrame (s : State) (f ts seq0 : Nat) : State :=
  match s.inFlow f with
  | none => s
  | some x =>
    if x.mayBegin then
      let o : OpenFrame := ⟨x.sNext, x.gen, ts, s.frameOf x.dom, [], [], [], [], false, seq0, 0, seq0 + x.datagrams, [], [], []⟩
      let r := max 1 x.ringTiles
      let keep := fun (g : DoneFrame) =>
        g.gen != x.gen || !posOverlap r x.tpf (x.sNext * x.tpf) (g.s * x.tpf)
      s.modFlow f (fun (y : InFlow) => { y with opens := y.opens ++ [o], sNext := y.sNext + 1, done := y.done.filter keep })
    else ((s.flowCnt f cntDrops 1).event blkLad 1 2 [f, s.frameOf x.dom, 1]).skipFrame f (if x.src = 3 then seq0 else ts)

/-- Open tiles of a frame (R170), with their opening numbers: some bytes came, the trailer is not written. -/
def openTiles (o : OpenFrame) : List (Nat × Nat) := o.opened.filter (fun p => !o.closed.contains p.1)

/-- Close the oldest open tile of a Ladle where more than 16,384 are open (R170): what waits for it is missing. -/
def openLimit (s : State) (u : Nat) : State :=
  let l := (s.ladFlows u).flatMap (fun x => x.opens.flatMap (fun o => (openTiles o).map (fun p => (x, o, p))))
  match l with
  | [] => s
  | q :: qs =>
    if l.length ≤ 16384 then s
    else
      let (x, o, k, _) := qs.foldl (fun a b => if b.2.2.2 < a.2.2.2 then b else a) q
      let s := (s.loseTile x o k).raise fltLadLost [x.flow, 1]
      s.setOpen x.flow { o with closed := o.closed ++ [k], lost := o.lost ++ [k],
                                wait := o.wait.filter (fun w => w.2.1 / tilePayload != k) }

/-- Bytes from offset `off` of a frame's stream, cut at the tiles. -/
def tilePieces (ext off : Nat) (b : Bytes) : Nat → List (Nat × Nat × Bytes)
  | 0 => []
  | n + 1 =>
    if b.isEmpty then []
    else
      let k := tilePayload - off % tilePayload
      (ext, off, b.take k) :: tilePieces ext (off + k) (b.drop k) n

/-- Queue bytes of a packet for the tiles of an open frame: tiles that they open take numbers, and the oldest open tiles give way
(R169, R170). -/
def queueBytes (s : State) (x : InFlow) (o : OpenFrame) (ps : List (Nat × Nat × Bytes)) : State :=
  let live := ps.filter (fun p => !o.closed.contains (p.2.1 / tilePayload))
  let new := ((live.map (fun p => p.2.1 / tilePayload)).dedup).filter (fun k => !o.opened.any (fun q => q.1 == k))
  let s : State := { s with lad := { s.lad with openNo := s.lad.openNo + new.length } }
  let s := s.setOpen x.flow { o with wait := o.wait ++ live,
                                     opened := o.opened ++ (numbered (s.lad.openNo - new.length) new).map (fun p => (p.2, p.1)) }
  new.foldl (fun (s : State) _ => s.openLimit x.ladle) s

/-! ## Packets (R164 to R166) -/

/-- A path's packet count and up bit (R166). -/
def pathSeen (s : State) (f path : Nat) : State :=
  (s.flowCnt f (cntCope + path) 1).setFlowBit f (bitCopeUp - path) true

/-- The measured path delay, Drag minus Cope, from two copies of one packet (R166). -/
def skewSeen (s : State) (f path stamp : Nat) (old : Nat × Nat × Nat) : State :=
  if f < 0x800 ∧ old.2.1 ≠ path then
    let d : Int := if path = 1 then (stamp : Int) - old.2.2 else (old.2.2 : Int) - stamp
    let v : Int := max (-32768) (min 32767 (d / 1000))
    (s.setFld F.LAD_FLOW_STAT_SKEW (toField 16 v) f).measBoth 1 f kSkewMin kSkewMax v
  else s

/-- A packet for a frame already complete (R165, R166). -/
def lateOrDup (s : State) (f path stamp : Nat) (g : DoneFrame) (ext : Nat) : State :=
  let add := if g.seqs.any (fun q => q.1 == ext && q.2.1 == path) then g.seqs else g.seqs ++ [(ext, path, stamp)]
  let note (y : DoneFrame) : DoneFrame := if y.s == g.s && y.gen == g.gen then { y with seqs := add } else y
  let t := s.modFlow f (fun y => { y with done := y.done.map note })
  match g.seqs.find? (fun q => q.1 == ext) with
  | some q => (t.flowCnt f cntDup 1).skewSeen f path stamp q
  | none => (t.flowCnt f cntLate 1).setFlowBit f bitSkewOver true

/-- A second copy of a packet of an open frame is noted with its path. -/
def noteCopy (s : State) (f : Nat) (o : OpenFrame) (path stamp ext : Nat) : State :=
  if o.seqs.any (fun q => q.1 == ext && q.2.1 == path) then s else s.setOpen f { o with seqs := o.seqs ++ [(ext, path, stamp)] }

/-- A packet of an open frame: a copy of one received before is counted (R164); a new one is noted with its frame and placed. -/
def placeNew (s : State) (f path stamp ext : Nat) (m : Bool) (o : OpenFrame) (place : State → InFlow → OpenFrame → State) : State :=
  match s.inFlow f with
  | none => s
  | some x =>
    match o.seqs.find? (fun q => q.1 == ext) with
    | some q => ((s.flowCnt f cntDup 1).skewSeen f path stamp q).noteCopy f o path stamp ext
    | none => place s x { o with seqs := o.seqs ++ [(ext, path, stamp)], mSeen := o.mSeen || m }

/-- A packet of which bytes fall into the readable window is discarded (R173). -/
def ringClash (s : State) (f n : Nat) : State :=
  if n = 0 then s else (s.flowCnt f cntClash n).setFlowBit f bitClashSeen true

/-- Place a packet's bytes in its open frame (R164, R173): segments are (offset, bytes). -/
def placePacket (s : State) (f path stamp ext : Nat) (m : Bool) (o : OpenFrame) (segs : List (Nat × Bytes)) : State :=
  s.placeNew f path stamp ext m o (fun s x o =>
    let ps := segs.flatMap (fun g => tilePieces ext g.1 g.2 (g.2.length / tilePayload + 2))
    if ps.any (fun p => x.clashes o (p.2.1 / tilePayload)) then (s.setOpen f o).ringClash f 1
    else s.queueBytes x o ps)

/-- Ancillary packets that fit, concatenated, and the number that did not fit (R171). -/
def ancFit (room : Nat) : List Bytes → Bytes × Nat
  | [] => ([], 0)
  | b :: bs =>
    if b.length ≤ room then
      let (r, n) := ancFit (room - b.length) bs
      (b ++ r, n)
    else
      let (r, n) := ancFit room bs
      (r, n + 1)

/-- What R438 counts of ancillary packets. -/
def measAnc (s : State) (f : Nat) (ps : List Bytes) : State :=
  (s.measAdd 3 f 0 ps.length).measAdd 3 f 1 (ps.filter (fun p => !ancSumOk p)).length

/-- Append the ancillary packets of an RTP packet to its frame's tiles in arrival order, each that fits (R164, R171, R173). -/
def placeAnc (s : State) (f path stamp ext : Nat) (m : Bool) (o : OpenFrame) (data : Bytes) : State :=
  s.placeNew f path stamp ext m o (fun s x o =>
    let all := ancPackets data 65536
    let (b, ovf) := ancFit (x.tpf * tilePayload - o.ancPos) all
    let s := (s.measAnc f all).flowCnt f cntAncOvf ovf
    let ps := tilePieces ext o.ancPos b (b.length / tilePayload + 2)
    if ps.any (fun p => x.clashes o (p.2.1 / tilePayload)) then (s.setOpen f o).ringClash f 1
    else s.queueBytes x { o with ancPos := o.ancPos + b.length } ps)

/-- Whether an RTP timestamp is older than the newest seen, modulo 2^32. -/
def tsOlder (x : InFlow) (ts : Nat) : Bool :=
  match x.lastTs with
  | some l => decide ((l + 4294967296 - ts) % 4294967296 < 2147483648) && l != ts
  | none => false

/-- The SRD segments of an ST 2110-20 payload: (offset in the frame, bytes), or none where one lies outside the
raster (R179). `hd` is the position of the first SRD header. -/
def srdSegments (x : InFlow) (p : Bytes) : Option (List (Nat × Bytes)) :=
  let n := if bitOf (byteAt p 6) 7 then (if bitOf (byteAt p 12) 7 then 3 else 2) else 1
  let pg := pixelGroup x.sampling
  let l := rowBytes x.sampling x.width
  let rows1 := match activeRanges x.format with
    | (a, b) :: _ :: _ => b + 1 - a
    | _ => 0
  let hdr (i : Nat) : Nat × Nat × Nat :=
    let o := 2 + 6 * i
    let w (k : Nat) := byteAt p (o + k) * 256 + byteAt p (o + k + 1)
    (w 0, (w 2 % 32768) + (if bitOf (byteAt p (o + 2)) 7 then rows1 else 0), w 4 % 32768)
  let hs := (List.range n).map hdr
  let ok := hs.all (fun h => decide (h.2.1 < x.height) && h.2.2 % pg.1 == 0 && h.1 % pg.2 == 0 &&
    decide (h.2.2 / pg.1 * pg.2 + h.1 ≤ l))
  if !ok ∨ p.length < 2 + 6 * n + (hs.map (·.1)).foldl (· + ·) 0 then none
  else some ((List.range n).map (fun i =>
    let h := hs.getD i (0, 0, 0)
    let st := 2 + 6 * n + ((hs.take i).map (·.1)).foldl (· + ·) 0
    (h.2.1 * l + h.2.2 / pg.1 * pg.2, slice p st h.1)))

/-- A timestamp-framed packet (ST 2110-20, ST 2110-40) of an input flow. A flow begins with the first frame that starts after its
definition (R182): a video frame that shows its first byte, an ANC frame after a change of timestamp (DEDUCED, log
entry 116). -/
def tsPacket (s : State) (f path stamp ts ext : Nat) (m : Bool) (payload : Bytes) : State :=
  match s.inFlow f with
  | none => s
  | some x =>
    match x.done.reverse.find? (fun g => g.ts == ts && !g.seqs.isEmpty) with
    | some g => s.lateOrDup f path stamp g ext
    | none =>
      let known := x.opens.any (fun o => o.ts == ts) || x.gone.contains ts
      if tsOlder x ts ∧ !known then (s.flowCnt f cntLate 1).setFlowBit f bitSkewOver true
      else
        let segs := if x.anc then some [] else srdSegments x payload
        let fresh := x.lastTs != some ts && !known
        let starts := x.lastTs.isSome || (!x.anc && segs.any (fun l => l.any (fun g => g.1 == 0)))
        let s := if fresh && x.lastTs.isSome then s.formatVerdict f x.curBad else s
        let s := if fresh then
            let s := s.modFlow f (fun y => { y with lastTs := some ts })
            if !starts then s.skipFrame f ts
            else
              let s := s.firstPacket f 90000 stamp ts
              if s.flowBit f bitMism then s.skipFrame f ts else s
          else s
        match segs with
        | none => (s.flowCnt f cntBad 1).modFlow f (fun y => { y with curBad := true })
        | some segs =>
          let s := match s.inFlow f with
            | some y => if y.opens.any (fun o => o.ts == ts) || y.gone.contains ts then s else s.beginFrame f ts 0
            | none => s
          match (s.inFlow f).bind (fun y => y.opens.find? (fun o => o.ts == ts)) with
          | none => s
          | some o =>
            if x.anc then s.placeAnc f path stamp ext m o (slice (payload.drop 8) 0 (byteAt payload 2 * 256 + byteAt payload 3))
            else s.placePacket f path stamp ext m o segs

/-- A path with no packet for 10 ms (R166). -/
def pathIdle (s : State) (f path : Nat) : State :=
  if s.flowBit f (bitCopeUp - path) then (s.setFlowBit f (bitCopeUp - path) false).raise fltLadInput [f, 1 + path] else s

/-- An S-lane loses its signal (R101, R179). -/
def slaneLos (s : State) (l : Nat) : State :=
  if ¬(l < 68 ∧ s.fld F.SLN_LANE_CFG_USE l = 1 ∧ s.flag F.SLN_LANE_CFG_RX_EN l) then s
  else
    let s := (s.setFlag F.SLN_LANE_STAT_LOS_SEEN true l).setFlag F.SLN_LANE_STAT_CDR_LOCK false l
    let s := (s.setFlag F.SLN_LANE_STAT_TRS_LOCK false l).setFld F.SLN_LANE_STAT_DET_RATE 15 l
    ((slaneIns s l).map InFlow.flow).foldl (fun s f => s.inputLoss f) s

/-- A locked receiver's signal changes rate (R104): with a fixed rate it is a loss of signal. -/
def slaneRate (s : State) (l code : Nat) : State :=
  if ¬(l < 68 ∧ s.fld F.SLN_LANE_CFG_USE l = 1 ∧ s.flag F.SLN_LANE_CFG_RX_EN l ∧ code < 8) then s
  else if s.fld F.SLN_LANE_CFG_RX_RATE l ≠ 14 then s.slaneLos l
  else
    let old := s.fld F.SLN_LANE_STAT_DET_RATE l
    let s := (s.setFlag F.SLN_LANE_STAT_RATE_CHG true l).setFlag F.SLN_LANE_STAT_CDR_LOCK false l
    let s := (s.setFlag F.SLN_LANE_STAT_TRS_LOCK false l).setFld F.SLN_LANE_STAT_DET_RATE 15 l
    ((slaneIns s l).map InFlow.flow).foldl (fun s f => s.clockChange f (rate1001 old == rate1001 code)) s

/-- An SDI receiver locks (R104). -/
def slaneLock (s : State) (l code : Nat) : State :=
  let rx := s.fld F.SLN_LANE_CFG_RX_RATE l
  if ¬(l < 68 ∧ s.fld F.SLN_LANE_CFG_USE l = 1 ∧ s.flag F.SLN_LANE_CFG_RX_EN l ∧ code < 8) ∨ (rx ≠ 14 ∧ rx ≠ code) then s
  else
    let s := (s.setFlag F.SLN_LANE_STAT_CDR_LOCK true l).setFlag F.SLN_LANE_STAT_TRS_LOCK true l
    s.setFld F.SLN_LANE_STAT_DET_RATE code l

/-- A tributary's word-rate gate ends (R113, R179): a step beyond 50 ppm is a clock change, across families where it leads from a
nominal rate to its 1.001 form or back (R102). -/
def tribGate (s : State) (link trib : Nat) (ppb : Int) : State :=
  let old := s.lane.rates.find? (fun x => x.link == link && x.trib == trib)
  let s := { s with lane := { s.lane with
    rates := upsert (fun (x : TribRate) => x.link == link && x.trib == trib) (⟨link, trib, ppb, 0⟩ : TribRate) s.lane.rates } }
  let slow (p : Int) : Bool := decide (p < -500000)
  match old with
  | none => s
  | some o =>
    if (o.ppb - ppb).natAbs ≤ 50000 then s
    else ((tribIns s link trib).map InFlow.flow).foldl (fun s f => s.clockChange f (slow o.ppb == slow ppb)) s

/-! ## Whole frames (R158, R168) -/

/-- Store the bytes of an open frame at once, with the byte ranges that are missing, and complete it. -/
def storeFrame (s : State) (x : InFlow) (o : OpenFrame) (b : Bytes) (missing : List (Nat × Nat)) : State :=
  let got := gapsIn (missing.foldl (fun l p => addRange p l) []) 0 (min b.length x.bytes)
  let s := got.foldl (fun s g => s.storeStream x o.gen o.s g.1 (slice b g.1 g.2) (x.tpf + 1)) s
  let o := { o with present := got, ancPos := if x.anc then b.length else 0 }
  if x.anc then s.completeFrame x.flow o
  else
    let s := s.finishTiles x.flow o
    match (s.inFlow x.flow).bind (fun y => y.opens.find? (fun p => p.s == o.s && p.gen == o.gen)) with
    | some o => s.completeFrame x.flow o
    | none => s

/-- Begin and store one whole frame of a flow, whose first byte arrived in the domain frame `frame`. -/
def wholeFrame (s : State) (f frame : Nat) (b : Bytes) (missing : List (Nat × Nat)) : State :=
  match s.inFlow f with
  | none => s
  | some x =>
    let s := s.beginFrame f 0 0
    match (s.inFlow f).bind (fun y => y.opens.find? (fun o => o.s == x.sNext && o.gen == x.gen)) with
    | some o => s.storeFrame x { o with frame := frame } b missing
    | none => s

/-! ## Frame synchronisation (R175 to R178, R281) -/

/-- Frames older than `g` and newer than BASE, complete or open: those that its adoption passes over (R175). -/
def passedOver (x : InFlow) (g : DoneFrame) : Nat :=
  let before (gen s : Nat) : Bool := decide (gen < g.gen ∨ (gen = g.gen ∧ s < g.s))
  let after (gen s : Nat) : Bool := match x.base with
    | none => true
    | some b => decide (b.gen < gen ∨ (b.gen = gen ∧ b.s < s))
  (x.newer.filter (fun q => before q.gen q.s)).length + (x.opens.filter (fun o => before o.gen o.s && after o.gen o.s)).length

/-- Bytes that still wait for frames that BASE has overtaken lie in the readable window: their packets are discarded (R173). -/
def dropOvertaken (s : State) (f : Nat) : State :=
  match s.inFlow f with
  | none => s
  | some x =>
    let n := ((x.overtaken.flatMap (fun o => o.wait.map (·.1))).dedup).length
    let gone := x.overtaken.map (fun o => (o.gen, o.s))
    (s.ringClash f n).modFlow f (fun y => { y with opens := y.opens.map (fun o =>
      if gone.contains (o.gen, o.s) then { o with wait := [] } else o) })

/-- Adopt a frame as BASE. -/
def adopt (s : State) (f : Nat) (g : DoneFrame) (drops : Nat) : State :=
  match s.inFlow f with
  | none => s
  | some x =>
    let s := s.modFlow f (fun y => { y with base := some g, rep := false })
    let s := (s.flowCnt f cntAdopted 1).setFlowBit f bitAdopted true
    let s := if drops = 0 then s
      else (s.flowCnt f cntDrops drops).event blkLad 1 2 [f, s.frameOf x.dom, drops]
    let since (p : Nat × Nat) : Bool := decide (p.1 < g.gen ∨ (p.1 = g.gen ∧ p.2 ≤ g.s))
    let s := if since x.lossS then s.setFlowBit f bitLoss false else s
    let s := if since x.relockS then s.setFlowBit f bitRelock false else s
    if f < 0x800 then s.setFld F.LAD_FLOW_STAT_BASE_FRAME g.frame f else s

/-- A flow at a frame boundary of its domain (R175, R177, R179). -/
def flowAdopt (s : State) (f : Nat) : State :=
  match s.inFlow f with
  | none => s
  | some x =>
    let d := x.dom
    let half := match fmtOf x.format, s.domFmt d with
      | some a, some b => halfRate a b
      | _, _ => false
    if half && (s.rasOf d).frameN % 2 == 1 then s.modFlow f (fun y => { y with rep := false })
    else
      let tot := fmtLines (s.fld F.REF_RAS_STAT_FORMAT_ACTIVE d)
      let margin := if x.flow < 0x800 then s.fld F.LAD_FLOW_CFG_SYNC_MARGIN f else 4
      let edge := ((s.rasOf d).frameN * tot - margin) * 256
      let ready := x.newer.filter (fun g => decide (g.doneSlot ≤ edge))
      match ready.getLast? with
      | some g =>
        let dt : Int := match s.domFmt d with
          | some q => (((s.absSlot d - g.doneSlot) * q.lpN / (256 * q.lpD) : Nat) : Int)
          | none => 0
        let s := if f < 0x800 then (s.measMin 1 f kSync dt).measAdd 1 f kAdopted 1 else s
        (s.adopt f g (if x.base.isSome then passedOver x g else 0)).dropOvertaken f
      | none =>
        if x.base.isSome then ((s.flowCnt f cntRepeats 1).event blkLad 1 1 [f, s.frameOf d, 1]).modFlow f (fun y => { y with rep := true })
        else s

/-- AVAIL of a video flow (R174). -/
def showAvail (s : State) (f : Nat) : State :=
  if f < 0x800 then s.setFld F.LAD_FLOW_STAT_AVAIL (((s.inFlow f).map InFlow.avail).getD 0) f else s

/-- The Ladle that is shadow-loaded for a flow takes over at the first boundary after it has completed one frame (R184). -/
def spareFrame (s : State) (f : Nat) : State :=
  match s.inFlow f with
  | none => s
  | some x =>
    match x.spare with
    | none => s
    | some (sp, gen, k) =>
      if x.done.any (fun g => decide (gen < g.gen ∨ (gen = g.gen ∧ k ≤ g.s))) then
        let s := s.modFlow f (fun y => { y with ladle := sp, spare := none })
        let s := if f < 0x800 then s.setFld F.LAD_FLOW_CFG_LADLE sp f else s
        (s.ladUse x.ladle).ladUse sp
      else s

/-- A waiting depth change takes effect (R174): new frames go to the new ring from its first position. -/
def depthFrame (s : State) (f : Nat) : State :=
  match s.inFlow f with
  | none => s
  | some x =>
    match x.depthPend with
    | none => s
    | some n =>
      let tiles := n * x.tpf + x.skewTiles
      let s := s.modFlow f (fun y => { y with depth := n, gen := y.gen + 1, sNext := 0, ringTiles := tiles,
                                              depthPend := none })
      if f < 0x800 then (s.setFld F.LAD_FLOW_CFG_DEPTH n f).setFld F.LAD_FLOW_CFG_RING_TILES tiles f else s

/-- Old rings return once the newest frame they hold lies beyond delay DEPTH − 2 (R174). -/
def oldRings (s : State) (f : Nat) : State :=
  match s.inFlow f with
  | none => s
  | some x =>
    let old := ((s.pool.rings.filter (fun r => r.flow == f && decide (r.gen < x.gen))).map Ring.gen).filter (fun g =>
      !x.opens.any (fun o => o.gen == g) && !x.newer.any (fun q => q.gen == g) && !x.window.any (fun q => q.gen == g))
    old.foldl (fun s g => (s.releaseRing f g).modFlow f (fun y => { y with done := y.done.filter (fun q => q.gen != g) })) s

/-- PAT_ROUTE.SHORT of the outputs of domain `d` (R281). -/
def shortFrame (s : State) (d : Nat) : State :=
  (s.activeBank d).routes.foldl (fun s r =>
    let short := match s.inFlow r.src with
      | some x => decide (x.avail < r.delay)
      | none => false
    let n := r.out - 0x800
    let s := if short && !s.flag F.PAT_ROUTE_SHORT n then s.setFlag F.PAT_ROUTE_SHORT_SEEN true n else s
    s.setFlag F.PAT_ROUTE_SHORT short n) s

/-- The Ladles at a frame boundary of domain `d`: adoption, then depth changes, old rings and the move to a spare. -/
def ladFrame (s : State) (d : Nat) : State :=
  let fs := (s.lad.flows.filter (fun x => x.dom == d)).map InFlow.flow
  let s := fs.foldl (fun s f => ((((s.flowAdopt f).depthFrame f).oldRings f).showAvail f).spareFrame f) s
  s.shortFrame d

end State

/-! ## Definitions of family 0x01xx -/

/-- SKEW_TILES (R172). -/
def skewOf (f : Fmt) (hold10us l : Nat) : Nat :=
  if hold10us = 0 then 0 else ceilDiv (ceilDiv (hold10us * 10000 * f.lpD) f.lpN * l) tilePayload

/-- Whether the rate of a format fits a domain's (R161). -/
def rateOk (s : State) (d fmt : Nat) : Bool :=
  match fmtOf fmt, s.compileFmt d with
  | some f, some g => rateFits f g
  | some _, none => true
  | none, _ => false

/-- A new input flow's record at its start. -/
def newFlow (flow dom ladle : Nat) (anc : Bool) (src depth w h fmt samp rate paths hold tpf skew tick : Nat)
    (comp : Option Nat) : InFlow :=
  ⟨flow, dom, ladle, anc, src, depth, w, h, fmt, samp, rate, paths, hold, tpf, comp, tpf, depth * tpf + skew, skew, 0, 0,
   [], [], none, 0, 0, none, none, tick, false, (0, 0), (0, 0), none, none, [], none, false, [], List.replicate 11 0, 0, 0, 0, 0⟩

/-- The receive blocks of a definition: the used paths' filter entries. -/
def pathFilters (b : Bytes) (paths o flow : Nat) : List RxFilter :=
  ((List.range 2).filter (fun p => bitOf paths p)).map (fun p => rxBlock b (o + 16 * p) flow p)

/-- Whether the used paths' receive blocks are in range. -/
def pathsOk (b : Bytes) (paths o : Nat) : Bool :=
  (List.range 2).all (fun p => !bitOf paths p || rxBlockOk b (o + 16 * p))

/-- Allocate rings for flows in turn. -/
def allocAll (s : State) : List InFlow → Option RefRec × State
  | [] => (none, s)
  | x :: xs =>
    match s.allocTry x.ringTiles with
    | .bad r => (some r, s)
    | .ok l => allocAll (s.allocRing x.flow x.gen x.dom x.ringTiles l) xs

/-- The state with flows and their filters admitted, or the refusal: the Ladle (R475, R162), the filters, the
rings, the pattern and the pool budget. -/
def admitInputs (s : State) (want off : Nat) (mk : Nat → List InFlow) (fl : List RxFilter) (fo : Nat) :
    Except RefRec (Nat × State) :=
  let add (u : Nat) : State := { s with lad := { s.lad with flows := s.lad.flows ++ mk u } }
  match s.filterAdmit fl fo with
  | some r => .error r
  | none =>
    match pickUnit s .ladle want off (fun u => (add u).ladCheck u) with
    | .bad r => .error r
    | .unit u =>
      match allocAll (add u) (mk u) with
      | (some r, _) => .error r
      | (none, t) =>
        match t.admitDoms (ascendingDoms (mk u)) with
        | some r => .error r
        | none => .ok (u, t)
where
  ascendingDoms (l : List InFlow) : List Nat := State.ascending (l.map InFlow.dom)

/-- VIN_DEFINE (R13, R15, R158 to R172): the sender names the flow; one that is defined already is refused. -/
def applyVinDefine (c : Cmd) (s : State) : CmdResult :=
  let b := c.params
  let flow := u16 b 0
  let d := byteAt b 2
  let src := byteAt b 3
  let depth := byteAt b 5
  let rxt := byteAt b 6
  let paths := byteAt b 7
  let hold := u16 b 8
  let w := u16 b 12
  let h := u16 b 14
  let fmt := byteAt b 16
  let samp := byteAt b 17
  let link := byteAt b 18
  let atpf := byteAt b 19
  let port := u16 b 20
  let af := u16 b 22
  let sdi := decide (src < 2)
  let f := fmtOf fmt
  let comp := if af = 0xFFFF then none else some af
  let links := match src, f with
    | 0, some g => sdiLinks g (s.fld F.SLN_LANE_CFG_RX_RATE port)
    | 1, some g => sdiLinks g (2 * s.fld F.SPR_TRIB_CFG_SIZE link port)
    | _, _ => 0
  guarded [lenIs c 64, (decide (0x7FF < flow), rej 0x0108 0), (decide (3 < d), rej 0x0108 2), (decide (3 < src), rej 0x0108 3),
      (decide (depth < 2), rej 0x0108 5), (decide (2 < rxt), rej 0x0108 6),
      (decide (3 < paths) || (sdi && paths != 0) || (!sdi && paths == 0), rej 0x0108 7),
      (decide (2000 < hold) || (paths != 3 && hold != 0), rej 0x0108 8),
      (!inRanges [(1, 64)] (byteAt b 10), rej 0x0108 10), (!inRanges [(1, 16)] (byteAt b 11), rej 0x0108 11),
      (!inRanges [(1, 4096)] w, rej 0x0108 12), (!inRanges [(1, 2160)] h, rej 0x0108 14), (f.isNone, rej 0x0108 16),
      (src != 2 && (fmt == 0x40 || fmt == 0x41), rej 0x0108 16),
      (decide (4 < samp) || (src != 2 && samp != 0), rej 0x0108 17), (src == 1 && decide (15 < link), rej 0x0108 18),
      (!inRanges [(1, 16)] atpf, rej 0x0108 19),
      ((src == 0 && decide (68 < port + max 1 links)) || (src == 1 && decide (3840 < port + max 1 links)), rej 0x0108 20),
      (comp.isSome && !inRanges [(0x3000, 0x33FF)] af, rej 0x0108 22), (!pathsOk b paths 32, rej 0x0108 32),
      ((s.inFlow flow).isSome, rej 0x0308 0), (comp.isSome && (s.inFlow af).isSome, rej 0x0308 22),
      (!rateOk s d fmt, rej 0x0108 16)] fun _ =>
    match f with
    | none => .bad (rej 0x0108 16)
    | some f =>
      let l := rowBytes samp w
      let skew := skewOf f hold l
      let mk (u : Nat) : List InFlow :=
        { newFlow flow d u false src depth w h fmt samp (u32 b 24) paths hold (tilesPerFrame samp w h) skew s.tick comp with
          rxType := rxt, link := link, port := port } ::
        (match comp with
         | some a => [newFlow a d u true src depth 0 0 fmt 0 0 0 hold atpf 0 s.tick none]
         | none => [])
      match admitInputs s (byteAt b 4) 4 mk (pathFilters b paths 32 flow) 32 with
      | .error r => .bad r
      | .ok (u, t) =>
        let wr (s : State) (g : Fld) (v : Nat) : State := s.setFld g v flow
        let t := wr (wr (wr (wr t F.LAD_FLOW_CFG_EN 1) F.LAD_FLOW_CFG_COPE_EN (b2n (bitOf paths 0))) F.LAD_FLOW_CFG_DRAG_EN
          (b2n (bitOf paths 1))) F.LAD_FLOW_CFG_RXTYPE rxt
        let t := wr (wr (wr (wr t F.LAD_FLOW_CFG_DOMAIN d) F.LAD_FLOW_CFG_DEPTH depth) F.LAD_FLOW_CFG_LADLE u)
          F.LAD_FLOW_CFG_MERGE_HOLD hold
        let t := wr (wr (wr t F.LAD_FLOW_CFG_SYNC_MARGIN (byteAt b 10)) F.LAD_FLOW_CFG_LOSS_FRAMES (byteAt b 11))
          F.LAD_FLOW_CFG_RING_TILES (depth * tilesPerFrame samp w h + skew)
        let t := wr (wr (wr t F.LAD_FLOW_CFG_SRC src) F.LAD_FLOW_CFG_LINK (if src = 1 then link else 0)) F.LAD_FLOW_CFG_PORT
          (if sdi then port else 0)
        let t := wr (wr t F.LAD_FLOW_CFG_ANC_FLOW af) F.LAD_FLOW_CFG_ANC_TPF (atpf % 16)
        let t := ((t.addFilters (pathFilters b paths 32 flow)).ladUse u).writeDoms [d]
        .ok t ([BitVec.ofNat 8 u, 0, 0, 0] ++ leBytes 4 (depth * tilesPerFrame samp w h + skew))

/-- ANC_IN_DEFINE. -/
def applyAncInDefine (c : Cmd) (s : State) : CmdResult :=
  let b := c.params
  let flow := u16 b 0
  let d := byteAt b 2
  let depth := byteAt b 4
  let tpf := byteAt b 5
  let paths := byteAt b 6
  let hold := u16 b 8
  let fmt := ((s.compileFmt d).map Fmt.code).getD 0
  guarded [lenIs c 48, (!inRanges [(0x3000, 0x33FF)] flow, rej 0x0108 0), (decide (3 < d), rej 0x0108 2),
      (decide (depth < 2), rej 0x0108 4), (!inRanges [(1, 16)] tpf, rej 0x0108 5),
      (decide (3 < paths) || paths == 0, rej 0x0108 6), (decide (2000 < hold) || (paths != 3 && hold != 0), rej 0x0108 8),
      (!pathsOk b paths 16, rej 0x0108 16), ((s.inFlow flow).isSome, rej 0x0308 0)] fun _ =>
    let mk (u : Nat) : List InFlow := [newFlow flow d u true 2 depth 0 0 fmt 0 (u32 b 12) paths hold tpf 0 s.tick none]
    match admitInputs s (byteAt b 3) 3 mk (pathFilters b paths 16 flow) 16 with
    | .error r => .bad r
    | .ok (u, t) =>
      .ok (((t.addFilters (pathFilters b paths 16 flow)).ladUse u).writeDoms [d])
        ([BitVec.ofNat 8 u, 0, 0, 0] ++ leBytes 4 (depth * tpf))

/-- The largest delay at which a route, a pending take or a layer reads a flow (R174). -/
def maxReadDelay (s : State) (f : Nat) : Option Nat :=
  let banks := (List.range 4).flatMap (fun d => (s.bank d 0).routes ++ (s.bank d 1).routes)
  let timed := (s.pat.sched.filter (fun t => t.op == opTake)).flatMap (fun t =>
    (List.range (u16 t.cmd.params 0)).map (fun i => (u16 t.cmd.params (6 + 8 * i), byteAt t.cmd.params (8 + 8 * i))))
  let lay := (List.range 512).filterMap (fun n =>
    if s.layerFld n F.CHM_LAYER_CFG_EN == 1 then some (s.layerFld n F.CHM_LAYER_CFG_SRC, s.layerFld n F.CHM_LAYER_CFG_DELAY)
    else none)
  let all := (s.pat.routes ++ banks).map (fun r => (r.src, r.delay)) ++ timed ++ lay
  ((all.filter (fun p => p.1 == f)).map (·.2)).foldl (fun (m : Option Nat) e => some (max e (m.getD 0))) none

/-- New rings of DEPTH `n` for flows in turn (R174, R192). -/
def allocDepth (s : State) (n : Nat) : List InFlow → Option RefRec × State
  | [] => (none, s)
  | y :: ys =>
    let tiles := n * y.tpf + y.skewTiles
    match s.allocTry tiles with
    | .bad r => (some r, s)
    | .ok l => allocDepth ((s.allocRing y.flow (y.gen + 1) y.dom tiles l).modFlow y.flow (fun z => { z with depthPend := some n })) n ys

/-- VIN_DEPTH (R174): the flow's ring, and its companion ANC flow's with it (R192). -/
def applyVinDepth (c : Cmd) (s : State) : CmdResult :=
  let f := u16 c.params 0
  let n := byteAt c.params 2
  guarded [lenIs c 4, (decide (0x7FF < f), rej 0x0108 0), (decide (n < 2), rej 0x0108 2),
      ((s.inFlow f).isNone, rej 0x030F 0),
      (decide (n - 2 < (maxReadDelay s f).getD 0), rej 0x030A 2)] fun _ =>
    match s.inFlow f with
    | none => .bad (rej 0x030F 0)
    | some x =>
      let all := x :: ((x.companion.bind s.inFlow).toList)
      let s := all.foldl (fun (s : State) y => if y.depthPend.isSome then s.releaseRing y.flow (y.gen + 1) else s) s
      match allocDepth s n all with
      | (some r, _) => .bad r
      | (none, s) =>
        .ok s (leBytes 4 (n * x.tpf + x.skewTiles)) (some ((s.predictFrame x.dom).map (·.2))) (s.frameNs x.dom)

/-! ## Events -/

/-- PATH_IDLE_TIMEOUT (R166). -/
def execPathIdleTimeout (flow path : Nat) (s : State) : Host.Outcome State Fault Refusal :=
  runEff (fun s => if path < 2 then s.pathIdle flow path else s) s

/-- INPUT_LOSS_TIMEOUT (R179). -/
def execInputLossTimeout (flow : Nat) (s : State) : Host.Outcome State Fault Refusal :=
  runEff (fun s => s.inputLoss flow) s

/-- SLANE_LOS (R179). -/
def execSlaneLos (lane : Nat) (s : State) : Host.Outcome State Fault Refusal := runEff (fun s => s.slaneLos lane) s

/-- SLANE_RATE_CHANGE (R104). -/
def execSlaneRateChange (lane code : Nat) (s : State) : Host.Outcome State Fault Refusal :=
  runEff (fun s => s.slaneRate lane code) s

/-- SLANE_LOCK (R104). -/
def execSlaneLock (lane code : Nat) (s : State) : Host.Outcome State Fault Refusal :=
  runEff (fun s => s.slaneLock lane code) s

/-- TRIB_RATE_GATE (R113, R179). -/
def execTribRateGate (link trib : Nat) (ppb : Int) (s : State) : Host.Outcome State Fault Refusal :=
  runEff (fun s => s.tribGate link trib ppb) s

end Sys2Proof.Machine
end

