-- ==== Sys2Proof/Machine/Compose.lean ====
section
/-! DEFINITION. Chameleon composition (chapter 11): pixels, scaling, keys and blending of a pipe's rows, surfaces,
fences and flips, and the commands of family 0x06xx. -/

namespace Sys2Proof.Machine

/-! ## Pixel groups (R160) -/

/-- Fields of `w` bits packed big-endian. -/
def packFields (w : Nat) (vs : List Nat) : Bytes := be (w * vs.length / 8) (vs.foldl (fun n v => n * 2 ^ w + v % 2 ^ w) 0)

/-- One pixel group of black (R301). -/
def blackGroup : Nat → Bytes
  | 0 => packFields 10 [0x200, 0x040, 0x200, 0x040]
  | 1 => packFields 10 ((List.replicate 4 [0x200, 0x040, 0x200]).flatten)
  | 2 => packFields 12 ((List.replicate 2 [0x800, 0x100, 0x800]).flatten)
  | 3 => packFields 10 (List.replicate 12 0x040)
  | 4 => packFields 12 (List.replicate 6 0x100)
  | _ => [0]

/-- The byte of black at an offset of a row. -/
def blackByte (sampling o : Nat) : Byte := let g := blackGroup sampling; g.getD (o % max 1 g.length) 0

/-- Bytes `o` to `o + n − 1` of a frame from its delivered tiles; `dflt` stands where no tile or only R301's fill
was delivered. -/
def stagedBytes (l : List StagedTile) (dflt : Nat → Byte) (o n : Nat) : Bytes :=
  (List.range n).map (fun i =>
    match l.find? (fun t => t.k == (o + i) / tilePayload && !t.fill) with
    | some t => t.bytes.getD ((o + i) % tilePayload) 0
    | none => dflt (o + i))

/-- A pixel in the internal form: YCbCr at 12 bits with alpha (R329). -/
structure Pix where
  y : Nat
  cb : Nat
  cr : Nat
  a : Nat
  deriving DecidableEq, Repr

/-- A value of `m` at full scale as 12 bits. -/
def to12 (v m : Nat) : Nat := (2 * v * 4095 + m) / (2 * m)

/-- A pixel from a packed 36-bit colour. -/
def pix36 (c : BitVec 36) (a : Nat) : Pix := ⟨c.toNat / 16777216, c.toNat / 4096 % 4096, c.toNat % 4096, a⟩

/-- Pixel `x` of a row of a source: sampling 0 to 4 of a flow, 0xF0 to 0xF2 for the surface formats 0 to 2. -/
def unpackPix (bt2020 : Bool) (sampling : Nat) (row : Bytes) (x : Nat) : Pix :=
  let f10 (i : Nat) : Nat := 4 * beField row i 10
  match sampling with
  | 0 =>
    let g := 40 * (x / 2)
    if x % 2 = 0 then ⟨f10 (g + 10), f10 g, f10 (g + 20), 4095⟩
    else
      let g' := if 8 * row.length ≤ g + 40 then g else g + 40
      ⟨f10 (g + 30), (Config.chromaUp (f10 g) (f10 g')).toNat, (Config.chromaUp (f10 (g + 20)) (f10 (g' + 20))).toNat, 4095⟩
  | 1 => ⟨f10 (30 * x + 10), f10 (30 * x), f10 (30 * x + 20), 4095⟩
  | 2 => ⟨beField row (36 * x + 12) 12, beField row (36 * x) 12, beField row (36 * x + 24) 12, 4095⟩
  | 3 => pix36 (Config.rgbToYcc bt2020 false 10 (beField row (30 * x) 10) (beField row (30 * x + 10) 10)
      (beField row (30 * x + 20) 10)) 4095
  | 4 => pix36 (Config.rgbToYcc bt2020 false 12 (beField row (36 * x) 12) (beField row (36 * x + 12) 12)
      (beField row (36 * x + 24) 12)) 4095
  | 0xF2 => ⟨f10 (40 * x), f10 (40 * x + 10), f10 (40 * x + 20), to12 (beField row (40 * x + 30) 10) 1023⟩
  | _ => pix36 (Config.rgbToYcc bt2020 true 8 (byteAt row (4 * x)) (byteAt row (4 * x + 1)) (byteAt row (4 * x + 2)))
      (to12 (byteAt row (4 * x + 3)) 255)

/-- The centre of output position `i` of `den` over `num` source positions, as the floor and the phase in 1/64
rounded half up (R330): (i + 0.5) × num / den − 0.5. -/
def centre (i num den : Nat) : Int × Nat :=
  let n : Int := (2 * i + 1) * num - den
  let d : Int := 2 * den
  (n / d, ((2 * 64 * (n % d) + d) / (2 * d)).toNat)

/-- A number clamped to 0 … m. -/
def clampIx (v : Int) (m : Nat) : Nat := min v.toNat m

/-! ## Lines and ratios (R329 to R335) -/

/-- Lines a layer needs for a crop height over a destination height (R332). -/
def linesReq (ch dh : Nat) : Nat := if ch ≤ dh then 4 else ceilDiv ch (max 1 dh) + 3

/-- Lines available to a layer (R332). -/
def linesAvail (cw : Nat) : Nat := 65536 / max 1 cw

/-- The ratio a layer scales at: inside 1/8 to 64 as it is, else the nearest limit (R334). -/
def clampRatio (c d : Nat) : Nat × Nat := if 64 * d < c then (64, 1) else if 8 * c < d then (1, 8) else (c, d)

/-- Whether a ratio lies from 1/8 to 64 (R329). -/
def ratioOk (c d : Nat) : Bool := decide (c ≤ 64 * d) && decide (d ≤ 8 * c)

/-- The averaging exponent of the horizontal path (R331). -/
def avgExp (c d : Nat) : Nat := ((List.range 4).find? (fun k => decide (c ≤ 8 * 2 ^ k * d))).getD 3

namespace State

/-- The tiles delivered to layer `n` in frame `fr`. -/
def layerTiles (s : State) (n fr : Nat) : List StagedTile :=
  s.chm.staging.filter (fun t => t.flow == n && t.frame == fr)

/-- Pixel (x, y) of a layer's source as delivered in frame `fr`: a tile of a surface delivered with CONCEAL is
transparent (R343). -/
def srcPix (s : State) (n fr : Nat) (pic : Picture) (bt2020 : Bool) (x y : Nat) : Pix :=
  let l := s.layerTiles n fr
  let row := stagedBytes l (fun o => blackByte pic.sampling (o % max 1 pic.bpl)) (y * pic.bpl) pic.bpl
  let p := unpackPix bt2020 pic.sampling row x
  let src := s.fld F.CHM_LAYER_CFG_SRC n
  let o := y * pic.bpl + x * pic.bpl / max 1 pic.width
  let hidden := decide (0x4000 ≤ src ∧ src ≤ 0x40FF) &&
    !(l.any (fun t => t.k == o / tilePayload && !t.conceal && !t.fill))
  if hidden then { p with a := 0 } else p

/-- Whether layer `n` falls back to one vertical tap (R334). -/
def oneTap (s : State) (n : Nat) : Bool :=
  decide (linesAvail (s.fld F.CHM_LAYER_CFG_CROP_W n) <
    linesReq (s.fld F.CHM_LAYER_CFG_CROP_H n) (s.fld F.CHM_LAYER_CFG_DST_H n))

/-- The scaled pixel of a layer at column `i`, line `j` of its destination (R330, R331); in the fallback of R334 the nearest row
that the line buffer holds, which are the newest rows that the reads of line `j` have brought (R233, R326). -/
def layerPix (s : State) (n fr : Nat) (pic : Picture) (bt2020 : Bool) (i j : Nat) : Pix :=
  let cx := s.fld F.CHM_LAYER_CFG_CROP_X n
  let cy := s.fld F.CHM_LAYER_CFG_CROP_Y n
  let cw := s.fld F.CHM_LAYER_CFG_CROP_W n
  let ch := s.fld F.CHM_LAYER_CFG_CROP_H n
  let (rn, rd) := clampRatio cw (s.fld F.CHM_LAYER_CFG_DST_W n)
  let k := avgExp rn rd
  let (yf, yp) := centre j ch (max 1 (s.fld F.CHM_LAYER_CFG_DST_H n))
  let (xf, xp) := centre i rn (rd * 2 ^ k)
  let newest := min (ch - 1) ((j + 1) * ceilDiv (ch * 256) (max 1 (s.fld F.CHM_LAYER_CFG_DST_H n)) / 256 - 1)
  let held (y : Nat) : Nat := max (newest + 1 - linesAvail cw) (min y newest)
  let col (x : Nat) (g : Pix → Nat) : Nat :=
    if s.oneTap n then
      g (s.srcPix n fr pic bt2020 x (cy + held (clampIx (yf + (if 32 ≤ yp then 1 else 0)) (ch - 1))))
    else (Config.scaleV yp ((List.range 4).map (fun t =>
      g (s.srcPix n fr pic bt2020 x (cy + clampIx (yf + t - 1) (ch - 1)))))).toNat
  let out (g : Pix → Nat) : Nat := (Config.scaleH k xp ((List.range 8).map (fun t =>
    let a := clampIx (xf + t - 3) (ceilDiv cw (2 ^ k) - 1)
    (List.range (2 ^ k)).map (fun u => col (cx + min (a * 2 ^ k + u) (cw - 1)) g)))).toNat
  ⟨out Pix.y, out Pix.cb, out Pix.cr, out Pix.a⟩

/-- The pixel of layer `n` at an output pixel, where it covers it. -/
def layerAt (s : State) (n fr : Nat) (bt2020 : Bool) (x r : Nat) : Option Pix :=
  let i : Int := x - sext 16 (s.fld F.CHM_LAYER_CFG_DST_X n)
  let j : Int := r - sext 16 (s.fld F.CHM_LAYER_CFG_DST_Y n)
  if i < 0 ∨ j < 0 ∨ (s.fld F.CHM_LAYER_CFG_DST_W n : Int) ≤ i ∨ (s.fld F.CHM_LAYER_CFG_DST_H n : Int) ≤ j then none
  else (s.picture (s.fld F.CHM_LAYER_CFG_SRC n)).map (fun pic => s.layerPix n fr pic bt2020 i.toNat j.toNat)

/-- The key factor k of a layer's pixel as numerator and denominator (R336). -/
def keyOf (s : State) (n fr : Nat) (bt2020 : Bool) (x r : Nat) (p : Pix) : Nat × Nat :=
  match s.fld F.CHM_LAYER_CFG_KEY n with
  | 1 => (p.a, 4095)
  | 2 =>
    let v : Int := ((p.y : Int) - 4 * s.fld F.CHM_LAYER_CFG_CLIP n) * s.fld F.CHM_LAYER_CFG_GAIN n
    (min v.toNat (64 * 1023), 64 * 1023)
  | 3 =>
    match s.layerAt (s.fld F.CHM_LAYER_CFG_KEY_LAYER n) fr bt2020 x r with
    | some q => (min (q.y - 256) 3504, 3504)
    | none => (0, 1)
  | _ => (1, 1)

/-- Blend a layer over what lies below (R338), each component rounded half up. A surface's transparent tiles leave
what lies below (R343). -/
def blendLayer (s : State) (fr : Nat) (bt2020 : Bool) (x r : Nat) (b : Pix) (n : Nat) : Pix :=
  if s.fld F.CHM_LAYER_CFG_KEY n = 4 then b
  else match s.layerAt n fr bt2020 x r with
    | none => b
    | some p =>
      let src := s.fld F.CHM_LAYER_CFG_SRC n
      let surf := decide (0x4000 ≤ src ∧ src ≤ 0x40FF)
      let (kn, kd) := if surf && p.a == 0 then (0, 1) else s.keyOf n fr bt2020 x r p
      let al := s.fld F.CHM_LAYER_CFG_ALPHA n
      let den := 1023 * kd
      let pre := surf && s.fld F.CHM_SURF_CFG_FORMAT (src - 0x4000) == 1 && p.a != 0
      let top := if pre then al * kd else al * kn
      let mixC (v w : Nat) : Nat := min 4095 ((2 * (top * v + (den - al * kn) * w) + den) / (2 * den))
      ⟨mixC p.y b.y, mixC p.cb b.cb, mixC p.cr b.cr, 4095⟩

/-- The layers of a pipe in blending order (R338). -/
def pipeLayers (s : State) (p : Nat) : List Nat :=
  let l := (List.range 512).filter (fun n => s.flag F.CHM_LAYER_CFG_EN n && s.fld F.CHM_LAYER_CFG_PIPE n == p)
  if s.flag F.CHM_PIPE_CFG_ORDER p then
    (List.range 32).flatMap (fun z => l.filter (fun n => s.fld F.CHM_LAYER_CFG_Z n == z))
  else l

/-- The composed pixel of a pipe (R328, R338). -/
def pipePix (s : State) (p fr x r : Nat) : Pix :=
  let bt := s.flag F.CHM_PIPE_CFG_COLOUR p
  let bg : Pix := ⟨4 * s.fld F.CHM_PIPE_CFG_BG_Y p, 4 * s.fld F.CHM_PIPE_CFG_BG_CB p, 4 * s.fld F.CHM_PIPE_CFG_BG_CR p, 4095⟩
  (s.pipeLayers p).foldl (s.blendLayer fr bt x r) bg

/-- A value of 12 bits in units of 1/`m`, rounded half up to `w` bits. -/
def toDepth (w m v : Nat) : Nat := min (2 ^ w - 1) ((2 * v + m * 2 ^ (12 - w)) / (2 * m * 2 ^ (12 - w)))

/-- Row `r` of a pipe in the sampling of its output (R339); padding samples repeat the last pixel. -/
def pipeRow (s : State) (p fr sampling width r : Nat) : Bytes :=
  let px (x : Nat) : Pix := s.pipePix p fr (min x (width - 1)) r
  let f (g : Pix → Nat) (x : Nat) : Nat := g (px (x - 1)) + 2 * g (px x) + g (px (x + 1))
  let bt := s.flag F.CHM_PIPE_CFG_COLOUR p
  let rgb (x : Nat) : Pix := pix36 (Config.yccToRgb bt (px x).y (px x).cb (px x).cr) 0
  match sampling with
  | 0 => (List.range (ceilDiv width 2)).flatMap (fun g => packFields 10 [toDepth 10 4 (f Pix.cb (2 * g)),
      toDepth 10 1 (px (2 * g)).y, toDepth 10 4 (f Pix.cr (2 * g)), toDepth 10 1 (px (2 * g + 1)).y])
  | 1 => (List.range (ceilDiv width 4)).flatMap (fun g => packFields 10 ((List.range 4).flatMap (fun i =>
      let q := px (4 * g + i); [toDepth 10 1 q.cb, toDepth 10 1 q.y, toDepth 10 1 q.cr])))
  | 2 => (List.range (ceilDiv width 2)).flatMap (fun g => packFields 12 ((List.range 2).flatMap (fun i =>
      let q := px (2 * g + i); [q.cb, q.y, q.cr])))
  | 3 => (List.range (ceilDiv width 4)).flatMap (fun g => packFields 10 ((List.range 4).flatMap (fun i =>
      let q := rgb (4 * g + i); [toDepth 10 1 q.y, toDepth 10 1 q.cb, toDepth 10 1 q.cr])))
  | _ => (List.range (ceilDiv width 2)).flatMap (fun g => packFields 12 ((List.range 2).flatMap (fun i =>
      let q := rgb (2 * g + i); [q.y, q.cb, q.cr])))

/-! ## Status -/

/-- LINES_REQ, LINES_AVAIL and the fallback of layer `n` (R332, R334). -/
def layerStat (s : State) (n : Nat) : State :=
  let en := s.flag F.CHM_LAYER_CFG_EN n
  let req := if en then linesReq (s.fld F.CHM_LAYER_CFG_CROP_H n) (s.fld F.CHM_LAYER_CFG_DST_H n) else 0
  let av := if en then min 65535 (linesAvail (s.fld F.CHM_LAYER_CFG_CROP_W n)) else 0
  let dec := en && decide (av < req)
  let enters := dec && !s.flag F.CHM_LAYER_STAT_DECIMATING n
  let s := ((s.setFld F.CHM_LAYER_STAT_LINES_REQ (min 255 req) n).setFld F.CHM_LAYER_STAT_LINES_AVAIL av n).setFlag
    F.CHM_LAYER_STAT_DECIMATING dec n
  if enters then
    s.setFld F.CHM_LBUF_SHORT_SHORT (s.fld F.CHM_LBUF_SHORT_SHORT (n / 32) ||| 2 ^ (n % 32)) (n / 32)
  else s

/-- LAYERS and IN_SERVICE of the pipes, and the layers' status, recounted. -/
def chmRefresh (s : State) (ns : List Nat) : State :=
  let s := ns.foldl layerStat s
  (List.range 34).foldl (fun (s : State) p =>
    (s.setFld F.CHM_PIPE_STAT_LAYERS (s.pipeLayers p).length p).setFlag F.CHM_PIPE_STAT_IN_SERVICE
      (s.chm.bound.any (fun x => x.1 == p)) p) s

/-- CHM_STAT.FLIPS_PEND, recounted. -/
def flipsCount (s : State) : State := s.setFld F.CHM_STAT_FLIPS_PEND s.chm.flips.length

/-! ## Fences and flips (R344 to R352) -/

/-- Whether fence value `v` has reached target `t` (R344). -/
def fenceReached (v t : Nat) : Bool := decide ((v + 4294967296 - t % 4294967296) % 4294967296 < 2147483648)

/-- A post of a fence (R344). -/
def fencePost (s : State) (n v : Nat) : State :=
  let old := s.fld F.CHM_FENCE_VALUE n
  let diff := (v % 4294967296 + 4294967296 - old) % 4294967296
  if 1 ≤ diff ∧ diff < 2147483648 then s.setFld F.CHM_FENCE_VALUE (v % 4294967296) n
  else s.incFld F.CHM_FENCE_STALE_CNT n

/-- Clear the pending fields of a flip's surfaces and remove it. -/
def dropFlip (s : State) (x : SurfFlip) : State :=
  let s := { s with chm := { s.chm with flips := s.chm.flips.filter (fun y => y != x) } }
  (x.surfaces.foldl (fun (s : State) p =>
    let n := p.1 - 0x4000
    (((s.setFlag F.CHM_SURF_CFG_PEND false n).setFld F.CHM_SURF_CFG_PEND_BUF 0 n).setFld F.CHM_SURF_CFG_EVALS 0 n).setFld
      F.CHM_SURF_CFG_PEND_FENCE 0 n) s).flipsCount

/-- Replace a pending flip. -/
def setFlip (s : State) (x y : SurfFlip) : State :=
  { s with chm := { s.chm with flips := s.chm.flips.map (fun z => if z == x then y else z) } }

/-- Abandon a flip (R348). -/
def flipLate (s : State) (x : SurfFlip) : State :=
  let s := x.surfaces.foldl (fun (s : State) p =>
    let n := p.1 - 0x4000
    s.setFld F.CHM_FENCE_LATE_LATE (s.fld F.CHM_FENCE_LATE_LATE (n / 32) ||| 2 ^ (n % 32)) (n / 32)) s
  ((s.event blkChm 1 2 [x.fence, s.frameOf x.dom, s.sys.epoch]).raise fltChmFlipLate [x.fence]).dropFlip x

/-- A FENCE_CHECK of surface `surf` for layer `dest` in domain `d` (R346, R347, R348): one evaluation per frame, at
the first entry that names a surface of the flip, and none while the domain is stopped (R350). In Hold no local fence is sampled (R352). -/
def fenceCheck (s : State) (d surf dest : Nat) : State :=
  if s.sys.mode = .hold then s
  else match s.chm.flips.find? (fun x => x.dom == d && !x.reached && x.surfaces.any (fun p => p.1 == surf)) with
  | none => s
  | some x =>
    let fr := (s.rasOf d).frameN
    let begun := decide (x.applied + 2 ≤ s.sys.epoch) ||
      (decide (x.applied + 1 ≤ s.sys.epoch) && decide (s.castTick ≤ (s.rasOf d).lineTick))
    if !begun || x.evalFrame == some fr then s
    else
      let wait := if x.wait ≠ 0 then x.wait
        else if dest < 512 then s.fld F.CHM_PIPE_CFG_FENCE_WAIT (s.fld F.CHM_LAYER_CFG_PIPE dest) else 2
      let y := { x with evals := x.evals + 1, wait := wait, evalFrame := some fr }
      let s := x.surfaces.foldl (fun (s : State) p => s.setFld F.CHM_SURF_CFG_EVALS (min 15 y.evals) (p.1 - 0x4000)) s
      if fenceReached (s.fld F.CHM_FENCE_VALUE x.fence) x.target then
        let s := s.setFlip x { y with reached := true }
        { s with twn := { s.twn with flipsNow := s.twn.flipsNow ++ x.surfaces.map (fun p => (p.1, p.2, fr + 1)) } }
      else if wait ≤ y.evals then
        let s := (s.setFlip x y).flipLate y
        { s with twn := { s.twn with flipsNow := s.twn.flipsNow ++ x.surfaces.map (fun p => (p.1, 0xFF, fr + 1)) } }
      else s.setFlip x y

/-- Give a flip's surfaces their new FRONT (R348). -/
def flipDone (s : State) (x : SurfFlip) : State :=
  let s := x.surfaces.foldl (fun (s : State) p => s.setFld F.CHM_SURF_CFG_FRONT p.2 (p.1 - 0x4000)) s
  (s.event blkChm 0 1 [x.fence, s.frameOf x.dom, s.sys.epoch]).dropFlip x

/-- Outcomes of the active that have reached their frame boundary in domain `d` (R352). -/
def twinFlipFrame (s : State) (d : Nat) : State :=
  let fr := (s.rasOf d).frameN
  let mine (p : Nat × Nat × Nat) : Bool := s.fld F.CHM_SURF_CFG_DOMAIN (p.1 - 0x4000) == d
  let due := s.chm.twinFlips.filter (fun p => mine p && decide (p.2.2 ≤ fr))
  let s := due.foldl (fun (s : State) p =>
    let s := if p.2.2 < fr then (s.setFlag F.CHM_STAT_TWIN_LATE true).incFld F.TWN_CNT_LATE_FLIPS else s
    let s := if p.2.1 = 0xFF then s else s.setFld F.CHM_SURF_CFG_FRONT p.2.1 (p.1 - 0x4000)
    match s.chm.flips.find? (fun x => x.surfaces.any (fun q => q.1 == p.1)) with
    | some x => if p.2.1 = 0xFF then s.flipLate x else
        (s.event blkChm 0 1 [x.fence, s.frameOf d, s.sys.epoch]).dropFlip x
    | none => s) s
  { s with chm := { s.chm with twinFlips := s.chm.twinFlips.filter (fun p => !due.contains p) } }

/-- Chameleon at a frame boundary of domain `d`: reached flips take effect (R348), the standby applies the active's
outcomes (R352). -/
def chmFrame (s : State) (d : Nat) : State :=
  if s.sys.mode = .hold then s.twinFlipFrame d
  else (s.chm.flips.filter (fun x => x.dom == d && x.reached)).foldl flipDone s

end State

/-! ## Commands of family 0x06xx -/

/-- Whether a pipe's output sends a byte of row r before line FAL + r begins (R327). -/
def pipeTooEarly (s : State) (f : Fmt) (o : VOut) : Bool :=
  let n := o.flow - 0x800
  let k := s.fld F.SHK_FLOW_CFG_KIND n
  let tro := if s.flag F.SHK_FLOW_CFG_TRO_EN n then some (s.fld F.SHK_FLOW_CFG_TRO n) else none
  (List.range o.height).any (fun a =>
    decide (State.sendSlot f ((fmtOf o.format).getD f) k (s.flag F.SHK_FLOW_CFG_PACING n) tro o.height a < (fal f.code + a - 1) * 256))

/-- PIPE_DEFINE (R321, R322, R327, R351). -/
def applyPipeDefine (c : Cmd) (s : State) : CmdResult :=
  let b := c.params
  let d := byteAt b 1
  let out := u16 b 2
  let fw := byteAt b 5
  let free (u : Nat) : Option RefRec := if s.flag F.CHM_PIPE_CFG_EN u then some (rej 0x0308 0) else none
  let used := ((List.range 34).filter (fun p => s.flag F.CHM_PIPE_CFG_EN p)).length
  guarded [lenIs c 12, (decide (33 < byteAt b 0) && byteAt b 0 != 0xFF, rej 0x0108 0), (decide (3 < d), rej 0x0108 1),
      (!inRanges [(0x0800, 0x0FFF)] out, rej 0x0108 2), (!inRanges [(1, 15)] fw, rej 0x0108 5),
      (decide (byteAt b 0 < 34) && s.flag F.CHM_PIPE_CFG_EN (byteAt b 0), rej 0x0308 0),
      ((s.vout out).isNone, rej 0x030F 2),
      (decide (32 ≤ used), rejRes 0x0217 32 (used + 1)),
      ((s.vout out).any (fun o => o.dom != d), rej 0x0310 1),
      (s.outputRouted out || (s.pipeOf out).isSome, { rej 0x0313 2 with unit := s.pipeOf out })] fun _ =>
    match s.vout out with
    | none => .bad (rej 0x030F 2)
    | some o =>
      match fmtOf o.format with
      | none => .bad (rej 0x0108 2)
      | some f =>
        if f.interlaced || decide (3840 < o.width) || decide (2160 < o.height) || pipeTooEarly s ((s.compileFmt d).getD f) o then .bad (rej 0x0108 2)
        else match pickUnit s .pipe (byteAt b 0) 0 free with
          | .bad r => .bad r
          | .unit u =>
            let t := s.setFld F.CHM_PIPE_CFG_EN 1 u
            let t := (t.setFld F.CHM_PIPE_CFG_ORDER (b2n (bitOf (byteAt b 4) 0)) u).setFld F.CHM_PIPE_CFG_COLOUR
              (b2n (bitOf (byteAt b 4) 1)) u
            let t := ((t.setFld F.CHM_PIPE_CFG_DOMAIN d u).setFld F.CHM_PIPE_CFG_FENCE_WAIT fw u).setFld
              F.CHM_PIPE_CFG_OUT_FLOW out u
            let w := u32 b 8
            let t := ((t.setFld F.CHM_PIPE_CFG_BG_Y (bitsOf w 29 20) u).setFld F.CHM_PIPE_CFG_BG_CB (bitsOf w 19 10) u).setFld
              F.CHM_PIPE_CFG_BG_CR (bitsOf w 9 0) u
            .ok (t.writeDoms [d]) [BitVec.ofNat 8 u] (some ((s.predictFlip d).map (·.2))) (s.flipNs d)

/-- The layer's words of the inactive bank replaced. -/
def State.setLayer (s : State) (n : Nat) (ws : List Word) : State :=
  let l := upsert (fun (x : LayerParam) => x.layer == n) (⟨n, ws⟩ : LayerParam) s.chm.next
  { s with chm := { s.chm with next := l } }

/-- PIPE_DELETE (R322, R487). -/
def applyPipeDelete (c : Cmd) (s : State) : CmdResult :=
  let u := byteAt c.params 0
  guarded [lenIs c 4, (decide (33 < u), rej 0x0108 0), (s.unitFault .pipe u, { rej 0x0501 0 with unit := some u }),
      (!s.flag F.CHM_PIPE_CFG_EN u, rej 0x030F 0)] fun _ =>
    let d := s.fld F.CHM_PIPE_CFG_DOMAIN u
    let ls := (List.range 512).filter (fun n => s.layerFld n F.CHM_LAYER_CFG_EN == 1 && s.layerFld n F.CHM_LAYER_CFG_PIPE == u)
    let t := ls.foldl (fun (s : State) n => s.setLayer n ((s.layerWord n 0 &&& 0x7FFFFFFF#32) ::
      (List.range 6).map (fun w => s.layerWord n (w + 1)))) s
    match t.admitDoms [d] with
    | some r => .bad r
    | none =>
      let t := (t.writeDoms [d]).setFlag F.CHM_PIPE_CFG_EN false u
      .ok (t.setFld F.CHM_PIPE_CFG_OUT_FLOW 0xFFFF u) [] (some ((s.predictFlip d).map (·.2))) (s.flipNs d)

/-- The checks of one defined layer `n` of the tables `s` (R323, R324, R329, R332, R333, R335, R337), its block at `off`. -/
def layerCheck (s : State) (n off : Nat) : Option RefRec :=
  let g := s.layerFld n
  let p := g F.CHM_LAYER_CFG_PIPE
  let src := g F.CHM_LAYER_CFG_SRC
  let d := s.fld F.CHM_PIPE_CFG_DOMAIN p
  let pic := s.picture src
  let cw := g F.CHM_LAYER_CFG_CROP_W
  let ch := g F.CHM_LAYER_CFG_CROP_H
  let dw := g F.CHM_LAYER_CFG_DST_W
  let dh := g F.CHM_LAYER_CFG_DST_H
  let kl := g F.CHM_LAYER_CFG_KEY_LAYER
  let video := decide (src < 0x800)
  let fm := pic.bind (fun x => fmtOf x.format)
  let cyc := match s.compileFmt d with
    | some f => 3 * f.lpN / (2 * f.lpD)
    | none => 0
  firstFail [
    (decide (33 < p), rej 0x0108 (off + 3)), (s.unitFault .pipe p, { rej 0x0501 (off + 3) with unit := some p }),
    (!s.flag F.CHM_PIPE_CFG_EN p, rej 0x030F (off + 3)),
    (decide (4 < g F.CHM_LAYER_CFG_KEY), rej 0x0108 off),
    (!(decide (src < 0x800) || decide (0x4000 ≤ src ∧ src ≤ 0x41FF)), rej 0x0108 (off + 6)),
    (pic.isNone, rej 0x030F (off + 6)),
    (pic.any (fun x => x.dom != d), rej 0x0310 (off + 6)),
    (!decide (0x4000 ≤ src ∧ src ≤ 0x40FF) && fm.any Fmt.interlaced, rej 0x0311 (off + 6)),
    (!video && g F.CHM_LAYER_CFG_DELAY != 0 || video && decide (((s.inFlow src).map (fun x => x.depth - 2)).getD 0 <
      g F.CHM_LAYER_CFG_DELAY), { rejRes 0x0200 (((s.inFlow src).map (fun x => x.depth - 2)).getD 0)
        (g F.CHM_LAYER_CFG_DELAY) with off := some (off + 4) }),
    (!inRanges [(1, 4096)] cw || !inRanges [(1, 2160)] ch ||
      pic.any (fun x => decide (x.width < g F.CHM_LAYER_CFG_CROP_X + cw) || decide (x.height < g F.CHM_LAYER_CFG_CROP_Y + ch)),
      rej 0x0108 (off + 8)),
    (!inRanges [(1, 3840)] dw || !inRanges [(1, 2160)] dh, rej 0x0108 (off + 20)),
    (!ratioOk cw dw || !ratioOk ch dh, rej 0x0108 (off + 12)),
    (g F.CHM_LAYER_CFG_KEY == 3 && !(s.layerFld kl F.CHM_LAYER_CFG_EN == 1 && s.layerFld kl F.CHM_LAYER_CFG_PIPE == p &&
      s.layerFld kl F.CHM_LAYER_CFG_KEY == 4), rej 0x0108 (off + 24)),
    (decide (linesAvail cw < linesReq ch dh), rejRes 0x0213 (linesAvail cw) (linesReq ch dh) (some n)),
    (decide (8 * cyc < ceilDiv ch (max 1 dh) * cw), rejRes 0x0215 (8 * cyc) (ceilDiv ch (max 1 dh) * cw) (some n)),
    (decide (64 < ceilDiv (ceilDiv (ceilDiv (ch * 256) (max 1 dh)) 256 * ((pic.map Picture.bpl).getD 0)) tilePayload),
      rej 0x0108 (off + 12))]

/-- The layer numbers of a LAYER_SET's blocks: named, or the lowest free ones for 0xFFFF. -/
def layerNumbers (s : State) (b : Bytes) : List Nat → List Nat → List (Option Nat)
  | [], _ => []
  | i :: is, used =>
    let want := u16 b (4 + 32 * i + 28)
    let pick := if want = 0xFFFF then
        (List.range 512).find? (fun n => s.layerFld n F.CHM_LAYER_CFG_EN == 0 && !used.contains n)
      else some want
    pick :: layerNumbers s b is (match pick with | some n => n :: used | none => used)

/-- LAYER_SET (R323 to R337, R351, R487). -/
def applyLayerSet (c : Cmd) (s : State) : CmdResult :=
  let b := c.params
  let n := u16 b 0
  let ix := List.range n
  let nums := layerNumbers s b ix (ix.map (fun i => u16 b (4 + 32 * i + 28)))
  let get (i : Nat) : Nat := ((nums.getD i none).getD 0)
  let en (i : Nat) : Bool := bitOf (u32 b (4 + 32 * i)) 31
  let mask : List Word := [0xBF7F83FF#32, 0xFFFFFF00#32, 0x0FFF0FFF#32, 0x1FFF0FFF#32, 0xFFFFFFFF#32, 0x1FFF0FFF#32,
    0xFFFFF1FF#32]
  guarded [(decide (b.length < 4), rej 0x0108 b.length), (!inRanges [(1, 32)] n, rej 0x0108 0), lenIs c (4 + 32 * n),
      (ix.any (fun i => let w := u16 b (4 + 32 * i + 28); w != 0xFFFF && (decide (511 < w) ||
        ix.any (fun j => decide (j < i) && u16 b (4 + 32 * j + 28) == w))), rej 0x0108 32),
      (nums.any Option.isNone, rejRes 0x0214 512 513)] fun _ =>
    match firstFail (ix.map (fun i => (!en i && s.layerFld (get i) F.CHM_LAYER_CFG_EN == 0, rej 0x030F (4 + 32 * i + 28)))) with
    | some r => .bad r
    | none =>
      let t := ix.foldl (fun (t : State) i =>
        t.setLayer (get i) ((List.range 7).map (fun w => BitVec.ofNat 32 (u32 b (4 + 32 * i + 4 * w)) &&& mask.getD w 0))) s
      let pipes := State.ascending (ix.flatMap (fun i => [s.layerFld (get i) F.CHM_LAYER_CFG_PIPE,
        t.layerFld (get i) F.CHM_LAYER_CFG_PIPE]))
      let perPipe (p : Nat) : Nat := ((List.range 512).filter (fun k => t.layerFld k F.CHM_LAYER_CFG_EN == 1 &&
        t.layerFld k F.CHM_LAYER_CFG_PIPE == p)).length
      let checks := ix.findSome? (fun i => if en i then layerCheck t (get i) (4 + 32 * i) else none)
      let keys := (List.range 512).findSome? (fun k =>
        if t.layerFld k F.CHM_LAYER_CFG_EN == 1 && t.layerFld k F.CHM_LAYER_CFG_KEY == 3 &&
            pipes.contains (t.layerFld k F.CHM_LAYER_CFG_PIPE) then layerCheck t k 4 else none)
      let much := pipes.findSome? (fun p => if 32 < perPipe p then some (rejRes 0x0214 32 (perPipe p) (some p)) else none)
      match checks with
      | some r => .bad r
      | none =>
      match keys with
      | some r => .bad r
      | none =>
      match much with
      | some r => .bad r
      | none =>
        let doms := State.ascending ((pipes.filter (fun p => decide (p < 34))).map (fun p => s.fld F.CHM_PIPE_CFG_DOMAIN p))
        match t.admitDoms doms with
        | some r => .bad r
        | none => .ok (t.writeDoms doms) (ix.flatMap (fun i => leBytes 2 (get i)))
            (some (recordsEpoch (doms.map (fun d => s.predictFlip d)))) (State.latest (doms.map s.flipNs))

/-- SURFACE_DEFINE (R340, R341). -/
def applySurfaceDefine (c : Cmd) (s : State) : CmdResult :=
  let b := c.params
  let f := u16 b 0
  let n := f - 0x4000
  let (d, k, nb, w, h) := (byteAt b 2, byteAt b 3, byteAt b 4, u16 b 8, u16 b 10)
  guarded [lenIs c 12, (!inRanges [(0x4000, 0x40FF)] f, rej 0x0108 0), (decide (3 < d), rej 0x0108 2),
      (decide (3 < k), rej 0x0108 3), (!inRanges [(2, 4)] nb, rej 0x0108 4), (!inRanges [(1, 4096)] w, rej 0x0108 8),
      (!inRanges [(1, 2160)] h, rej 0x0108 10), (s.surfEn f, rej 0x0308 0)] fun _ =>
    let tiles := nb * surfTpf k w h
    match s.allocTry tiles with
    | .bad r => .bad r
    | .ok l =>
      let t := s.allocRing f 0 d tiles l
      let t := ((t.setFld F.CHM_SURF_CFG_EN 1 n).setFld F.CHM_SURF_CFG_FORMAT k n).setFld F.CHM_SURF_CFG_DOMAIN d n
      let t := ((t.setFld F.CHM_SURF_CFG_NBUF nb n).setFld F.CHM_SURF_CFG_WIDTH w n).setFld F.CHM_SURF_CFG_HEIGHT h n
      .ok ((t.setFld F.CHM_SURF_CFG_FRONT 0 n).setFld F.CHM_SURF_CFG_FRONT_WRITES 0 n) (leBytes 4 tiles)

/-- SURFACE_DELETE (R345, R270). -/
def applySurfaceDelete (c : Cmd) (s : State) : CmdResult :=
  let f := u16 c.params 0
  let n := f - 0x4000
  let lay := (List.range 512).find? (fun k => (s.layerFld k F.CHM_LAYER_CFG_EN == 1 && s.layerFld k F.CHM_LAYER_CFG_SRC == f) ||
    (s.flag F.CHM_LAYER_CFG_EN k && s.fld F.CHM_LAYER_CFG_SRC k == f))
  guarded [lenIs c 4, (!inRanges [(0x4000, 0x40FF)] f, rej 0x0108 0), (!s.surfEn f, rej 0x030F 0),
      ((s.flowRouted f 0).isSome, (s.flowRouted f 0).getD (rej 0x0312 0)), (lay.isSome, { rej 0x0319 0 with unit := lay }),
      (s.flag F.CHM_SURF_CFG_PEND n, rej 0x0314 0)] fun _ =>
    let t := (s.releaseFlow f).setFld F.CHM_SURF_CFG_EN 0 n
    .ok t []

/-- The instant a SURFACE_FLIP's reply names (R349), as its EPOCH and PTP time. -/
def State.predictSurf (s : State) (d : Nat) : Option (Nat × Nat) :=
  match s.domFmt d with
  | none => none
  | some f =>
    if !s.running d then none
    else
      let (_, l) := s.lineNow d f
      let fl := fenceLine f
      let k := if l ≤ fl ∧ (s.afterNext d f (fl - l) ∨ fl = l ∧ d = 0 ∧ 255 = (s.rasOf d).slot) then fl - l
        else f.lines + fl - l
      some (s.epochAhead d f (k + f.lines - fl + 1), s.nsAhead d f (k + f.lines - fl + 1))

/-- SURFACE_FLIP (R345, R347). -/
def applySurfaceFlip (c : Cmd) (s : State) : CmdResult :=
  let b := c.params
  let n := byteAt b 1
  let l := (List.range n).map (fun i => (u16 b (8 + 4 * i), byteAt b (10 + 4 * i)))
  let off (i : Nat) : Nat := 8 + 4 * i
  let per (p : Nat × Nat × Nat) : List (Bool × RefRec) :=
    let (i, f, bu) := p
    [(!inRanges [(0x4000, 0x40FF)] f, rej 0x0108 (off i)), (!s.surfEn f, rej 0x030F (off i)),
      ((l.take i).any (fun q => q.1 == f), rej 0x0108 (off i)),
      (decide (s.fld F.CHM_SURF_CFG_NBUF (f - 0x4000) ≤ bu), rej 0x0108 (off i + 2)),
      (s.fld F.CHM_SURF_CFG_DOMAIN (f - 0x4000) != s.fld F.CHM_SURF_CFG_DOMAIN ((l.headD (0x4000, 0)).1 - 0x4000), rej 0x0108 (off i)),
      (s.flag F.CHM_SURF_CFG_PEND (f - 0x4000), rej 0x0314 (off i))]
  guarded ([(decide (b.length < 8), rej 0x0108 b.length), (!inRanges [(1, 32)] n, rej 0x0108 1), lenIs c (8 + 4 * n)] ++
      (numbered 0 l).flatMap per) fun _ =>
    let d := s.fld F.CHM_SURF_CFG_DOMAIN ((l.headD (0x4000, 0)).1 - 0x4000)
    let x : SurfFlip := ⟨byteAt b 0, u32 b 4, d, l, s.sys.epoch, 0, 0, false, none⟩
    let t := { s with chm := { s.chm with flips := s.chm.flips ++ [x] } }
    let t := l.foldl (fun (t : State) p =>
      let m := p.1 - 0x4000
      (((t.setFlag F.CHM_SURF_CFG_PEND true m).setFld F.CHM_SURF_CFG_PEND_BUF p.2 m).setFld F.CHM_SURF_CFG_EVALS 0 m).setFld
        F.CHM_SURF_CFG_PEND_FENCE (byteAt b 0) m) t
    .ok t.flipsCount [] (some ((s.predictSurf d).map (·.1))) ((s.predictSurf d).map (·.2))

/-- FLIP_CANCEL (R345, R487). -/
def applyFlipCancel (c : Cmd) (s : State) : CmdResult :=
  let f := u16 c.params 0
  guarded [lenIs c 4, (!inRanges [(0x4000, 0x40FF)] f, rej 0x0108 0), (!s.surfEn f, rej 0x030F 0)] fun _ =>
    match s.chm.flips.find? (fun x => x.surfaces.any (fun p => p.1 == f)) with
    | none => .bad (rejAll 0x0316)
    | some x => if x.reached then .bad (rejAll 0x0316) else .ok (s.dropFlip x) []

end Sys2Proof.Machine
end

