-- ==== Sys2Proof/Machine/Flags.lean ====
section
/-! DEFINITION. Newt arithmetic and its lane flags (R390 to R393): saturation with SAT, comparison with
CMP, rounding and normalising. -/

namespace Sys2Proof.Machine

/-- Saturate an integer to the Q1.31 range; the flag says whether it did (R392). -/
def satQ31 (x : Int) : BitVec 32 × Bool :=
  if x < -2147483648 then (0x80000000#32, true)
  else if 2147483647 < x then (0x7FFFFFFF#32, true)
  else (BitVec.ofInt 32 x, false)

/-- RND of one accumulator lane (R392): floor((a + 2^30) / 2^31), then saturation. -/
def rndLane (a : BitVec 80) : BitVec 32 × Bool := satQ31 ((a.toInt + 1073741824) / 2147483648)

/-- Saturate an integer to an 80-bit accumulator lane (ASHF, R391). -/
def satAcc (x : Int) : BitVec 80 × Bool :=
  if x < -(2 ^ 79) then (BitVec.ofInt 80 (-(2 ^ 79)), true)
  else if 2 ^ 79 - 1 < x then (BitVec.ofInt 80 (2 ^ 79 - 1), true)
  else (BitVec.ofInt 80 x, false)

/-- Vector ADD of a lane (R392). -/
def vAdd (a b : BitVec 32) : BitVec 32 × Bool := satQ31 (a.toInt + b.toInt)

/-- Vector SUB of a lane (R392). -/
def vSub (a b : BitVec 32) : BitVec 32 × Bool := satQ31 (a.toInt - b.toInt)

/-- Vector SHL of a lane (R392). -/
def vShl (a : BitVec 32) (n : Nat) : BitVec 32 × Bool := satQ31 (a.toInt * 2 ^ min n 32)

/-- Vector ABS of a lane (R392). -/
def vAbs (a : BitVec 32) : BitVec 32 × Bool := satQ31 (a.toInt.natAbs : Int)

/-- Arithmetic right shift. -/
def sra (a : BitVec 32) (n : Nat) : BitVec 32 := a.sshiftRight (min n 32)

/-- Signed less-than of a lane (CMPLT). -/
def ltQ31 (a b : BitVec 32) : Bool := decide (a.toInt < b.toInt)

/-- The exact product of two Q1.31 values in an accumulator lane (R391). -/
def mulQ31 (a b : BitVec 32) : BitVec 80 := BitVec.ofInt 80 (a.toInt * b.toInt)

/-- How many of the bits from `n` down equal the sign, without a break. -/
def signRun {w : Nat} (x : BitVec w) (sign : Bool) : Nat → Nat
  | 0 => 0
  | n + 1 => if x.getLsbD n = sign then 1 + signRun x sign n else 0

/-- EXP of a word (R393): redundant sign bits, 0 to 31. -/
def expWord (x : BitVec 32) : Nat := signRun x (x.getLsbD 31) 31

/-- EXP of an accumulator lane (R393): −17 to 62. -/
def expAcc (x : BitVec 80) : Int := (signRun x (x.getLsbD 79) 79 : Int) - 17

/-- NORM of a word (R393). -/
def normWord (x : BitVec 32) : BitVec 32 := x <<< expWord x

/-- NORM of an accumulator lane (R393). -/
def normAcc (x : BitVec 80) : BitVec 80 :=
  if 0 ≤ expAcc x then x <<< (expAcc x).toNat else x.sshiftRight (-(expAcc x)).toNat

/-- ASHF of a lane (R399): a left shift saturates, a right shift is arithmetic. -/
def ashfLane (a : BitVec 80) (n : Int) : BitVec 80 × Bool :=
  if 0 ≤ n then satAcc (a.toInt * 2 ^ n.toNat) else (a.sshiftRight (-n).toNat, false)

/-- The lane flags after SAT of some lanes is set; SAT is never cleared within a run (R392). -/
def orFlags (a b : List Bool) : List Bool := List.zipWith (· || ·) a b

end Sys2Proof.Machine
end

