-- ==== Sys2Proof/Machine/Operands.lean ====
section
/-! DEFINITION. Operand forms of Newt instructions (R394 to R396, R399): register codes, pointers with
circular post-modify, data memory with its regions. -/

namespace Sys2Proof.Machine

/-- The eight lanes of register V`n`. -/
def NwtBank.vec (b : NwtBank) (n : Nat) : List (BitVec 32) := (b.v.drop (n * 8)).take 8

/-- The eight lanes of accumulator A`k`. -/
def NwtBank.accOf (b : NwtBank) (k : Nat) : List (BitVec 80) := (b.acc.drop (k * 8)).take 8

/-- Replace the eight elements from `8n`. -/
def setLanes {w : Nat} (l : List (BitVec w)) (n : Nat) (x : List (BitVec w)) : List (BitVec w) :=
  l.take (n * 8) ++ x ++ l.drop (n * 8 + 8)

/-- A bank of zeros (R388). -/
def NwtBank.zero : NwtBank :=
  ⟨List.replicate 128 0, List.replicate 16 0, List.replicate 8 0, List.replicate 8 0, List.replicate 8 0,
   List.replicate 8 0, List.replicate 32 0, List.replicate 8 false, List.replicate 8 false, []⟩

/-- Whether a register code names a V register (R394). -/
def isVec (code : BitVec 6) : Bool := decide (code.toNat < 16)

/-- A scalar reading of a register code (R394): S as it is, P, B and L zero-extended, M sign-extended. A V
register has no scalar reading the text states: `unst`. -/
def NwtBank.scalar (b : NwtBank) (code : BitVec 6) (unst : BitVec 32) : BitVec 32 :=
  let n := code.toNat
  if n < 16 then unst
  else if n < 32 then b.sc.getD (n - 16) 0
  else if n < 40 then (b.p.getD (n - 32) 0).setWidth 32
  else if n < 48 then (b.m.getD (n - 40) 0).signExtend 32
  else if n < 56 then (b.b.getD (n - 48) 0).setWidth 32
  else (b.l.getD (n - 56) 0).setWidth 32

/-- The lanes of a source operand: a V register, or another register in every lane. -/
def NwtBank.lanes (b : NwtBank) (code : BitVec 6) : List (BitVec 32) :=
  if isVec code then b.vec code.toNat else List.replicate 8 (b.scalar code 0)

/-- Write an address register at once (R401: P, M, B and L are visible from i + 1); other codes leave
the bank. -/
def NwtBank.setAddr (b : NwtBank) (code : BitVec 6) (x : BitVec 32) : NwtBank :=
  let n := code.toNat
  let y := x.setWidth 18
  if n < 32 then b
  else if n < 40 then { b with p := b.p.set (n - 32) y }
  else if n < 48 then { b with m := b.m.set (n - 40) y }
  else if n < 56 then { b with b := b.b.set (n - 48) y }
  else { b with l := b.l.set (n - 56) y }

/-- Pointer index of a code naming a P register. -/
def pIdx (code : BitVec 6) : Nat := code.toNat % 8

/-- The address in P register `n`. -/
def NwtBank.ptr (b : NwtBank) (n : Nat) : Nat := (b.p.getD n 0).toNat

/-- P`n` moved by an amount, with the circular wrap of R395. -/
def NwtBank.movePtr (b : NwtBank) (n : Nat) (d : Int) : BitVec 18 :=
  let x : Int := b.ptr n + d
  let len := (b.l.getD n 0).toNat
  let base := (b.b.getD n 0).toNat
  if len = 0 then BitVec.ofInt 18 x
  else if (base : Int) ≤ x ∧ x < base + len then BitVec.ofInt 18 x
  else BitVec.ofInt 18 (base + (x - base) % (len : Int))

/-- P`n` after a post-modify (R395). -/
def NwtBank.bump (b : NwtBank) (n : Nat) (d : Int) : NwtBank := { b with p := b.p.set n (b.movePtr n d) }

/-- The modifier of a memory operand: Mb in the register form, else the signed immediate (R399). -/
def NwtBank.modifier (b : NwtBank) (i : NwtIns) : Int :=
  if i.alt then (b.m.getD (i.sb.toNat % 8) 0).toInt else i.imm.toInt

/-- Bytes of an input or output frame: samples × channels rounded up to 8 × 4 (R387). -/
def frameBytes (rate96 : Bool) (chans : Nat) : Nat :=
  4 * ((if rate96 then 6 else 3) * (ceilDiv chans 8 * 8))

/-- Frame columns of a channel list: a 96 kHz channel uses two indices and one column (R387). -/
def frameCols (rate96 : Bool) (n : Nat) : Nat := if rate96 then n / 2 else n

/-- Base of the active parameter page. -/
def NwtTask.activePage (t : NwtTask) : Nat := if t.page = 0 then t.page0 else t.page1

/-- Base of the pending parameter page. -/
def NwtTask.pendingPage (t : NwtTask) : Nat := if t.page = 0 then t.page1 else t.page0

/-- Whether `n` bytes from `a` lie in [base, base + len). -/
def within (a n base len : Nat) : Bool := decide (base ≤ a) && decide (a + n ≤ base + len)

/-- Whether a task may read `n` bytes at `a` (R396). -/
def NwtTask.canRead (t : NwtTask) (a n : Nat) : Bool :=
  within a n t.inBase (frameBytes t.rate96 (frameCols t.rate96 t.ins.length)) ||
  within a n t.outBase (frameBytes t.rate96 (frameCols t.rate96 t.outs.length)) ||
  within a n t.activePage t.parLen || within a n t.stateBase t.stateLen

/-- Whether a task may write `n` bytes at `a` (R396). -/
def NwtTask.canWrite (t : NwtTask) (a n : Nat) : Bool :=
  within a n t.outBase (frameBytes t.rate96 (frameCols t.rate96 t.outs.length)) ||
  within a n t.stateBase t.stateLen

/-- Trap codes of R408. -/
def trapRepOvf : Nat := 1
def trapAlign : Nat := 2
def trapBounds : Nat := 3
def trapProgBounds : Nat := 4
def trapBadReti : Nat := 5
def trapOverrun : Nat := 6
def trapEcc : Nat := 7
def trapParity : Nat := 8

/-- The trap of an access of `n` words at byte address `a`, if it traps (R396): alignment, then each
word's region. -/
def NwtTask.access (t : NwtTask) (write : Bool) (a n : Nat) : Option Nat :=
  if a % 4 ≠ 0 then some trapAlign
  else if (List.range n).all (fun k =>
      if write then t.canWrite (a + 4 * k) 4 else t.canRead (a + 4 * k) 4) then none
  else some trapBounds

/-- A 32-bit word of data memory. -/
def memWord (m : List Host.Cell) (a : Nat) : BitVec 32 :=
  BitVec.ofNat 32 (u32 (sgetMany zeroByte m a 4) 0)

/-- `n` consecutive words of data memory. -/
def memWords (m : List Host.Cell) (a n : Nat) : List (BitVec 32) :=
  (List.range n).map (fun k => memWord m (a + 4 * k))

/-- The bytes of words, lowest address first. -/
def wordBytes (l : List (BitVec 32)) : Bytes := l.flatMap (fun x => leBytes 4 x.toNat)

/-- The largest number of a VLDS's words that fall in one data bank (R396). -/
def bankLoad (addrs : List Nat) : Nat :=
  (List.range 8).foldl (fun m k => max m (addrs.filter (fun a => a / 4 % 8 == k)).length) 0

end Sys2Proof.Machine
end

