-- ==== Sys2Proof/Machine/Newt.lean ====
section
/-! DEFINITION. The Newt cores' execution (R384 to R409): entering and ending tasks, the exposed pipeline
(R401), loops, interrupts and traps, as shared operations over one core; and one meaning per
instruction. -/

namespace Sys2Proof.Machine

/-! ## Cores and tasks -/

namespace State

/-- Newt core `c`. -/
def core (s : State) (c : Nat) : NwtCore := s.nwt.cores.getD c NwtCore.reset

/-- Replace Newt core `c`. -/
def setCore (s : State) (c : Nat) (x : NwtCore) : State :=
  { s with nwt := { s.nwt with cores := s.nwt.cores.set c x } }

/-- The image of a slot (R410). -/
def image (s : State) (slot : Nat) : Bytes := ((s.nwt.images.find? (fun x => x.slot == slot)).map NwtImage.bytes).getD []

end State

/-- The task of an index on a core. -/
def NwtCore.task (x : NwtCore) (i : Nat) : Option NwtTask := x.tasks.find? (fun t => t.index == i)

/-- Replace a task by its index; a task that has not started stands beside the one it replaces (R485). -/
def NwtCore.setTask (x : NwtCore) (t : NwtTask) : NwtCore :=
  { x with tasks := x.tasks.map (fun y => if y.index == t.index && y.startDue == t.startDue then t else y) }

/-- Mark a task for removal at the next block boundary (R412); one that has not started goes at once. -/
def State.dropTask (s : State) (c i : Nat) : State :=
  let x := s.core c
  let ts := (x.tasks.filter (fun t => !(t.index == i && t.startDue))).map (fun (t : NwtTask) =>
    if t.index == i then { t with removeDue := true } else t)
  s.setCore c { x with tasks := ts }

/-- Remove an SRC stage, held as core × 32 + task. -/
def State.dropStage (s : State) (k : Option Nat) : State :=
  match k with
  | some k => s.dropTask (k / 32) (k % 32)
  | none => s

/-- Instructions of an image (R410). -/
def imageLen (b : Bytes) : Nat := u32 b 4 / 8

/-- The level an image maps an interrupt source to: 0 PARAM, 1 TIMER, 2 SWI; level 0 is off (IRQ_MAP). -/
def irqLevel (b : Bytes) (src : Nat) : Nat := bitsOf (byteAt b 34) (2 * src + 1) (2 * src)

/-- The handler entry of an interrupt level (R410). -/
def irqEntry (b : Bytes) (level : Nat) : Nat := if level = 1 then u16 b 30 else u16 b 32

/-- Raise an interrupt source of a run; an off source raises nothing. -/
def NwtRun.raiseIrq (r : NwtRun) (img : Bytes) (src : Nat) : NwtRun :=
  if irqLevel img src = 0 then r else { r with irqs := r.irqs ++ [(src, irqLevel img src)] }

/-- Bank 0 at task entry (R388). Each of the three banks has its own loops (R406). -/
def entryBank (t : NwtTask) (block : Nat) : NwtBank :=
  let z := NwtBank.zero
  { z with
    p := [BitVec.ofNat 18 t.inBase, BitVec.ofNat 18 t.outBase, BitVec.ofNat 18 t.activePage,
          BitVec.ofNat 18 t.stateBase, 0, 0, 0, 0]
    sc := [BitVec.ofNat 32 (frameCols t.rate96 t.ins.length), BitVec.ofNat 32 (frameCols t.rate96 t.outs.length),
           if t.rate96 then 6 else 3, BitVec.ofNat 32 block] ++ List.replicate 12 0 }

/-- The run of a task at its entry (R388, R404): the PARAM interrupt is raised when its pages swapped. -/
def NwtTask.start (t : NwtTask) (img : Bytes) (block : Nat) : NwtRun :=
  let r : NwtRun := ⟨t.index, 0, [entryBank t block, NwtBank.zero, NwtBank.zero], u16 img 28, none, [], [],
    [], none, 0, false⟩
  if t.swapped then r.raiseIrq img 0 else r

/-- Start the next queued task of a core (R384). -/
def State.nextTask (s : State) (c : Nat) : State :=
  let x := s.core c
  match x.queue with
  | [] => s.setCore c { x with run := none }
  | i :: q =>
    match x.task i with
    | some t => s.setCore c { x with queue := q, run := some (t.start (s.image t.image) s.aud.block) }
    | none => s.setCore c { x with queue := q, run := none }

/-- Write a pending result into its bank or memory (R401). -/
def applyWrite (x : NwtCore × NwtRun) (w : NwtPend) : NwtCore × NwtRun :=
  let b := x.2.banks.getD w.bank NwtBank.zero
  let put (b' : NwtBank) : NwtCore × NwtRun := (x.1, { x.2 with banks := x.2.banks.set w.bank b' })
  match w.w with
  | .vec n l => put { b with v := setLanes b.v n l }
  | .scalar n v => put { b with sc := b.sc.set n v }
  | .acc k l _ => put { b with acc := setLanes b.acc k l }
  | .flags c f => put { b with cmp := c.getD b.cmp, sat := (f.map (orFlags b.sat)).getD b.sat }
  | .mem a bs => ({ x.1 with dmem := ssetMany zeroByte x.1.dmem a bs }, x.2)

/-- Complete every pending result, oldest first. -/
def drain (x : NwtCore) (r : NwtRun) : NwtCore × NwtRun :=
  r.pend.foldl applyWrite (x, { r with pend := [] })

/-- Start of the next instruction: results two instructions old become visible (R401). -/
def agePend (x : NwtCore) (r : NwtRun) : NwtCore × NwtRun :=
  let due := r.pend.filter (fun w => decide (w.age ≤ 1))
  let rest := (r.pend.filter (fun w => decide (1 < w.age))).map (fun w => { w with age := w.age - 1 })
  due.foldl applyWrite (x, { r with pend := rest })

namespace State

/-- End the running task of core `c` for this block (R399 TEND, R407): results in flight complete. -/
def endTask (s : State) (c : Nat) (r : NwtRun) : State :=
  let (x, r) := drain (s.core c) r
  let s := s.setFld F.NWT_TASK_STAT_CYC_LAST r.cycles c r.task
  let s := if r.satSeen then s.incFld F.NWT_TASK_STAT_SAT_BLOCKS c r.task else s
  let x := match x.task r.task with
    | some t => x.setTask { t with done := true }
    | none => x
  ((s.setCore c { x with run := none })).nextTask c

/-- Set DIS of a task (R409). -/
def disableTask (s : State) (c : Nat) (t : NwtTask) : State :=
  let s := s.setCore c ((s.core c).setTask { t with dis := true, traps := [] })
  let s := s.setFlag F.NWT_TASK_STAT_DIS true c t.index
  let s := { s with twn := { s.twn with newtNow := s.twn.newtNow ++ [(c, t.index, true)] } }
  s.raise fltNwtTrap [c, t.index]

/-- A trap of the running task of core `c` (R408, R409): the task ends, its output frame is discarded, the
counts and the event are written, and its class reacts. -/
def trapTask (s : State) (c : Nat) (r : NwtRun) (code : Nat) : State :=
  let s := ((s.incFld F.NWT_TASK_STAT_TRAP_CNT c r.task).incFld F.NWT_CORE_CNT_TRAPS c).setFld
    F.NWT_TASK_STAT_TRAP_LAST code c r.task
  let s := (s.setFld F.NWT_TASK_STAT_PC_LAST r.pc c r.task).setFld F.NWT_TASK_STAT_CYC_LAST r.cycles c r.task
  let s := s.event blkNwt (if code < 7 then 1 else 3) code [c, r.task, code, r.pc, s.sys.epoch, s.aud.block]
  let s := if code < 7 then s.raise fltNwtTrap [c, r.task, code]
    else s.raiseFault fltNwtEcc (some (.newt, c)) [c, r.task, code]
  let x := s.core c
  match x.task r.task with
  | none => (s.setCore c { x with run := none }).nextTask c
  | some t =>
    let recent := if code < 7 then (t.traps.filter (fun k => decide (s.aud.block < k + 16000))) ++ [s.aud.block]
      else t.traps
    let t := { t with done := true, discard := true, traps := recent }
    let s := s.setCore c { x.setTask t with run := none }
    let s := if 16 ≤ recent.length then s.disableTask c t else s
    s.nextTask c

end State

/-! ## One instruction -/

/-- What an instruction sees: the current bank, committed memory, its task and image, forwarded
accumulators of the instruction before (R401), and open values. -/
structure NwtCtx where
  bank : NwtBank
  mem : List Host.Cell
  task : NwtTask
  img : Bytes
  run : NwtRun
  free : Nat → BitVec 80

/-- What an instruction does. -/
structure NwtRes where
  bank : NwtBank
  writes : List NwtWrite := []
  branch : Option Nat := none
  jump : Option Nat := none
  cycles : Nat := 1
  irq : Option Nat := none
  timer : Option Nat := none
  ended : Bool := false
  rti : Bool := false
  trap : Option Nat := none

/-- A trap as a result. -/
def NwtCtx.trapped (x : NwtCtx) (code : Nat) : NwtRes := { bank := x.bank, trap := some code }

/-- The accumulator a MAC instruction reads: the result of a MAC one instruction earlier is forwarded
(R401). -/
def NwtCtx.macAcc (x : NwtCtx) (k : Nat) : List (BitVec 80) :=
  let fwd := x.run.pend.filterMap (fun w =>
    if w.bank == x.run.level then
      match w.w with
      | .acc n l true => if n == k then some l else none
      | _ => none
    else none)
  fwd.getLastD (x.bank.accOf k)

/-- Where a run goes after the instruction at `pc`: the innermost loop that ends there counts, then the
next (R402, R403). -/
def loopNext : List (Nat × Nat × Nat) → Nat → Nat × List (Nat × Nat × Nat)
  | [], pc => (pc + 1, [])
  | (st, en, k) :: rest, pc =>
    if pc = en then
      if 1 < k then (st, (st, en, k - 1) :: rest) else loopNext rest pc
    else (pc + 1, (st, en, k) :: rest)

/-- Leave an interrupt handler (R405): the level and index that were interrupted. -/
def NwtRun.popRet (r : NwtRun) : NwtRun :=
  match r.ret with
  | (lvl, pc) :: rest => { r with level := lvl, pc := pc, ret := rest, branch := none }
  | [] => r

/-- The run after an instruction's result, before new writes join: pc, branch and loops. -/
def NwtRun.advance (r : NwtRun) (res : NwtRes) : NwtRun :=
  let bank := res.bank
  let (pc, loops) :=
    match r.branch with
    | some t => (t, bank.loops)
    | none =>
      match res.jump with
      | some t => (t, bank.loops)
      | none => loopNext bank.loops r.pc
  { r with banks := r.banks.set r.level { bank with loops := loops }, pc := pc, branch := res.branch,
           cycles := r.cycles + res.cycles, timer := res.timer.orElse (fun _ => r.timer) }

/-- Single-bit errors corrected in a core's memories are counted (R397). -/
def State.corrected (s : State) (c n : Nat) : State := if n = 0 then s else s.addFld F.NWT_CORE_CNT_ECC_CORR n c

/-- Execute one instruction on core `c`: results two instructions old become visible, the instruction
reads, then its results enter the pipeline; traps and the budget are judged (R401, R407, R408). The single-bit errors met
in its memories are corrected and counted (R397). A core that runs no task does nothing. -/
def State.newt (s : State) (c corr : Nat) (f : NwtCtx → NwtRes) : State :=
  match (s.core c).run with
  | none => s
  | some r0 =>
    match (s.core c).task r0.task with
    | none => s
    | some t =>
      let (x, r) := agePend (s.core c) r0
      let img := s.image t.image
      let fr := s.free
      let ctx : NwtCtx := ⟨r.banks.getD r.level NwtBank.zero, x.dmem, t, img, r,
        fun k => Config.freeBits 80 (fr + k)⟩
      let res := f ctx
      let s := State.corrected { (s.setCore c x) with free := fr + 16 } c corr
      match res.trap with
      | some code => s.trapTask c { r with cycles := r.cycles + res.cycles } code
      | none =>
        let r' := if res.rti then ({ r with cycles := r.cycles + 2 }).popRet else r.advance res
        let sat := res.writes.any (fun w => match w with
          | .flags _ (some l) => l.any id
          | _ => false)
        let r' := { r' with pend := r'.pend ++ res.writes.map (fun w => ⟨r.level, 2, w⟩),
                            satSeen := r'.satSeen || sat }
        let r' := match res.irq with
          | some src => r'.raiseIrq img src
          | none => r'
        if res.ended then s.endTask c r'
        else if t.budget ≤ r'.cycles then s.trapTask c r' trapOverrun
        else s.setCore c { x with run := some r' }

/-! ## Interrupts -/

/-- The pending interrupt that may be taken: the highest level above the running one (R405). -/
def NwtRun.eligible (r : NwtRun) : Option (Nat × Nat) :=
  (r.irqs.filter (fun q => decide (r.level < q.2))).foldl (fun (b : Option (Nat × Nat)) q =>
    match b with
    | none => some q
    | some p => if p.2 < q.2 then some q else some p) none

/-- Interrupt entry (R405): never between a branch and its delay slot; results in flight complete into
the old bank. -/
def State.nwtInterrupt (s : State) (c : Nat) : State :=
  match (s.core c).run with
  | none => s
  | some r =>
    match r.branch, r.eligible with
    | none, some q =>
      let (x, r) := drain (s.core c) r
      match x.task r.task with
      | none => s
      | some t =>
        let r := { r with irqs := r.irqs.erase q, ret := (r.level, r.pc) :: r.ret, level := q.2,
                          pc := irqEntry (s.image t.image) q.2, cycles := r.cycles + 2 }
        if t.budget ≤ r.cycles then (s.setCore c x).trapTask c r trapOverrun
        else s.setCore c { x with run := some r }
    | _, _ => s

/-- The TMR count of the running task expires (R399, R404). -/
def State.nwtTimer (s : State) (c : Nat) : State :=
  match (s.core c).run with
  | none => s
  | some r =>
    match r.timer, (s.core c).task r.task with
    | some _, some t =>
      s.setCore c { s.core c with run := some ({ r with timer := none }.raiseIrq (s.image t.image) 1) }
    | _, _ => s

/-- A trap the hardware finds outside an instruction's own checks (R397, R407): ECC, PARITY, OVERRUN. -/
def State.nwtTrap (s : State) (c code : Nat) : State :=
  match (s.core c).run with
  | none => s
  | some r => if 1 ≤ code ∧ code ≤ 8 then s.trapTask c r code else s

/-! ## Results by destination -/

/-- A result for a destination code (R394, R401): lanes into V, a scalar into S, at once into P, M, B, L.
`lanes` and `sc` are the vector and the scalar reading of the operation. -/
def NwtCtx.dest (x : NwtCtx) (d : BitVec 6) (lanes : List (BitVec 32 × Bool)) (sc : BitVec 32) : NwtRes :=
  if isVec d then
    { bank := x.bank, writes := [.vec d.toNat (lanes.map (·.1)), .flags none (some (lanes.map (·.2)))] }
  else if d.toNat < 32 then { bank := x.bank, writes := [.scalar (d.toNat - 16) sc] }
  else { bank := x.bank.setAddr d sc }

/-- A scalar operand; a V register there has no stated value (R399). -/
def NwtCtx.sc (x : NwtCtx) (code : BitVec 6) (k : Nat) : BitVec 32 := x.bank.scalar code ((x.free k).setWidth 32)

/-- A two-operand operation of R399 with its vector and its scalar form. -/
def alu2 (fv : BitVec 32 → BitVec 32 → BitVec 32 × Bool) (fs : BitVec 32 → BitVec 32 → BitVec 32)
    (i : NwtIns) (x : NwtCtx) : NwtRes :=
  x.dest i.dst (List.zipWith fv (x.bank.lanes i.sa) (x.bank.lanes i.sb)) (fs (x.sc i.sa 0) (x.sc i.sb 1))

/-- A one-operand operation of R399 with its vector and its scalar form. -/
def alu1 (fv : BitVec 32 → BitVec 32 × Bool) (fs : BitVec 32 → BitVec 32) (i : NwtIns) (x : NwtCtx) : NwtRes :=
  x.dest i.dst ((x.bank.lanes i.sa).map fv) (fs (x.sc i.sa 0))

/-- A lane operation that never saturates. -/
def noSat (f : BitVec 32 → BitVec 32 → BitVec 32) (a b : BitVec 32) : BitVec 32 × Bool := (f a b, false)

/-- Signed minimum. -/
def minQ31 (a b : BitVec 32) : BitVec 32 := if ltQ31 b a then b else a

/-- Signed maximum. -/
def maxQ31 (a b : BitVec 32) : BitVec 32 := if ltQ31 a b then b else a

/-- A branch to the target in IMM, taken after one delay slot (R399, R401). -/
def branchIf (p : NwtCtx → Bool) (i : NwtIns) (x : NwtCtx) : NwtRes :=
  { bank := x.bank, branch := if p x then some (bitsOf i.imm.toNat 12 0) else none }

/-- A load of `n` words (SLD 1, VLD 8, VLDB 1) with post-modify of Pa (R395, R396, R399). -/
def loadPost (n : Nat) (put : List (BitVec 32) → NwtCtx → NwtBank → NwtRes) (i : NwtIns) (x : NwtCtx) : NwtRes :=
  let a := x.bank.ptr (pIdx i.sa)
  match x.task.access false a n with
  | some code => x.trapped code
  | none => put (memWords x.mem a n) x (x.bank.bump (pIdx i.sa) (x.bank.modifier i))

/-- A store of words with post-modify of Pa (R395, R396, R399). -/
def storePost (l : List (BitVec 32)) (i : NwtIns) (x : NwtCtx) : NwtRes :=
  let a := x.bank.ptr (pIdx i.sa)
  match x.task.access true a l.length with
  | some code => x.trapped code
  | none => { bank := x.bank.bump (pIdx i.sa) (x.bank.modifier i), writes := [.mem a (wordBytes l)] }

/-- A multiply of lanes into Ak: `f old product` (R391, R399). -/
def mac (f : BitVec 80 → BitVec 80 → BitVec 80) (i : NwtIns) (x : NwtCtx) : NwtRes :=
  let k := i.ak.toNat
  let pr := List.zipWith mulQ31 (x.bank.lanes i.sa) (x.bank.lanes i.sb)
  { bank := x.bank, writes := [.acc k (List.zipWith f (x.macAcc k) pr) true] }

/-- Replace registers P`a` and P`b` after moves. -/
def bump2 (b : NwtBank) (a : Nat) (da : Int) (c : Nat) (dc : Int) : NwtBank := (b.bump a da).bump c dc

/-! ## Effects of the instructions (R399) -/

def nwtNop (_ : NwtIns) (x : NwtCtx) : NwtRes := { bank := x.bank }
def nwtBr : NwtIns → NwtCtx → NwtRes := branchIf (fun _ => true)
def nwtBrz (i : NwtIns) : NwtCtx → NwtRes := branchIf (fun x => x.sc i.sa 0 == 0) i
def nwtBrnz (i : NwtIns) : NwtCtx → NwtRes := branchIf (fun x => x.sc i.sa 0 != 0) i
def nwtBrn (i : NwtIns) : NwtCtx → NwtRes := branchIf (fun x => (x.sc i.sa 0).getLsbD 31) i

/-- CALL: S15 takes the index after the delay slot; the branch follows it. -/
def nwtCall (i : NwtIns) (x : NwtCtx) : NwtRes :=
  { bank := x.bank, branch := some (bitsOf i.imm.toNat 12 0),
    writes := [.scalar 15 (BitVec.ofNat 32 (x.run.pc + 2))] }

/-- RET: branch to S15; outside the image it traps (R408). -/
def nwtRet (_ : NwtIns) (x : NwtCtx) : NwtRes :=
  let t := (x.bank.sc.getD 15 0).toNat
  if imageLen x.img ≤ t then x.trapped trapProgBounds else { bank := x.bank, branch := some t }

/-- REP (R402): the register form counts Sa[15:0]; n of 0 continues after the end instruction. -/
def nwtRep (i : NwtIns) (x : NwtCtx) : NwtRes :=
  let n := if i.alt then (x.sc i.sa 0).toNat % 65536 else bitsOf i.imm.toNat 31 16
  let e := bitsOf i.imm.toNat 12 0
  if n = 0 then { bank := x.bank, jump := some (e + 1) }
  else if 4 ≤ x.bank.loops.length then x.trapped trapRepOvf
  else { bank := { x.bank with loops := (x.run.pc + 1, e, n) :: x.bank.loops }, jump := some (x.run.pc + 1) }

/-- BREAK (R403): the innermost loop is left; with no loop open nothing happens. -/
def nwtBreak (_ : NwtIns) (x : NwtCtx) : NwtRes :=
  match x.bank.loops with
  | (_, e, _) :: rest => { bank := { x.bank with loops := rest }, jump := some (e + 1) }
  | [] => { bank := x.bank }

def nwtSwi (_ : NwtIns) (x : NwtCtx) : NwtRes := { bank := x.bank, irq := some 2 }

/-- RETI (R405, R408): outside a handler BAD_RETI, to an index outside the image PROG_BOUNDS. -/
def nwtReti (_ : NwtIns) (x : NwtCtx) : NwtRes :=
  match x.run.ret with
  | [] => x.trapped trapBadReti
  | (_, pc) :: _ => if imageLen x.img ≤ pc then x.trapped trapProgBounds else { bank := x.bank, rti := true }

def nwtTend (_ : NwtIns) (x : NwtCtx) : NwtRes := { bank := x.bank, ended := true }

/-- TMR: the register form counts Sa cycles, else the immediate. -/
def nwtTmr (i : NwtIns) (x : NwtCtx) : NwtRes :=
  { bank := x.bank, timer := some (if i.alt then (x.sc i.sa 0).toNat else i.imm.toNat) }

def nwtSld (i : NwtIns) : NwtCtx → NwtRes :=
  loadPost 1 (fun l x b =>
    let v := l.headD 0
    { ({ x with bank := b }).dest i.dst (List.replicate 8 (v, false)) v with cycles := 1 }) i

def nwtSst (i : NwtIns) (x : NwtCtx) : NwtRes := storePost [x.sc i.dst 0] i x

def nwtVld (i : NwtIns) : NwtCtx → NwtRes :=
  loadPost 8 (fun l x b => ({ x with bank := b }).dest i.dst (l.map (fun v => (v, false))) (l.headD 0)) i

def nwtVst (i : NwtIns) (x : NwtCtx) : NwtRes := storePost (x.bank.lanes i.dst) i x

def nwtVldb (i : NwtIns) : NwtCtx → NwtRes :=
  loadPost 1 (fun l x b => ({ x with bank := b }).dest i.dst (List.replicate 8 (l.headD 0, false)) (l.headD 0)) i

/-- VLDS (R396): lane i from Pa + i × Mb, in ceil(m / 2) cycles. -/
def nwtVlds (i : NwtIns) (x : NwtCtx) : NwtRes :=
  let m := (x.bank.m.getD (i.sb.toNat % 8) 0).toInt
  let a := x.bank.ptr (pIdx i.sa)
  let addrs := (List.range 8).map (fun k => (BitVec.ofInt 18 ((a : Int) + k * m)).toNat)
  match addrs.findSome? (fun q => x.task.access false q 1) with
  | some code => x.trapped code
  | none =>
    let r := x.dest i.dst (addrs.map (fun q => (memWord x.mem q, false))) (memWord x.mem a)
    { r with cycles := ceilDiv (bankLoad addrs) 2 }

/-- AST (R399): eight lanes of 96 bits, sign-extended. -/
def nwtAst (i : NwtIns) (x : NwtCtx) : NwtRes :=
  let a := x.bank.ptr (pIdx i.sa)
  match x.task.access true a 24 with
  | some code => x.trapped code
  | none =>
    { bank := x.bank,
      writes := [.mem a ((x.bank.accOf i.ak.toNat).flatMap (fun v => leBytes 12 (v.signExtend 96).toNat))] }

/-- ALD (R399): the low 80 bits of each 96-bit lane. -/
def nwtAld (i : NwtIns) (x : NwtCtx) : NwtRes :=
  let a := x.bank.ptr (pIdx i.sa)
  match x.task.access false a 24 with
  | some code => x.trapped code
  | none =>
    let lane (k : Nat) : BitVec 80 :=
      let b := sgetMany zeroByte x.mem (a + 12 * k) 10
      BitVec.ofNat 80 (u64 b 0 + 18446744073709551616 * u16 b 8)
    { bank := x.bank, writes := [.acc i.ak.toNat ((List.range 8).map lane) false] }

def nwtMovi (i : NwtIns) (x : NwtCtx) : NwtRes := x.dest i.dst (List.replicate 8 (i.imm, false)) i.imm
def nwtMov (i : NwtIns) (x : NwtCtx) : NwtRes :=
  x.dest i.dst ((x.bank.lanes i.sa).map (fun v => (v, false))) (x.sc i.sa 0)

/-- PADD (R395): Pd takes Pa + imm, wrapped by the circular buffer of Pd. -/
def nwtPadd (i : NwtIns) (x : NwtCtx) : NwtRes :=
  let d := pIdx i.dst
  let b := { x.bank with p := x.bank.p.set d (x.bank.p.getD (pIdx i.sa) 0) }
  { bank := b.bump d i.imm.toInt }

def nwtAdd : NwtIns → NwtCtx → NwtRes := alu2 vAdd (· + ·)
def nwtSub : NwtIns → NwtCtx → NwtRes := alu2 vSub (· - ·)
def nwtAnd : NwtIns → NwtCtx → NwtRes := alu2 (noSat (· &&& ·)) (· &&& ·)
def nwtOr : NwtIns → NwtCtx → NwtRes := alu2 (noSat (· ||| ·)) (· ||| ·)
def nwtXor : NwtIns → NwtCtx → NwtRes := alu2 (noSat (· ^^^ ·)) (· ^^^ ·)
def nwtShl (i : NwtIns) : NwtCtx → NwtRes :=
  alu1 (fun a => vShl a i.imm.toNat) (fun a => a <<< min i.imm.toNat 32) i
def nwtShr (i : NwtIns) : NwtCtx → NwtRes :=
  alu1 (fun a => (sra a i.imm.toNat, false)) (fun a => sra a i.imm.toNat) i
def nwtAbs : NwtIns → NwtCtx → NwtRes := alu1 vAbs (fun a => if a.getLsbD 31 then 0 - a else a)
def nwtMin : NwtIns → NwtCtx → NwtRes := alu2 (noSat minQ31) minQ31
def nwtMax : NwtIns → NwtCtx → NwtRes := alu2 (noSat maxQ31) maxQ31
def nwtCmplt (i : NwtIns) (x : NwtCtx) : NwtRes :=
  { bank := x.bank, writes := [.flags (some (List.zipWith ltQ31 (x.bank.lanes i.sa) (x.bank.lanes i.sb))) none] }

/-- VSEL: CMP chooses Va, else Vb, lane by lane. -/
def nwtVsel (i : NwtIns) (x : NwtCtx) : NwtRes :=
  let l := List.zipWith (fun (c : Bool) (p : BitVec 32 × BitVec 32) => if c then p.1 else p.2) x.bank.cmp
    (List.zip (x.bank.lanes i.sa) (x.bank.lanes i.sb))
  x.dest i.dst (l.map (fun v => (v, false))) (l.headD 0)

def nwtVmul : NwtIns → NwtCtx → NwtRes := mac (fun _ p => p)
def nwtVmac : NwtIns → NwtCtx → NwtRes := mac (· + ·)
def nwtVmsb : NwtIns → NwtCtx → NwtRes := mac (· - ·)

/-- VMACM: Va times one word of memory; Pb moves by 4. -/
def nwtVmacm (i : NwtIns) (x : NwtCtx) : NwtRes :=
  let q := pIdx i.sb
  let a := x.bank.ptr q
  match x.task.access false a 1 with
  | some code => x.trapped code
  | none =>
    let w := memWord x.mem a
    let k := i.ak.toNat
    { bank := x.bank.bump q 4,
      writes := [.acc k (List.zipWith (fun o v => o + mulQ31 v w) (x.macAcc k) (x.bank.lanes i.sa)) true] }

/-- FTAP (R400). -/
def nwtFtap (i : NwtIns) (x : NwtCtx) : NwtRes :=
  let pa := pIdx i.sa
  let pb := pIdx i.sb
  let a := x.bank.ptr pa
  let q := x.bank.ptr pb
  match ((x.task.access false a 8).orElse fun _ => x.task.access false q 1).orElse
      fun _ => x.task.access true (a + 32) 8 with
  | some code => x.trapped code
  | none =>
    let k := i.ak.toNat
    let w := memWord x.mem q
    let l := memWords x.mem a 8
    { bank := bump2 x.bank pa (-32) pb 4,
      writes := [.acc k (List.zipWith (fun o v => o + mulQ31 v w) (x.macAcc k) l) true,
                 .mem (a + 32) (wordBytes l)] }

def nwtAclr (i : NwtIns) (x : NwtCtx) : NwtRes :=
  { bank := x.bank, writes := [.acc i.ak.toNat (List.replicate 8 0) false] }
def nwtRnd (i : NwtIns) (x : NwtCtx) : NwtRes :=
  let l := (x.bank.accOf i.ak.toNat).map rndLane
  x.dest i.dst l ((l.map (·.1)).headD 0)

/-- ASHF: a shift outside −32 to +32 has no stated result, so each lane is a free value. -/
def nwtAshf (i : NwtIns) (x : NwtCtx) : NwtRes :=
  let n := i.imm.toInt
  let k := i.ak.toNat
  let l := if -32 ≤ n ∧ n ≤ 32 then (x.bank.accOf k).map (fun a => ashfLane a n)
    else (List.range 8).map (fun j => (x.free j, false))
  { bank := x.bank, writes := [.acc k (l.map (·.1)) false, .flags none (some (l.map (·.2)))] }

/-- EXP (R393): the accumulator form counts Ak's lanes. -/
def nwtExp (i : NwtIns) (x : NwtCtx) : NwtRes :=
  if i.alt then
    let l := (x.bank.accOf i.ak.toNat).map (fun a => BitVec.ofInt 32 (expAcc a))
    x.dest i.dst (l.map (fun v => (v, false))) (l.headD 0)
  else alu1 (fun a => (BitVec.ofNat 32 (expWord a), false)) (fun a => BitVec.ofNat 32 (expWord a)) i x

/-- NORM (R393): the accumulator form shifts Ak and writes e to Vd. -/
def nwtNorm (i : NwtIns) (x : NwtCtx) : NwtRes :=
  if i.alt then
    let a := x.bank.accOf i.ak.toNat
    let e := a.map (fun v => BitVec.ofInt 32 (expAcc v))
    let r := x.dest i.dst (e.map (fun v => (v, false))) (e.headD 0)
    { r with writes := r.writes ++ [.acc i.ak.toNat (a.map normAcc) false] }
  else alu1 (fun a => (normWord a, false)) normWord i x

end Sys2Proof.Machine

/-! ## The meanings, one per row of the table (R399) -/

namespace Sys2Proof.Machine

/-- NOP on core `c`. -/
def execNop (c : Nat) (i : NwtIns) (s : State) : Host.Outcome State Fault Refusal :=
  runEff (fun s => s.newt c i.corr (nwtNop i)) s

/-- BR on core `c`. -/
def execBr (c : Nat) (i : NwtIns) (s : State) : Host.Outcome State Fault Refusal :=
  runEff (fun s => s.newt c i.corr (nwtBr i)) s

/-- BRZ on core `c`. -/
def execBrz (c : Nat) (i : NwtIns) (s : State) : Host.Outcome State Fault Refusal :=
  runEff (fun s => s.newt c i.corr (nwtBrz i)) s

/-- BRNZ on core `c`. -/
def execBrnz (c : Nat) (i : NwtIns) (s : State) : Host.Outcome State Fault Refusal :=
  runEff (fun s => s.newt c i.corr (nwtBrnz i)) s

/-- BRN on core `c`. -/
def execBrn (c : Nat) (i : NwtIns) (s : State) : Host.Outcome State Fault Refusal :=
  runEff (fun s => s.newt c i.corr (nwtBrn i)) s

/-- CALL on core `c`. -/
def execCall (c : Nat) (i : NwtIns) (s : State) : Host.Outcome State Fault Refusal :=
  runEff (fun s => s.newt c i.corr (nwtCall i)) s

/-- RET on core `c`. -/
def execRet (c : Nat) (i : NwtIns) (s : State) : Host.Outcome State Fault Refusal :=
  runEff (fun s => s.newt c i.corr (nwtRet i)) s

/-- REP on core `c`. -/
def execRep (c : Nat) (i : NwtIns) (s : State) : Host.Outcome State Fault Refusal :=
  runEff (fun s => s.newt c i.corr (nwtRep i)) s

/-- BREAK on core `c`. -/
def execBreak (c : Nat) (i : NwtIns) (s : State) : Host.Outcome State Fault Refusal :=
  runEff (fun s => s.newt c i.corr (nwtBreak i)) s

/-- SWI on core `c`. -/
def execSwi (c : Nat) (i : NwtIns) (s : State) : Host.Outcome State Fault Refusal :=
  runEff (fun s => s.newt c i.corr (nwtSwi i)) s

/-- RETI on core `c`. -/
def execReti (c : Nat) (i : NwtIns) (s : State) : Host.Outcome State Fault Refusal :=
  runEff (fun s => s.newt c i.corr (nwtReti i)) s

/-- TEND on core `c`. -/
def execTend (c : Nat) (i : NwtIns) (s : State) : Host.Outcome State Fault Refusal :=
  runEff (fun s => s.newt c i.corr (nwtTend i)) s

/-- TMR on core `c`. -/
def execTmr (c : Nat) (i : NwtIns) (s : State) : Host.Outcome State Fault Refusal :=
  runEff (fun s => s.newt c i.corr (nwtTmr i)) s

/-- SLD on core `c`. -/
def execSld (c : Nat) (i : NwtIns) (s : State) : Host.Outcome State Fault Refusal :=
  runEff (fun s => s.newt c i.corr (nwtSld i)) s

/-- SST on core `c`. -/
def execSst (c : Nat) (i : NwtIns) (s : State) : Host.Outcome State Fault Refusal :=
  runEff (fun s => s.newt c i.corr (nwtSst i)) s

/-- VLD on core `c`. -/
def execVld (c : Nat) (i : NwtIns) (s : State) : Host.Outcome State Fault Refusal :=
  runEff (fun s => s.newt c i.corr (nwtVld i)) s

/-- VST on core `c`. -/
def execVst (c : Nat) (i : NwtIns) (s : State) : Host.Outcome State Fault Refusal :=
  runEff (fun s => s.newt c i.corr (nwtVst i)) s

/-- VLDB on core `c`. -/
def execVldb (c : Nat) (i : NwtIns) (s : State) : Host.Outcome State Fault Refusal :=
  runEff (fun s => s.newt c i.corr (nwtVldb i)) s

/-- VLDS on core `c`. -/
def execVlds (c : Nat) (i : NwtIns) (s : State) : Host.Outcome State Fault Refusal :=
  runEff (fun s => s.newt c i.corr (nwtVlds i)) s

/-- AST on core `c`. -/
def execAst (c : Nat) (i : NwtIns) (s : State) : Host.Outcome State Fault Refusal :=
  runEff (fun s => s.newt c i.corr (nwtAst i)) s

/-- ALD on core `c`. -/
def execAld (c : Nat) (i : NwtIns) (s : State) : Host.Outcome State Fault Refusal :=
  runEff (fun s => s.newt c i.corr (nwtAld i)) s

/-- MOVI on core `c`. -/
def execMovi (c : Nat) (i : NwtIns) (s : State) : Host.Outcome State Fault Refusal :=
  runEff (fun s => s.newt c i.corr (nwtMovi i)) s

/-- MOV on core `c`. -/
def execMov (c : Nat) (i : NwtIns) (s : State) : Host.Outcome State Fault Refusal :=
  runEff (fun s => s.newt c i.corr (nwtMov i)) s

/-- PADD on core `c`. -/
def execPadd (c : Nat) (i : NwtIns) (s : State) : Host.Outcome State Fault Refusal :=
  runEff (fun s => s.newt c i.corr (nwtPadd i)) s

/-- ADD on core `c`. -/
def execAdd (c : Nat) (i : NwtIns) (s : State) : Host.Outcome State Fault Refusal :=
  runEff (fun s => s.newt c i.corr (nwtAdd i)) s

/-- SUB on core `c`. -/
def execSub (c : Nat) (i : NwtIns) (s : State) : Host.Outcome State Fault Refusal :=
  runEff (fun s => s.newt c i.corr (nwtSub i)) s

/-- AND on core `c`. -/
def execAnd (c : Nat) (i : NwtIns) (s : State) : Host.Outcome State Fault Refusal :=
  runEff (fun s => s.newt c i.corr (nwtAnd i)) s

/-- OR on core `c`. -/
def execOr (c : Nat) (i : NwtIns) (s : State) : Host.Outcome State Fault Refusal :=
  runEff (fun s => s.newt c i.corr (nwtOr i)) s

/-- XOR on core `c`. -/
def execXor (c : Nat) (i : NwtIns) (s : State) : Host.Outcome State Fault Refusal :=
  runEff (fun s => s.newt c i.corr (nwtXor i)) s

/-- SHL on core `c`. -/
def execShl (c : Nat) (i : NwtIns) (s : State) : Host.Outcome State Fault Refusal :=
  runEff (fun s => s.newt c i.corr (nwtShl i)) s

/-- SHR on core `c`. -/
def execShr (c : Nat) (i : NwtIns) (s : State) : Host.Outcome State Fault Refusal :=
  runEff (fun s => s.newt c i.corr (nwtShr i)) s

/-- ABS on core `c`. -/
def execAbs (c : Nat) (i : NwtIns) (s : State) : Host.Outcome State Fault Refusal :=
  runEff (fun s => s.newt c i.corr (nwtAbs i)) s

/-- MIN on core `c`. -/
def execMin (c : Nat) (i : NwtIns) (s : State) : Host.Outcome State Fault Refusal :=
  runEff (fun s => s.newt c i.corr (nwtMin i)) s

/-- MAX on core `c`. -/
def execMax (c : Nat) (i : NwtIns) (s : State) : Host.Outcome State Fault Refusal :=
  runEff (fun s => s.newt c i.corr (nwtMax i)) s

/-- CMPLT on core `c`. -/
def execCmplt (c : Nat) (i : NwtIns) (s : State) : Host.Outcome State Fault Refusal :=
  runEff (fun s => s.newt c i.corr (nwtCmplt i)) s

/-- VSEL on core `c`. -/
def execVsel (c : Nat) (i : NwtIns) (s : State) : Host.Outcome State Fault Refusal :=
  runEff (fun s => s.newt c i.corr (nwtVsel i)) s

/-- VMUL on core `c`. -/
def execVmul (c : Nat) (i : NwtIns) (s : State) : Host.Outcome State Fault Refusal :=
  runEff (fun s => s.newt c i.corr (nwtVmul i)) s

/-- VMAC on core `c`. -/
def execVmac (c : Nat) (i : NwtIns) (s : State) : Host.Outcome State Fault Refusal :=
  runEff (fun s => s.newt c i.corr (nwtVmac i)) s

/-- VMSB on core `c`. -/
def execVmsb (c : Nat) (i : NwtIns) (s : State) : Host.Outcome State Fault Refusal :=
  runEff (fun s => s.newt c i.corr (nwtVmsb i)) s

/-- VMACM on core `c`. -/
def execVmacm (c : Nat) (i : NwtIns) (s : State) : Host.Outcome State Fault Refusal :=
  runEff (fun s => s.newt c i.corr (nwtVmacm i)) s

/-- FTAP on core `c`. -/
def execFtap (c : Nat) (i : NwtIns) (s : State) : Host.Outcome State Fault Refusal :=
  runEff (fun s => s.newt c i.corr (nwtFtap i)) s

/-- ACLR on core `c`. -/
def execAclr (c : Nat) (i : NwtIns) (s : State) : Host.Outcome State Fault Refusal :=
  runEff (fun s => s.newt c i.corr (nwtAclr i)) s

/-- RND on core `c`. -/
def execRnd (c : Nat) (i : NwtIns) (s : State) : Host.Outcome State Fault Refusal :=
  runEff (fun s => s.newt c i.corr (nwtRnd i)) s

/-- ASHF on core `c`. -/
def execAshf (c : Nat) (i : NwtIns) (s : State) : Host.Outcome State Fault Refusal :=
  runEff (fun s => s.newt c i.corr (nwtAshf i)) s

/-- EXP on core `c`. -/
def execExp (c : Nat) (i : NwtIns) (s : State) : Host.Outcome State Fault Refusal :=
  runEff (fun s => s.newt c i.corr (nwtExp i)) s

/-- NORM on core `c`. -/
def execNorm (c : Nat) (i : NwtIns) (s : State) : Host.Outcome State Fault Refusal :=
  runEff (fun s => s.newt c i.corr (nwtNorm i)) s

/-- NWT_TRAP: a trap found outside an instruction (R397, R407, R408). -/
def execNwtTrap (c code : Nat) (s : State) : Host.Outcome State Fault Refusal :=
  runEff (fun s => s.nwtTrap c code) s

/-- NWT_INTERRUPT: core `c` takes its pending interrupt (R405). -/
def execNwtInterrupt (c : Nat) (s : State) : Host.Outcome State Fault Refusal :=
  runEff (fun s => s.nwtInterrupt c) s

/-- NWT_TIMER_EXPIRY: the TMR count of core `c` expires (R399). -/
def execNwtTimerExpiry (c : Nat) (s : State) : Host.Outcome State Fault Refusal :=
  runEff (fun s => s.nwtTimer c) s

end Sys2Proof.Machine
end

