-- ==== Sys2Proof/Machine/Egress.lean ====
section
/-! DEFINITION. Egress (chapter 10): admission to the Shakeouts, delivery of tiles, output frames and their packets,
test sources, and the output commands of family 0x01xx. -/

namespace Sys2Proof.Machine

/-! ## Shakeout admission (R294 to R296) -/

/-- Packets per row of an ST 2110-20 output (R149). -/
def rowPackets (l maxp : Nat) : Nat := ceilDiv l (max 1 maxp)

/-- Bits of a packet with its headers, FCS, preamble and gap (R154, R296): `pl` bytes follow the RTP header. -/
def packetBits (tagged : Bool) (pl : Nat) : Nat := 8 * (frameOverhead tagged + 12 + pl)

/-- Packets per frame of an output (R310): rows × packets per row, or the datagrams of ST 2022-6. -/
def framePackets (f : Fmt) (kind l rows maxp : Nat) : Nat :=
  if kind = 3 then datagrams2022 f else rows * rowPackets l maxp

/-- A sender's wire rate in Mb/s (R154, R296). -/
def senderMbps (f : Fmt) (kind l rows maxp : Nat) (tagged : Bool) : Nat :=
  let bits := if kind = 3 then datagrams2022 f * packetBits tagged 1384
    else rows * (l * 8 + rowPackets l maxp * packetBits tagged 8)
  ceilDiv (bits * f.num) (f.den * 1000000)

/-- The wire rate of an ANC sender in Mb/s: one tile of payload a frame. -/
def ancMbps (f : Fmt) (maxp : Nat) (tagged : Bool) : Nat :=
  ceilDiv ((tilePayload * 8 + rowPackets tilePayload maxp * packetBits tagged 8) * f.num) (f.den * 1000000)

namespace State

/-- Bytes of an output's frame. -/
def outBytes (o : VOut) : Nat := rowBytes o.sampling o.width * o.height

/-- Video outputs bound to Shakeout `u`. -/
def shkVideo (s : State) (u : Nat) : List VOut :=
  s.shk.vouts.filter (fun o => s.fld F.SHK_FLOW_CFG_SHAKEOUT (o.flow - 0x800) == u)

/-- ANC outputs bound to Shakeout `u`. -/
def shkAnc (s : State) (u : Nat) : List AncOut := s.shk.ancOuts.filter (fun o => o.shakeout == u)

/-- Read rate of a Shakeout in units of 10 Mb/s (R296): an ANC output counts its source's ANC tiles. -/
def shkRate (s : State) (u : Nat) : Nat :=
  rate10 ((s.shkVideo u).map (fun o => match fmtOf o.format with
    | some f => tileBits (tilesPerFrame o.sampling o.width o.height) f
    | none => 0) ++
    (s.shkAnc u).map (fun o => match s.compileFmt o.dom with
    | some f => tileBits ((o.source.map s.ancTpf).getD 0) f
    | none => 0))

/-- Packet output of a Shakeout on a path in units of 10 Mb/s (R296). -/
def shkPackets (s : State) (u path : Nat) : Nat :=
  let flows := (s.shkVideo u).map VOut.flow ++ (s.shkAnc u).map AncOut.flow ++ (s.unitStreams false u).map AStream.ident
  ceilDiv (((s.mac.templates.filter (fun t => t.path == path && flows.contains t.flow)).map TxTemplate.rateMbps).foldl
    (· + ·) 0) 10

/-- SDI outputs of a Shakeout; a quad-link counts 4 (R295). -/
def shkSdi (s : State) (u : Nat) : Nat :=
  ((s.shkVideo u).map s.outLinks).foldl (· + ·) 0

/-- The largest number of bytes an output holds read and not yet sent (R296). -/
def stageBytes (s : State) (o : VOut) : Nat :=
  match s.compileFmt o.dom, fmtOf o.format with
  | some f, some g =>
    let n := o.flow - 0x800
    let l := rowBytes o.sampling o.width
    match s.outL0 f o 0 with
    | none => outBytes o
    | some l0 =>
      let tro := if s.flag F.SHK_FLOW_CFG_TRO_EN n then some (s.fld F.SHK_FLOW_CFG_TRO n) else none
      let sends := (List.range o.height).map (fun a =>
        sendSlot f g (s.fld F.SHK_FLOW_CFG_KIND n) (s.flag F.SHK_FLOW_CFG_PACING n) tro o.height a)
      (List.range o.height).foldl (fun m a =>
        let now := (l0 + a - 1) * 256
        let sent := (sends.filter (fun x => decide (x ≤ now))).length * l
        let got := min (ceilDiv ((a + 1) * l) tilePayload * tilePayload) (outBytes o)
        max m (got - sent)) 0
  | _, _ => 0

/-- Staging of a Shakeout in bytes. -/
def shkStage (s : State) (u : Nat) : Nat := ((s.shkVideo u).map s.stageBytes).foldl (· + ·) 0

/-- The Shakeout table of R295 for unit `u`. -/
def shkCheck (s : State) (u : Nat) : Option RefRec :=
  rowCheck 0x0202 [(21250, s.shkRate u), (21250, s.shkPackets u 0), (21250, s.shkPackets u 1), (64, (s.shkVideo u).length),
    (32, (s.shkAnc u).length), (128, (s.unitStreams false u).length), (32, s.shkSdi u), (4194304, s.shkStage u)]

/-- SHK_UNIT_STAT and SHK_UNIT_LOAD of a unit, recounted. -/
def shkUse (s : State) (u : Nat) : State :=
  let (nv, na, ns) := ((s.shkVideo u).length, (s.shkAnc u).length, (s.unitStreams false u).length)
  let s := ((s.setFld F.SHK_UNIT_STAT_VIDEO_FLOWS nv u).setFld F.SHK_UNIT_STAT_ANC_FLOWS na u).setFld
    F.SHK_UNIT_STAT_AUDIO_STREAMS ns u
  let s := s.setFlag F.SHK_UNIT_STAT_IN_SERVICE (decide (0 < nv + na + ns)) u
  (s.setFld F.SHK_UNIT_LOAD_READ_RATE (s.shkRate u) u).setFld F.SHK_UNIT_LOAD_BUF_USED (ceilDiv (s.shkStage u) 1024) u

/-! ## Output frames (R298, R301, R312, R319) -/

/-- Replace a video output's record. -/
def setVout (s : State) (o : VOut) : State :=
  { s with shk := { s.shk with vouts := s.shk.vouts.map (fun x => if x.flow == o.flow then o else x) } }

/-- Replace an ANC output's record. -/
def setAncOut (s : State) (o : AncOut) : State :=
  { s with shk := { s.shk with ancOuts := s.shk.ancOuts.map (fun x => if x.flow == o.flow then o else x) } }

/-- The route of an output in the active bank. -/
def activeRoute (s : State) (d out : Nat) : Option Route := (s.activeBank d).routes.find? (fun r => r.out == out)

/-- The RTP timestamp of an output frame (R312): floor(S × C) + TS_OFS, with S the frame start of R65. -/
def frameTs (s : State) (d frame rate ofs : Nat) : Nat :=
  match s.domFmt d with
  | none => 0
  | some f =>
    let num : Int := (frame * f.den * 1000000000 : Nat) + s.sfld F.REF_RAS_OFS_OFS d * f.num
    let t : Int := num * rate / ((f.num * 1000000000 : Nat) : Int)
    ((t + ofs) % 4294967296).toNat

/-- Whether an output runs at half its domain's frame rate (R161). -/
def halfOut (s : State) (o : VOut) : Bool :=
  match fmtOf o.format, s.domFmt o.dom with
  | some a, some b => halfRate a b
  | _, _ => false

/-- EGRESS_LOOP drives the unit of this kind and number (R518). -/
def looping (s : State) (kind unit : Nat) : Bool :=
  s.sys.mode == .proof && s.twn.loop.any (fun x => x.kind == kind && x.unit == unit)

/-- Whether an SDI or tributary output leaves the device (R319). -/
def sdiSends (s : State) (o : VOut) : Bool :=
  let n := o.flow - 0x800
  let k := s.fld F.SHK_FLOW_CFG_KIND n
  let test := s.flag F.SHK_FLOW_CFG_TEST_TX n &&
    (s.activeRoute o.dom o.flow).any (fun r => decide (0x4100 ≤ r.src ∧ r.src ≤ 0x41FF))
  let lane := if k = 0 then (List.range (s.outLinks o)).all (fun i => s.flag F.SLN_LANE_CFG_TX_EN (s.fld F.SHK_FLOW_CFG_PORT n + i))
    else true
  lane && (match s.sys.mode with
    | .pour => true
    | .hold => k == 0 && s.flag F.SHK_FLOW_CFG_HOLD_DRIVE n
    | .melt => test
    | .proof => test || s.looping k (if k = 0 then s.fld F.SHK_FLOW_CFG_PORT n else s.fld F.SHK_FLOW_CFG_LINK n)
    | _ => false)

/-- Whether an output's packets leave now: any of its templates' MACs sends descriptors. -/
def ipSends (s : State) (f : Nat) : Bool :=
  s.mac.templates.any (fun t => t.flow == f && (s.macSends t.mac true || s.looping 2 t.mac))

/-- Whether an output leaves through a Sprue tributary. -/
def isTrib (s : State) (o : VOut) : Bool := s.fld F.SHK_FLOW_CFG_KIND (o.flow - 0x800) == 1

/-- Whether an output is an SDI word stream (R294). -/
def isSdi (s : State) (o : VOut) : Bool := decide (s.fld F.SHK_FLOW_CFG_KIND (o.flow - 0x800) < 2)

/-- The line from which an SDI output's frame is sent: it starts at the first EAV after entry into the mode that sends it (R308,
R320). -/
def sdiFrom (s : State) (o : VOut) (fr : Nat) : Option Nat :=
  if !s.sdiSends o then none
  else match s.lane.tx.find? (fun x => x.flow == o.flow) with
    | none => none
    | some x => if x.frame < fr then some 1 else if x.frame = fr then some x.line else none

/-- A line of domain `d` begins: the EAV of the SDI outputs, 256 ns later (R298), from which one that starts to send carries data
(R308, R320). -/
def tribOpen (s : State) (d : Nat) : State :=
  let r := s.rasOf d
  let mine := s.shk.vouts.filter (fun o => o.dom == d && s.isSdi o)
  let new := mine.filter (fun o => s.sdiSends o && !s.lane.tx.any (fun x => x.flow == o.flow))
  let off := (mine.filter (fun o => !s.sdiSends o)).map VOut.flow
  { s with lane := { s.lane with tx := s.lane.tx.filter (fun x => !off.contains x.flow) ++ new.map (fun o => (⟨o.flow, s.tick + 256, r.frameN, r.line, 0⟩ : TribTx)) } }

/-- Tiles of an output's frame as delivered. -/
def outTiles (s : State) (f frame : Nat) (anc : Bool) : List StagedTile :=
  s.shk.staging.filter (fun t => t.flow == f && t.frame == frame && t.anc == anc)

/-- Row `a` of an output's frame: a pipe's row (R327), or the delivered tiles with black where R301 gives it. -/
def outRow (s : State) (o : VOut) (frame a : Nat) : Bytes :=
  let l := rowBytes o.sampling o.width
  match s.pipeLive o.flow with
  | some p => s.pipeRow p frame o.sampling o.width a
  | none => stagedBytes (s.outTiles o.flow frame false) (fun i => blackByte o.sampling (i % max 1 l)) (a * l) l

/-- Line number, horizontal offset and width in words of a stored ancillary packet. -/
def ancSpan (p : Bytes) : Nat × Nat × Nat := (beField p 1 11, beField p 12 12, 7 + beField p 54 8)

/-- The packets inserted, in order: one that collides with an earlier one, or that `bad` keeps from its place, is omitted
(R305). -/
def ancPlace (bad : Nat × Nat × Nat → Bool) : List (Nat × Nat × Nat) → List Bytes → List Bytes
  | _, [] => []
  | done, p :: ps =>
    let x := ancSpan p
    if bad x || done.any (fun y => y.1 == x.1 && decide (x.2.1 < y.2.1 + y.2.2) && decide (y.2.1 < x.2.1 + x.2.2)) then
      ancPlace bad done ps
    else p :: ancPlace bad (x :: done) ps

/-- Whether a stored ancillary packet is ATC timecode: DID and SDID 0x60 of ST 12-2 (PRESUMED, log entry 119). -/
def isAtc (p : Bytes) : Bool := beField p 34 8 == 0x60 && beField p 44 8 == 0x60

/-- The time of a generated timecode (R306): the frame's start in the domain's aligned time plus TC_OFS, in ns. -/
def atcTime (s : State) (o : VOut) (fr : Nat) : Option Int :=
  match s.domFmt o.dom with
  | some f =>
    if s.fld F.SHK_FLOW_CFG_TC_MODE (o.flow - 0x800) = 1 then
      some ((fr * f.den * 1000000000 / f.num : Nat) + s.sfld F.REF_RAS_OFS_OFS o.dom +
        1000000000 * s.sfld F.SHK_FLOW_CFG_TC_OFS (o.flow - 0x800))
    else none
  | none => none

/-- The ANC bytes delivered for an output's frame, concealed tiles omitted (R206, R301). -/
def ancBytes (s : State) (f frame : Nat) : Bytes :=
  (s.outTiles f frame true).flatMap (fun t => if t.conceal || t.fill then [] else t.bytes)

/-- The first 48 kHz position at or after the start of frame `frame` of domain `d` by R65, from the PTP epoch. -/
def framePos (s : State) (d frame : Nat) : Nat :=
  match s.domFmt d with
  | none => 0
  | some f =>
    let num : Int := (frame * f.den * 1000000000 : Nat) + s.sfld F.REF_RAS_OFS_OFS d * f.num
    (-((-(num * 48000)) / ((f.num * 1000000000 : Nat) : Int))).toNat

/-- The embed map in force on an output (R374). -/
def embedMap (s : State) (f : Nat) : Option EmbMap := s.aud.maps.find? (fun m => m.flow == f && m.embed && !m.due)

/-- The audio an output embeds in frame `fr`: the samples of its frame period from the map's position on, a missing one
as zero with the validity bit set (R304, R374). -/
def embAudio (s : State) (o : VOut) (fr : Nat) : List (Nat × Bool × List (BitVec 32)) :=
  match s.embedMap o.flow with
  | none => []
  | some m =>
    let n := s.framePos o.dom (fr + 1) - s.framePos o.dom fr
    let p0 := m.nextPos.getD 0
    m.entries.map (fun e =>
      let l := (List.range n).map (fun j =>
        match m.buf.find? (fun b => b.1 == (p0 + j) / 3 && b.2.1 == e.1) with
        | some b => (b.2.2.1, b.2.2.2.getD ((p0 + j) % 3) 0)
        | none => (true, 0))
      (e.1, l.any (·.1), l.map (·.2)))

/-- The embed position of the frame that starts now (R374, R375): a map that waited takes effect; the position follows
the frames' sample counts, and a drift of more than one block from the media clock drops or repeats one. -/
def embedStart (s : State) (o : VOut) (fr : Nat) : State :=
  let s := if s.aud.maps.any (fun m => m.flow == o.flow && m.embed && m.due) then
      { s with aud := { s.aud with maps := (s.aud.maps.filter (fun m => !(m.flow == o.flow && m.embed && !m.due))).map (fun m =>
        if m.flow == o.flow && m.embed then { m with due := false } else m) } }
    else s
  match s.embedMap o.flow with
  | none => s
  | some m =>
    let nominal := s.mediaNs * 3 / 62500 - 3 * m.embDly
    let next := match m.nextPos, o.begun with
      | some p, some b => p + (s.framePos o.dom (b + 1) - s.framePos o.dom b)
      | _, _ => nominal
    let ahead := decide (nominal + 3 < next)
    let behind := decide (next + 3 < nominal)
    let far := decide (nominal + 160 < next) || decide (next + 160 < nominal)
    let slip := (ahead || behind) && !m.srcEn && !far
    let p := if far then nominal else if !slip then next else if ahead then next - 3 else next + 3
    let set (x : EmbMap) : EmbMap := if x.flow == o.flow && x.embed then
      { x with nextPos := some p, slips := if slip then x.slips + 1 else x.slips } else x
    let s := { s with aud := { s.aud with maps := s.aud.maps.map set } }
    if slip then (s.event blkAud 1 0x0102 [o.flow, fr]).raise fltAudSlip [o.flow] else s

/-- EGRESS_LOOP (R518): the freeze signature of an output frame the loop drove goes to the partner, for LOOP_FRAMES frames of
each output; the kind 8 is a loop signature. -/
def loopSign (s : State) (o : VOut) (fr : Nat) (driven : Bool) : State :=
  match s.twn.loop with
  | none => s
  | some x =>
    let n := ((x.sent.find? (fun p => p.1 == o.flow)).map (·.2)).getD 0
    if !driven || s.fld F.TWN_CFG_LOOP_FRAMES ≤ n then s
    else
      let sig := crc32c ((List.range o.height).flatMap (fun a => s.outRow o fr a))
      let l := upsert (fun (p : Nat × Nat) => p.1 == o.flow) (o.flow, n + 1) x.sent
      let s : State := { s with twn := { s.twn with loop := some { x with sent := l } } }
      s.aksSend aksSign s.sys.epoch (leBytes 4 (fr % 4294967296) ++ leBytes 4 sig.toNat)

/-- Whether EGRESS_LOOP drives an output: its S-lane, its link, or a MAC of its templates. -/
def loopDrives (s : State) (o : VOut) : Bool :=
  let n := o.flow - 0x800
  match s.fld F.SHK_FLOW_CFG_KIND n with
  | 0 => s.looping 0 (s.fld F.SHK_FLOW_CFG_PORT n)
  | 1 => s.looping 1 (s.fld F.SHK_FLOW_CFG_LINK n)
  | _ => s.mac.templates.any (fun t => t.flow == o.flow && s.looping 2 t.mac)

/-- The frame an SDI output has completed leaves (R298, R307): its rows, with fill content where R301 gives it, its ancillary
packets and its timecode (R305, R306). -/
def sdiFinish (s : State) (o : VOut) : State :=
  match o.begun with
  | none => s
  | some fr =>
    let tc := if o.silent then none else s.atcTime o fr
    let anc := (ancPackets (s.ancBytes o.flow fr) 65536).filter (fun p => !(tc.isSome && isAtc p))
    let kept := if o.silent then [] else ancPlace (Config.ancBlocked o.format tc.isSome) [] anc
    let drop := if o.silent then 0 else anc.length - kept.length
    let s := (s.addFld F.SHK_FLOW_CNT_ANC_OUT_DROP drop (o.flow - 0x800)).loopSign o fr (s.loopDrives o)
    let audio := (s.embAudio o fr).map (fun e => if o.silent then (e.1, true, e.2.2.map (fun _ => 0)) else e)
    match s.sdiFrom o fr with
    | none => s
    | some l =>
      s.emit (.sdi o.flow (fr % 4294967296) (s.flag F.SHK_FLOW_STAT_FILL (o.flow - 0x800)) l
        ((List.range o.height).flatMap (fun a => s.outRow o fr a)) audio kept tc)

/-- The frames that the SDI outputs of a domain have in progress end, where no FRAME_START follows (R69, R261). -/
def lastFrames (s : State) (d : Nat) : State :=
  (s.domOuts d).foldl (fun (s : State) o => if s.isSdi o then (s.sdiFinish o).setVout { o with begun := none } else s) s

/-- A Shakeout's spare at an output's FRAME_START (R316): the first begins the frame compared, the next one moves the output. -/
def shkSpare (s : State) (f : Nat) : State :=
  match s.vout f with
  | none => s
  | some o =>
    match o.spare with
    | none => s
    | some (sp, none) => s.setVout { o with spare := some (sp, some (s.rasOf o.dom).frameN) }
    | some (sp, some _) =>
      let u := s.fld F.SHK_FLOW_CFG_SHAKEOUT (f - 0x800)
      (((s.setVout { o with spare := none }).setFld F.SHK_FLOW_CFG_SHAKEOUT sp (f - 0x800)).shkUse u).shkUse sp

/-- The source whose tiles the coming frame shows as black: a source in LOSS under LOSS_ACT (R301). -/
def lossBlack (s : State) (o : VOut) (src : Option Nat) (run : Nat) : Option Nat :=
  let n := o.flow - 0x800
  match src with
  | none => none
  | some f =>
    if f < 0x800 ∧ s.flag F.LAD_FLOW_STAT_LOSS f then
      match s.fld F.SHK_FLOW_CFG_LOSS_ACT n with
      | 1 => some f
      | 2 => if s.fld F.SHK_FLOW_CFG_LOSS_HOLD n < run then some f else none
      | _ => none
    else none

/-- A standby adopts the active's sequence numbers at an output's FRAME_START (R314). -/
def seqResync (s : State) (f : Nat) : State :=
  match s.shk.seqAdopt.find? (fun x => x.1 == f) with
  | none => s
  | some x =>
    let s := { s with shk := { s.shk with seqAdopt := s.shk.seqAdopt.filter (fun y => y.1 != f) } }
    let l := s.mac.templates.map (fun (t : TxTemplate) =>
      if t.flow == f then { t with rtpSeq := (t.rtpSeq + x.2) % 65536,
                                   extSeq := (t.extSeq + (t.rtpSeq + x.2) / 65536) % 65536 } else t)
    let s := { s with mac := { s.mac with templates := l } }
    let s := if 0x0800 ≤ f ∧ f ≤ 0x0FFF then s.incFld F.SHK_FLOW_CNT_SEQ_RESYNC (f - 0x800) else s
    s.raise fltShkSeqResync [f]

/-- DEPART of an output frame (R438): the departure of its first EAV or first packet against S. -/
def measDepart (s : State) (o : VOut) (ns : Nat) : State :=
  match s.domFmt o.dom with
  | some g => s.measBoth 2 o.flow 3 4 (frameOffset g (s.sfld F.REF_RAS_OFS_OFS o.dom) ns)
  | none => s

/-- MARK FRAME_START of a video output (R298). -/
def frameStart (s : State) (f : Nat) : State :=
  match s.vout f with
  | none => s
  | some o =>
    let fr := (s.rasOf o.dom).frameN
    if s.halfOut o && fr % 2 == 1 then s
    else
      let n := f - 0x800
      let kind := s.fld F.SHK_FLOW_CFG_KIND n
      let s := ((if kind < 2 then s.sdiFinish o else s).embedStart o fr).shkSpare f
      let o := (s.vout f).getD o
      let src := (s.activeRoute o.dom f).map Route.src
      let piped := (s.pipeLive f).isSome
      let loss := src.any (fun x => decide (x < 0x800) && s.flag F.LAD_FLOW_STAT_LOSS x)
      let run := if loss then o.lossRun + 1 else 0
      let never := src.any (fun x => decide (x < 0x800) && !s.flag F.LAD_FLOW_STAT_ADOPTED x)
      let blk := s.lossBlack o src run
      let fill := !piped && (src.isNone || never || blk.isSome)
      let ts := s.frameTs o.dom fr (if kind = 3 then 27000000 else 90000) (s.fld F.SHK_FLOW_CFG_TS_OFS n)
      let s := s.seqResync f
      let s := (s.setFld F.SHK_FLOW_STAT_OUT_FRAME (fr % 4294967296) n).setFld F.SHK_FLOW_STAT_RTP_TS ts n
      let s := (s.setFlag F.SHK_FLOW_STAT_FILL fill n).setFlag F.SHK_FLOW_STAT_SRC_LOSS loss n
      let s := s.setFlag F.SHK_FLOW_STAT_SENDING (if kind < 2 then s.sdiSends o else s.ipSends f) n
      let s := (s.incFld F.SHK_FLOW_CNT_FRAMES_SENT n).measAdd 2 f 0 1
      let s := if fill then (s.incFld F.SHK_FLOW_CNT_FILL_FRAMES n).measAdd 2 f 1 1 else s
      let s := if kind < 2 ∧ s.sdiSends o then s.measDepart o (ptpAt s.tim (s.rasOf o.dom).lineTick / 65536 + 256) else s
      let add : List SendFrame := if 2 ≤ kind then [⟨fr, ts, 0, false, 0⟩] else []
      let o' : VOut := { o with lossRun := run, blackSrc := blk, begun := some fr, sends := o.sends ++ add,
                                silent := !piped && (src.isNone || never) }
      let keep := o'.sends.map SendFrame.frame ++ [fr]
      let stg := s.shk.staging.filter (fun t => t.flow != f || keep.contains t.frame)
      let s := { s with shk := { s.shk with staging := stg } }
      s.setVout o'

/-! ## Delivery of reads (R205 to R208, R248) -/

/-- What a read resolves to at its deadline (R206): 0 a good tile, 1 the concealment tile, 2 the fill. -/
def readOutcome (r : PoolRead) : Nat := if r.good then 0 else if r.concGood then 1 else 2

/-- Deliver a read to a Shakeout's or a layer's staging. -/
def deliverTile (s : State) (r : PoolRead) (dest : Nat) (layer anc : Bool) : State :=
  let k := readOutcome r
  let t := if k = 0 then r.tile else if k = 1 then r.conceal else none
  let data := (t.map (fun x => s.tileBytes x 0 tilePayload)).getD []
  let test := (t.map (fun x => s.tileFlags x &&& flagTest != 0)).getD false
  let never := decide (r.flow < 0x800) && !s.flag F.LAD_FLOW_STAT_ADOPTED r.flow
  let black := !layer && !anc && (s.vout dest).any (fun o => o.blackSrc == some r.flow)
  let fill := decide (k = 2) || never || black
  let x : StagedTile := ⟨dest, r.frame, r.k, anc, data, decide (0 < k) && !never, test, fill, r.rep && decide (k < 2)⟩
  if layer then
    let l := s.chm.staging.filter (fun t => !(t.flow == dest && decide (t.frame + 1 < r.frame)))
    { s with chm := { s.chm with staging := l ++ [x] } }
  else
    let s := { s with shk := { s.shk with staging := s.shk.staging ++ [x] } }
    if 0x0800 ≤ dest ∧ dest ≤ 0x0FFF then
      let n := dest - 0x800
      let s := if 0 < k ∧ !anc ∧ !never then (s.incFld F.SHK_FLOW_CNT_CONCEAL_TILES n).measAdd 2 dest 2 1 else s
      if test then s.setFlag F.SHK_FLOW_STAT_TEST_SEEN true n else s
    else s

/-- The unit a read serves, for the slip's record. -/
def readUnit (s : State) : Reader → Option (UnitKind × Nat)
  | .shakeout f => some (.shakeout, s.fld F.SHK_FLOW_CFG_SHAKEOUT (f - 0x800))
  | .layer n => some (.pipe, s.fld F.CHM_LAYER_CFG_PIPE n)
  | .anc f => if f < 0x1000 then some (.shakeout, s.fld F.SHK_FLOW_CFG_SHAKEOUT (f - 0x800))
      else (s.ancOut f).map (fun o => (.shakeout, o.shakeout))
  | .audio _ => none

/-- The DEST of a reader. -/
def readDest : Reader → Nat
  | .shakeout f => f
  | .layer n => n
  | .anc f => f
  | .audio b => b

/-! ## Packets (R309 to R313, R149, R150) -/

/-- The field a row of an interlaced frame belongs to and its row in it (R150). -/
def srdRow (code a : Nat) : Nat × Nat :=
  match activeRanges code with
  | (x, y) :: _ :: _ => if a < y + 1 - x then (0, a) else (1, a - (y + 1 - x))
  | _ => (0, a)

/-- Offer one packet of an output on each of its templates, and advance them (R313, R151). -/
def sendOne (s : State) (t : TxTemplate) (dom line ts : Nat) (m ok : Bool) (order : Nat) (payload : TxTemplate → Bytes) : State :=
  let f := t.flow
  let t := (s.mac.templates.find? (fun y => y.flow == f && y.path == t.path)).getD t
  let body := s.rtpFrame t ts m (payload t)
  let fr : TxFrame := ⟨t.mac, order, 1, dom, line, none, body.length, ethDst t.dstIp, body, 0⟩
  let muted := !(s.looping 2 t.mac && ok) && !(ok && s.macSends t.mac true)
  let s := if 0x0800 ≤ f ∧ f < 0x1000 then s.measAdd 2 f 10 (b2n muted)
    else if 0x2000 ≤ f ∧ f < 0x3000 then s.measAdd 5 f (b2n muted) 1 else s
  let s := if s.looping 2 t.mac && ok then { s with mac := { s.mac with queue := s.mac.queue ++ [fr] } }
    else if ok then s.offer fr true else s.macCount t.mac 48 1
  s.setTemplate (tplNext t)

/-- The packets of a descriptor's share on each path of a flow (R149): for each template the M bits and payloads. -/
def sendMany (s : State) (f dom line ts : Nat) (ok : Bool) (order : Nat) (packets : TxTemplate → List (Bool × (TxTemplate → Bytes))) :
    State :=
  (s.mac.templates.filter (fun t => t.flow == f)).foldl (fun (s : State) t =>
    (packets t).foldl (fun (s : State) p => s.sendOne t dom line ts p.1 ok order p.2) s) s

/-- One packet on each path of a flow. -/
def sendOn (s : State) (f dom line ts : Nat) (m ok : Bool) (order : Nat) (payload : TxTemplate → Bytes) : State :=
  s.sendMany f dom line ts ok order (fun _ => [(m, payload)])

/-- Whether descriptors are sent in the present mode (R151, R152); one that is muted keeps its number (R315). -/
def descMode (s : State) : Bool := s.sys.mode == .pour || (s.sys.mode == .proof && s.twn.loop.isSome)

/-- The next packet of a video output at its send time (R310). A domain that stopped or idles sends nothing (R301). -/
def videoPacket (s : State) (f : Nat) : State :=
  match s.vout f with
  | none => s
  | some o =>
    if !s.running o.dom || s.flag F.PAT_BANK_FMT_IDLE o.dom then s.setVout { o with sends := [] }
    else match o.sends, fmtOf o.format, s.mac.templates.find? (fun t => t.flow == f) with
    | x :: rest, some g, some t =>
      let n := f - 0x800
      let kind := s.fld F.SHK_FLOW_CFG_KIND n
      let l := rowBytes o.sampling o.width
      let ppr := if kind = 3 then 64 else rowPackets l t.maxPayload
      let total := framePackets g kind l o.height t.maxPayload
      let first := x.k % ppr == 0
      let ok := if first then s.descMode else x.descOk && s.descMode
      let line := if first then s.absLine o.dom else x.descLine
      let last := decide (total ≤ x.k + 1)
      let a := x.k / ppr
      let (fb, row) := srdRow g.code a
      let (px, gb) := pixelGroup o.sampling
      let row := (fb * 32768 + row, s.outRow o x.frame a)
      let (body3, s) := if kind = 3 then s.freshBytes 1384 else ([], s)
      let s := if x.k = 0 ∧ ok then s.measDepart o s.ptpNs else s
      let s := if kind = 3 then s.sendOn f o.dom line x.ts last ok 4 (fun _ => body3)
        else s.sendMany f o.dom line x.ts ok 4 (fun t =>
          let n := rowPackets l t.maxPayload
          ((List.range n).filter (fun i => i * ppr / n == x.k % ppr)).map (fun i =>
            let data := slice row.2 (i * t.maxPayload) t.maxPayload
            (last && decide (i + 1 = n), fun t => be 2 t.extSeq ++ be 2 data.length ++ be 2 row.1 ++
              be 2 (i * t.maxPayload / gb * px) ++ data)))
      let nx : List SendFrame := if last then rest else { x with k := x.k + 1, descOk := ok, descLine := line } :: rest
      let s := if last then s.loopSign o x.frame (ok && s.loopDrives o) else s
      s.setVout { o with sends := nx }
    | _, _, _ => s

/-- Ancillary packets that fit one RTP payload of at most `room` bytes, from the `i`-th on; at least one. -/
def ancTake (room : Nat) : List Bytes → Nat → List Bytes
  | [], _ => []
  | p :: ps, used => if used = 0 || used + p.length ≤ room then p :: ancTake room ps (used + p.length) else []

/-- The next packet of an ANC output (ST 2110-40): the first of a domain frame begins that frame; a frame without data
sends one empty packet (R301). -/
def ancPacket (s : State) (f : Nat) : State :=
  match s.ancOut f, s.mac.templates.find? (fun t => t.flow == f) with
  | some o, some t =>
    let fr := (s.rasOf o.dom).frameN
    if !s.running o.dom || s.flag F.PAT_BANK_FMT_IDLE o.dom then s
    else
      let fresh : SendFrame := ⟨fr, s.frameTs o.dom fr 90000 o.tsOfs, 0, s.descMode, s.absLine o.dom⟩
      let x := match o.send with
        | some y => if y.frame = fr then y else fresh
        | none => fresh
      if (o.send.any (fun y => y.frame == fr && y.descLine == 0)) then s
      else
        let all := ancPackets (s.ancBytes f fr) 65536
        let here := ancTake (t.maxPayload - 8) (all.drop x.k) 0
        let last := decide (all.length ≤ x.k + here.length)
        let data := here.flatten
        let s := if x.k = 0 then s.seqResync f else s
        let s := s.sendOn f o.dom (s.absLine o.dom) x.ts last (x.descOk && s.descMode) 4 (fun t =>
          be 2 t.extSeq ++ be 2 data.length ++ be 1 here.length ++ be 3 0 ++ data)
        let nx : SendFrame := { x with k := x.k + here.length, descLine := if last then 0 else max 1 x.descLine }
        let stg := s.shk.staging.filter (fun t => t.flow != f || decide (fr ≤ t.frame))
        let s := { s with shk := { s.shk with staging := stg } }
        s.setAncOut { o with send := some nx }
  | _, _ => s

/-- The ANC outputs of domain `d` take the sources of the new active bank at a flip. -/
def ancFlip (s : State) (d : Nat) : State :=
  { s with shk := { s.shk with ancOuts := s.shk.ancOuts.map (fun (o : AncOut) =>
      if o.dom == d then { o with actSource := o.source, actDelay := o.delay } else o) } }

/-- A frame boundary at which a domain's pattern idles for its format: its SDI outputs begin a black frame (R261, R301). -/
def idleFrame (s : State) (d : Nat) : State :=
  if !s.flag F.PAT_BANK_FMT_IDLE d then s
  else (s.domOuts d).foldl (fun (s : State) o =>
    let n := o.flow - 0x800
    if !s.isSdi o then s
    else
      let s := ((s.setFlag F.SHK_FLOW_STAT_FILL true n).incFld F.SHK_FLOW_CNT_FRAMES_SENT n).incFld F.SHK_FLOW_CNT_FILL_FRAMES n
      let s := (s.measAdd 2 o.flow 0 1).measAdd 2 o.flow 1 1
      if !s.sdiSends o then s
      else s.emit (.sdi o.flow (s.frameOf d) true 1 ((List.range (outBytes o)).map (fun i =>
        blackByte o.sampling (i % max 1 (rowBytes o.sampling o.width)))) [] [] none)) s

/-- SHK_FLOW_STAT.SENDING: the output leaves the device (R301, R319). -/
def outSending (s : State) (f : Nat) : Bool :=
  (s.vout f).any (fun o => s.running o.dom && (if s.isSdi o then s.sdiSends o else s.ipSends f && !s.flag F.PAT_BANK_FMT_IDLE o.dom))

/-! ## Test sources (R317, R318) -/

/-- One pixel group of a test pattern at its first column `x`. -/
def testGroup (pattern sampling width x : Nat) : Bytes :=
  let comp (i : Nat) : Nat × Nat × Nat :=
    let xx := min (x + i) (width - 1)
    match pattern with
    | 3 =>
      let v := 256 + 4 * ((2 * xx * 876 + (width - 1)) / (2 * max 1 (width - 1)))
      if sampling < 3 then (0x800, v, 0x800) else (v, v, v)
    | _ => let c := Config.barColour pattern (xx * 8 / max 1 width) sampling
           (c.toNat / 16777216, c.toNat / 4096 % 4096, c.toNat % 4096)
  let three (w i : Nat) : List Nat := let c := comp i; [c.1 / 2 ^ (12 - w), c.2.1 / 2 ^ (12 - w), c.2.2 / 2 ^ (12 - w)]
  match pattern, sampling with
  | 0, _ => blackGroup sampling
  | _, 0 => packFields 10 [(comp 0).1 / 4, (comp 0).2.1 / 4, (comp 0).2.2 / 4, (comp 1).2.1 / 4]
  | _, 1 => packFields 10 ((List.range 4).flatMap (three 10))
  | _, 3 => packFields 10 ((List.range 4).flatMap (three 10))
  | _, _ => packFields 12 ((List.range 2).flatMap (three 12))

/-- Byte `i` of a test source's frame. -/
def testByte (x : TestSrc) (i : Nat) : Byte :=
  let l := rowBytes x.sampling x.width
  let (p, g) := pixelGroup x.sampling
  (testGroup x.pattern x.sampling x.width (i % max 1 l / g * p)).getD (i % max 1 l % g) 0

/-- Generate a test source's frame into its ring with TEST in every trailer. -/
def testFill (s : State) (x : TestSrc) : State :=
  if x.pattern = 4 then s
  else
    let b := rowBytes x.sampling x.width * x.height
    let g := newFlow x.flow x.dom 0 false 2 2 x.width x.height x.format x.sampling 0 0 0 x.tpf 0 0 none
    (List.range x.tpf).foldl (fun (s : State) k =>
      match s.resolve x.flow 0 k with
      | none => s
      | some t =>
        let n := min tilePayload (b - k * tilePayload)
        let s := s.tileWrite t 0 ((List.range n).map (fun i => testByte x (k * tilePayload + i)))
        s.writeTrailer t x.flow 0 (g.tileLine k) (g.tileSeg k) n flagTest) s

end State

/-! ## Output commands of family 0x01xx -/

/-- The send blocks of an output: Cope, and Drag with DUAL; both hold the same first running values (R313). -/
def sendBlocks (b : Bytes) (o flow ini : Nat) (dual : Bool) (rate : Nat → Bool → Nat) : List TxTemplate :=
  ((List.range 2).filter (fun p => p == 0 || dual)).map (fun p =>
    let at_ := o + 16 * p
    txBlock b at_ flow p (rate (u16 b (at_ + 12)) (u16 b (at_ + 2) != 0xFFFF)) ini)

/-- Choose a Shakeout for tables built by `mk` with the templates `l` (R295), after the templates' own check. -/
def admitOutput (s : State) (want off : Nat) (l : List TxTemplate) (mk : Nat → State) : Except RefRec (Nat × State) :=
  match s.templateAdmit l with
  | some r => .error r
  | none =>
    let full (u : Nat) : State := (mk u).addTemplates l
    match pickUnit s .shakeout want off (fun u => (full u).shkCheck u) with
    | .bad r => .error r
    | .unit u => .ok (u, full u)

/-- VOUT_DEFINE (R13, R15, R294 to R299, R301, R303, R306, R311). -/
def applyVoutDefine (c : Cmd) (s : State) : CmdResult :=
  let b := c.params
  let flow := u16 b 0
  let n := flow - 0x800
  let d := byteAt b 2
  let kind := byteAt b 3
  let fl := byteAt b 5
  let dual := bitOf fl 1
  let (w, h, fmt, samp) := (u16 b 8, u16 b 10, byteAt b 12, byteAt b 13)
  let fn := byteAt b 15
  let port := u16 b 16
  let ip := decide (2 ≤ kind)
  let (px, gb) := pixelGroup samp
  let _ := px
  let l := rowBytes samp w
  let maxBad (o : Nat) : Bool := kind == 2 && (u16 b (o + 12) % gb != 0 || decide (64 < rowPackets l (u16 b (o + 12))))
  let blockBad (o : Nat) : Bool := !txBlockOk b o || maxBad o
  let tro := u32 b 20
  let f := fmtOf fmt
  let last (kind : Nat) : Nat := if kind = 0 then 68 else 3840
  let links := match kind, f with
    | 0, some g => sdiLinks g (s.fld F.SLN_LANE_CFG_TX_RATE port)
    | 1, some g => sdiLinks g (2 * s.fld F.SPR_TRIB_CFG_SIZE (byteAt b 14) port)
    | _, _ => 0
  guarded [(decide (b.length < 64), rej 0x0108 b.length), (decide (16 < fn), rej 0x0108 15), lenIs c (64 + 4 * fn),
      (!inRanges [(0x0800, 0x0FFF)] flow, rej 0x0108 0), (decide (3 < d), rej 0x0108 2), (decide (3 < kind), rej 0x0108 3),
      (bitsOf fl 6 5 == 3, rej 0x0108 5), (decide (1 < byteAt b 6), rej 0x0108 6), (!inRanges [(1, 4096)] w, rej 0x0108 8),
      (!inRanges [(1, 2160)] h, rej 0x0108 10), (f.isNone || (kind != 2 && (fmt == 0x40 || fmt == 0x41)), rej 0x0108 12),
      (decide (activeCount fmt < h), rej 0x0108 10),
      (decide (4 < samp) || (kind != 2 && samp != 0), rej 0x0108 13), (kind == 1 && decide (15 < byteAt b 14), rej 0x0108 14),
      ((kind == 0 && decide (67 < port)) || (kind == 1 && decide (3839 < port)), rej 0x0108 16),
      (f.any (fun g => bitOf fl 2 && decide (g.tfN < tro * g.num)), rej 0x0108 20),
      (ip && blockBad 32, rej 0x0108 32), (ip && dual && blockBad 48, rej 0x0108 48),
      ((List.range fn).any (fun i => decide (32767 < u16 b (64 + 4 * i)) || decide (31 < byteAt b (66 + 4 * i))), rej 0x0108 64),
      ((s.vout flow).isSome, rej 0x0308 0), (!rateOk s d fmt, rej 0x0108 12),
      (decide (last kind < port + links), rej 0x0108 16),
      (kind == 0 && (List.range links).any (fun i => !slaneFamilyOk s d (s.fld F.SLN_LANE_CFG_TX_RATE (port + i))), rej 0x0108 16)] fun _ =>
    match f with
    | none => .bad (rej 0x0108 12)
    | some f =>
      let (ini, s) := s.tplInit
      let ts := if ip then sendBlocks b 32 flow ini dual (fun m tag => senderMbps f kind l h m tag) else []
      let follow := (List.range fn).map (fun i => (u16 b (64 + 4 * i), byteAt b (66 + 4 * i)))
      let mk (u : Nat) : State :=
        let t := { s with shk := { s.shk with
          vouts := s.shk.vouts ++ [(⟨flow, d, w, h, fmt, samp, follow, 0, none, none, [], false, none⟩ : VOut)] } }
        let t := ((t.setFld F.SHK_FLOW_CFG_EN 1 n).setFld F.SHK_FLOW_CFG_KIND kind n).setFld F.SHK_FLOW_CFG_PACING (fl % 2) n
        let t := ((t.setFld F.SHK_FLOW_CFG_DOMAIN d n).setFlag F.SHK_FLOW_CFG_DUAL dual n).setFld F.SHK_FLOW_CFG_LOSS_ACT
          (bitsOf fl 6 5) n
        let t := ((t.setFld F.SHK_FLOW_CFG_TC_MODE (byteAt b 6) n).setFlag F.SHK_FLOW_CFG_TEST_TX (bitOf fl 3) n).setFlag
          F.SHK_FLOW_CFG_HOLD_DRIVE (bitOf fl 4) n
        let t := ((t.setFlag F.SHK_FLOW_CFG_TRO_EN (bitOf fl 2) n).setFld F.SHK_FLOW_CFG_SHAKEOUT u n).setFld
          F.SHK_FLOW_CFG_LOSS_HOLD (byteAt b 7) n
        let t := ((t.setFld F.SHK_FLOW_CFG_TC_OFS (u32 b 28) n).setFld F.SHK_FLOW_CFG_TRO tro n).setFld
          F.SHK_FLOW_CFG_TS_OFS (u32 b 24) n
        (t.setFld F.SHK_FLOW_CFG_LINK (if kind = 1 then byteAt b 14 else 0) n).setFld F.SHK_FLOW_CFG_PORT
          (if ip then 0 else port) n
      match admitOutput s (byteAt b 4) 4 ts mk with
      | .error r => .bad r
      | .ok (u, t) =>
        let placed := match t.compileFmt d, t.vout flow with
          | some g, some o => (t.outL0 g o 0).isSome
          | _, _ => true
        if !placed then .bad (rej 0x0108 20)
        else match t.admitDoms [d] with
        | some r => .bad r
        | none => .ok ((t.shkUse u).writeDoms [d]) [BitVec.ofNat 8 u, 0, 0, 0]

/-- The checks of an ANC output's source (R265, R267): defined, of the same domain, within its depth. -/
def ancSourceCheck (s : State) (src d delay off doff : Nat) : List (Bool × RefRec) :=
  let x := s.inFlow src
  let some_ := src != 0xFFFF
  [(some_ && !inRanges [(0x3000, 0x33FF)] src, rej 0x0108 off), (some_ && x.isNone, rej 0x030F off),
   (some_ && x.any (fun y => y.dom != d), rej 0x0310 off),
   (some_ && x.any (fun y => decide (y.depth - 2 < delay)),
    { rejRes 0x0200 ((x.map (fun y => y.depth - 2)).getD 0) delay with off := some doff })]

/-- ANC_OUT_DEFINE (R294, R305). -/
def applyAncOutDefine (c : Cmd) (s : State) : CmdResult :=
  let b := c.params
  let flow := u16 b 0
  let d := byteAt b 2
  let dual := bitOf (byteAt b 4) 1
  let src := u16 b 6
  let tpf := ((s.inFlow src).map InFlow.tpf).getD 1
  let many (o : Nat) : Bool := decide (u16 b (o + 12) < 9) || decide (64 < ceilDiv (tpf * tilePayload) (u16 b (o + 12) - 8))
  guarded ([lenIs c 48, (!inRanges [(0x3400, 0x37FF)] flow, rej 0x0108 0), (decide (3 < d), rej 0x0108 2),
      (!txBlockOk b 16 || many 16, rej 0x0108 16), (dual && (!txBlockOk b 32 || many 32), rej 0x0108 32),
      ((s.ancOut flow).isSome, rej 0x0308 0)] ++
      ancSourceCheck s src d (byteAt b 5) 6 5) fun _ =>
    let (ini, s) := s.tplInit
    let rate (m : Nat) (tag : Bool) : Nat := ((s.compileFmt d).map (fun f => ancMbps f m tag)).getD 0
    let ts := sendBlocks b 16 flow ini dual rate
    let source := if src = 0xFFFF then none else some src
    let mk (u : Nat) : State := { s with shk := { s.shk with ancOuts := s.shk.ancOuts ++
      [(⟨flow, d, u, dual, byteAt b 5, source, u32 b 8, none, 0, none⟩ : AncOut)] } }
    match admitOutput s (byteAt b 3) 3 ts mk with
    | .error r => .bad r
    | .ok (u, t) =>
      match t.admitDoms [d] with
      | some r => .bad r
      | none => .ok ((t.shkUse u).writeDoms [d]) [BitVec.ofNat 8 u, 0, 0, 0]

/-- ANC_OUT_ROUTE (R149, R264, R275). -/
def applyAncOutRoute (c : Cmd) (s : State) : CmdResult :=
  let b := c.params
  let flow := u16 b 0
  let src := u16 b 2
  match s.ancOut flow with
  | none =>
    guarded [lenIs c 8, (!inRanges [(0x3400, 0x37FF)] flow, rej 0x0108 0)] fun _ => .bad (rej 0x030F 0)
  | some o =>
    let tpf := ((s.inFlow src).map InFlow.tpf).getD 1
    let many := s.mac.templates.any (fun t => t.flow == flow && decide (64 < ceilDiv (tpf * tilePayload) (t.maxPayload - 8)))
    guarded (lenIs c 8 :: ancSourceCheck s src o.dom (byteAt b 4) 2 4 ++ [(many, rej 0x0108 2)]) fun _ =>
      let t := s.setAncOut { o with source := if src = 0xFFFF then none else some src, delay := byteAt b 4 }
      let much := t.shkCheck o.shakeout
      match much with
      | some r => .bad { r with unit := some o.shakeout }
      | none =>
        match t.admitDoms [o.dom] with
        | some r => .bad r
        | none =>
          let p := s.predictFlip o.dom
          .ok ((t.shkUse o.shakeout).writeDoms [o.dom]) (takeRecord o.dom 1 p) (some (recordsEpoch [p])) (s.flipNs o.dom)

/-- TEST_DEFINE (R317). -/
def applyTestDefine (c : Cmd) (s : State) : CmdResult :=
  let b := c.params
  let flow := u16 b 0
  let (d, pat, fmt, samp, w, h) := (byteAt b 2, byteAt b 3, byteAt b 4, byteAt b 5, u16 b 6, u16 b 8)
  guarded [lenIs c 12, (!inRanges [(0x4100, 0x41FF)] flow, rej 0x0108 0), (decide (3 < d), rej 0x0108 2),
      (decide (4 < pat), rej 0x0108 3), ((fmtOf fmt).isNone, rej 0x0108 4), (decide (4 < samp), rej 0x0108 5),
      (!inRanges [(1, 4096)] w, rej 0x0108 6), (!inRanges [(1, 2160)] h, rej 0x0108 8),
      ((s.testSrc flow).isSome, rej 0x0308 0), (!rateOk s d fmt, rej 0x0108 4)] fun _ =>
    let tpf := tilesPerFrame samp w h
    match s.allocTry tpf with
    | .bad r => .bad r
    | .ok l =>
      let x : TestSrc := ⟨flow, d, pat, fmt, samp, w, h, tpf⟩
      let t := s.allocRing flow 0 d tpf l
      let t := { t with shk := { t.shk with tests := t.shk.tests ++ [x] } }
      match t.admitDoms [d] with
      | some r => .bad r
      | none => .ok ((t.testFill x).writeDoms [d]) (leBytes 4 tpf)

/-- A layer that reads flow `f` in either bank. -/
def layerReader (s : State) (f : Nat) : Option Nat :=
  (List.range 512).find? (fun k => (s.layerFld k F.CHM_LAYER_CFG_EN == 1 && s.layerFld k F.CHM_LAYER_CFG_SRC == f) ||
    (s.flag F.CHM_LAYER_CFG_EN k && s.fld F.CHM_LAYER_CFG_SRC k == f))

/-- What reads an ANC input (R480): an ANC output, or an ANC_OUT entry of a route that follows its companion. -/
def ancReader (s : State) (f : Nat) : Option Nat :=
  match s.shk.ancOuts.find? (fun o => o.source == some f || o.actSource == some f) with
  | some o => some o.flow
  | none =>
    let banks := (List.range 4).flatMap (fun d => (s.bank d 0).routes ++ (s.bank d 1).routes)
    ((s.pat.routes ++ banks).find? (fun r => r.anc && s.companion r.src == some f)).map Route.out

/-- A flow's de-embed or embed maps go with their SRC stages. -/
def dropMaps (s : State) (f : Nat) : State :=
  let s := (s.aud.maps.filter (fun m => m.flow == f)).foldl (fun (s : State) m => s.dropStage m.srcCore) s
  ({ s with aud := { s.aud with maps := s.aud.maps.filter (fun (m : EmbMap) => m.flow != f) } }).audUse

/-- Remove an input flow with its filters, rings and registers. -/
def dropInput (s : State) (f : Nat) : State :=
  let s := s.measDelete (if f < 0x800 then 1 else 3) f
  let u := ((s.inFlow f).map InFlow.ladle).getD 0
  let s := (s.dropFilters f).releaseFlow f
  let s := { s with lad := { s.lad with flows := s.lad.flows.filter (fun x => x.flow != f) } }
  let s := if f < 0x800 then
      s.clearRegs (fun a => (decide (F.LAD_FLOW_CFG_EN.addr f 0 ≤ a) && decide (a < F.LAD_FLOW_CFG_EN.addr (f + 1) 0)) ||
        (decide (F.LAD_FLOW_STAT_ADOPTED.addr f 0 ≤ a) && decide (a < F.LAD_FLOW_STAT_ADOPTED.addr (f + 1) 0)))
    else { s with lad := { s.lad with flows := s.lad.flows.map (fun (x : InFlow) =>
      if x.companion == some f then { x with companion := none } else x) } }
  (dropMaps s f).ladUse u

/-- Remove a video output with its templates, route and registers. -/
def dropOutput (s : State) (f : Nat) : State :=
  let s := s.measDelete 2 f
  let n := f - 0x800
  let u := s.fld F.SHK_FLOW_CFG_SHAKEOUT n
  let s := s.dropTemplates f
  let s := { s with pat := { s.pat with routes := s.pat.routes.filter (fun r => r.out != f) },
                    shk := { s.shk with vouts := s.shk.vouts.filter (fun x => x.flow != f),
                                        staging := s.shk.staging.filter (fun x => x.flow != f),
                                        seqAdopt := s.shk.seqAdopt.filter (fun x => x.1 != f) },
                    aud := { s.aud with pend := s.aud.pend.filter (fun x => x.viaOut != some f) } }
  let s := s.clearRegs (fun a => (decide (F.SHK_FLOW_CFG_EN.addr n 0 ≤ a) && decide (a < F.SHK_FLOW_CFG_EN.addr (n + 1) 0)) ||
    (decide (F.SHK_FLOW_STAT_SENDING.addr n 0 ≤ a) && decide (a < F.SHK_FLOW_STAT_SENDING.addr (n + 1) 0)) ||
    (decide (F.PAT_ROUTE_SRC.addr n 0 ≤ a) && decide (a < F.PAT_ROUTE_SRC.addr (n + 1) 0)))
  (dropMaps { s with chm := { s.chm with bound := s.chm.bound.filter (fun x => x.2.1 != f) } } f).shkUse u

/-- Finish a deletion: the domain's pattern is admitted and written. -/
def deleted (t : State) (d : Nat) : CmdResult :=
  match t.admitDoms [d] with
  | some r => .bad r
  | none => .ok (t.writeDoms [d]) []

/-- FLOW_DELETE (R270, R480). -/
def applyFlowDelete (c : Cmd) (s : State) : CmdResult :=
  let f := u16 c.params 0
  guarded [lenIs c 4, (!inRanges [(0, 0xFFF), (0x3000, 0x37FF), (0x4100, 0x41FF)] f, rej 0x0108 0)] fun _ =>
    match s.inFlow f, s.vout f, s.ancOut f, s.testSrc f with
    | some x, _, _, _ =>
      let comp := if x.anc then none else x.companion
      let anc := (if x.anc then [f] else comp.toList).findSome? (fun a => (ancReader s a).map (fun o => (a, o)))
      guarded [((s.flowRouted f 0).isSome, (s.flowRouted f 0).getD (rej 0x0312 0)),
          ((layerReader s f).isSome, { rej 0x0319 0 with unit := layerReader s f }),
          (anc.isSome, { rej 0x0319 0 with unit := anc.map (·.2) })] fun _ =>
        let t := dropInput s f
        deleted (match comp with
          | some a => dropInput t a
          | none => t) x.dom
    | none, some o, _, _ =>
      guarded [((s.pipeOf f).isSome, { rej 0x0313 0 with unit := s.pipeOf f })] fun _ => deleted (dropOutput s f) o.dom
    | none, none, some o, _ =>
      let t := s.dropTemplates f
      let t := { t with shk := { t.shk with ancOuts := t.shk.ancOuts.filter (fun x => x.flow != f),
                                            staging := t.shk.staging.filter (fun x => x.flow != f),
                                            seqAdopt := t.shk.seqAdopt.filter (fun x => x.1 != f) } }
      deleted (t.shkUse o.shakeout) o.dom
    | none, none, none, some x =>
      guarded [((s.flowRouted f 0).isSome, (s.flowRouted f 0).getD (rej 0x0312 0)),
          ((layerReader s f).isSome, { rej 0x0319 0 with unit := layerReader s f })] fun _ =>
        let t := s.releaseFlow f
        deleted { t with shk := { t.shk with tests := t.shk.tests.filter (fun y => y.flow != f) } } x.dom
    | none, none, none, none => .bad (rej 0x030F 0)

end Sys2Proof.Machine
end

