-- ==== Sys2Proof/Machine/Audio.lean ====
section
/-! DEFINITION. The audio plane in motion (chapter 12): placement of received packets, concealment, the crosspoint,
delay lines, senders, meters, and the block boundary with its Newt transfers (R359, R384). Positions count 48 kHz samples
from the PTP epoch; a 96 kHz channel keeps even samples in its first index and odd ones in its second. -/

namespace Sys2Proof.Machine

/-- Three zero samples. -/
def zeros3 : List (BitVec 32) := [0, 0, 0]

/-- The samples of a reference in a list of blocks, zeros where it is not listed. -/
def chanVals (l : List ChanBlock) (ref : Nat) : List (BitVec 32) := ((l.find? (fun b => b.ref == ref)).map ChanBlock.vals).getD zeros3

/-- Whether a reference's block is concealed. -/
def chanConc (l : List ChanBlock) (ref : Nat) : Bool := ((l.find? (fun b => b.ref == ref)).map ChanBlock.conc).getD false

/-- Blocks in a packet time (R362). -/
def ptimeBlocks (p : Nat) : Nat := if p = 0 then 2 else if p = 1 then 4 else 16

/-- Samples per channel in a packet. -/
def ptimeSamples (p rate : Nat) : Nat := 3 * ptimeBlocks p * (if rate = 1 then 2 else 1)

/-- Bytes of one sample of an encoding. -/
def encBytes (enc : Nat) : Nat := if enc = 0 then 2 else if enc = 1 then 3 else 4

/-- A big-endian number of `n` bytes at byte `o`. -/
def beNum (b : Bytes) (o n : Nat) : Nat := (List.range n).foldl (fun v i => 256 * v + byteAt b (o + i)) 0

/-- A received sample as the tank stores it: left-justified (R357), an AM824 subframe whole (R367). -/
def sampleIn (enc v : Nat) : BitVec 32 := BitVec.ofNat 32 (v * 2 ^ (32 - 8 * encBytes enc))

/-- One step of the AES3 channel-status CRC over a byte, least significant bit first. -/
def crccByte (c : Nat) (x : Byte) : Nat :=
  (List.range 8).foldl (fun c i => let f := (c % 2 + (x.toNat >>> i) % 2) % 2; if f = 1 then (c / 2) ^^^ 0xB8 else c / 2) c

/-- The CRCC of channel-status bytes 0 to 22 (R421, R422): generator x^8 + x^4 + x^3 + x^2 + 1 from all ones. PRESUMED from
the AES3 standard the text names. -/
def crcc (cs : Bytes) : Nat := (cs.take 23).foldl crccByte 255

/-- The channel status that a built AM824 stream carries (R367): professional, at the stream's rate, with its CRCC. -/
def amStatus (rate : Nat) : Bytes :=
  let b : Bytes := [if rate = 1 then 0x01 else 0x81, 0, 0, 0, if rate = 1 then 0x10 else 0] ++ List.replicate 18 0
  b ++ [BitVec.ofNat 8 (crcc b)]

/-- The flag bits of a built AM824 subframe (R367): block start every 192 frames, frame start, parity, channel status; user bit and
validity 0. `c` is the channel and `m` the sample. Their places are those of ST 2110-31 and AES3, and blocks start at whole
multiples of 192 samples (PRESUMED, log entry 120). -/
def amFlags (rate c m : Nat) (v : BitVec 32) : Nat :=
  let cs := b2n ((byteAt (amStatus rate) (m % 192 / 8)).testBit (m % 8))
  let ones := ((List.range 24).filter (fun i => v.getLsbD (8 + i))).length
  32 * b2n (c % 2 == 0 && m % 192 == 0) + 16 * b2n (c % 2 == 0) + 8 * ((ones + cs) % 2) + 4 * cs

/-- The index and position of sample `m` of a channel that starts at index `b`. -/
def sampleAt (rate b m : Nat) : Nat × Nat := if rate = 1 then (b + m % 2, m / 2) else (b, m)

/-- The 32-bit value nearest to `near` that equals `t` modulo 2^32. -/
def nearest32 (t near : Nat) : Nat :=
  let d := (t + 4294967296 - near % 4294967296) % 4294967296
  if d < 2147483648 then near + d else near + d - 4294967296

namespace State

/-- The grid block that contains the present time (R359). -/
def gridNow (s : State) : Nat := s.mediaNs / 62500

/-- The first position at or after a media time in ns. -/
def posAt (ns : Nat) : Nat := ceilDiv (ns * 3) 62500

/-- Store one input sample; the first copy written wins (R363). -/
def tankPut (s : State) (ch n : Nat) (v : BitVec 32) : State :=
  if s.aud.tank.any (fun x => x.ch == ch && x.n == n) then s
  else { s with aud := { s.aud with tank := s.aud.tank ++ [(⟨ch, n, v⟩ : Sample)] } }

/-! ## Stream receivers (R362 to R367) -/

/-- An input stream by its identifier. -/
def astream (s : State) (id : Nat) : Option AStream := s.aud.streams.find? (fun x => x.ident == id)

/-- Replace a stream. -/
def setAstream (s : State) (x : AStream) : State :=
  { s with aud := { s.aud with streams := s.aud.streams.map (fun y => if y.ident == x.ident then x else y) } }

/-- Count in one of a stream's counters: 0 PKT_BAD, 1 LATE, 2 EARLY, 3 DUP, 4 COPE, 5 DRAG, 6 SEQ_GAP. -/
def countStream (s : State) (id i : Nat) : State :=
  match s.astream id with
  | none => s
  | some x =>
    let s := if i = 1 then s.measAdd 4 id 6 1 else s
    s.setAstream { x with counts := x.counts.set i (satAdd 32 (x.counts.getD i 0) 1) }

/-- Note an RTP sequence number on a path; a gap is counted (R363). -/
def streamSeq (s : State) (id path seq : Nat) : State :=
  match s.astream id with
  | none => s
  | some x =>
    let gap := match x.lastSeq.find? (fun p => p.1 == path) with
      | some p => decide (seq ≠ (p.2 + 1) % 65536)
      | none => false
    let s := s.setAstream { x with lastSeq := upsert (fun (p : Nat × Nat) => p.1 == path) (path, seq) x.lastSeq }
    if gap then s.countStream id 6 else s

/-- The RTP payload after CSRC list and header extension (R362). -/
def rtpBody (p : Bytes) : Bytes :=
  let o := 12 + 4 * (byteAt p 0 % 16)
  if bitOf (byteAt p 0) 4 then p.drop (o + 4 + 4 * beNum p (o + 2) 2) else p.drop o

/-- A packet in the stream's window is noted with its path, for the loss figures (R438). -/
def streamSeen (s : State) (id path first : Nat) : State :=
  match s.astream id with
  | none => s
  | some x =>
    let old := ((x.rx.find? (fun p => p.1 == first)).map (·.2)).getD 0
    let l := upsert (fun (p : Nat × Nat) => p.1 == first) (first, old ||| 2 ^ path) x.rx
    s.setAstream { x with rx := l, phase := some (x.phase.getD first) }

/-- Loss of the packet times read so far (R438): each is counted once, as packets are for video. -/
def streamLost (s : State) (id edge : Nat) : Nat → State
  | 0 => s
  | n + 1 =>
    match s.astream id with
    | none => s
    | some x =>
      match x.phase with
      | none => s
      | some p =>
        let len := ptimeSamples x.ptime x.rate
        if edge < p + len then s
        else
          let m := ((x.rx.find? (fun q => q.1 == p)).map (·.2)).getD 0
          let gone (k : Nat) : Bool := bitOf x.paths k && !bitOf m k
          let both := x.paths == 3
          let s := (s.measAdd 4 id 1 (b2n (gone 0))).measAdd 4 id 2 (b2n (gone 1))
          let s := (s.measAdd 4 id 3 (b2n (both && (gone 0 != gone 1)))).measAdd 4 id 4 (b2n (m == 0))
          let far := decide (p + 64 * len < edge)
          let s := s.setAstream { x with rx := x.rx.filter (fun q => decide (p < q.1)),
                                         phase := if far then none else some (p + len) }
          streamLost s id edge n

/-- A packet of an audio stream that a filter delivers (R363). -/
def audioRtp (s : State) (id path : Nat) (p : Bytes) : State :=
  match s.astream id with
  | none => s
  | some x =>
    let s := s.streamSeq id path (beNum p 2 2)
    let ns := ptimeSamples x.ptime x.rate
    let mul := if x.rate = 1 then 2 else 1
    let body := rtpBody p
    if s.flag F.AUD_STAT_TIME_WAIT then s.countStream id 2
    else if byteAt p 0 / 64 ≠ 2 ∨ body.length ≠ ns * x.chans * encBytes x.enc then s.countStream id 0
    else
      let first := nearest32 (beNum p 4 4 + 4294967296 - x.tsOfs) (s.aud.block * 3 * mul)
      let k := s.aud.block - x.rxo
      if first / (3 * mul) ≤ k then s.countStream id 1
      else if (3 * k + 160) * mul < first + ns - 1 then s.countStream id 2
      else
        let all := (List.range ns).flatMap (fun j => (List.range x.chans).map (fun c =>
          let a := sampleAt x.rate (x.base + c * mul) (first + j)
          (a.1, a.2, sampleIn x.enc (beNum body ((j * x.chans + c) * encBytes x.enc) (encBytes x.enc)))))
        let new := all.filter (fun a => !s.aud.tank.any (fun y => y.ch == a.1 && y.n == a.2.1))
        let s := s.streamSeen id path first
        if new.isEmpty then s.countStream id 3
        else
          let s := new.foldl (fun (s : State) a => s.tankPut a.1 a.2.1 a.2.2) s
          let s := s.countStream id (if path = 0 then 4 else 5)
          let s := (s.measAdd 4 id 0 1).measMin 4 id 5 (((first / (3 * mul) + x.rxo) * 62500 : Nat) - (s.mediaNs : Int))
          match s.astream id with
          | some y => s.setAstream { y with loss := false }
          | none => s

/-- A stream without a packet written for LOSS_MS (R365). -/
def streamLoss (s : State) (id : Nat) : State :=
  match s.astream id with
  | some x => if x.isIn && !x.loss then (s.setAstream { x with loss := true }).raise fltAudStreamLoss [id] else s
  | none => s

/-! ## De-embedding (R373, R375) -/

/-- The audio of an SDI or ST 2022-6 frame that begins now (R373): its map in force, the first position at the arrival
less 250 µs rounded down to a block, and the slip of R375 against the media clock. -/
def deembed (s : State) (flow : Nat) (audio : List (Nat × List (BitVec 32))) : State :=
  let s := if s.aud.maps.any (fun m => m.flow == flow && !m.embed && m.due) then
      { s with aud := { s.aud with maps := (s.aud.maps.filter (fun m => !(m.flow == flow && !m.embed && !m.due))).map (fun m =>
        if m.flow == flow && !m.embed then { m with due := false } else m) } }
    else s
  match s.aud.maps.find? (fun m => m.flow == flow && !m.embed) with
  | none => s
  | some m =>
    if m.srcEn then s
    else
      let nominal := (s.mediaNs - 250000) / 62500 * 3
      let next := m.nextPos.getD nominal
      let far := decide (nominal + 160 < next) || decide (next + 160 < nominal)
      let ahead := decide (nominal + 3 < next)
      let behind := decide (next + 3 < nominal)
      let slip := (ahead || behind) && !far
      let p := if far then nominal else next
      let fix (l : List (BitVec 32)) : List (BitVec 32) :=
        if !slip then l else if ahead then l.drop 3 else l.take 3 ++ l
      let len := (audio.map (fun a => (fix a.2).length)).foldl max 0
      let set (x : EmbMap) : EmbMap := if x.flow == flow && !x.embed then
        { x with nextPos := some (p + len), slips := if slip then x.slips + 1 else x.slips } else x
      let s := { s with aud := { s.aud with maps := s.aud.maps.map set } }
      let s := m.entries.foldl (fun (s : State) e =>
        match audio.find? (fun a => a.1 == e.1) with
        | some a => if e.2 = 0xFFFF then s else
            (numbered p (fix a.2)).foldl (fun (s : State) q => s.tankPut e.2 q.1 q.2) s
        | none => s) s
      if slip then (s.event blkAud 1 0x0101 [flow]).raise fltAudSlip [flow] else s

/-! ## Concealment (R365) -/

/-- Deliver three samples of a reference; missing ones repeat the last good block for up to CONCEAL_MAX blocks and are
zero after that. -/
def deliver (s : State) (ref : Nat) (v : List (Option (BitVec 32))) : State × ChanBlock :=
  let n := sget (fun _ => 0) s.aud.conc ref
  if v.all Option.isSome then
    let b : ChanBlock := ⟨ref, v.map (fun x => x.getD 0), false⟩
    ({ s with aud := { s.aud with good := upsert (fun (x : ChanBlock) => x.ref == ref) b s.aud.good,
                                  conc := sset (fun _ => 0) s.aud.conc ref 0 } }, b)
  else
    let rep := if n < s.fld F.AUD_CFG_CONCEAL_MAX then chanVals s.aud.good ref else zeros3
    let b : ChanBlock := ⟨ref, (v.zip rep).map (fun p => p.1.getD p.2), true⟩
    (({ s with aud := { s.aud with conc := sset (fun _ => 0) s.aud.conc ref (min 256 (n + 1)) } }).raise fltAudConceal [ref], b)

/-- Deliver several references. -/
def deliverAll (s : State) (l : List (Nat × List (Option (BitVec 32)))) : State × List ChanBlock :=
  l.foldl (fun (a : State × List ChanBlock) x =>
    let r := a.1.deliver x.1 x.2
    (r.1, a.2 ++ [r.2])) (s, [])

/-- The input references with their reading offsets in blocks (R364, R373, R427). -/
def readList (s : State) : List (Nat × Nat) :=
  (s.aud.streams.filter AStream.isIn).flatMap (fun x =>
    (List.range (x.chans * chanSpan x.rate)).map (fun k => (x.base + k, x.rxo))) ++
  (s.aud.maps.filter (fun m => !m.embed && !m.srcEn && !m.due)).flatMap (fun m =>
    ((m.entries.map (·.2)).filter (· != 0xFFFF)).map (fun ch => (ch, 5))) ++
  (List.range 16).flatMap (fun p => (s.portIns p).map (fun ch => (ch, 3)))

/-- Read the input blocks that are due at block `t` (R359, R364); samples read leave the buffers. -/
def readInputs (s : State) (t : Nat) : State :=
  let l := s.readList
  let want := l.map (fun x =>
    let k := t - x.2
    (x.1, (List.range 3).map (fun j => (s.aud.tank.find? (fun y => y.ch == x.1 && y.n == 3 * k + j)).map Sample.v)))
  let (s, b) := s.deliverAll want
  let s := (s.aud.streams.filter AStream.isIn).foldl (fun (s : State) x =>
    let mul := if x.rate = 1 then 2 else 1
    let s := s.streamLost x.ident (3 * mul * (t - x.rxo + 1)) 64
    s.measAdd 4 x.ident 7 (b2n (b.any (fun c => c.conc && decide (x.base ≤ c.ref) &&
      decide (c.ref < x.base + x.chans * chanSpan x.rate))))) s
  let keep (y : Sample) : Bool := match l.find? (fun x => x.1 == y.ch) with
    | some x => decide (3 * (t - x.2) + 3 ≤ y.n)
    | none => decide (3 * t ≤ y.n)
  { s with aud := { s.aud with tank := s.aud.tank.filter keep, readOld := s.aud.read, read := b } }

/-! ## AM824 (R367) -/

/-- Whether an input channel carries AM824. -/
def amRef (s : State) (ref : Nat) : Bool :=
  s.aud.streams.any (fun x => x.isIn && x.enc == 2 && decide (x.base ≤ ref) && decide (ref < x.base + x.chans * chanSpan x.rate))

/-- A sample as 24-bit audio for the meters (R380). -/
def meterValue (s : State) (ref : Nat) (v : BitVec 32) : BitVec 32 := if s.amRef ref then v <<< 8 else v

/-- Output channels that only PCM readers take: senders of L16 and L24, delay-line sends, ports pinned to TDM. -/
def pcmReaders (s : State) : List Nat :=
  (s.aud.streams.filter (fun x => !x.isIn && x.enc != 2)).flatMap (fun x =>
    (List.range (x.chans * chanSpan x.rate)).map (· + x.base)) ++
  s.aud.delays.flatMap (fun x => (List.range (x.chans * chanSpan x.rate)).map (· + x.send)) ++
  (List.range 16).flatMap (fun p => if s.flag F.APT_PORT_CFG_PIN_TDM p then s.portOuts p else [])

/-- Whether an AM824 channel feeds anything but AM824 outputs, embedders and AES3 ports (R367). -/
def amMisuse (s : State) : Bool :=
  s.pcmReaders.any (fun ch => s.amRef (s.fld F.AUD_XP_SRC ch)) ||
    s.aud.pend.any (fun x => s.amRef x.src && s.pcmReaders.contains x.ch) ||
    s.nwt.cores.any (fun c => c.tasks.any (fun t => t.ins.any s.amRef))

/-! ## The crosspoint (R370 to R372, R283) -/

/-- The block of a source: silence, an input channel of `rd`, or an internal channel. -/
def srcVals (s : State) (rd : List ChanBlock) (ref : Nat) : List (BitVec 32) :=
  if ref < 0x8000 then chanVals rd ref else if ref < 0xC000 then chanVals s.aud.intl ref else zeros3

/-- Whether a source's block is concealed. -/
def srcConc (s : State) (rd : List ChanBlock) (ref : Nat) : Bool :=
  if ref < 0x8000 then chanConc rd ref else if ref < 0xC000 then chanConc s.aud.intl ref else false

/-- Output channels that select a source or are crossfading. -/
def xpChans (s : State) : List Nat :=
  let sel := s.regs.filterMap (fun e =>
    let a := e.1 - F.AUD_XP_SRC.off
    if F.AUD_XP_SRC.off ≤ e.1 ∧ a < 262144 ∧ a % 8 = 0 ∧ s.fld F.AUD_XP_SRC (a / 8) ≠ 0xFFFF then some (a / 8) else none)
  sel ++ (s.aud.fades.map XFade.ch).filter (fun c => !sel.contains c)

/-- A change of a selection starts (R371, R372): a crossfade that runs ends at its target. -/
def xpStart (s : State) (x : XpChange) : State :=
  let old := s.fld F.AUD_XP_SRC x.ch
  let add : List XFade := if x.xfade = 0 then [] else [⟨x.ch, old, x.xfade, 0⟩]
  let s := { s with aud := { s.aud with pend := s.aud.pend.filter (fun (y : XpChange) => y.ch != x.ch),
                                        fades := s.aud.fades.filter (fun (y : XFade) => y.ch != x.ch) ++ add } }
  (s.xpSet x.ch x.src).setFlag F.AUD_XP_XFADING (decide (0 < x.xfade)) x.ch

/-- The output block of a channel from `rd`, from position `j` of the block on; its fade is `j` samples short. -/
def xpVals (s : State) (rd : List ChanBlock) (ch j : Nat) : List (BitVec 32) :=
  let new := s.srcVals rd (s.fld F.AUD_XP_SRC ch)
  match s.aud.fades.find? (fun f => f.ch == ch) with
  | none => new
  | some f =>
    let old := s.srcVals rd f.old
    (List.range 3).map (fun i =>
      if f.pos + i < f.len + j then Config.crossfade f.len (f.pos + i - j) (old.getD i 0) (new.getD i 0) else new.getD i 0)

/-- Advance the crossfade of a channel by `n` samples. -/
def fadeStep (s : State) (ch n : Nat) : State :=
  match s.aud.fades.find? (fun f => f.ch == ch) with
  | none => s
  | some f =>
    let rest := s.aud.fades.filter (fun y => y.ch != ch)
    if f.len ≤ f.pos + n then ({ s with aud := { s.aud with fades := rest } }).setFlag F.AUD_XP_XFADING false ch
    else { s with aud := { s.aud with fades := rest ++ [{ f with pos := f.pos + n }] } }

/-- The crosspoint's block `t` (R359): due changes start, then every channel takes its source's block. -/
def runXp (s : State) (t : Nat) : State :=
  let due := s.aud.pend.filter (fun x => match x.viaOut, x.at_ with
    | none, _ => true
    | some _, some a => decide (posAt a ≤ 3 * t)
    | some _, none => false)
  let s := due.foldl (fun (s : State) x => s.xpStart x) s
  let chans := s.xpChans
  let rd := s.aud.read
  let b := chans.map (fun ch => (t, (⟨ch, s.xpVals rd ch 0, s.srcConc rd (s.fld F.AUD_XP_SRC ch)⟩ : ChanBlock)))
  let s := chans.foldl (fun (s : State) ch => s.fadeStep ch 3) s
  { s with aud := { s.aud with outs := s.aud.outs.filter (fun o => decide (t < o.1 + 70)) ++ b } }

/-- The flip of a domain starts its takes' audio changes: each applies at the first sample at or after the PTP time of the
flip (R283), which may lie in the block being delivered. -/
def afvFlip (s : State) (d : Nat) : State :=
  let now := s.mediaNs
  let n0 := posAt now
  let t := s.aud.block
  let mine := s.aud.pend.filter (fun x => x.viaOut.isSome && x.dom == d && x.at_.isNone)
  if 3 * (t + 1) ≤ n0 then
    { s with aud := { s.aud with pend := s.aud.pend.map (fun x =>
        if x.viaOut.isSome && x.dom == d && x.at_.isNone then { x with at_ := some now } else x) } }
  else
    let j := n0 - 3 * t
    mine.foldl (fun (s : State) x =>
      let was := (s.aud.outs.find? (fun o => o.1 == t && o.2.ref == x.ch)).map (·.2)
      let s := s.xpStart x
      let rd := s.aud.readOld
      let v := s.xpVals rd x.ch j
      let b : ChanBlock := ⟨x.ch, ((was.map ChanBlock.vals).getD zeros3).take j ++ v.drop j,
        s.srcConc rd x.src || (was.map ChanBlock.conc).getD false⟩
      let s := { s with aud := { s.aud with
        outs := s.aud.outs.filter (fun (o : Nat × ChanBlock) => !(o.1 == t && o.2.ref == x.ch)) ++ [(t, b)] } }
      s.fadeStep x.ch (3 - j)) s

/-- The samples of an output channel in block `t`. -/
def outVals (s : State) (t ch : Nat) : List (BitVec 32) :=
  ((s.aud.outs.find? (fun o => o.1 == t && o.2.ref == ch)).map (fun o => o.2.vals)).getD zeros3

/-- Whether an output channel's block `t` is concealed. -/
def outConc (s : State) (t ch : Nat) : Bool :=
  ((s.aud.outs.find? (fun o => o.1 == t && o.2.ref == ch)).map (fun o => o.2.conc)).getD false

/-! ## Delay lines (R376 to R379) -/

/-- Indices a delay line carries. -/
def lineIdx (x : DelayLine) : Nat := x.chans * chanSpan x.rate

/-- Replace a delay line. -/
def setDelay (s : State) (x : DelayLine) : State :=
  { s with aud := { s.aud with delays := s.aud.delays.map (fun y => if y.bundle == x.bundle then x else y) } }

/-- Sample `p` of index `i` that the line returns at position `n`: the send delayed by exactly D samples (R376); before
the line's first sample it returns silence, and a sample not read back is missing. -/
def lineSample (x : DelayLine) (i n : Nat) : Option (BitVec 32) :=
  match x.start with
  | none => none
  | some b0 =>
    let m := if x.rate = 1 then 2 * n + i % 2 else n
    if m < x.delay then some 0
    else
      let q := m - x.delay
      let (ix, pos) := if x.rate = 1 then (i / 2 * 2 + q % 2, q / 2) else (i, q)
      if pos < 3 * b0 then some 0
      else (x.back.find? (fun e => e.1 == pos / 3)).bind (fun e => e.2[pos % 3 * lineIdx x + ix]?)

/-- The return of every delay line for block `t`. -/
def lineReturns (s : State) (t : Nat) : List (Nat × List (Option (BitVec 32))) :=
  s.aud.delays.flatMap (fun x => (List.range (lineIdx x)).map (fun i =>
    (x.ret + i, (List.range 3).map (fun j => if s.running x.dom then lineSample x i (3 * t + j) else none))))

/-- Blocks a line no longer returns are forgotten. -/
def lineTrim (t : Nat) (x : DelayLine) : DelayLine :=
  { x with back := x.back.filter (fun e => decide (3 * t < 3 * (e.1 + 1) + x.delay)) }

/-- Every line takes its send's block `b`; a line whose domain is stopped restarts from its write position (R379). -/
def lineSend (s : State) (b : Nat) : State :=
  let one (x : DelayLine) : DelayLine :=
    if s.running x.dom then
      let v := (List.range 3).flatMap (fun j => (List.range (lineIdx x)).map (fun i => (s.outVals b (x.send + i)).getD j 0))
      { x with start := some (x.start.getD b), sendBuf := x.sendBuf ++ [(b, v)] }
    else { x with start := none, origin := (x.origin + x.wrTile) % max 1 (delayTiles x), wrTile := 0, rdTile := 0,
                  sendBuf := [], back := [] }
  { s with aud := { s.aud with delays := s.aud.delays.map one } }

/-- The first block of tile `i` of a line. -/
def lineBlock (x : DelayLine) (i : Nat) : Nat := x.start.getD 0 + i * tileBlocks x

/-- An AUDIO_BUNDLE write execution (R378): the tile being filled with the blocks it holds; a full one is complete. -/
def lineWrite (s : State) (bundle : Nat) : State :=
  match s.aud.delays.find? (fun x => x.bundle == bundle) with
  | none => s
  | some x =>
    let b0 := lineBlock x x.wrTile
    let mine := x.sendBuf.filter (fun e => decide (b0 ≤ e.1) && decide (e.1 < b0 + tileBlocks x))
    match s.resolve x.label 0 ((x.origin + x.wrTile) % max 1 (delayTiles x)) with
    | none => s
    | some t =>
      let s := s.tileWrite t 0 (mine.flatMap (fun e => e.2.flatMap (fun v => leBytes 4 v.toNat)))
      let s := (s.tagPeak (tileChannel t) 1).writeTrailer t x.label (b0 % 4294967296) 0 0 (12 * lineIdx x * tileBlocks x) 0
      if mine.length = tileBlocks x then
        s.setDelay { x with wrTile := x.wrTile + 1, sendBuf := x.sendBuf.filter (fun e => decide (b0 + tileBlocks x ≤ e.1)) }
      else s

/-- Whether a line's next tile is due: complete, and returned within 16 blocks. -/
def lineDue (s : State) (x : DelayLine) : Bool :=
  decide (x.rdTile < x.wrTile) && decide (lineBlock x x.rdTile + x.delay / (3 * chanSpan x.rate) ≤ s.aud.block + 16)

/-- An AUDIO_BUNDLE read execution (R378): the next tile due, or the next tile again. -/
def lineRead (s : State) (exec d bundle : Nat) : State :=
  match s.aud.delays.find? (fun x => x.bundle == bundle) with
  | none => s
  | some x =>
    let due := s.lineDue x
    let s := s.issueRead exec d (.audio bundle) x.label 0 ((x.origin + x.rdTile) % max 1 (delayTiles x)) x.rdTile none
    if due then s.setDelay { x with rdTile := x.rdTile + 1 } else s

/-- A read tile reaches its line: a good tile's blocks, once it was due. -/
def lineDeliver (s : State) (r : PoolRead) (bundle : Nat) : State :=
  match s.aud.delays.find? (fun x => x.bundle == bundle), r.tile with
  | some x, some t =>
    if !r.good || decide (x.rdTile ≤ r.k) then s
    else
      let n := 12 * lineIdx x
      let words (i : Nat) : List (BitVec 32) := (List.range (3 * lineIdx x)).map (fun k =>
        BitVec.ofNat 32 (u32 (s.tileBytes t (i * n + 4 * k) 4) 0))
      let new := (List.range (tileBlocks x)).map (fun i => (lineBlock x r.k + i, words i))
      s.setDelay { x with back := x.back.filter (fun e => !new.any (fun y => y.1 == e.1)) ++ new }
  | _, _ => s

/-! ## Senders (R366) -/

/-- A sample as an output stream carries it: truncated to its encoding, or an AM824 subframe, built where the source is
PCM (R367). -/
def sampleOut (s : State) (rate enc ch c m : Nat) (v : BitVec 32) : Bytes :=
  if enc = 2 then
    if s.amRef (s.fld F.AUD_XP_SRC ch) then be 4 v.toNat
    else be 1 (amFlags rate c m v) ++ be 3 (v.toNat / 256)
  else be (encBytes enc) (v.toNat / 2 ^ (32 - 8 * encBytes enc))

/-- The packet of an output stream that ends at block `t`. -/
def streamPacket (s : State) (x : AStream) (t : Nat) : State :=
  let u := t - ptimeBlocks x.ptime
  let mul := if x.rate = 1 then 2 else 1
  let n := ptimeSamples x.ptime x.rate
  let body := (List.range n).flatMap (fun j => (List.range x.chans).flatMap (fun c =>
    let a := sampleAt x.rate (x.base + c * mul) (3 * u * mul + j)
    s.sampleOut x.rate x.enc a.1 c (3 * u * mul + j) ((s.outVals (a.2 / 3) a.1).getD (a.2 % 3) 0)))
  let s := s.seqResync x.ident
  let bad := (List.range (ptimeBlocks x.ptime)).filter (fun i =>
    (List.range (x.chans * chanSpan x.rate)).any (fun c => s.outConc (u + i) (x.base + c)))
  let s := s.measAdd 5 x.ident 2 bad.length
  s.sendOn x.ident 0 0 ((3 * u * mul + x.tsOfs) % 4294967296) false s.descMode 2 (fun _ => body)

/-- Senders hand over the packets that end at block `t`; none while time is not valid (R360). -/
def sendStreams (s : State) (t : Nat) : State :=
  if s.flag F.AUD_STAT_TIME_WAIT then s
  else (s.aud.streams.filter (fun x => !x.isIn && t % ptimeBlocks x.ptime == 0)).foldl (fun (s : State) x => s.streamPacket x t) s

/-- Embed maps collect block `b` of their output channels; a channel without a source carries validity (R304). -/
def embedCollect (s : State) (b : Nat) : State :=
  let one (a : State × List EmbMap) (m : EmbMap) : State × List EmbMap :=
    if !m.embed || m.due then (a.1, a.2 ++ [m])
    else
      let add := m.entries.map (fun e =>
        let none_ := e.2 == 0xFFFF || s.fld F.AUD_XP_SRC e.2 == 0xFFFF
        (b, e.1, none_, if e.2 = 0xFFFF then zeros3 else if m.srcEn then
          (List.range 3).map (fun j => (Config.freeBits 32 (a.1.free + 3 * e.1 + j))) else s.outVals b e.2))
      ({ a.1 with free := a.1.free + 96 },
        a.2 ++ [{ m with buf := m.buf.filter (fun x => decide (b < x.1 + 720)) ++ add }])
  let r := s.aud.maps.foldl one (s, [])
  { r.1 with aud := { r.1.aud with maps := r.2 } }

/-! ## Meters (R380, R381) -/

/-- Magnitude of a Q1.31 sample. -/
def magnitude (v : BitVec 32) : Nat := v.toInt.natAbs

/-- Add samples to a channel's running measurement. -/
def meterAdd (s : State) (space ch : Nat) (vals : List (BitVec 32)) : State :=
  let m : MeterAcc := (s.aud.meters.find? (fun x => x.space == space && x.ch == ch)).getD ⟨space, ch, 0, 0, 0, 0⟩
  let m := vals.foldl (fun (m : MeterAcc) v =>
    { m with peak := max m.peak (magnitude v), sumSq := m.sumSq + magnitude v * magnitude v, n := m.n + 1 }) m
  { s with aud := { s.aud with meters := upsert (fun (x : MeterAcc) => x.space == space && x.ch == ch) m s.aud.meters } }

/-- The measurements of a boundary: the input blocks read, the internal channels, and output block `b`. -/
def meterBlock (s : State) (b : Nat) : State :=
  let ins := s.aud.read.map (fun x => (0, x.ref, x.vals.map (s.meterValue x.ref)))
  let ints := s.aud.intl.map (fun x => (1, x.ref - 0x8000, x.vals))
  let outs := (s.outUsed ++ s.xpChans.filter (fun c => !s.outUsed.contains c)).map (fun ch =>
    (2, ch, (s.outVals b ch).map (s.meterValue (s.fld F.AUD_XP_SRC ch))))
  (ins ++ ints ++ outs).foldl (fun (s : State) x => s.meterAdd x.1 x.2.1 x.2.2) s

/-- The largest w for which a power ratio p / q is at least 10^(-w/100), as a negative number of 0.1 dB, and whether it
is exact; none for zero. `p ≤ q`. -/
def floorDb (p q : Nat) : Option (Int × Bool) :=
  if p = 0 then none
  else
    let w := ((List.range 2000).find? (fun w => decide (q ^ 100 ≤ p ^ 100 * 10 ^ w))).getD 2000
    some (-(w : Int), decide (q ^ 100 = p ^ 100 * 10 ^ w))

/-- A level in 0.1 dBFS from a power ratio: the floor, or one more by a free choice where it is not exact (the rounding is
not stated); −32,768 for digital silence. -/
def level (s : State) (p q : Nat) : Int × State :=
  match floorDb p q with
  | none => (-32768, s)
  | some (w, exact) =>
    let (b, s) := s.fresh 1
    (if exact then w else w + b, s)

/-- Publish a channel's window: peak, true peak (a free value; its filter is not stated), RMS, then the silence rules. -/
def meterPublish (s : State) (m : MeterAcc) : State :=
  let (pk, s) := s.level (m.peak * m.peak) (2 ^ 62)
  let (rms, s) := s.level m.sumSq (m.n * 2 ^ 62)
  let (tp0, s) := s.fresh 16
  let tp : Int := if m.peak = 0 then -32768 else sext 16 tp0
  let quietNow := decide (rms < s.sfld F.AUD_SIL_CFG_SIL_THR)
  let q := if quietNow then min 10000000 (m.quiet + 10 * s.fld F.AUD_CFG_METER_WIN) else 0
  let silent := quietNow && decide (100 * s.fld F.AUD_SIL_CFG_SIL_TIME ≤ q)
  let m' : MeterAcc := ⟨m.space, m.ch, 0, 0, 0, q⟩
  let s := { s with aud := { s.aud with
    meters := upsert (fun (x : MeterAcc) => x.space == m.space && x.ch == m.ch) m' s.aud.meters } }
  let w0 := toField 16 pk * 65536 + toField 16 tp
  if m.space = 1 then
    let old := ((s.aud.intMeters.find? (fun x => x.1 == m.ch)).map (·.2.2)).getD 0
    let s := if silent && !bitOf old 2 then s.event blkAud 0 0x0103 [m.space, m.ch] else s
    let w1 := toField 16 rms * 65536 + 4 * b2n silent + 2 * b2n (bitOf old 1 || silent) + b2n (bitOf old 0 || decide (0 < tp))
    { s with aud := { s.aud with intMeters := upsert (fun (x : Nat × Nat × Nat) => x.1 == m.ch) (m.ch, w0, w1) s.aud.intMeters } }
  else
    let inp := m.space == 0
    let f (a b : Fld) : Fld := if inp then a else b
    let s := s.setFld (f F.AUD_METER_IN_PEAK F.AUD_METER_OUT_PEAK) (toField 16 pk) m.ch
    let s := s.setFld (f F.AUD_METER_IN_TRUE_PEAK F.AUD_METER_OUT_TRUE_PEAK) (toField 16 tp) m.ch
    let s := s.setFld (f F.AUD_METER_IN_RMS F.AUD_METER_OUT_RMS) (toField 16 rms) m.ch
    let s := if 0 < tp then s.setFlag (f F.AUD_METER_IN_OVER_SEEN F.AUD_METER_OUT_OVER_SEEN) true m.ch else s
    let was := s.flag (f F.AUD_METER_IN_SILENT F.AUD_METER_OUT_SILENT) m.ch
    let s := s.setFlag (f F.AUD_METER_IN_SILENT F.AUD_METER_OUT_SILENT) silent m.ch
    if silent && !was then
      (s.setFlag (f F.AUD_METER_IN_SIL_SEEN F.AUD_METER_OUT_SIL_SEEN) true m.ch).event blkAud 0 0x0103 [m.space, m.ch]
    else s

/-- METER_WINDOW_END (R380). -/
def meterWindow (s : State) : State :=
  (s.aud.meters.filter (fun m => decide (0 < m.n))).foldl (fun (s : State) m => s.meterPublish m) s

/-! ## Newt transfers (R384 to R389, R412) -/

/-- The sample and column of position `j` of the `i`-th reference of a task. -/
def framePosOf (rate96 : Bool) (i j : Nat) : Nat × Nat := if rate96 then (2 * j + i % 2, i / 2) else (j, i)

/-- The byte address of a sample in a frame (R387). -/
def frameAddr (base cols s c : Nat) : Nat := base + 4 * (s * ((cols + 7) / 8 * 8) + c)

/-- A task's output frame as blocks of its references. -/
def frameOut (x : NwtCore) (t : NwtTask) : List (Nat × List (BitVec 32)) :=
  (numbered 0 t.outs).map (fun p => (p.2, (List.range 3).map (fun j =>
    let a := framePosOf t.rate96 p.1 j
    memWord x.dmem (frameAddr t.outBase (frameCols t.rate96 t.outs.length) a.1 a.2))))

/-- A task's outputs at the end of its block: its frame, free values for a module of the vendor library (whose code the
specification does not give), and missing samples after a trap or while it is DIS (R408, R409). -/
def taskOuts (s : State) (c : Nat) (t : NwtTask) : State × List (Nat × List (Option (BitVec 32))) :=
  if t.startDue then (s, [])
  else if t.dis || (decide (8 ≤ t.image) && (!t.done || t.discard)) then (s, t.outs.map (fun r => (r, [none, none, none])))
  else if t.image < 8 then
    let v (i j : Nat) : Option (BitVec 32) := some (Config.freeBits 32 (s.free + 3 * i + j))
    let l := (numbered 0 t.outs).map (fun p => (p.2, (List.range 3).map (v p.1)))
    let cyc := (Config.freeBits 17 s.free).toNat % (t.budget + 1)
    (({ s with free := s.free + 3 * t.outs.length + 1 }).setFld F.NWT_TASK_STAT_CYC_LAST cyc c t.index, l)
  else (s, (frameOut (s.core c) t).map (fun p => (p.1, p.2.map some)))

/-- A task still running at the end of its window has reached its budget (R407). -/
def overrunAll (s : State) (c : Nat) : Nat → State
  | 0 => s
  | n + 1 =>
    match (s.core c).run with
    | none => s
    | some r => overrunAll (s.trapTask c r trapOverrun) c n

/-- The end of a core's block: overruns, outputs, and the peak of its cycles. -/
def coreEnd (a : State × List ChanBlock) (c : Nat) : State × List ChanBlock :=
  if (a.1.core c).tasks.isEmpty then a
  else
    let s := a.1.overrunAll c 33
    let r := (s.core c).tasks.foldl (fun (q : State × List ChanBlock) t =>
      let o := q.1.taskOuts c t
      let d := o.1.deliverAll o.2
      (d.1, q.2 ++ d.2)) (s, a.2)
    let sum := (((r.1.core c).tasks.map (fun t => r.1.fld F.NWT_TASK_STAT_CYC_LAST c t.index))).foldl (· + ·) 0
    (r.1.setFld F.NWT_CORE_CNT_CYC_PEAK (min 131071 (max sum (r.1.fld F.NWT_CORE_CNT_CYC_PEAK c))) c, r.2)

/-- Bytes of a task in data memory in 32-byte units: frames, two parameter pages, state. -/
def taskParts (t : NwtTask) : Nat × Nat × Nat × Nat :=
  let up (n : Nat) : Nat := (n + 31) / 32 * 32
  (up (frameBytes t.rate96 (frameCols t.rate96 t.ins.length)), up (frameBytes t.rate96 (frameCols t.rate96 t.outs.length)),
   up t.parLen, up t.stateLen)

/-- Data memory a task takes. -/
def taskBytes (t : NwtTask) : Nat := let p := taskParts t; p.1 + p.2.1 + 2 * p.2.2.1 + p.2.2.2

/-- Place tasks one after another in data memory (DESIGN CHOICE). -/
def placeTasks : Nat → List NwtTask → List NwtTask
  | _, [] => []
  | a, t :: ts =>
    let p := taskParts t
    { t with inBase := a, outBase := a + p.1, page0 := a + p.1 + p.2.1, page1 := a + p.1 + p.2.1 + p.2.2.1,
             stateBase := a + p.1 + p.2.1 + 2 * p.2.2.1 } :: placeTasks (a + taskBytes t) ts

/-- Move a task's regions from the old memory to its new place; a starting task has its parameter page in both pages and
a zero state region (R412). -/
def moveTask (old : List Host.Cell) (was : Option NwtTask) (t : NwtTask) (mem : List Host.Cell) : List Host.Cell :=
  match was with
  | some o =>
    let n := taskBytes t
    ssetMany zeroByte mem t.inBase (sgetMany zeroByte old o.inBase n)
  | none => ssetMany zeroByte (ssetMany zeroByte mem t.page0 t.par) t.page1 t.par

/-- Task registers of a core. -/
def taskRegs (s : State) (c : Nat) : State :=
  let x := s.core c
  let s := (List.range 32).foldl (fun (s : State) i =>
    match x.task i with
    | some t =>
      let s := ((s.setFlag F.NWT_TASK_STAT_VALID true c i).setFlag F.NWT_TASK_STAT_DIS t.dis c i).setFlag
        F.NWT_TASK_STAT_RATE96 t.rate96 c i
      (s.setFld F.NWT_TASK_STAT_IMAGE t.image c i).setFld F.NWT_TASK_STAT_CYC_BUDGET t.budget c i
    | none => if s.flag F.NWT_TASK_STAT_VALID c i then
        let a := F.NWT_TASK_STAT_VALID.addr c i
        s.clearRegs (fun k => decide (a ≤ k) && decide (k < a + 0x20)) else s) s
  let s := (s.setFld F.NWT_CORE_STAT_TASKS (min 63 x.tasks.length) c).setFlag F.NWT_CORE_STAT_IN_SERVICE (!x.tasks.isEmpty) c
  s.setFld F.NWT_CORE_STAT_CYC_ADM ((x.tasks.map NwtTask.budget).foldl (· + ·) 0) c

/-- A core's program memory: the code of the images its tasks use, each once, in slot order (R411). -/
def programOf (s : State) (ts : List NwtTask) : List Host.Cell :=
  ((List.range 56).map (· + 8)).foldl (fun (a : List Host.Cell × Nat) slot =>
    if ts.any (fun t => t.image == slot) then
      let code := slice (s.image slot) 64 (u32 (s.image slot) 4)
      (ssetMany zeroByte a.1 a.2 code, a.2 + code.length)
    else a) ([], 0) |>.1

/-- The block boundary of a core's task table (R412, R409, R389): removals, starts, enables, then page swaps. -/
def coreTable (s : State) (c : Nat) : State :=
  let x := s.core c
  if x.tasks.isEmpty then s
  else
    let change := x.tasks.any (fun t => t.startDue || t.removeDue)
    let kept := x.tasks.filter (fun t => !t.removeDue)
    let kept := (List.range 32).filterMap (fun i => kept.find? (fun t => t.index == i))
    let placed := if change then placeTasks 0 kept else kept
    let was (t : NwtTask) : Option NwtTask := if t.startDue then none else x.task t.index
    let mem := if change then placed.foldl (fun m t => moveTask x.dmem (was t) t m) [] else x.dmem
    let on (t : NwtTask) : NwtTask :=
      { t with startDue := false, par := [], done := false, discard := false, dis := t.dis && !t.enableDue, enableDue := false,
               swapped := t.swapDue, swapDue := false, page := if t.swapDue then 1 - t.page else t.page }
    let ts := placed.map on
    let mem := ts.foldl (fun m t => if t.swapped then
      ssetMany zeroByte m t.pendingPage (sgetMany zeroByte m t.activePage t.parLen) else m) mem
    let pm := if change then s.programOf ts else x.pmem
    (s.setCore c { x with tasks := ts, dmem := mem, pmem := pm, run := none, queue := [] }).taskRegs c

/-- The samples of a task's input reference at this boundary (R385): input channels as read, internal channels as
delivered. -/
def taskIn (s : State) (ref : Nat) : List (BitVec 32) :=
  if ref < 0x8000 then chanVals s.aud.read ref else chanVals s.aud.intl ref

/-- The input frames of a core's tasks (R384), then its first task starts. -/
def coreStart (s : State) (c : Nat) : State :=
  let x := s.core c
  if x.tasks.isEmpty then s
  else
    let fill (m : List Host.Cell) (t : NwtTask) : List Host.Cell :=
      let cols := frameCols t.rate96 t.ins.length
      (numbered 0 t.ins).foldl (fun m p =>
        let v := s.taskIn p.2
        (List.range 3).foldl (fun m j =>
          let a := framePosOf t.rate96 p.1 j
          ssetMany zeroByte m (frameAddr t.inBase cols a.1 a.2) (leBytes 4 (v.getD j 0).toNat)) m) m
    let q := (x.tasks.filter (fun t => !t.dis && decide (8 ≤ t.image))).map NwtTask.index
    (s.setCore c { x with dmem := x.tasks.foldl fill x.dmem, queue := q }).nextTask c

/-- Pending snapshots whose boundary has come are captured (R413). -/
def snapCapture (s : State) : State :=
  { s with nwt := { s.nwt with snaps := s.nwt.snaps.map (fun q =>
      if !q.taken && decide (q.at_ ≤ s.sys.epoch) then
        { q with taken := true, epoch := s.sys.epoch, dmem := (s.core q.core).dmem, pmem := (s.core q.core).pmem,
                 tasks := (s.core q.core).tasks }
      else q) } }

/-! ## The block boundary (R359) -/

/-- PTP time was stepped: the grid realigns (R361). -/
def realign (s : State) (t : Nat) : State :=
  match s.tim.stepped with
  | none => s
  | some n =>
    let s := (s.incFld F.AUD_STAT_REALIGN_CNT).setFlag F.AUD_STAT_REALIGN_SEEN true
    let s := s.event blkAud 1 0x0100 [toField 64 n]
    let last := s.aud.outs.filter (fun o => o.1 == s.aud.block)
    let b := last.map (fun o => (t, { o.2 with conc := true }))
    { s with tim := { s.tim with stepped := none },
             aud := { s.aud with outs := s.aud.outs.filter (fun o => decide (o.1 ≠ t)) ++ b } }

/-- A Newt capture of the active that waits is installed (R516), and NEWT_SKEW reports the blocks between. -/
def newtInstall (s : State) (t : Nat) : State :=
  match s.twn.nwtPend with
  | none => s
  | some (k, cores) =>
    let l := cores.map (fun (x : NwtCore) => { x with run := none, queue := [] })
    let s : State := { s with nwt := { s.nwt with cores := l }, twn := { s.twn with nwtPend := none } }
    s.setFld F.TWN_STAT2_NEWT_SKEW (min 65535 (t - k))

/-- A block boundary (R359, R384): results of the block that ended, the crosspoint and what it feeds, the inputs that are
due, and the tasks of the block that begins. -/
def blockBoundary (s : State) : State :=
  if s.sys.mode = .cold ∨ s.sys.mode = .quench ∨ !s.rst.pUp then s
  else
    let stepped := s.tim.stepped.isSome
    let t := if stepped then s.gridNow else max s.gridNow (s.aud.block + 1)
    let s := s.setFlag F.AUD_STAT_TIME_WAIT (!s.flag F.TIM_STATUS_TIME_VALID)
    let (s, res) := (List.range 68).foldl coreEnd (s, [])
    let (s, rets) := s.deliverAll (s.lineReturns t)
    let prev := s.aud.block
    let s := s.realign t
    let s := { s with aud := { s.aud with intl := res.filter (fun (b : ChanBlock) => decide (0x8000 ≤ b.ref)) ++ rets, block := t,
                                          delays := s.aud.delays.map (lineTrim t) } }
    let s := if stepped then s else s.runXp t
    let s := ((s.lineSend prev).embedCollect prev).meterBlock prev
    let s := (s.sendStreams t).readInputs t
    let s := { s with aud := { s.aud with read := s.aud.read ++ res.filter (fun (b : ChanBlock) => decide (b.ref < 0x8000)) } }
    let s := s.snapCapture.newtInstall t
    let s := (List.range 68).foldl (fun (s : State) c => s.coreTable c) s
    (List.range 68).foldl (fun (s : State) c => s.coreStart c) s

end State

/-- BLOCK_BOUNDARY (R359). -/
def execBlockBoundary (s : State) : Host.Outcome State Fault Refusal := runEff State.blockBoundary s

/-- AUDIO_STREAM_LOSS (R365). -/
def execAudioStreamLoss (stream : Nat) (s : State) : Host.Outcome State Fault Refusal :=
  runEff (fun s => s.streamLoss stream) s

/-- METER_WINDOW_END (R380). -/
def execMeterWindowEnd (s : State) : Host.Outcome State Fault Refusal := runEff State.meterWindow s

end Sys2Proof.Machine
end

