-- ==== Sys2Proof/Machine/NewtCmd.lean ====
section
/-! DEFINITION. Newt images, tasks and their admission (R404, R410 to R412, R485, R486), the commands of family 0x05xx,
snapshots (R413) and the memory window (R414). -/

namespace Sys2Proof.Machine

/-! ## Images (R404, R410) -/

/-- Opcodes of R399. -/
def newtOpcode (o : Nat) : Bool :=
  decide (o ≤ 0x0C) || (decide (0x10 ≤ o) && decide (o ≤ 0x1A)) || (decide (0x20 ≤ o) && decide (o ≤ 0x2B)) ||
    (decide (0x30 ≤ o) && decide (o ≤ 0x39))

/-- Control instructions: 0x01 to 0x0B. -/
def newtControl (o : Nat) : Bool := decide (1 ≤ o) && decide (o ≤ 0x0B)

/-- The loader's checks of one instruction of an image of `n` instructions (R404). -/
def newtInsOk (code : Bytes) (n i : Nat) : Bool :=
  let op (k : Nat) : Nat := byteAt code (8 * k + 7)
  let o := op i
  let tgt := u32 code (8 * i) % 8192
  newtOpcode o &&
    (!(decide (1 ≤ o) && decide (o ≤ 6)) || decide (n ≤ i + 1) || !newtControl (op (i + 1))) &&
    (!(decide (1 ≤ o) && decide (o ≤ 5)) || decide (tgt < n)) &&
    (o != 7 || (decide (i ≤ tgt) && decide (tgt < n) && !newtControl (op tgt)))

/-- Bytes an image's header declares (R486). -/
def imageBytes (b : Bytes) : Nat := 64 + u32 b 4 + u32 b 12

/-- The loader's checks of a whole image (R404, R410). -/
def imageOk (b : Bytes) : Bool :=
  let n := u32 b 4 / 8
  let code := slice b 64 (u32 b 4)
  let irq := byteAt b 34
  decide (64 ≤ b.length) && u16 b 0 == 0x4E57 && byteAt b 2 == 1 && decide (byteAt b 3 < 4) && u32 b 4 % 8 == 0 &&
    decide (8 ≤ u32 b 4) && decide (u32 b 4 ≤ 65536) && decide (u32 b 12 ≤ 16384) && decide (u16 b 16 ≤ 256) &&
    decide (u16 b 18 ≤ 256) && b.length == imageBytes b && decide (u16 b 28 < n) && decide (irq < 64) &&
    (List.range 3).all (fun k => bitsOf irq (2 * k + 1) (2 * k) != 3) && (slice b 35 5).all (· == 0) &&
    (slice b 48 12).all (· == 0) && u32 b 60 == (crc32c (slice b 0 60 ++ code)).toNat &&
    (List.range n).all (newtInsOk code n)

namespace State

/-- Whether any task uses an image slot. -/
def imageUsed (s : State) (slot : Nat) : Bool := s.nwt.cores.any (fun c => c.tasks.any (fun t => t.image == slot))

/-- The assembly in progress of a slot (R486). -/
def assembly (s : State) (slot : Nat) : Option Staging := s.cmd.staging.find? (fun x => x.slot == slot && x.last.isNone)

/-- The check of the oldest image of a slot whose last part has arrived (R486): installed with its measurement, or
discarded. The status and payload go to the command that ended it, named by source and SEQ. -/
def imageCheck (s : State) (slot : Nat) : Option (State × Nat × Nat × Nat × Bytes) :=
  match s.cmd.staging.find? (fun x => x.slot == slot && x.last.isSome) with
  | some ⟨sl, raw, some (src, seq)⟩ =>
    let s := { s with cmd := { s.cmd with staging := s.cmd.staging.erase ⟨sl, raw, some (src, seq)⟩ } }
    let n := imageBytes raw
    let b := raw.take n
    let tail := raw.drop n
    if decide (tail.length ≤ 3) && tail.all (· == 0) && imageOk b then
      let m := sha384 b
      let im : NwtImage := ⟨slot, b, m, s.sys.epoch⟩
      let s := { s with nwt := { s.nwt with images := upsert (fun (x : NwtImage) => x.slot == slot) im s.nwt.images } }
      some (s, src, seq, 0, m)
    else some (s, src, seq, 0x0108, (rej 0x0108 8).bytes)
  | _ => none

end State

/-- IMAGE_LOAD (R486). The last part's check ends at IMAGE_CHECK_DONE. -/
def applyImageLoad (c : Cmd) (s : State) : CmdResult :=
  let b := c.params
  let slot := byteAt b 0
  let first := bitOf (byteAt b 1) 0
  let last := bitOf (byteAt b 1) 1
  let off := u32 b 4
  let part := b.drop 8
  let have_ := ((s.assembly slot).map (fun x => x.bytes.length)).getD 0
  guarded [(decide (b.length < 8), rej 0x0108 b.length), (!inRanges [(8, 63)] slot, rej 0x0108 0),
      (off % 4 != 0, rej 0x0108 4), (s.imageUsed slot, rej 0x0317 0),
      (first && off != 0, rej 0x0108 4), (!first && ((s.assembly slot).isNone || off != have_), rej 0x0108 4),
      (decide (81984 < off + part.length), rej 0x0108 4)] fun _ =>
    let old := if first then [] else ((s.assembly slot).map Staging.bytes).getD []
    let rest := s.cmd.staging.filter (fun x => !(x.slot == slot && x.last.isNone))
    let new : Staging := ⟨slot, old ++ part, if last then some (c.src.val, c.seq.toNat) else none⟩
    .ok { s with cmd := { s.cmd with staging := rest ++ [new] } } (if last then [] else leBytes 4 (off + part.length))

/-- IMAGE_DELETE (R485). -/
def applyImageDelete (c : Cmd) (s : State) : CmdResult :=
  let slot := byteAt c.params 0
  guarded [lenIs c 4, (!inRanges [(8, 63)] slot, rej 0x0108 0), (s.imageUsed slot, rej 0x0317 0),
      ((s.image slot).isEmpty, rej 0x030F 0)] fun _ =>
    .ok { s with nwt := { s.nwt with images := s.nwt.images.filter (fun x => x.slot != slot) } } []

/-! ## Tasks (R411, R412) -/

/-- Groups of 8 of a count. -/
def groups8 (n : Nat) : Nat := ceilDiv n 8

/-- Declared cycles of a vendor library module: fixed part and group part for I inputs and O outputs. -/
def libCycles (slot i o : Nat) : Nat × Nat :=
  match slot with
  | 0 => (120, 24 * groups8 o + 3 * i * groups8 o)
  | 1 => (60, 9 * groups8 (max i o))
  | 2 => (80, 12 * groups8 (max i o))
  | 3 => (400, 2100 * groups8 (max i o))
  | _ => (150, 60 * groups8 (max i o))

/-- Whether a vendor library module takes I inputs and O outputs. -/
def libShape (slot i o : Nat) : Bool :=
  match slot with
  | 0 => decide (1 ≤ i ∧ i ≤ 256) && decide (1 ≤ o ∧ o ≤ 64)
  | 1 => decide (1 ≤ i ∧ i ≤ 256) && o == i
  | 2 => decide (1 ≤ i ∧ i ≤ 64) && o == i
  | 3 => decide (i ≤ 32) && decide (o ≤ 32) && decide (1 ≤ max i o)
  | 4 => decide (1 ≤ i ∧ i ≤ 24) && o == 0
  | _ => false

/-- The indices a task's channel references take (R356). -/
def taskRefs (rate96 : Bool) (l : List Nat) : List Nat := if rate96 then l.flatMap (fun r => [r, r + 1]) else l

/-- Code bytes of an image on a core. -/
def State.codeBytes (s : State) (slot i o : Nat) : Nat :=
  if slot < 8 then (Config.libSize slot i o).2.2 else u32 (s.image slot) 4

/-- The tasks a core runs from its next block boundary. -/
def nextTasks (x : NwtCore) : List NwtTask := x.tasks.filter (fun t => !t.removeDue)

/-- The core table of R411 for a task added to a core; its row is the RESOURCE. -/
def State.coreCheck (s : State) (c : Nat) (t : NwtTask) : Option RefRec :=
  let ts := nextTasks (s.core c) ++ [t]
  let total (f : NwtTask → Nat) : Nat := (ts.map f).foldl (· + ·) 0
  let slots := ascending (ts.map NwtTask.image)
  let prog := (slots.map (fun i => match ts.find? (fun t => t.image == i) with
    | some t => s.codeBytes i t.ins.length t.outs.length
    | none => 0)).foldl (· + ·) 0
  let row (st r lim d : Nat) : Bool × RefRec := (decide (lim < d), rejRes st lim d none r)
  firstFail [row 0x0223 1 72000 (total NwtTask.budget), row 0x0223 2 32 ts.length, row 0x0224 3 65536 prog,
    row 0x0224 4 245760 (total State.taskBytes), row 0x0223 5 2048 (total (fun t => t.ins.length)),
    row 0x0223 5 1024 (total (fun t => t.outs.length))]

/-- The first task index a core does not use. -/
def freeTask (x : NwtCore) : Nat :=
  ((List.range 32).find? (fun i => (nextTasks x).all (fun t => t.index != i))).getD 32

/-- A task record before its start (R412): its page holds the image defaults overwritten by the command's values. -/
def State.newTask (s : State) (index image : Nat) (rate96 : Bool) (ins outs : List Nat) (par : Bytes) : NwtTask :=
  let b := s.image image
  let (i, o) := (frameCols rate96 ins.length, frameCols rate96 outs.length)
  let lib := Config.libSize image i o
  let (parLen, stLen) := if image < 8 then (lib.1 % 16385, lib.2.1) else (u32 b 12, u32 b 8)
  let dflt := if image < 8 then [] else slice b (64 + u32 b 4) parLen
  let page := (par ++ dflt.drop par.length).take parLen
  let mul := if rate96 then 2 else 1
  let budget := if image < 8 then (libCycles image i o).1 + (libCycles image i o).2 * mul
    else u32 b 20 + u32 b 24 * groups8 (max i o) * mul
  { index := index, image := image, rate96 := rate96, ins := ins, outs := outs, inBase := 0, outBase := 0, page0 := 0, page1 := 0,
    stateBase := 0, parLen := parLen, stateLen := stLen, page := 0, swapDue := false, swapped := false, budget := budget,
    startDue := true, removeDue := false, dis := false, enableDue := false, traps := [], done := false, discard := false,
    par := page }

/-- Add a task to a core, to start at the next block boundary. -/
def State.addTask (s : State) (c : Nat) (t : NwtTask) : State :=
  let x := s.core c
  (s.setCore c { x with tasks := x.tasks ++ [t] }).audUse

/-- The SRC stage of a map or port (R375, R427): a task of the library's SRC module on a core admission chooses, as
core × 32 + task. `outs` are the input channels it writes. -/
def State.srcStage (s : State) (n : Nat) (outs : List Nat) : Except RefRec (State × Nat) :=
  let t (c : Nat) : NwtTask :=
    { s.newTask (freeTask (s.core c)) 3 false [] outs [] with budget := (libCycles 3 n n).1 + (libCycles 3 n n).2 }
  match pickUnit s .newt 0xFF 0 (fun c => s.coreCheck c (t c)) with
  | .bad r => .error r
  | .unit c => .ok (s.addTask c (t c), c * 32 + (t c).index)

/-- The form checks of a task definition's channels (R386, R410). -/
def taskForm (s : State) (image : Nat) (rate96 : Bool) (ins outs : List Nat) (nPar : Nat) : List (Bool × RefRec) :=
  let b := s.image image
  let lib := decide (image < 8)
  let rates := byteAt b 3
  let t := s.newTask 0 image rate96 (taskRefs rate96 ins) (taskRefs rate96 outs) []
  let inOk (r : Nat) : Bool := decide (r < 0xC000) && (!rate96 || r % 2 == 0)
  let outOk (r : Nat) : Bool := (decide (0x8000 ≤ r ∧ r < 0xC000) || (image == 3 && decide (r < 0x8000))) && (!rate96 || r % 2 == 0)
  let bad (p : Nat → Bool) (l : List Nat) : Option Nat := ((numbered 0 l).find? (fun q => !p q.2)).map (·.1)
  [(lib && !decide (image < 5), rej 0x030F 2), (!lib && b.isEmpty, rej 0x030F 2),
   (!lib && !bitOf rates (if rate96 then 1 else 0), rej 0x0108 3),
   (!lib && decide (u16 b 16 < ins.length), rej 0x0108 4), (!lib && decide (u16 b 18 < outs.length), rej 0x0108 6),
   (lib && !libShape image ins.length outs.length, rej 0x0108 4), (decide (t.parLen < nPar), rej 0x0108 8),
   ((bad inOk ins).isSome, rej 0x0108 (12 + 2 * (bad inOk ins).getD 0)),
   ((bad outOk outs).isSome, rej 0x0108 (12 + 2 * ins.length + 2 * (bad outOk outs).getD 0))]

/-- TASK_DEFINE (R385, R386, R411, R412, R485). -/
def applyTaskDefine (c : Cmd) (s : State) : CmdResult :=
  let b := c.params
  let (nIn, nOut, nPar) := (u16 b 4, u16 b 6, u16 b 8)
  let rate96 := bitOf (byteAt b 3) 0
  let repl := bitOf (byteAt b 3) 1
  let image := byteAt b 2
  let refs (o n : Nat) : List Nat := (List.range n).map (fun i => u16 b (o + 2 * i))
  let ins := refs 12 nIn
  let outs := refs (12 + 2 * nIn) nOut
  let po := 12 + pad4 (2 * nIn + 2 * nOut)
  let named := decide (byteAt b 0 < 68) && (nextTasks (s.core (byteAt b 0))).any (fun t => t.index == byteAt b 1)
  guarded ([(decide (b.length < 12), rej 0x0108 b.length), lenIs c (po + pad4 nPar),
      (decide (63 < image), rej 0x0108 2), (decide (31 < byteAt b 1) && byteAt b 1 != 0xFF, rej 0x0108 1)] ++
      taskForm s image rate96 ins outs nPar ++
      [(repl && !named, rej 0x030F 0), (!repl && named, rej 0x0308 1)]) fun _ =>
    let s := if repl then (s.dropTask (byteAt b 0) (byteAt b 1)).audUse else s
    let still (r : Nat) : Bool :=
      let gone := if repl then ((s.core (byteAt b 0)).tasks.filter (fun t => t.removeDue && t.index == byteAt b 1)).flatMap NwtTask.outs else []
      s.hasWriter r 1 && !gone.contains r
    let all := taskRefs rate96 outs
    let dup := (List.range all.length).find? (fun i => still (all.getD i 0) || (all.take i).contains (all.getD i 0))
    match dup with
    | some i => .bad (rej 0x030E (12 + 2 * nIn + 2 * (if rate96 then i / 2 else i)))
    | none =>
      let mk (u : Nat) : NwtTask :=
        s.newTask (if byteAt b 1 = 0xFF then freeTask (s.core u) else byteAt b 1) image rate96 (taskRefs rate96 ins) all (slice b po nPar)
      match pickUnit s .newt (byteAt b 0) 0 (fun u => s.coreCheck u (mk u)) with
      | .bad r => .bad r
      | .unit u =>
        let t := mk u
        let s := s.addTask u t
        if s.amMisuse then .bad (rej 0x0108 12)
        else .ok s ([BitVec.ofNat 8 u, BitVec.ofNat 8 t.index, 0, 0] ++ leBytes 4 t.budget)

/-- CORE and TASK of a command lie in their ranges, and the core is not in fault (R545). -/
def taskIdForm (s : State) (c i : Nat) : List (Bool × RefRec) :=
  [(decide (67 < c), rej 0x0108 0), (decide (31 < i), rej 0x0108 1), (s.unitFault .newt c, { rej 0x0501 0 with unit := some c })]

/-- Whether a core has a task of an index from its next boundary on. -/
def taskNamed (s : State) (c i : Nat) : Bool := decide (c < 68) && (nextTasks (s.core c)).any (fun t => t.index == i)

/-- TASK_REMOVE (R412). -/
def applyTaskRemove (c : Cmd) (s : State) : CmdResult :=
  let (k, i) := (byteAt c.params 0, byteAt c.params 1)
  guarded (lenIs c 4 :: taskIdForm s k i ++ [(!taskNamed s k i, rej 0x030F 0)]) fun _ => .ok (s.dropTask k i).audUse []

/-- TASK_PARAM (R389, R485). -/
def applyTaskParam (c : Cmd) (s : State) : CmdResult :=
  let b := c.params
  let (k, i, off, n) := (byteAt b 0, byteAt b 1, u16 b 2, u16 b 4)
  let x := s.core k
  match (nextTasks x).find? (fun t => t.index == i && decide (k < 68) && !s.unitFault .newt k) with
  | none => guarded [(decide (b.length < 8), rej 0x0108 b.length), lenIs c (8 + pad4 n)] fun _ =>
      .bad ((firstFail (taskIdForm s k i)).getD (rej 0x030F 0))
  | some t =>
    guarded [(decide (b.length < 8), rej 0x0108 b.length), lenIs c (8 + pad4 n), (off % 4 != 0, rej 0x0108 2),
        (decide (t.parLen < off + n), rej 0x0108 4)] fun _ =>
      let data := slice b 8 n
      let s : State := { s with twn := { s.twn with pagesNow := s.twn.pagesNow ++ [(k, i, off, data)] } }
      if t.startDue then
        let page := padTo t.parLen t.par
        .ok (s.setCore k (x.setTask { t with par := page.take off ++ data ++ page.drop (off + n) })) []
      else
        let x := { x with dmem := ssetMany zeroByte x.dmem (t.pendingPage + off) data }
        .ok (s.setCore k (x.setTask { t with swapDue := true })) []

/-- TASK_ENABLE (R409). -/
def applyTaskEnable (c : Cmd) (s : State) : CmdResult :=
  let (k, i) := (byteAt c.params 0, byteAt c.params 1)
  guarded (lenIs c 4 :: taskIdForm s k i ++ [(!taskNamed s k i, rej 0x030F 0)]) fun _ =>
    let x := s.core k
    let ts := x.tasks.map (fun (t : NwtTask) => if t.index == i && t.dis && !t.removeDue then { t with enableDue := true } else t)
    .ok { (s.setCore k { x with tasks := ts }) with
          twn := { s.twn with newtNow := s.twn.newtNow ++ [(k, i, false)] } } []

/-! ## Snapshots (R413) -/

/-- SNAPSHOT (R413): one of four buffers; the reply waits for the copy. -/
def applySnapshot (c : Cmd) (s : State) : CmdResult :=
  let b := c.params
  let k := byteAt b 0
  let n := u64 b 4
  guarded [lenIs c 12, (decide (67 < k), rej 0x0108 0), (s.unitFault .newt k, { rej 0x0501 0 with unit := some k }),
      (decide (s.sys.epoch + 65536 < n), rej 0x0108 4),
      (decide (4 ≤ s.nwt.snaps.length), rejAll 0x0225)] fun _ =>
    let ident := ((List.range 4).find? (fun i => s.nwt.snaps.all (fun q => q.ident != i))).getD 0
    let q : Snapshot := ⟨ident, k, c.src.val, c.seq.toNat, max n s.sys.epoch, false, false, 0, [], [], []⟩
    .ok { s with nwt := { s.nwt with snaps := s.nwt.snaps ++ [q] } } [BitVec.ofNat 8 ident, 0, 0, 0]

/-- The oldest captured snapshot's copy completes: the reply's source, SEQ and EPOCH. -/
def State.snapDone (s : State) : Option (State × Snapshot) :=
  match s.nwt.snaps.find? (fun q => q.taken && !q.copied) with
  | none => none
  | some q =>
    let l := s.nwt.snaps.map (fun (x : Snapshot) => if x == q then { x with copied := true } else x)
    some ({ s with nwt := { s.nwt with snaps := l } }, { q with copied := true })

/-! ## The memory window (R414) -/

namespace State

/-- The byte address in the selected memory of an offset in NWT_MEM_WIN. -/
def nwtWinAddr (s : State) (off : Nat) : Nat :=
  if s.flag F.NWT_MEM_WIN_SEL_SPACE then off % 65536 else s.fld F.NWT_MEM_WIN_SEL_PAGE * 65536 + off % 65536

/-- A read through NWT_MEM_WIN: live, in every mode except Cold. -/
def nwtWinRead (s : State) (off : Nat) : Word :=
  let c := s.fld F.NWT_MEM_WIN_SEL_CORE
  if 68 ≤ c ∨ s.sys.mode = .cold then 0
  else memWord (if s.flag F.NWT_MEM_WIN_SEL_SPACE then (s.core c).pmem else (s.core c).dmem) (s.nwtWinAddr off / 4 * 4)

/-- A write through NWT_MEM_WIN: accepted when the register rules allow it (`allowed`, R9) and the core runs no task;
any other write only sets WR_REFUSED. -/
def nwtWinWrite (s : State) (allowed : Bool) (off : Nat) (v : Word) : State :=
  let c := s.fld F.NWT_MEM_WIN_SEL_CORE
  let x := s.core c
  if !allowed || decide (68 ≤ c) || !x.tasks.isEmpty then s.setFlag F.NWT_MEM_WIN_SEL_WR_REFUSED true
  else
    let a := s.nwtWinAddr off / 4 * 4
    if s.flag F.NWT_MEM_WIN_SEL_SPACE then s.setCore c { x with pmem := ssetMany zeroByte x.pmem a (leBytes 4 v.toNat) }
    else s.setCore c { x with dmem := ssetMany zeroByte x.dmem a (leBytes 4 v.toNat) }

end State
end Sys2Proof.Machine
end

