-- ==== Sys2Proof/Machine/AudioCmd.lean ====
section
/-! DEFINITION. The audio plane commands of family 0x04xx but the ports' (R362 to R378, R382, R484). -/

namespace Sys2Proof.Machine

/-- Fields of AUD_CFG. -/
def audFields : List Fld := [F.AUD_CFG_CONCEAL_MAX, F.AUD_CFG_LOSS_MS, F.AUD_CFG_METER_WIN]

/-- The form checks ASTREAM_IN and ASTREAM_OUT share (R356, R362): encoding, rate, packet time, channels, payload, base. -/
def streamForm (b : Bytes) : List (Bool × RefRec) :=
  let (enc, rate, pt, n, base) := (byteAt b 2, byteAt b 3, byteAt b 4, byteAt b 5, u16 b 8)
  [(decide (2 < enc), rej 0x0108 2), (decide (1 < rate), rej 0x0108 3), (decide (2 < pt), rej 0x0108 4),
   (!inRanges [(1, 64)] n, rej 0x0108 5), (decide (1440 < ptimeSamples pt rate * n * encBytes enc), rej 0x0108 5),
   (decide (32768 < base + n * chanSpan rate) || (rate == 1 && base % 2 != 0), rej 0x0108 8)]

/-- Streams of a direction with delay-line labels counted (R382). -/
def State.streamCount (s : State) (isIn : Bool) : Nat :=
  (s.aud.streams.filter (fun x => x.isIn == isIn)).length + (if isIn then s.aud.delays.length else 0)

/-- Whether an identifier of 0x1000 to 0x2FFF names a stream or a line's label. -/
def State.streamTaken (s : State) (id : Nat) : Bool :=
  (s.astream id).isSome || s.aud.delays.any (fun x => x.label == id)

/-- The stream a definition's bytes describe. -/
def streamOf (b : Bytes) (unit paths rxo : Nat) : AStream :=
  ⟨u16 b 0, byteAt b 2, byteAt b 3, byteAt b 4, byteAt b 5, unit, paths, u16 b 8, rxo, u32 b 12, List.replicate 7 0, [], false, [], none⟩

/-- The 128 streams of a unit (R382). -/
def unitStreamCheck (n : Nat) (rest : Option RefRec) : Option RefRec :=
  if 128 < n then some (rejRes 0x0221 128 n) else rest

/-- ASTREAM_IN (R356, R362, R364, R382). -/
def applyAstreamIn (c : Cmd) (s : State) : CmdResult :=
  let b := c.params
  let id := u16 b 0
  let paths := byteAt b 7
  let rxo := byteAt b 10
  let n := byteAt b 5 * chanSpan (byteAt b 3)
  guarded ([lenIs c 48, (!inRanges [(0x1000, 0x1FFF)] id, rej 0x0108 0)] ++ streamForm b ++
      [(decide (3 < paths) || paths == 0, rej 0x0108 7), (!pathsOk b paths 16, rej 0x0108 16),
       (!inRanges [(ptimeBlocks (byteAt b 4) + 1, 52)] rxo, rej 0x0108 10), (s.streamTaken id, rej 0x0308 0),
       (s.hasWriter (u16 b 8) n, rej 0x030E 8),
       (decide (4096 < s.streamCount true + 1), rejRes 0x0221 4096 (s.streamCount true + 1)),
       (decide (32768 < (State.ascending s.inWriters).length + n), rejRes 0x0220 32768 ((State.ascending s.inWriters).length + n))]) fun _ =>
    let fl := pathFilters b paths 16 id
    let add (u : Nat) : State := { s with aud := { s.aud with streams := s.aud.streams ++ [streamOf b u paths rxo] } }
    match s.filterAdmit fl 16 with
    | some r => .bad r
    | none =>
      match pickUnit s .ladle (byteAt b 6) 6 (fun u =>
          unitStreamCheck ((add u).unitStreams true u).length ((add u).ladCheck u)) with
      | .bad r => .bad r
      | .unit u =>
        let t := (((add u).addFilters fl).ladUse u).audUse
        if t.amMisuse then .bad (rej 0x0108 2) else .ok t [BitVec.ofNat 8 u, 0, 0, 0]

/-- A send block's limits for an audio stream, which has no MAX_PAYLOAD. -/
def audioBlockOk (b : Bytes) (o : Nat) : Bool :=
  decide (byteAt b o < 32) && decide (byteAt b (o + 1) < 128) && (decide (u16 b (o + 2) < 4096) || u16 b (o + 2) == 0xFFFF)

/-- The wire rate of an audio sender in Mb/s (R154). -/
def audioMbps (pt rate n enc : Nat) (tagged : Bool) : Nat :=
  ceilDiv (packetBits tagged (ptimeSamples pt rate * n * encBytes enc) * 16000) (ptimeBlocks pt * 1000000)

/-- ASTREAM_OUT (R356, R362, R366, R382). -/
def applyAstreamOut (c : Cmd) (s : State) : CmdResult :=
  let b := c.params
  let id := u16 b 0
  let dual := bitOf (byteAt b 7) 1
  guarded ([lenIs c 48, (!inRanges [(0x2000, 0x2FFF)] id, rej 0x0108 0)] ++ streamForm b ++
      [(!audioBlockOk b 16, rej 0x0108 16), (dual && !audioBlockOk b 32, rej 0x0108 32), (s.streamTaken id, rej 0x0308 0),
       (decide (4096 < s.streamCount false + 1), rejRes 0x0221 4096 (s.streamCount false + 1))]) fun _ =>
    let (ini, s) := s.tplInit
    let ts := sendBlocks b 16 id ini dual (fun _ tag => audioMbps (byteAt b 4) (byteAt b 3) (byteAt b 5) (byteAt b 2) tag)
    let add (u : Nat) : State := { s with aud := { s.aud with
      streams := s.aud.streams ++ [streamOf b u (if dual then 3 else 1) 0] } }
    let full (u : Nat) : State := (add u).addTemplates ts
    match s.templateAdmit ts with
    | some r => .bad r
    | none =>
      match pickUnit s .shakeout (byteAt b 6) 6 (fun u =>
          unitStreamCheck ((full u).unitStreams false u).length ((full u).shkCheck u)) with
      | .bad r => .bad r
      | .unit u =>
        let t := ((full u).shkUse u).audUse
        if t.amMisuse then .bad (rej 0x0108 2) else .ok t [BitVec.ofNat 8 u, 0, 0, 0]

/-- ASTREAM_DELETE (R484): readers of its channels receive silence from the next block. -/
def applyAstreamDelete (c : Cmd) (s : State) : CmdResult :=
  let id := u16 c.params 0
  guarded [lenIs c 4, (!inRanges [(0x1000, 0x2FFF)] id, rej 0x0108 0)] fun _ =>
    match s.astream id with
    | none => .bad (rej 0x030F 0)
    | some x =>
      let s := s.measDelete (if id < 0x2000 then 4 else 5) id
      let t := { s with aud := { s.aud with streams := s.aud.streams.filter (fun (y : AStream) => y.ident != id) },
                        shk := { s.shk with seqAdopt := s.shk.seqAdopt.filter (fun y => y.1 != id) } }
      let gone (ref : Nat) : Bool := x.isIn && decide (x.base ≤ ref) && decide (ref < x.base + x.chans * chanSpan x.rate)
      let t := { t with aud := { t.aud with good := t.aud.good.filter (fun (g : ChanBlock) => !gone g.ref),
                                            tank := t.aud.tank.filter (fun (y : Sample) => !gone y.ch) } }
      .ok (if x.isIn then ((t.dropFilters id).ladUse x.unit).audUse else ((t.dropTemplates id).shkUse x.unit).audUse) []

/-- Whether a source reference is one of R355. -/
def srcRefOk (r : Nat) : Bool := decide (r < 0xC000) || r == 0xFFFF

/-- XP_SET (R370 to R372, R484). -/
def applyXpSet (c : Cmd) (s : State) : CmdResult :=
  let b := c.params
  let n := u16 b 0
  let item (i : Nat) : XpChange :=
    let o := 4 + 8 * i
    ⟨u16 b o, u16 b (o + 2), if u16 b (o + 4) = 0xFFFF then s.fld F.AUD_XP_XFADE (u16 b o) else u16 b (o + 4), none, 0, none⟩
  let l := (List.range n).map item
  let bad := (List.range n).findSome? (fun i =>
    let x := l.getD i ⟨0, 0, 0, none, 0, none⟩
    let o := 4 + 8 * i
    if 32767 < x.ch ∨ (l.take i).any (fun y => y.ch == x.ch) then some o
    else if !srcRefOk x.src then some (o + 2) else if 480 < x.xfade then some (o + 4) else none)
  guarded [(decide (b.length < 4), rej 0x0108 b.length), (decide (n = 0 ∨ 8187 < n), rej 0x0108 0), lenIs c (4 + 8 * n),
      (bad.isSome, rej 0x0108 (bad.getD 0))] fun _ =>
    let t := l.foldl (fun (s : State) x => (s.setFld F.AUD_XP_XFADE x.xfade x.ch).xpWait x) s
    if t.amMisuse then .bad (rej 0x0108 4) else .ok t []

/-- The flow's maps of a direction and their SRC stages go, as far as a new one replaces them: the map in force stays
until the flow's next frame. -/
def State.mapReplace (s : State) (m : EmbMap) : State :=
  let mine (x : EmbMap) : Bool := x.flow == m.flow && x.embed == m.embed
  let s := (s.aud.maps.filter mine).foldl (fun (s : State) x => s.dropStage x.srcCore) s
  let l := s.aud.maps.filter (fun x => !(mine x && x.due))
  let keep := l.map (fun (x : EmbMap) => if mine x then { x with srcCore := none } else x)
  ({ s with aud := { s.aud with maps := m :: keep } }).audUse

/-- Slips counted by a flow's map so far. -/
def State.mapSlips (s : State) (flow : Nat) (emb : Bool) : Nat :=
  ((s.aud.maps.find? (fun x => x.flow == flow && x.embed == emb)).map EmbMap.slips).getD 0

/-- The entries of a map from byte `o`. -/
def mapEntries (b : Bytes) (o n : Nat) : List (Nat × Nat) := (List.range n).map (fun i => (byteAt b (o + 4 * i), u16 b (o + 4 * i + 2)))

/-- The first entry of a map out of its range: embedded channel over 31 or named twice, audio channel over 32,767. -/
def badEntry (l : List (Nat × Nat)) : Option Nat :=
  (List.range l.length).find? (fun i =>
    let e := l.getD i (0, 0)
    decide (31 < e.1) || (l.take i).any (fun x => x.1 == e.1) || (decide (32767 < e.2) && e.2 != 0xFFFF))

/-- DEEMBED_MAP (R373, R375, R382, R484). -/
def applyDeembedMap (c : Cmd) (s : State) : CmdResult :=
  let b := c.params
  let f := u16 b 0
  let n := byteAt b 3
  let src := bitOf (byteAt b 2) 0
  let l := mapEntries b 4 n
  let chans := (l.map (·.2)).filter (· != 0xFFFF)
  let x := s.inFlow f
  guarded [(decide (b.length < 4), rej 0x0108 b.length), (!inRanges [(1, 32)] n, rej 0x0108 3), lenIs c (4 + 4 * n),
      (decide (0x7FF < f), rej 0x0108 0), (x.isNone, rej 0x030F 0), (x.any (fun y => y.src == 2), rej 0x0108 0),
      ((badEntry l).isSome, rej 0x0108 (4 + 4 * (badEntry l).getD 0))] fun _ =>
    let free := { s with aud := { s.aud with maps := s.aud.maps.filter (fun m => !(m.flow == f && !m.embed)) } }
    let stage := (s.aud.maps.filter (fun m => m.flow == f && !m.embed)).filterMap EmbMap.srcCore
    let mine := stage.flatMap (fun k => ((s.core (k / 32)).tasks.filter (fun t => t.index == k % 32)).flatMap NwtTask.outs)
    let w := free.inWriters.filter (fun r => !mine.contains r)
    let dup := (List.range chans.length).find? (fun i => w.contains (chans.getD i 0) || (chans.take i).contains (chans.getD i 0))
    match dup with
    | some i => .bad (rej 0x030E (4 + 4 * ((l.findIdx? (fun e => e.2 == chans.getD i 0)).getD 0)))
    | none =>
      let m : EmbMap := ⟨f, false, src, none, 0, l, s.mapSlips f false, true, none, []⟩
      let t := s.mapReplace m
      if !src then .ok t []
      else match t.srcStage chans.length chans with
        | .error r => .bad r
        | .ok (t, k) =>
          let set (y : EmbMap) : EmbMap := if y == m then { y with srcCore := some k } else y
          .ok { t with aud := { t.aud with maps := t.aud.maps.map set } } []

/-- EMBED_MAP (R374, R375, R382). -/
def applyEmbedMap (c : Cmd) (s : State) : CmdResult :=
  let b := c.params
  let f := u16 b 0
  let n := byteAt b 3
  let src := bitOf (byteAt b 2) 0
  let l := mapEntries b 8 n
  let o := s.vout f
  guarded [(decide (b.length < 8), rej 0x0108 b.length), (decide (32 < n), rej 0x0108 3), lenIs c (8 + 4 * n),
      (!inRanges [(0x0800, 0x0FFF)] f, rej 0x0108 0), (o.isNone, rej 0x030F 0),
      (s.fld F.SHK_FLOW_CFG_KIND (f - 0x800) == 2, rej 0x0108 0),
      ((badEntry l).isSome, rej 0x0108 (8 + 4 * (badEntry l).getD 0))] fun _ =>
    let m : EmbMap := ⟨f, true, src, none, byteAt b 4, l, s.mapSlips f true, true, none, []⟩
    let ep := some (((o.map VOut.dom).bind s.predictFrame).map (·.2))
    let at_ := (o.map VOut.dom).bind s.frameNs
    let t := s.mapReplace m
    if !src then .ok t [] ep at_
    else match t.srcStage n [] with
      | .error r => .bad r
      | .ok (t, k) =>
        let set (y : EmbMap) : EmbMap := if y == m then { y with srcCore := some k } else y
        .ok { t with aud := { t.aud with maps := t.aud.maps.map set } } [] ep at_

/-- DELAY_DEFINE (R376 to R378, R382). -/
def applyDelayDefine (c : Cmd) (s : State) : CmdResult :=
  let b := c.params
  let x : DelayLine := ⟨u16 b 0, u16 b 2, byteAt b 8, u16 b 4, u16 b 6, byteAt b 9, byteAt b 10, u32 b 12, [], none, 0, 0, 0, [], []⟩
  let n := x.chans * chanSpan x.rate
  let odd (v : Nat) : Bool := x.rate == 1 && v % 2 != 0
  guarded [lenIs c 16, (decide (4095 < x.bundle), rej 0x0108 0), (!inRanges [(0x1000, 0x1FFF)] x.label, rej 0x0108 2),
      (!inRanges [(1, 64)] x.chans, rej 0x0108 8), (decide (3 < x.dom), rej 0x0108 9), (decide (1 < x.rate), rej 0x0108 10),
      (decide (32768 < x.send + n) || odd x.send, rej 0x0108 4),
      (decide (x.ret < 0x8000) || decide (0xC000 < x.ret + n) || odd x.ret, rej 0x0108 6), (!State.delayForm x, rej 0x0108 12),
      (s.aud.delays.any (fun y => y.bundle == x.bundle), rej 0x0308 0), (s.streamTaken x.label, rej 0x0308 2),
      (s.hasWriter x.ret n, rej 0x030E 6),
      (decide (4096 < s.streamCount true + 1), rejRes 0x0221 4096 (s.streamCount true + 1))] fun _ =>
    match s.allocTry (State.delayTiles x) with
    | .bad r => .bad r
    | .ok l =>
      let t := s.allocRing x.label 0 x.dom (State.delayTiles x) l
      let t := { t with aud := { t.aud with delays := t.aud.delays ++ [x] } }
      if t.amMisuse then .bad (rej 0x0108 4)
      else match t.admitDoms [x.dom] with
        | some r => .bad r
        | none => .ok (t.audUse.writeDoms [x.dom]) (leBytes 4 (State.delayTiles x))

/-- DELAY_DELETE (R376): a line that serves audio-follow routes is in use. -/
def applyDelayDelete (c : Cmd) (s : State) : CmdResult :=
  let n := u16 c.params 0
  guarded [lenIs c 4, (decide (4095 < n), rej 0x0108 0)] fun _ =>
    match s.aud.delays.find? (fun y => y.bundle == n) with
    | none => .bad (rej 0x030F 0)
    | some x =>
      if !x.users.isEmpty then .bad (rej 0x0319 0)
      else
        let t := s.releaseFlow x.label
        let t := { t with aud := { t.aud with delays := t.aud.delays.filter (fun (y : DelayLine) => y.bundle != n) } }
        match t.admitDoms [x.dom] with
        | some r => .bad r
        | none => .ok (t.audUse.writeDoms [x.dom]) []

/-- AUD_CFG (R365, R380, R381). -/
def applyAudCfg (c : Cmd) (s : State) : CmdResult :=
  let b := c.params
  guarded [lenIs c 8, (byteAt b 1 == 0, rej 0x0108 0), (byteAt b 2 == 0, rej 0x0108 0), (byteAt b 3 == 0, rej 0x0108 0),
      (u16 b 4 == 0, rej 0x0108 4)] fun _ =>
    let s := storeFields s audFields (u32 b 0) 0
    .ok (storeFields s [F.AUD_SIL_CFG_SIL_THR, F.AUD_SIL_CFG_SIL_TIME] (u32 b 4) 0) []

end Sys2Proof.Machine
end

