-- ==== Sys2Proof/Machine/AudioPorts.lean ====
section
/-! DEFINITION. The audio ports (chapter 14): formats by mode, TDM frames and AES3 stretches, FIFOs, masks, restarts,
channel status, and the APT commands of family 0x04xx. A row that begins a frame or a stretch carries the words that
follow it. -/

namespace Sys2Proof.Machine

/-- The format a port runs in a mode (R417): 0 off, 1 AES3, 2 TDM, 3 safe state. -/
def portFormat (m : Mode) (pinned : Bool) : Nat :=
  match m with
  | .cold => 0
  | .melt | .proof => 2
  | .pour | .hold => if pinned then 2 else 1
  | .quench => 3

/-- Width of a TDM slot in bits (APT_TDM_CFG). -/
def tdmWidth (code : Nat) : Nat := [16, 20, 24, 32].getD code 32

/-- The TDM bit clock in kHz that a word of APT_TDM_CFG asks for (R423). -/
def tdmClock (w : Nat) : Nat := (bitsOf w 14 10 + 1) * tdmWidth (bitsOf w 9 8) * (if bitOf w 30 then 96 else 48)

/-- A received slot word left-justified; of a 32-bit slot the upper 24 bits are audio (R423, R357). -/
def slotSample (width w : Nat) : BitVec 32 :=
  if width = 32 then BitVec.ofNat 32 (w / 256 * 256) else BitVec.ofNat 32 (w % 2 ^ width * 2 ^ (32 - width))

/-- A sample as a slot of a width sends it (R423). -/
def sampleSlot (width : Nat) (v : BitVec 32) : BitVec 32 :=
  if width = 32 then v &&& 0xFFFFFF00#32 else BitVec.ofNat 32 (v.toNat / 2 ^ (32 - width))

/-- Slots a mask enables, ascending: the TDM frame's, or subframes A and B (R424). -/
def maskSlots (aes : Bool) (slots mask : Nat) : List Nat := (List.range (if aes then 2 else slots)).filter (fun i => mask.testBit i)

namespace State

/-- A port's record. -/
def aptPort (s : State) (p : Nat) : AptPort := s.apt.ports.getD p AptPort.reset

/-- Replace a port's record. -/
def setAptPort (s : State) (p : Nat) (x : AptPort) : State := { s with apt := { ports := s.apt.ports.set p x } }

/-- Ports take the format of the mode and PIN_TDM at a cast boundary (R418): a changed port stops, and each direction waits
for its first sync. -/
def aptFormat (s : State) : State :=
  (List.range 16).foldl (fun (s : State) p =>
    let f := portFormat s.sys.mode (s.flag F.APT_PORT_CFG_PIN_TDM p)
    if s.fld F.APT_PORT_STAT_FORMAT p = f then s
    else
      let x := s.aptPort p
      let s := s.setAptPort p { x with inFifo := [], outFifo := [], waitIn := true, waitOut := true, inNext := none, outNext := none }
      let s := (s.setFld F.APT_PORT_STAT_FORMAT f p).setFlag F.APT_PORT_STAT_LOCK false p
      (s.setFlag F.APT_PORT_STAT_BLOCK_LOCK false p).setFld F.APT_PORT_STAT_DET_RATE 7 p) s

/-- A FIFO event (R428): alignment is lost, with a Notice fault. -/
def alignLost (s : State) (p : Nat) : State :=
  ((s.setFlag F.APT_PORT_STAT_ALIGN_LOST true p).setFlag F.APT_PORT_STAT_ALIGN_SEEN true p).raise fltAptAlign [p]

/-- A restart point of a port (R429). -/
def portRestart (s : State) (p : Nat) : State :=
  let x := s.aptPort p
  if x.restart || (s.flag F.APT_PORT_STAT_ALIGN_LOST p && s.flag F.APT_PORT_CFG_AUTORESTART p) then
    let s := s.setAptPort p { x with inFifo := [], outFifo := [], restart := false }
    (s.setFlag F.APT_PORT_STAT_ALIGN_LOST false p).incFld F.APT_PORT_CNT_RESTARTS p
  else s

/-- Pending masks whose 2 frames have passed take effect (R425); each direction has its own instant in AES3. -/
def portMasks (s : State) (p : Nat) (inp out : Bool) : State :=
  let x := s.aptPort p
  let s := match x.maskIn with
    | some (m, t) => if inp && decide (t ≤ s.tick) then
        (s.setFld F.APT_MASK_ACTIVE_IN_MASK m p).setAptPort p { x with maskIn := none } else s
    | none => s
  let y := s.aptPort p
  match y.maskOut with
  | some (m, t) => if out && decide (t ≤ s.tick) then
      (s.setFld F.APT_MASK_ACTIVE_OUT_MASK m p).setAptPort p { y with maskOut := none } else s
  | none => s

/-- Samples a 48 kHz position holds: 2 where the port's frames run at 96 kHz. -/
def portMul (s : State) (p : Nat) : Nat :=
  if s.fld F.APT_PORT_STAT_FORMAT p = 2 then (if s.flag F.APT_TDM_CFG_RATE96 then 2 else 1)
  else if s.flag F.APT_PORT_CFG_RATE96 p then 2 else 1

/-- The frame index a port direction takes next (R427): it follows the frames, and a drift of more than one block from the
media clock drops or repeats one; also whether it slipped. -/
def portNext (s : State) (mul : Nat) (next : Option Nat) : Nat × Bool :=
  let nominal := (s.mediaNs - 125000) * 3 * mul / 62500
  match next with
  | none => (nominal / (3 * mul) * (3 * mul), false)
  | some n =>
    if n + 160 * mul < nominal ∨ nominal + 160 * mul < n then (nominal / (3 * mul) * (3 * mul), false)
    else if n + 3 * mul < nominal then (n + 3 * mul, true)
    else if nominal + 3 * mul < n then (n - 3 * mul, true)
    else (n, false)

/-- Count a slip of a port direction (R427). -/
def portSlip (s : State) (p : Nat) (out : Bool) : State :=
  ((s.incFld F.APT_PORT_CNT_SLIPS p).event blkApt 1 0x0100 [p, b2n out]).raise fltAudSlip [0x8000 + p]

/-- The words of one received frame pass the FIFO and reach the tank (R424, R428): `ws` are the samples of the enabled
slots with whether each found the FIFO full. Reserved channels the mask does not reach are zero. -/
def portFrameIn (s : State) (p n mul : Nat) (ws : List (BitVec 32 × Bool)) : State :=
  let s := ws.foldl (fun (s : State) w =>
    let x := s.aptPort p
    if w.2 || decide (64 ≤ x.inFifo.length) then (s.incFld F.APT_PORT_CNT_FIFO_OVF p).alignLost p
    else s.setAptPort p { x with inFifo := x.inFifo ++ [w.1.toNat] }) s
  let x := s.aptPort p
  let k := ws.length
  if x.inFifo.length < k then s
  else
    let s := s.setAptPort p { x with inFifo := x.inFifo.drop k }
    if s.flag F.APT_PORT_CFG_SRC_EN p then s
    else
      let base := s.fld F.APT_PORT_CFG_IN_BASE p
      let s := (numbered 0 (x.inFifo.take k)).foldl (fun (s : State) q =>
        let a := sampleAt (mul - 1) (base + q.1 * mul) n
        s.tankPut a.1 a.2 (BitVec.ofNat 32 q.2)) s
      ((s.portIns p).filter (fun ch => decide (base + k * mul ≤ ch))).foldl (fun (s : State) ch => s.tankPut ch (n / mul) 0) s

/-- One frame of a port's output (R424, R428): the words of the enabled slots pass the FIFO; a slot that finds it empty
sends a zero word. -/
def portFrameOut (s : State) (p n mul : Nat) (aes : Bool) (empty : List Nat) : State × List (BitVec 32 × Option Bool) :=
  let slots := if aes then 2 else s.fld F.APT_TDM_CFG_SLOTS + 1
  let en := maskSlots aes slots (s.fld F.APT_MASK_ACTIVE_OUT_MASK p)
  let base := s.fld F.APT_PORT_OUT_OUT_BASE p
  let width := if aes then 24 else tdmWidth (s.fld F.APT_TDM_CFG_WIDTH)
  let word (k : Nat) : BitVec 32 × Option Bool :=
    let a := sampleAt (mul - 1) (base + k * mul) n
    let v := (s.outVals (a.2 / 3) a.1).getD (a.2 % 3) 0
    let src := s.fld F.AUD_XP_SRC a.1
    if s.flag F.APT_PORT_CFG_SRC_EN p && !aes && !s.flag F.APT_TDM_CFG_MASTER then
      (sampleSlot width (Config.freeBits 32 (s.free + k)), some false)
    else if aes && s.amRef src then (v, none)
    else if aes then (v >>> 8, some (src == 0xFFFF || s.outConc (a.2 / 3) a.1))
    else (sampleSlot width v, some false)
  let x := s.aptPort p
  let fifo := x.outFifo ++ (List.range en.length).map word
  let s := { (s.setAptPort p { x with outFifo := fifo }) with free := s.free + 32 }
  (List.range slots).foldl (fun (a : State × List (BitVec 32 × Option Bool)) i =>
    if !en.contains i then (a.1, a.2 ++ [(0, some (aes : Bool))])
    else
      let x := a.1.aptPort p
      match x.outFifo, empty.contains i with
      | w :: rest, false => (a.1.setAptPort p { x with outFifo := rest }, a.2 ++ [w])
      | _, _ => ((a.1.incFld F.APT_PORT_CNT_FIFO_UNF p).alignLost p, a.2 ++ [(0, some (aes : Bool))])) (s, [])

/-- Whether a port's outputs are driven (R431): in Hold only with HOLD_DRIVE. -/
def portDrives (s : State) (p : Nat) : Bool :=
  s.flag F.APT_PORT_CFG_OUT_EN p && (match s.sys.mode with
    | .melt | .proof | .pour => true
    | .hold => s.flag F.APT_PORT_CFG_HOLD_DRIVE p
    | _ => false)

/-- One port's TDM frame (R423 to R429). -/
def tdmPort (s : State) (f : TdmPort) : State :=
  let p := f.port
  if ¬(p < 16 ∧ s.fld F.APT_PORT_STAT_FORMAT p = 2) ∨ s.sys.mode = .quench ∨ s.sys.mode = .cold then s
  else
    let s := s.setAptPort p { s.aptPort p with waitIn := false, waitOut := false }
    let s := ((s.setFlag F.APT_PORT_STAT_LOCK true p).portRestart p).portMasks p true true
    let mul := s.portMul p
    let slots := s.fld F.APT_TDM_CFG_SLOTS + 1
    let width := tdmWidth (s.fld F.APT_TDM_CFG_WIDTH)
    let s := if s.flag F.APT_PORT_CFG_IN_EN p then
        let (n, sl) := s.portNext mul (s.aptPort p).inNext
        let en := maskSlots false slots (s.fld F.APT_MASK_ACTIVE_IN_MASK p)
        let s := s.setAptPort p { s.aptPort p with inNext := some (n + 1) }
        let s := s.portFrameIn p n mul (en.map (fun i => (slotSample width (f.words.getD i 0), f.lost.contains i)))
        if sl && !s.flag F.APT_PORT_CFG_SRC_EN p then s.portSlip p false else s
      else s
    if s.flag F.APT_PORT_CFG_OUT_EN p then
      let (n, sl) := s.portNext mul (s.aptPort p).outNext
      let s := s.setAptPort p { s.aptPort p with outNext := some (n + 1) }
      let (s, ws) := s.portFrameOut p n mul false f.empty
      let s := if sl && !s.flag F.APT_PORT_CFG_SRC_EN p then s.portSlip p true else s
      if s.portDrives p then s.emit (.portFrame p ws) else s
    else s

/-- The frames of an AES3 stretch reach the tank (R419 to R421); validity bits are counted. -/
def aesFrames (s : State) (p : Nat) (rx : AesRx) : State :=
  if !s.flag F.APT_PORT_CFG_IN_EN p then s
  else
    let mul := if rx.rate = 4 then 2 else 1
    let en := maskSlots true 2 (s.fld F.APT_MASK_ACTIVE_IN_MASK p)
    let s := s.setFld F.APT_PORT_STAT_DET_RATE rx.rate p
    let (n0, sl) := s.portNext mul (s.aptPort p).inNext
    let s := s.setAptPort p { s.aptPort p with inNext := some (n0 + rx.frames.length) }
    let s := (numbered 0 rx.frames).foldl (fun (s : State) q =>
      let (a, va, b, vb) := q.2
      let s := s.addFld F.APT_PORT_CNT_V_SET (b2n va + b2n vb) p
      s.portFrameIn p (n0 + q.1) mul (en.map (fun i =>
        (BitVec.ofNat 32 (if i = 0 then a else b), rx.lost.contains q.1)))) s
    if sl && !s.flag F.APT_PORT_CFG_SRC_EN p then s.portSlip p false else s

/-- Whether a port runs AES3 now. -/
def isAes (s : State) (p : Nat) : Bool :=
  decide (p < 16) && s.fld F.APT_PORT_STAT_FORMAT p == 1 && s.sys.mode != .quench && s.sys.mode != .cold

/-- A Z preamble while the input is not in block sync (R418, R420, R429): the input starts or resynchronises. -/
def aesZ (s : State) (p : Nat) (rx : AesRx) : State :=
  if !s.isAes p || s.flag F.APT_PORT_STAT_BLOCK_LOCK p then s
  else
    let s := s.setAptPort p { s.aptPort p with waitIn := false }
    let s := ((s.setFlag F.APT_PORT_STAT_LOCK true p).setFlag F.APT_PORT_STAT_BLOCK_LOCK true p).portRestart p
    (s.portMasks p true false).aesFrames p rx

/-- Offset of word `w` of APT_CS_RX or APT_CS_TX of a port's subframe. -/
def csAddr (base : Fld) (p sub w : Nat) : Nat := base.addr p 0 + 24 * sub + 4 * w

/-- Store 24 channel-status bytes of a subframe. -/
def csStore (s : State) (base : Fld) (p sub : Nat) (cs : Bytes) : State :=
  (List.range 6).foldl (fun (s : State) w => s.setReg (csAddr base p sub w) (BitVec.ofNat 32 (u32 cs (4 * w)))) s

/-- The 24 channel-status bytes of a subframe. -/
def csLoad (s : State) (base : Fld) (p sub : Nat) : Bytes :=
  (List.range 6).flatMap (fun w => leBytes 4 (s.reg (csAddr base p sub w)).toNat)

/-- A received block's channel status of one subframe (R421): a professional block must pass its CRCC. -/
def csRx (s : State) (p sub : Nat) (cs : Bytes) : State :=
  if bitOf (byteAt cs 0) 0 && byteAt cs 23 != crcc cs then
    (s.incFld F.APT_PORT_CNT_CRCC_ERR p).setFlag F.APT_PORT_STAT_CRCC_SEEN true p
  else s.csStore F.APT_CS_RX_BYTES_W0 p sub cs

/-- An AES3 block ends in sync (R421); the next block's start is a restart point and takes pending masks. -/
def aesBlockEnd (s : State) (p : Nat) (b : AesBlock) (rx : AesRx) : State :=
  if !s.isAes p || !s.flag F.APT_PORT_STAT_BLOCK_LOCK p then s
  else
    let s := (s.csRx p 0 b.csA).csRx p 1 b.csB
    let s := s.setAptPort p { s.aptPort p with userRx := [(0, b.userA), (1, b.userB)] }
    ((s.portRestart p).portMasks p true false).aesFrames p rx

/-- A missing or early Z preamble (R420): samples keep flowing. -/
def aesSyncLoss (s : State) (p : Nat) (rx : AesRx) : State :=
  if !s.isAes p || !s.flag F.APT_PORT_STAT_BLOCK_LOCK p then s
  else ((s.incFld F.APT_PORT_CNT_BLOCK_ERR p).setFlag F.APT_PORT_STAT_BLOCK_LOCK false p).aesFrames p rx

/-- An AES3 output begins a block (R422, R425, R429): the frames of the block that ended leave with its channel status,
then pending channel status, masks and restarts take effect. `empty` lists the frames at which the FIFO was empty. -/
def aesTxBlock (s : State) (p : Nat) (empty : List Nat) : State :=
  if !s.isAes p || !s.flag F.APT_PORT_CFG_OUT_EN p then s
  else
    let mul := s.portMul p
    let x := s.aptPort p
    let s := if x.waitOut then s
      else
        let (n0, sl) := s.portNext mul (x.outNext.map (· + 192))
        let start := n0 - 192
        let s := (List.range 192).foldl (fun (s : State) i =>
          let (s, ws) := s.portFrameOut p (start + i) mul true (if empty.contains i then [0, 1] else [])
          if s.portDrives p then s.emit (.portFrame p ws) else s) s
        let s := s.setAptPort p { s.aptPort p with outNext := some n0 }
        let s := if sl && !s.flag F.APT_PORT_CFG_SRC_EN p then s.portSlip p true else s
        let cs (sub : Nat) : Bytes := let b := s.csLoad F.APT_CS_TX_BYTES_W0 p sub; b.take 23 ++ [BitVec.ofNat 8 (crcc b)]
        if s.portDrives p then s.emit (.portStatus p (cs 0) (cs 1)) else s
    let s := x.csPend.foldl (fun (s : State) c => s.csStore F.APT_CS_TX_BYTES_W0 p c.1 c.2) s
    let s := s.setAptPort p { s.aptPort p with csPend := [], waitOut := false }
    let s := (List.range 2).foldl (fun (s : State) sub =>
      let b := s.csLoad F.APT_CS_TX_BYTES_W0 p sub
      s.csStore F.APT_CS_TX_BYTES_W0 p sub (b.take 23 ++ [BitVec.ofNat 8 (crcc b)])) s
    (s.portRestart p).portMasks p false true

/-- Two frames of a port in ns, rounded up (R425). -/
def twoFrames (s : State) (p : Nat) : Nat := if s.portMul p = 2 then 20834 else 41667

/-- The masks are written (R425, R426): a changed one waits for 2 port frames; a later change of the same mask replaces it. -/
def maskChange (s : State) (p : Nat) (inM outM : Nat) : State :=
  let x := s.aptPort p
  let next (m stored active : Nat) (old : Option (Nat × Nat)) : Option (Nat × Nat) :=
    if m = stored then old else if m = active then none else some (m, s.tick + s.twoFrames p)
  let mi := next inM (s.fld F.APT_MASK_IN_MASK p) (s.fld F.APT_MASK_ACTIVE_IN_MASK p) x.maskIn
  let mo := next outM (s.fld F.APT_MASK_OUT_MASK p) (s.fld F.APT_MASK_ACTIVE_OUT_MASK p) x.maskOut
  ((s.setFld F.APT_MASK_IN_MASK inM p).setFld F.APT_MASK_OUT_MASK outM p).setAptPort p { x with maskIn := mi, maskOut := mo }

/-- Nanoseconds to the first TDM frame sync or AES3 block start at least 2 frames ahead (R33, R425): frames, and blocks of 192 of
them, are taken to lie on the media clock's grid (DESIGN CHOICE, log entry 109). None while the port is off. -/
def maskWait (s : State) (p : Nat) : Option Nat :=
  let fmt := s.fld F.APT_PORT_STAT_FORMAT p
  if fmt = 1 ∨ fmt = 2 then
    let rate := 48000 * s.portMul p
    let unit := if fmt = 1 then 192 else 1
    let t := s.mediaNs + s.twoFrames p
    some (ceilDiv (ceilDiv (t * rate) (1000000000 * unit) * (1000000000 * unit)) rate - s.mediaNs)
  else none

/-- A commanded or written restart (R429, APT_PORT_CTL): accepted in every mode except Cold and Quench. -/
def restartAsk (s : State) (p : Nat) : State :=
  if s.sys.mode = .cold ∨ s.sys.mode = .quench ∨ 16 ≤ p then s
  else s.setAptPort p { s.aptPort p with restart := true }

end State

/-! ## Commands (R430) -/

/-- Whether an input channel of a port has a second writer. -/
def portWriters (t : State) (p : Nat) : Bool :=
  let w := t.inWriters
  (t.portIns p).any (fun ch => decide (1 < (w.filter (· == ch)).length))

/-- The SRC task of a port follows its SRC_EN (R430): the old one goes, a new one is admitted. -/
def portStage (s : State) (p : Nat) : Except RefRec State :=
  let x := s.aptPort p
  let s := s.dropStage x.srcTask
  let s := s.setAptPort p { x with srcTask := none }
  if s.flag F.APT_PORT_CFG_SRC_EN p && s.flag F.APT_PORT_CFG_IN_EN p then
    let refs := s.portRefs p (s.fld F.APT_MASK_IN_MASK p) (s.fld F.APT_PORT_CFG_IN_BASE p)
    if refs.any (fun r => s.hasWriter r 1) then .error (rej 0x030E 2)
    else match s.srcStage (max 1 refs.length) refs with
      | .error r => .error r
      | .ok (t, k) => .ok (t.setAptPort p { t.aptPort p with srcTask := some k })
  else .ok s

/-- Finish a port change: writers, channel ranges, the SRC task, AM824 use. -/
def portAdmit (t : State) (p off : Nat) : CmdResult :=
  if (t.portIns p).any (fun ch => decide (32767 < ch)) ∨ (t.portOuts p).any (fun ch => decide (32767 < ch)) then
    .bad (rejRes 0x0220 32768 32769)
  else if portWriters t p then .bad (rej 0x030E off)
  else match portStage t p with
    | .error r => .bad r
    | .ok u => if u.amMisuse then .bad (rej 0x0108 off) else .ok u.audUse []

/-- APT_PORT (R417 to R430). -/
def applyAptPort (c : Cmd) (s : State) : CmdResult :=
  let b := c.params
  let p := byteAt b 0
  let fl := byteAt b 1
  guarded [lenIs c 8, (decide (15 < p), rej 0x0108 0), (decide (32767 < u16 b 2), rej 0x0108 2),
      (decide (32767 < u16 b 4), rej 0x0108 4)] fun _ =>
    let t := ((s.setFlag F.APT_PORT_CFG_IN_EN (bitOf fl 6) p).setFlag F.APT_PORT_CFG_OUT_EN (bitOf fl 5) p).setFlag
      F.APT_PORT_CFG_PIN_TDM (bitOf fl 4) p
    let t := ((t.setFlag F.APT_PORT_CFG_SRC_EN (bitOf fl 3) p).setFlag F.APT_PORT_CFG_AUTORESTART (bitOf fl 2) p).setFlag
      F.APT_PORT_CFG_HOLD_DRIVE (bitOf fl 1) p
    let t := (t.setFlag F.APT_PORT_CFG_RATE96 (bitOf fl 0) p).setFld F.APT_PORT_CFG_IN_BASE (u16 b 2) p
    portAdmit (t.setFld F.APT_PORT_OUT_OUT_BASE (u16 b 4) p) p 2

/-- APT_MASK (R424, R425, R430): the reply names the cycle of its frame sync or block start by prediction (R34). -/
def applyAptMask (c : Cmd) (s : State) : CmdResult :=
  let b := c.params
  let p := byteAt b 0
  guarded [lenIs c 12, (decide (15 < p), rej 0x0108 0)] fun _ =>
    match portAdmit (s.maskChange p (u32 b 4) (u32 b 8)) p 4 with
    | .bad r => .bad r
    | .ok t pl _ _ =>
      .ok t pl (some ((s.maskWait p).map s.epochAfter)) ((s.maskWait p).map (s.ptpNs + ·))

/-- APT_TDM (R423): a bit clock over 49.152 MHz is an undefined configuration (R6). -/
def applyAptTdm (c : Cmd) (s : State) : CmdResult :=
  let w := u32 c.params 0
  guarded [lenIs c 4, (decide (49152 < tdmClock w), rej 0x0108 0)] fun _ =>
    let t := storeFields s [F.APT_TDM_CFG_MASTER, F.APT_TDM_CFG_RATE96, F.APT_TDM_CFG_FS_EDGE, F.APT_TDM_CFG_SLOTS,
      F.APT_TDM_CFG_WIDTH, F.APT_TDM_CFG_OFFSET] w 0
    if (List.range 16).any (portWriters t) then .bad (rej 0x030E 0) else .ok t.audUse []

/-- APT_CS_TX (R422): takes effect at the next transmitted block start. -/
def applyAptCsTx (c : Cmd) (s : State) : CmdResult :=
  let b := c.params
  let p := byteAt b 0
  guarded [lenIs c 28, (decide (15 < p), rej 0x0108 0), (decide (1 < byteAt b 1), rej 0x0108 1)] fun _ =>
    let x := s.aptPort p
    .ok (s.setAptPort p { x with csPend := x.csPend ++ [(byteAt b 1, slice b 4 24)] }) []

/-- APT_RESTART (R429). -/
def applyAptRestart (c : Cmd) (s : State) : CmdResult :=
  let p := byteAt c.params 0
  guarded [lenIs c 4, (decide (15 < p), rej 0x0108 0)] fun _ => .ok (s.restartAsk p) []

/-! ## Events -/

/-- TDM_FRAME_SYNC (R423): an APT_FS edge, shared by every TDM port. -/
def execTdmFrameSync (frames : List TdmPort) (s : State) : Host.Outcome State Fault Refusal :=
  runEff (fun s => frames.foldl (fun (s : State) f => s.tdmPort f) s) s

/-- AES3_Z_PREAMBLE_RECEIVE (R420). -/
def execAes3ZPreambleReceive (port : Nat) (rx : AesRx) (s : State) : Host.Outcome State Fault Refusal :=
  runEff (fun s => s.aesZ port rx) s

/-- AES3_BLOCK_END (R421). -/
def execAes3BlockEnd (port : Nat) (blk : AesBlock) (rx : AesRx) (s : State) : Host.Outcome State Fault Refusal :=
  runEff (fun s => s.aesBlockEnd port blk rx) s

/-- AES3_BLOCK_SYNC_LOSS (R420). -/
def execAes3BlockSyncLoss (port : Nat) (rx : AesRx) (s : State) : Host.Outcome State Fault Refusal :=
  runEff (fun s => s.aesSyncLoss port rx) s

/-- AES3_TX_BLOCK_START (R422). -/
def execAes3TxBlockStart (port : Nat) (empty : List Nat) (s : State) : Host.Outcome State Fault Refusal :=
  runEff (fun s => s.aesTxBlock port empty) s

/-- RESTART (R429, APT_PORT_CTL). -/
def execRestart (port : Nat) (s : State) : Host.Outcome State Fault Refusal := runEff (fun s => s.restartAsk port) s

end Sys2Proof.Machine
end

