-- ==== Sys2Proof/Machine/SdiIn.lean ====
section
/-! DEFINITION. What the Ladles make of an SDI word stream (R158 to R160), from an S-lane, a tributary or ST 2022-6 datagrams, and
the packets and timers of input flows (R164, R165). -/

namespace Sys2Proof.Machine

/-- Rows of 4:2:2 10-bit groups with the padding of an odd width zeroed (R160): the last luma sample of each row. -/
def padRows (l : Nat) : Bytes → Nat → Bytes
  | _, 0 => []
  | b, n + 1 => b.take (l - 2) ++ ((b.drop (l - 2)).take 1).map (fun x => x &&& 0xFC#8) ++
      ((b.drop (l - 1)).take 1).map (fun _ => 0#8) ++ padRows l (b.drop l) n

/-- The picture of an SDI or ST 2022-6 frame as stored (R160). -/
def sdiStored (x : InFlow) (b : Bytes) : Bytes :=
  if x.width % 2 = 0 then b else padRows (rowBytes x.sampling x.width) b x.height

namespace State

/-- FRAME of a domain at an earlier tick (R65). -/
def frameAt (s : State) (d tick : Nat) : Nat :=
  match s.domFmt d with
  | some f => (s.absSlot d - (s.tick - tick) * 256 * f.lpD / f.lpN) / (256 * f.lines) % 4294967296
  | none => s.frameOf d

/-- The start of an input frame whose first active line's SAV came at a tick. -/
def savStart (x : InFlow) (sav : Nat) : Nat :=
  match fmtOf x.format with
  | some f => sav - (rowLine x.format 0 - 1) * f.lpN / f.lpD
  | none => sav

/-- What R438 measures of an SDI frame: TIMING, of the tick of its first active line's SAV, and its errors. -/
def measSdi (s : State) (f fmt d sav crc trs : Nat) (pid : Bool) : State :=
  let s := ((s.measAdd 1 f kCrc crc).measAdd 1 f kTrs trs).measAdd 1 f kPid (b2n pid)
  match fmtOf fmt with
  | some g => s.measBoth 1 f kTimMin kTimMax (frameOffset g (s.sfld F.REF_RAS_OFS_OFS d) ((s.alignedNow d / 65536 : Nat) - (s.tick - sav : Nat)))
  | none => s

/-- The ancillary packets of an SDI frame go to the companion ANC flow (R158, R171). -/
def sdiAnc (s : State) (x : InFlow) (frame : Nat) (anc : List Bytes) : State :=
  match x.companion.bind s.inFlow with
  | none => s
  | some y =>
    let (b, ovf) := ancFit (y.tpf * tilePayload) anc
    ((s.measAnc y.flow anc).wholeFrame y.flow frame b []).flowCnt y.flow cntAncOvf ovf

/-- An SDI frame of video flow `f` (R158, R168, R179); a frame that started before the flow's definition is not taken (R182). -/
def sdiVideo (s : State) (f : Nat) (sd : SdiFrame) : State :=
  match s.inFlow f with
  | none => s
  | some x =>
    if s.lad.writesStopped || !s.running x.dom || decide (savStart x sd.sav < x.startTick) then s
    else
      let bad := sd.format != x.format
      let s := (s.measSdi f x.format x.dom sd.sav sd.crcLines sd.trsErr sd.pidErr).formatVerdict f bad
      if bad then s.flowCnt f cntBad 1
      else if s.flowBit f bitMism then s
      else
        let fr := s.frameAt x.dom (savStart x sd.sav)
        ((((s.recovered f (savStart x sd.sav)).wholeFrame f fr (sdiStored x sd.picture) sd.missing).sdiAnc x fr sd.anc)).deembed f sd.audio

/-- The SDI flow whose first S-lane or tributary this is (R159). -/
def sdiFlow (s : State) (link : Option Nat) (port : Nat) : Option InFlow :=
  s.lad.flows.find? (fun x => !x.anc && x.port == port && (match link with
    | none => x.src == 0
    | some l => x.src == 1 && x.link == l))

/-- Whether every S-lane of an SDI flow is locked, or its link up (R104, R122, R159). -/
def sdiUp (s : State) (x : InFlow) : Bool :=
  if x.src = 1 then s.flag F.SPR_LINK_STAT_UP x.link
  else (List.range (s.inLinks x)).all (fun i => decide (x.port + i < 68) && s.flag F.SLN_LANE_STAT_TRS_LOCK (x.port + i))

/-- The byte ranges of the picture that the words missing on a flow's tributaries leave out (R115), 24 words for each gap. -/
def tribMissing (s : State) (x : InFlow) : List (Nat × Nat) :=
  let gaps := (List.range (s.inLinks x)).flatMap (fun i => (s.tribRx x.link (x.port + i)).gaps.map (fun p => (p * 5 / 4, 30)))
  if x.src ≠ 1 ∨ gaps.isEmpty then [] else Config.sdiLost x.format gaps

/-- The words of a flow's tributaries have gone into a frame. -/
def tribTaken (s : State) (x : InFlow) : State :=
  if x.src = 1 then
    { s with lane := { s.lane with rx := s.lane.rx.filter (fun (y : TribRx) =>
        !(y.link == x.link && decide (x.port ≤ y.trib) && decide (y.trib < x.port + s.inLinks x))) } }
  else s

/-- An SDI frame on an S-lane or tributary (R158): written into tiles and de-embedded. -/
def sdiRx (s : State) (link : Option Nat) (port : Nat) (f : SdiFrame) : State :=
  match s.sdiFlow link port with
  | none => s
  | some x =>
    if !s.sdiUp x || !s.rst.pUp || s.sys.mode == .cold then s
    else (s.sdiVideo x.flow { f with missing := f.missing ++ s.tribMissing x }).tribTaken x

/-! ## ST 2022-6 (R158, R164, R165) -/

/-- An RTP sequence number of 16 bits, extended to the value nearest the newest received (R164). -/
def extSeq (x : InFlow) (seq : Nat) : Nat :=
  match x.lastExt with
  | none => 65536 + seq
  | some e =>
    let d := (seq + 65536 - e % 65536) % 65536
    if d < 32768 then e + d else e + d - 65536

/-- The first sequence number of the frame that a datagram belongs to (R164): frames start after the newest M bit, and one whose M
bit was lost has as many datagrams as its format. -/
def frameSeq0 (x : InFlow) (ext : Nat) : Option Nat :=
  x.nextSeq0.map (fun q =>
    if q ≤ ext then q + (ext - q) / x.datagrams * x.datagrams else q - ceilDiv (q - ext) x.datagrams * x.datagrams)

/-- An ST 2022-6 frame completes (R158, R165): the datagrams are taken as the SDI word stream, whose standards lie outside the
specification (log entry 54), and the frame goes the way of an SDI frame. A mismatching frame writes nothing (R179). -/
def rawFrame (s : State) (x : InFlow) (o : OpenFrame) : State :=
  let n := o.fin - o.seq0
  let gaps := ((List.range n).filter (fun i => !o.raw.any (fun p => p.1 == i))).map (fun i => (i * 1376, 1376))
  let stream := (List.range n).flatMap (fun i => match o.raw.find? (fun p => p.1 == i) with
    | some p => p.2
    | none => List.replicate 1376 0)
  let (fmt, pic, anc, audio, pid) := Config.sdiDecode stream gaps
  let bad := fmt.toNat != x.format
  let s := (s.measAdd 1 x.flow kPid (b2n pid)).formatVerdict x.flow bad
  if bad || s.flowBit x.flow bitMism then
    (if bad then s.flowCnt x.flow cntBad o.raw.length else s).modFlow x.flow (fun y =>
      { y with opens := y.opens.filter (fun p => !(p.s == o.s && p.gen == o.gen)), gone := lastN 8 (y.gone ++ [o.seq0]) })
  else
    ((s.storeFrame x o (sdiStored x pic) (if gaps.isEmpty then [] else Config.sdiLost x.format gaps)).sdiAnc x o.frame anc).deembed
      x.flow audio

/-- An ST 2022-6 datagram (R164): its position is its count in RTP sequence from the frame's start, times
1,376 bytes. Frames begin after a packet that carries the M bit. -/
def seqPacket (s : State) (f path stamp ts seq : Nat) (m : Bool) (payload : Bytes) : State :=
  match s.inFlow f with
  | none => s
  | some x =>
    let ext := extSeq x seq
    let s := s.modFlow f (fun y => { y with lastExt := some (max ext (y.lastExt.getD 0)) })
    let within (a b : Nat) : Bool := decide (a ≤ ext) && decide (ext < b)
    let after (s : State) : State := if m then s.modFlow f (fun y => { y with nextSeq0 := some (max (ext + 1) (y.nextSeq0.getD 0)) }) else s
    match x.done.reverse.find? (fun g => within g.seq0 g.fin) with
    | some g => after (s.lateOrDup f path stamp g ext)
    | none =>
      let s := match x.opens.any (fun o => within o.seq0 o.fin), frameSeq0 x ext with
        | false, some q =>
          if x.gone.contains q then s
          else if x.opens.any (fun o => decide (q < o.seq0)) || x.done.any (fun g => decide (q < g.seq0)) then
            (s.flowCnt f cntLate 1).setFlowBit f bitSkewOver true
          else (s.firstPacket f 27000000 stamp ts).beginFrame f 0 q
        | _, _ => s
      match (s.inFlow f).bind (fun y => y.opens.find? (fun o => within o.seq0 o.fin)) with
      | none => after s
      | some o =>
        let s := s.placeNew f path stamp ext m o (fun s _ o =>
          let o := { o with raw := o.raw ++ [(ext - o.seq0, payload.take 1376)], fin := if m then ext + 1 else o.fin }
          let s := s.setOpen f o
          if o.mSeen && o.raw.length == o.fin - o.seq0 then (match s.inFlow f with
            | some y => s.rawFrame y o
            | none => s)
          else s)
        after s

/-! ## Packets and timers -/

/-- A video or ANC packet that a filter delivers (R136, R164): RTP fields are read from the UDP payload. -/
def ladleRtp (s : State) (f path stamp : Nat) (p : Bytes) : State :=
  match s.inFlow f with
  | none => s
  | some x =>
    if s.lad.writesStopped || !s.running x.dom then s
    else
      let s := s.pathSeen f path
      let w (o : Nat) := byteAt p o * 256 + byteAt p (o + 1)
      let m := bitOf (byteAt p 1) 7
      let seq := w 2
      let ts := w 4 * 65536 + w 6
      let body := p.drop 12
      if x.src = 3 then s.seqPacket f path stamp ts seq m (body.drop 8)
      else s.tsPacket f path stamp ts (w 12 * 65536 + seq) m body

/-- Complete an open frame of a flow by its index (R165). -/
def frameTimeout (s : State) (f ix : Nat) (held : Bool) : State :=
  match s.inFlow f with
  | none => s
  | some x =>
    match x.opens.find? (fun o => o.s == ix) with
    | none => s
    | some o =>
      if held && !o.mSeen && !x.opens.any (fun y => decide (o.s < y.s)) then s
      else if s.lad.writesStopped then s
      else if x.src = 3 then s.rawFrame x o
      else s.completeFrame f o

end State

/-! ## Events -/

/-- SDI_FRAME_RECEIVE (R158). -/
def execSdiFrameReceive (link : Option Nat) (port : Nat) (f : SdiFrame) (s : State) : Host.Outcome State Fault Refusal :=
  runEff (fun s => s.sdiRx link port f) s

/-- MERGE_HOLD_EXPIRY (R165). -/
def execMergeHoldExpiry (flow ix : Nat) (s : State) : Host.Outcome State Fault Refusal :=
  runEff (fun s => s.frameTimeout flow ix true) s

/-- FRAME_OPEN_TIMEOUT (R165). -/
def execFrameOpenTimeout (flow ix : Nat) (s : State) : Host.Outcome State Fault Refusal :=
  runEff (fun s => s.frameTimeout flow ix false) s

end Sys2Proof.Machine
end

