-- ==== Sys2Proof/Machine/Measure.lean ====
section
/-! DEFINITION. The measurement engine (chapter 15): frame samples, alarms, interval records and their datagrams, the
environment monitors, and the commands of family 0x07xx. -/

namespace Sys2Proof.Machine

/-- Words of a datagram's record by type, in bytes with the header (R445). -/
def recordSize : Nat → Nat
  | 1 => 64
  | 2 => 48
  | 3 => 24
  | 4 => 40
  | 5 => 24
  | 6 => 40
  | 7 => 20
  | 8 => 24
  | 9 => 72
  | _ => 24

/-- The luma value of a pixel as R438 takes it for the black test, at 12 bits: luma, or the largest of R, G and B. -/
def lumaOf (sampling : Nat) (row : Bytes) (x : Nat) : Nat :=
  match sampling with
  | 0 => 4 * beField row (40 * (x / 2) + 10 + 20 * (x % 2)) 10
  | 1 => 4 * beField row (30 * x + 10) 10
  | 2 => beField row (36 * x + 12) 12
  | 3 => 4 * max (beField row (30 * x) 10) (max (beField row (30 * x + 10) 10) (beField row (30 * x + 20) 10))
  | _ => max (beField row (36 * x) 12) (max (beField row (36 * x + 12) 12) (beField row (36 * x + 24) 12))

/-- Whether a picture is black (R438). -/
def pictureBlack (s : State) (sampling width height : Nat) (pic : Bytes) : Bool :=
  let l := rowBytes sampling width
  let thr := 4 * s.fld F.MEAS_THR_BLACK_Y
  let dark := ((List.range height).map (fun a =>
    let row := slice pic (a * l) l
    ((List.range width).filter (fun x => decide (lumaOf sampling row x ≤ thr))).length)).foldl (· + ·) 0
  decide (s.fld F.MEAS_THR_BLACK_PCT * (width * height) ≤ 100 * dark)

namespace State

/-! ## Alarms (R442, R443) -/

/-- Raise an alarm that is not raised: the transition and its fault. -/
def alarmRaise (s : State) (code subj : Nat) (v : Int) : State :=
  if s.alarmOn code subj then s else (s.alarmMove code subj true false v).raise fltMeasAlarm [code, subj]

/-- Clear an alarm that is raised. -/
def alarmClear (s : State) (code subj : Nat) (v : Int) : State :=
  if s.alarmOn code subj then s.alarmMove code subj false false v else s

/-- Judge an alarm: raised, cleared, or left. -/
def alarmJudge (s : State) (code subj : Nat) (up down : Bool) (v : Int) : State :=
  if up then s.alarmRaise code subj v else if down then s.alarmClear code subj v else s

/-! ## Frame samples (R437, R438) -/

/-- A flow's frame run. -/
def frameRun (s : State) (f : Nat) : FrameRun := (s.meas.runs.find? (fun x => x.flow == f)).getD ⟨f, 0, 0, none, none, none⟩

/-- Replace a flow's frame run. -/
def setRun (s : State) (r : FrameRun) : State :=
  { s with meas := { s.meas with runs := upsert (fun (x : FrameRun) => x.flow == r.flow) r s.meas.runs } }

/-- Black and freeze of one frame (R438), with the alarms they judge (R442): the picture, whether it has a signature, and
the frame's identity. -/
def frameSample (s : State) (f fmt sampling width height : Nat) (pic : Bytes) (signed : Bool) (ident : Nat × Nat) : State :=
  let isIn := decide (f < 0x800)
  let type := if isIn then 1 else 2
  let (kb, kf) := if isIn then (kBlack, kFreeze) else (5, 6)
  let (cb, cf) := if isIn then (1, 2) else (3, 4)
  let r := s.frameRun f
  let black := pictureBlack s sampling width height pic
  let sig := if signed then some (crc32c pic).toNat else none
  let same := sig.isSome && sig == r.sig
  let nb := if black then r.black + 1 else 0
  let nf := if same then r.freeze + 1 else if signed then 0 else r.freeze
  let s := s.setRun { r with black := nb, freeze := nf, sig := if signed then sig else r.sig, last := some ident }
  let s := (s.measAdd type f kb (b2n black)).measAdd type f kf (b2n same)
  match fmtOf fmt with
  | none => s
  | some g =>
    let long (n t : Nat) : Bool := decide (t * 100000000 * g.num ≤ n * g.tfN)
    let s := s.alarmJudge cb f (black && long nb (s.fld F.MEAS_THR_BLACK_TIME)) (!black) nb
    s.alarmJudge cf f (same && long nf (s.fld F.MEAS_THR_FREEZE_TIME)) (signed && !same) nf

/-- Receiver-model or sender-check results of a frame (R438): CINST, VRX and whether a limit was exceeded; free values, as
the text names the models of ST 2110-21 without stating them. -/
def modelSample (s : State) (type f kc kv kviol : Nat) : State :=
  let (a, s) := s.fresh 16
  let (b, s) := s.fresh 16
  let (v, s) := s.fresh 1
  ((s.measMax type f kc (sext 16 a)).measMax type f kv (sext 16 b)).measAdd type f kviol v

/-- The bytes of a complete input frame as stored. -/
def inputPicture (s : State) (x : InFlow) (g : DoneFrame) : Bytes :=
  ((List.range x.tpf).flatMap (fun k =>
    match s.frameTile x g.gen g.s k with
    | some t => s.tileBytes t 0 (x.fill k)
    | none => List.replicate (x.fill k) 0)).take x.bytes

/-- Packet loss of one frame (R438), from one after sequence number `prev` to the frame's last; none is counted before the
flow's first frame. -/
def lossFrame (s : State) (x : InFlow) (g : DoneFrame) : State :=
  let r := s.frameRun x.flow
  let m := 4294967296
  let first := (g.seqs.headD (0, 0, 0)).1
  let prev := match r.lossAt with
    | some p => p.2.2
    | none => (first + m - 1) % m
  let dist (e : Nat) : Nat := (e + m - prev % m) % m
  let far (e : Nat) : Bool := decide (dist e = 0) || decide (m / 2 < dist e)
  let mine := g.seqs.filter (fun q => !far q.1)
  let n := (mine.map (fun q => dist q.1)).foldl max 0
  let on (p : Nat) : List Nat := (mine.filter (fun q => q.2.1 == p)).map (·.1)
  let (a, b) := (on 0, on 1)
  let both := (a.filter (fun e => b.contains e)).length
  let got := a.length + b.length - both
  let f := x.flow
  let s := (s.measAdd 1 f kCope (if bitOf x.paths 0 then n - a.length else 0)).measAdd 1 f kDrag
    (if bitOf x.paths 1 then n - b.length else 0)
  let s := (s.measAdd 1 f kRecov (if x.paths = 3 then got - both else 0)).measAdd 1 f kUnrec (n - got)
  s.setRun { (s.frameRun f) with lossAt := some (g.gen, g.s, (prev + n) % m) }

/-- Whether a frame comes after an identity. -/
def frameAfter (g : DoneFrame) : Option (Nat × Nat) → Bool
  | none => true
  | some p => decide (p.1 < g.gen ∨ (p.1 = g.gen ∧ p.2 < g.s))

/-- MEAS_TAP of a video input: every frame completed since the last tap is sampled, and the loss of every frame that has a
successor is counted (DESIGN CHOICE: a packet may still arrive on the later path while its frame is the newest). -/
def tapInput (s : State) (x : InFlow) : State :=
  let fs := x.done.filter (fun g => frameAfter g (s.frameRun x.flow).last)
  let s := fs.foldl (fun (s : State) g =>
    let s := s.frameSample x.flow x.format x.sampling x.width x.height (s.inputPicture x g) g.lost.isEmpty (g.gen, g.s)
    if x.src = 2 then s.modelSample 1 x.flow kCinst kVrx kViol else s) s
  if x.src < 2 then s
  else
    let old := x.done.take (x.done.length - 1)
    (old.filter (fun g => frameAfter g ((s.frameRun x.flow).lossAt.map (fun p => (p.1, p.2.1))))).foldl (fun (s : State) g => s.lossFrame x g) s

/-- MEAS_TAP of a video output: the frame begun last, once. -/
def tapOutput (s : State) (o : VOut) : State :=
  match o.begun with
  | none => s
  | some fr =>
    if (s.frameRun o.flow).last == some (0, fr) then s
    else
      let pic := (List.range o.height).flatMap (fun a => s.outRow o fr a)
      let s := s.frameSample o.flow o.format o.sampling o.width o.height pic true (0, fr)
      if s.fld F.SHK_FLOW_CFG_KIND (o.flow - 0x800) = 2 then s.modelSample 2 o.flow 7 8 9 else s

/-- The mark MEAS_TAP of a flow (R437). -/
def measTap (s : State) (f : Nat) : State :=
  if !s.measOn then s
  else match s.inFlow f, s.vout f with
    | some x, _ => if x.anc then s else s.tapInput x
    | none, some o => s.tapOutput o
    | none, none => s

/-! ## Interval ends (R432 to R436, R442 to R446) -/

/-- The subjects that report (R445), by record type. -/
def measSubjects (s : State) : List (Nat × Nat) :=
  if !s.measOn then [(9, 0)]
  else
    let fl (anc : Bool) : List Nat := (s.lad.flows.filter (fun x => x.anc == anc)).map InFlow.flow
    let st (i : Bool) : List Nat := (s.aud.streams.filter (fun x => x.isIn == i)).map AStream.ident
    let of_ (t : Nat) (l : List Nat) : List (Nat × Nat) := l.map (fun x => (t, x))
    of_ 1 (fl false) ++ of_ 2 (s.shk.vouts.map VOut.flow) ++ of_ 3 (fl true) ++ of_ 4 (st true) ++ of_ 5 (st false) ++
      of_ 6 ((s.tim.ports.filter PtpPort.en).map PtpPort.port) ++ of_ 7 (List.range 144) ++ of_ 8 (List.range 32) ++ [(9, 0)]

/-- The alarms judged per interval of one subject, in ascending code (R442, R443). -/
def judgeSubject (s : State) (x : Nat × Nat) : State :=
  let (t, u) := x
  let c (k : Nat) : Nat := s.measCnt t u k
  let loss (s : State) (a b n : Nat) : State :=
    let s := s.alarmJudge 0x05 u (decide (s.fld F.MEAS_THR_LOSS_THR ≤ a) || decide (s.fld F.MEAS_THR_LOSS_THR ≤ b))
      (decide (a = 0) && decide (b = 0)) (max a b : Nat)
    s.alarmJudge 0x06 u (decide (0 < n)) true n
  match t with
  | 1 =>
    let ip := match s.inFlow u with
      | some y => decide (2 ≤ y.src)
      | none => false
    let s := if ip then loss s (c kCope) (c kDrag) (c kUnrec) else s
    let win : Int := (s.fld F.MEAS_THR_TIM_WIN : Nat) * 1000
    let s := match s.measVal 1 u kTimMin, s.measVal 1 u kTimMax with
      | some a, some b => s.alarmJudge 0x07 u (decide (win ≠ 0) && (decide (a < -win) || decide (win < b))) true
          (if b < -a then a else b)
      | _, _ => if win = 0 then s.alarmClear 0x07 u 0 else s
    let s := s.alarmJudge 0x08 u (decide (0 < c kViol)) true (c kViol)
    if ip && !((s.inFlow u).any (fun y => y.src == 3)) then s
    else s.alarmJudge 0x09 u (decide (s.fld F.MEAS_THR_CRC_THR ≤ c kCrc)) true (c kCrc)
  | 2 => s.alarmJudge 0x08 u (decide (0 < c 9)) true (c 9)
  | 4 =>
    let s := loss s (c 1) (c 2) (c 4)
    match s.measVal 4 u 5 with
    | some m => s.alarmJudge 0x0A u (decide (m < (s.fld F.MEAS_THR_MARGIN_THR : Nat) * 1000)) true m
    | none => s
  | 6 =>
    match s.measVal 6 u 4, s.measVal 6 u 5 with
    | some a, some b =>
      let m := max a.natAbs b.natAbs
      s.alarmJudge 0x0B u (decide (s.fld F.MEAS_THR_PTP_THR < m)) true m
    | _, _ => s
  | _ => s

/-- Split records into datagrams of at most `n` (R444). -/
def recordGroups (n : Nat) : List Bytes → Nat → List (List Bytes)
  | _, 0 => []
  | [], _ => []
  | l, m + 1 => l.take n :: recordGroups n (l.drop n) m

/-- A datagram is discarded: counted, and SEQ advances (R446). -/
def dgramDrop (s : State) (d : Nat) : State :=
  (s.incFld F.MEAS_STREAM_CFG_DROP_CNT d).setFld F.MEAS_STREAM_CFG_SEQ ((s.fld F.MEAS_STREAM_CFG_SEQ d + 1) % 4294967296) d

/-- Records of interval `k` not sent by the end of interval `k` + 1 are discarded (R446). -/
def dgramExpire (s : State) (d : Nat) : State :=
  let q := ((s.meas.queues.find? (fun q => q.dest == d)).map MeasQueue.dgrams).getD []
  let old := q.filter (fun g => decide (g.2.1 < s.meas.k))
  let s := old.foldl (fun (s : State) _ => s.dgramDrop d) s
  let keep := q.filter (fun g => decide (s.meas.k ≤ g.2.1))
  let l := upsert (fun (q : MeasQueue) => q.dest == d) (⟨d, keep⟩ : MeasQueue) s.meas.queues
  { s with meas := { s.meas with queues := l } }

/-- The interval's records: those of deleted subjects, then of the present ones, each with its type (R435, R445). -/
def measRecords (s : State) (stepped : Bool) : State × List (Nat × Bytes) :=
  let k := s.meas.k % 4294967296
  let gone := s.meas.deleted.map (fun r => (r.type, State.recordBytes r.type (r.flags + 4 * b2n stepped) r.subject k r.words))
  s.measSubjects.foldl (fun (a : State × List (Nat × Bytes)) x =>
    let part := decide (x.1 ≤ 6) && !a.1.meas.known.contains x
    let b := State.recordBytes x.1 (a.1.recordFlags part false stepped) x.2 k (a.1.recordWords x.1 x.2)
    (a.1.measDrawn, a.2 ++ [(x.1, b)])) (s, gone)

/-- Syncs a slave port expected in the interval and missed (R438), from its own Sync interval. -/
def syncMissing (s : State) : State :=
  s.tim.ports.foldl (fun (s : State) p =>
    if s.tim.ptpEn && p.en && p.st == .slave then
      let ms := 100 * s.fld F.MEAS_CFG_RPT_INT
      let want := (if p.logSync < 0 then ms * 2 ^ p.logSync.natAbs else ms / 2 ^ p.logSync.natAbs) / 1000
      s.measAdd 6 p.port 1 (want - s.measCnt 6 p.port 0)
    else s) s

/-- An interval ends (R432 to R436): alarms are judged, records leave for each destination, waiting configuration takes
effect, and the next interval begins. -/
def measInterval (s : State) (stepped : Bool) : State :=
  if s.sys.mode = .cold ∨ !s.rst.pUp then s
  else
    let s := if stepped then s else s.syncMissing
    let s := if s.measOn then s.measSubjects.foldl (fun (s : State) x => s.judgeSubject x) s else s
    let (s, recs) := s.measRecords stepped
    let s := (List.range 4).foldl (fun (s : State) d => s.dgramExpire d) s
    let live := s.sys.mode != .quench
    let one (s : State) (d : Nat) : State :=
      let ds := ((List.range 9).map (· + 1)).flatMap (fun t =>
        if (s.measDests t).contains d then
          let l := (recs.filter (fun r => r.1 == t)).map (·.2)
          (recordGroups (1368 / recordSize t) l l.length).map (fun g => (t, s.meas.k, s.measDatagram d t g.length g.flatten))
        else [])
      let q := queueDgrams s.meas.queues d ds
      let last := upsert (fun (x : MeasQueue) => x.dest == d) (⟨d, ds⟩ : MeasQueue) s.meas.lastRecords
      { s with meas := { s.meas with queues := q, lastRecords := last } }
    let s := if live then (List.range 4).foldl one s else s
    let s := s.meas.cfgPend.foldl (fun (s : State) p => s.setReg p.1 ((s.reg p.1 &&& ~~~(rwMask p.1)) ||| (p.2 &&& rwMask p.1))) s
    let known := s.measSubjects
    { s with meas := { s.meas with stats := [], deleted := [], known := known, cfgPend := [],
                                   k := s.mediaNs / (100000000 * max 1 (s.fld F.MEAS_CFG_RPT_INT)) } }

/-! ## Datagrams (R446, R447) -/

/-- The next datagram of a destination: alarm records from the boundary after their transition, then interval records. -/
def nextDgram (s : State) (d : Nat) : Option (Bool × Bytes) :=
  let q (l : List MeasQueue) : List (Nat × Nat × Bytes) := ((l.find? (fun q => q.dest == d)).map MeasQueue.dgrams).getD []
  match (q s.meas.alarmQ).head?, (q s.meas.queues).head? with
  | some a, b => if a.2.1 < s.sys.epoch then some (true, a.2.2) else b.map (fun x => (false, x.2.2))
  | none, b => b.map (fun x => (false, x.2.2))

/-- The first datagram of a destination's queue goes. -/
def popDgram (d : Nat) (l : List MeasQueue) : List MeasQueue :=
  l.map (fun q => if q.dest == d then { q with dgrams := q.dgrams.drop 1 } else q)

/-- Whether destination `d` sends in this mode (R448): a MAC in Melt or Proof only with TX_EN. -/
def measSends (s : State) (d : Nat) : Bool :=
  let p := s.fld F.MEAS_STREAM_CFG_PORT d
  s.flag F.MEAS_STREAM_CFG_EN d &&
    (match s.sys.mode with
     | .pour | .hold => true
     | .melt | .proof => decide (31 < p) || s.flag F.MAC_CFG_TX_EN p
     | _ => false)

/-- Send a destination's next datagram: on a MAC's express queue at order 3, or on a management port; a port whose link is
down discards it. -/
def measSend (s : State) (d : Nat) : State :=
  if ¬(d < 4) ∨ !s.measSends d then s
  else match s.nextDgram d with
    | none => s
    | some (alarm, b) =>
      let seq := s.fld F.MEAS_STREAM_CFG_SEQ d
      let p := s.fld F.MEAS_STREAM_CFG_PORT d
      let s : State := { s with meas := { s.meas with
        alarmQ := if alarm then popDgram d s.meas.alarmQ else s.meas.alarmQ,
        queues := if alarm then s.meas.queues else popDgram d s.meas.queues } }
      if p < 32 ∧ !s.flag F.MAC_LINK_STAT_LINK_UP p then s.dgramDrop d
      else
        let ip := s.fld F.MEAS_STREAM_CFG_DST_IP d
        let body := be 4 ip ++ be 2 (s.fld F.MEAS_STREAM_CFG_SRC_PORT d) ++ be 2 (s.fld F.MEAS_STREAM_CFG_DST_PORT d) ++
          b.take 4 ++ leBytes 4 seq ++ b.drop 8
        let s := s.setFld F.MEAS_STREAM_CFG_SEQ ((seq + 1) % 4294967296) d
        if p < 32 then s.offer ⟨p, 3, 0x30, 0, 0, none, b.length + 46, ethDst ip, body, 0⟩ false
        else s.emit (.frame p 0x30 body)

/-! ## Environment (R439 to R441) -/

/-- The maximum of an environment quantity in the interval, in every mode. -/
def envMax (s : State) (key : Nat) (v : Int) : State := s.measSet 9 0 key (max v ((s.measVal 9 0 key).getD v))

/-- The minimum of an environment quantity in the interval. -/
def envMin (s : State) (key : Nat) (v : Int) : State := s.measSet 9 0 key (min v ((s.measVal 9 0 key).getD v))

/-- A run of consecutive readings under one condition: its count after this reading, at most `lim`. -/
def runStep (l : List (Nat × Nat × Nat)) (ix kind lim : Nat) (hold : Bool) : List (Nat × Nat × Nat) × Nat :=
  let old := ((l.find? (fun x => x.1 == ix && x.2.1 == kind)).map (·.2.2)).getD 0
  let n := if hold then min lim (old + 1) else 0
  (upsert (fun (x : Nat × Nat × Nat) => x.1 == ix && x.2.1 == kind) (ix, kind, n) l, n)

/-- TEMP_CRIT or RAIL_OUT (R440, R441): a Quench fault; in Cold an event and CRIT_SEEN. -/
def envCrit (s : State) (flt subj : Nat) : State :=
  if s.sys.mode = .cold then (s.event blkMeas 3 0x0100 [flt, subj, s.tick]).setFlag F.MEAS_STAT_CRIT_SEEN true
  else s.raise flt [subj]

/-- A temperature reading in 0.25 °C (R439, R440): sensors 0 to 15 are junction sensors, 16 to 19 the stacks'. -/
def tempSample (s : State) (i : Nat) (r : Option Int) : State :=
  if 20 ≤ i then s
  else match r with
    | none => if s.flag F.MEAS_STAT_SENSOR_FAIL then s
        else (s.setFlag F.MEAS_STAT_SENSOR_FAIL true).raise fltSensorFail [i]
    | some v =>
      let s := (s.setFld F.MEAS_ENV_TEMP_CUR (toField 16 v) i).setFld F.MEAS_ENV_TEMP_MAX
        (toField 16 (max v (s.sfld F.MEAS_ENV_TEMP_MAX i))) i
      let s := s.envMax i v
      let warn : Int := 4 * s.fld F.MEAS_THR_TEMP_WARN
      let crit : Int := 4 * s.fld F.MEAS_THR_TEMP_CRIT
      let (l, hot) := runStep s.meas.tempRun i 0 10 (decide (warn ≤ v))
      let (l, cool) := runStep l i 1 10 (decide (v ≤ warn - 12))
      let (l, burn) := runStep l i 2 3 (decide (crit ≤ v))
      let was : Nat := ((s.meas.tempRun.find? (fun x => x.1 == i && x.2.1 == 2)).map (·.2.2)).getD 0
      let s : State := { s with meas := { s.meas with tempRun := l } }
      let s := s.alarmJudge 0x0C i (decide (hot = 10)) (decide (cool = 10)) v
      if i < 16 ∧ burn = 3 ∧ was < 3 then s.envCrit fltTempCrit i else s

/-- Nominal voltage of rails 0 to 7 in mV (chapter 22); VDD_CORE is judged by its own range. -/
def railNominal (i : Nat) : Nat := [750, 850, 1200, 900, 1100, 400, 1800, 3300].getD i 0

/-- Whether a rail reads inside a tolerance of `pct` %, VDD_CORE inside its range (R440). -/
def railInside (i mv pct : Nat) : Bool :=
  if i = 0 then (if pct = 3 then decide (690 ≤ mv) && decide (mv ≤ 810) else decide (660 ≤ mv) && decide (mv ≤ 840))
  else decide (railNominal i * (100 - pct) ≤ mv * 100) && decide (mv * 100 ≤ railNominal i * (100 + pct))

/-- A rail reading in mV, with the VDD_CORE current in A where it was read (R439, R440). Rail 8 is VBAT, whose
alarm raises no fault (the table of R440, against R442). -/
def railSample (s : State) (i mv : Nat) (amps : Option Nat) : State :=
  if 9 ≤ i then s
  else
    let s := (s.setFld F.MEAS_ENV_RAIL_CUR (mv % 65536) i).setFld F.MEAS_ENV_RAIL_MIN (min mv (s.fld F.MEAS_ENV_RAIL_MIN i)) i
    let s := s.envMin (20 + i) mv
    let s : State := match amps with
      | some a => s.envMax 29 a
      | none => s
    if i = 8 then
      (if 2500 ≤ mv then s.alarmClear 0x0D 8 mv else if s.alarmOn 0x0D 8 then s else s.alarmMove 0x0D 8 true false mv)
    else
      let (l, bad) := runStep s.meas.railRun i 0 10 (!railInside i mv 3)
      let (l, good) := runStep l i 1 10 (railInside i mv 3)
      let (l, out) := runStep l i 2 2 (!railInside i mv 6)
      let was : Nat := ((s.meas.railRun.find? (fun x => x.1 == i && x.2.1 == 2)).map (·.2.2)).getD 0
      let s : State := { s with meas := { s.meas with railRun := l } }
      let s : State := s.alarmJudge 0x0D i (decide (bad = 10)) (decide (good = 10)) mv
      if out == 2 && decide (was < 2) then s.envCrit fltRailOut i else s

end State

/-! ## Commands of family 0x07xx -/

/-- Put configuration words in waiting (R436). -/
def pendWords (s : State) (l : List (Nat × Nat)) : State :=
  let p := l.foldl (fun (p : List (Nat × Word)) x =>
    upsert (fun (y : Nat × Word) => y.1 == x.1) (x.1, BitVec.ofNat 32 x.2) p) s.meas.cfgPend
  { s with meas := { s.meas with cfgPend := p } }

/-- MEAS_CFG (R436). -/
def applyMeasCfg (c : Cmd) (s : State) : CmdResult :=
  let ws := (F.MEAS_CFG_EN.off, u32 c.params 0) :: (List.range 5).map (fun i => (F.MEAS_THR_BLACK_Y.off + 4 * i, u32 c.params (4 + 4 * i)))
  guarded (lenIs c 24 :: (List.range 6).map (fun i =>
      (!wordLegal (ws.getD i (0, 0)).1 (BitVec.ofNat 32 (ws.getD i (0, 0)).2), rej 0x0108 (4 * i)))) fun _ =>
    .ok (pendWords s ws) []

/-- MEAS_DEST (R436, R447). -/
def applyMeasDest (c : Cmd) (s : State) : CmdResult :=
  let d := byteAt c.params 0
  let ws := (List.range 4).map (fun i => (F.MEAS_STREAM_CFG_EN.addr d 0 + 4 * i, u32 c.params (4 + 4 * i)))
  guarded ([lenIs c 20, (decide (3 < d), rej 0x0108 0)] ++ (List.range 4).map (fun i =>
      (!wordLegal (ws.getD i (0, 0)).1 (BitVec.ofNat 32 (ws.getD i (0, 0)).2), rej 0x0108 (4 + 4 * i)))) fun _ =>
    let t := pendWords s ws
    let m := bitsOf (u32 c.params 4) 29 24
    let sum := ((t.mac.templates.filter (fun y => y.mac == m)).map TxTemplate.rateMbps).foldl (· + ·) (t.measRate m)
    let lim := speedGbps (t.fld F.MAC_CFG_SPEED m) * 990
    if m < 32 ∧ bitOf (u32 c.params 4) 31 ∧ lim < sum then .bad (rejRes 0x0203 lim sum (some m) 3) else .ok t []

/-! ## Events -/

/-- REPORT_INTERVAL_END (R433). -/
def execReportIntervalEnd (s : State) : Host.Outcome State Fault Refusal := runEff (fun s => s.measInterval false) s

/-- MEAS_DATAGRAM_SEND (R446, R447). -/
def execMeasDatagramSend (dest : Nat) (s : State) : Host.Outcome State Fault Refusal := runEff (fun s => s.measSend dest) s

/-- TEMP_SAMPLE (R439 to R441). -/
def execTempSample (sensor : Nat) (reading : Option Int) (s : State) : Host.Outcome State Fault Refusal :=
  runEff (fun s => s.tempSample sensor reading) s

/-- RAIL_SAMPLE (R439 to R441). -/
def execRailSample (rail mv : Nat) (amps : Option Nat) (s : State) : Host.Outcome State Fault Refusal :=
  runEff (fun s => s.railSample rail mv amps) s

end Sys2Proof.Machine
end

