-- ==== Sys2Proof/Machine/Twin.lean ====
section
/-! DEFINITION. The twin controller (chapter 18) apart from cast records: the Akestim link's frames, CROAK, promotion, role
changes, egress loops, and the commands of family 0x0Cxx. -/

namespace Sys2Proof.Machine

namespace State

/-- A configured and responsive partner. -/
def partnerOk (s : State) : Bool := s.twinOn && s.flag F.TWN_STAT_PARTNER_UP

/-- The partner's mode as last reported. -/
def partnerMode (s : State) : Option Nat := if s.partnerOk then s.twn.partner.map (·.1) else none

/-! ## Synchronisation state -/

/-- SYNC is cleared with its cause and its fault (R502, R503, R509). -/
def syncClear (s : State) (cause : Nat) : State :=
  if s.flag F.TWN_STAT_SYNC then
    ((s.setFlag F.TWN_STAT_SYNC false).setFld F.TWN_STAT_UNSYNC_CAUSE cause).raise fltTwinUnsync [cause]
  else s

/-- A standby starts a full-state transfer (R515). -/
def startResync (s : State) : State :=
  let s := (s.setFlag F.TWN_STAT_RESYNC_BUSY true).incFld F.TWN_CNT_RESYNCS
  let s : State := { s with twn := { s.twn with buffered := [], full := none } }
  s.aksSend aksResync s.sys.epoch []

/-- Anything good from the partner: it is responsive (R497); a standby out of synchronisation asks for a transfer (R515). -/
def partnerHeard (s : State) : State :=
  if !s.twinOn || s.flag F.TWN_STAT_PARTNER_UP then s
  else
    let s := s.setFlag F.TWN_STAT_PARTNER_UP true
    if s.sys.mode = .hold ∧ !s.flag F.TWN_STAT_SYNC ∧ !s.flag F.TWN_STAT_RESYNC_BUSY then s.startResync else s

/-! ## Promotion (R508 to R510, R21) -/

/-- A promotion trigger: it waits for the next boundary in Hold with SYNC_EVER set; in Proof it is recorded only. -/
def promoteTrigger (s : State) (cause : Nat) : State :=
  if s.sys.mode = .proof then s.event blkTwn 1 0x0010 [cause]
  else if s.sys.mode = .hold ∧ s.flag F.TWN_STAT_SYNC_EVER ∧ s.twn.promote = none then
    { s with twn := { s.twn with promote := some cause } }
  else s

/-- The CROAK path: both conditions at once. -/
def croakPath (s : State) : State :=
  if s.twn.croakLost && !s.flag F.TWN_STAT_PARTNER_UP then s.promoteTrigger 0x3 else s

/-- CROAK_IN is lost (R497, R509, R548); evaluated only while TWN_CFG.EN is 1. In Proof the loss is recorded (R21). -/
def croakInLost (s : State) : State :=
  if !s.flag F.TWN_CFG_EN || s.twn.croakLost then s
  else
    let s := s.setFlag F.TWN_STAT_CROAK_OK false
    let s : State := { s with twn := { s.twn with croakLost := true } }
    let s := if s.sys.mode = .proof then s.event blkTwn 1 0x0011 [] else s
    if s.flag F.TWN_STAT_PARTNER_UP then (s.setFlag F.TWN_STAT_CROAK_ONLY_SEEN true).raise fltTwinSplit [0]
    else s.croakPath

/-- An edge on CROAK_IN (R548). -/
def croakInEdge (s : State) : State :=
  if !s.flag F.TWN_CFG_EN then s
  else ({ s with twn := { s.twn with croakLost := false } }).setFlag F.TWN_STAT_CROAK_OK true

/-- The partner becomes unresponsive (R497, R509, R119): pending frames are no longer sent again, a standby clears SYNC. -/
def partnerLost (s : State) : State :=
  if !s.twinOn || !s.flag F.TWN_STAT_PARTNER_UP then s
  else
    let s := (s.setFlag F.TWN_STAT_PARTNER_UP false).setFlag F.TWN_STAT_RESYNC_BUSY false
    let s : State := { s with lane := { s.lane with aksPend := [] },
                              twn := { s.twn with partner := none, fullReq := false, retained := [], aksHeld := [] } }
    let s := s.syncClear 0x3
    if s.twn.croakLost then s.croakPath else (s.setFlag F.TWN_STAT_LINK_ONLY_SEEN true).raise fltTwinSplit [1]

/-- Do something at the boundary that opens the next cycle: its EPOCH names the effect. -/
def atNext (s : State) (f : State → State) : State :=
  let t := f { s with sys := { s.sys with epoch := s.sys.epoch + 1 } }
  { t with sys := { t.sys with epoch := s.sys.epoch } }

/-- A device in Hold that enters Pour alone: what promotion does beside the mode change (R510). -/
def promoteDo (s : State) (cause : Nat) : State :=
  let s := s.enterMode .pour cause
  let s := ((s.incFld F.TWN_CNT_PROMOTIONS).setFlag F.TWN_STAT_RESYNC_BUSY false).journalOwn 0xA 0
  let s := (s.syncClear 0x1).setFlag F.TWN_STAT_SYNC_EVER false
  { s with sys := { s.sys with role := .solo },
           twn := { s.twn with promote := none, buffered := [], full := none, swapAt := none, retained := [] } }

/-- A pending promotion at the next boundary (R508). -/
def promoteNow (s : State) : State :=
  match s.twn.promote with
  | none => s
  | some cause =>
    if s.sys.mode = .hold ∧ s.flag F.TWN_STAT_SYNC_EVER then s.atNext (fun t => t.promoteDo cause)
    else { s with twn := { s.twn with promote := none } }

/-! ## Planned role changes (R513, R545) -/

/-- A role change is agreed for three boundaries after the present one, by a source's command (0xFF for a failover). -/
def swapPlan (s : State) (src seq cause : Nat) : State :=
  let s : State := { s with twn := { s.twn with swapAt := some (s.sys.epoch + 3, src, seq, cause), swapAck := false,
                                                swapRec := s.sys.mode == .pour } }
  if s.sys.mode = .hold then s.aksSend aksSwap (s.sys.epoch + 3) [] else s

/-- The role change at the next boundary where its agreement stands: the new mode and role of this device, and the source
and SEQ that asked with the outcome. -/
def swapNow (s : State) : State × Option (Nat × Nat × Bool) :=
  match s.twn.swapAt with
  | none => (s, none)
  | some (e, src, seq, cause) =>
    if s.sys.epoch + 1 < e then (s, none)
    else
      let ok := s.twn.swapAck && s.flag F.TWN_STAT_SYNC && s.sys.epoch + 1 == e
      let s : State := { s with twn := { s.twn with swapAt := none, swapAck := false } }
      let s := if !ok then s
        else s.atNext (fun t =>
          let t := match t.sys.mode with
            | .pour => { t.enterMode .hold cause with sys := { (t.enterMode .hold cause).sys with role := .standby } }
            | .hold => { t.enterMode .pour cause with sys := { (t.enterMode .pour cause).sys with role := .active } }
            | _ => t
          let t := if src = 0xFF then t.journalOwn 0x0 0x0C04 else t
          let p := if t.sys.mode = .hold then Mode.pour.code else Mode.hold.code
          { t with twn := { t.twn with partner := some (p, t.sys.epoch), retained := [] } })
      (s, some (src, seq, ok))

/-- ROLE at a boundary (R496). -/
def roleNow (s : State) : State :=
  let r : Role := match s.sys.mode with
    | .hold => if s.twinOn then .standby else .solo
    | .pour => if s.partnerMode = some Mode.hold.code ∧ s.flag F.TWN_STAT_SYNC_EVER then .active else .solo
    | _ => .solo
  { s with sys := { s.sys with role := r } }

/-- A device entering Hold by command starts a full transfer (R515). -/
def holdEntry (s : State) : State :=
  let s := ((s.setFlag F.TWN_STAT_SYNC false).setFlag F.TWN_STAT_SYNC_EVER false).setFld F.TWN_STAT_UNSYNC_CAUSE 1
  s.startResync

/-! ## The link comes up (R463, R512) -/

/-- The packet of the session-open this device sends on the partner's CS14. -/
def sessionPacket (seq : Nat) : Bytes :=
  let h := leBytes 2 0x4C54 ++ [1, 0] ++ leBytes 4 seq ++ leBytes 2 1 ++ leBytes 2 0 ++ leBytes 4 0 ++ leBytes 8 0 ++ leBytes 4 0
  let h := h ++ leBytes 4 (crc32c h).toNat
  h ++ leBytes 4 (crc32c h).toNat

/-- AKESTIM_LINK_UP: the partner's mode, SYS_MODE_EPOCH and LINK_ID. Sequence numbers start again from 0 in both directions
(DESIGN CHOICE, log entry 112). Where both are in Pour, the device with the larger
SYS_MODE_EPOCH, or on equal values the higher LINK_ID, leaves Pour at its next boundary. -/
def aksLinkUp (s : State) (mode modeEpoch linkId : Nat) : State :=
  if !s.twinOn then s
  else
    let s := s.partnerHeard
    let s : State := { s with lane := { s.lane with aksTx := 0, aksRx := 0, aksPend := [] },
                              twn := { s.twn with partner := some (mode, modeEpoch), aksHeld := [] } }
    let (seq, s) := s.fresh 32
    let s := s.aksSend aksCommand s.sys.epoch (sessionPacket seq)
    let s := s.aksSend aksReport s.sys.epoch (leBytes 4 s.sys.mode.code ++ leBytes 8 s.sys.modeEpoch)
    if s.sys.mode = .pour ∧ mode = Mode.pour.code ∧ (modeEpoch < s.sys.modeEpoch ∨
        (modeEpoch = s.sys.modeEpoch ∧ linkId < s.fld F.SPR_LINK_CFG_LINK_ID (s.fld F.TWN_CFG_LINK))) then
      ({ s with twn := { s.twn with leave := true } }.setFlag F.TWN_STAT_DUAL_ACTIVE true).raise fltTwinDualActive []
    else s

/-- The device that R512 selects enters Melt at the next boundary. -/
def leaveNow (s : State) : State :=
  if !s.twn.leave then s
  else
    let s : State := { s with twn := { s.twn with leave := false } }
    if s.sys.mode = .pour then s.atNext (fun t => t.enterMode .melt 0x8) else s

/-- What a marker of the Akestim link tells the twin controller (R121, R497, R506, R508): the partner's presence, its clock as
reference input 4 (TIME corrected by half the round trip), the time skew of a standby, and a Quench notice. -/
def twinMarker (s : State) (stby quench : Bool) (sentNs rtt : Nat) : State :=
  let timeNs := sentNs + rtt / 2
  let s := s.partnerHeard
  let s : State := { s with ref := { s.ref with partner := (timeNs * 65536, s.tick) } }
  let s : State := if stby then { s with twn := { s.twn with partner := some (Mode.hold.code, ((s.twn.partner.map (·.2)).getD 0)) } } else s
  let s := if s.sys.mode = .hold then
      let d : Int := (s.alignedNow 0 / 65536 : Nat) - (timeNs : Int)
      let v : Int := max (-32767) (min 32767 d)
      let s := s.setFld F.TWN_STAT_TIME_SKEW (toField 16 v)
      if s.fld F.TWN_CFG_SKEW_THR * 100 < d.natAbs then s.setFlag F.TWN_STAT_SKEW_HIGH true else s
    else s
  if quench then s.promoteTrigger 0x4 else s

/-! ## Egress loops (R518) -/

/-- Video outputs of an egress loop's unit. -/
def loopOuts (s : State) : List VOut := s.shk.vouts.filter (fun o => s.loopDrives o)

/-- An EGRESS_LOOP ends: `pass` by the count of mismatches, or not at all when the device leaves Proof (R492). -/
def loopEnd (s : State) (left : Bool) : State :=
  match s.twn.loop with
  | none => s
  | some _ =>
    let ok := !left && s.fld F.TWN_LOOP_STAT_MISMATCH == 0
    let s := (s.setFlag F.TWN_LOOP_STAT_DONE true).setFlag F.TWN_LOOP_STAT_PASS ok
    { s with twn := { s.twn with loop := none } }

/-- EGRESS_LOOP_DONE: every output of the unit has sent its frames. -/
def loopDone (s : State) : State :=
  match s.twn.loop with
  | none => s
  | some x =>
    if s.loopOuts.all (fun o => decide (s.fld F.TWN_CFG_LOOP_FRAMES ≤ ((x.sent.find? (fun p => p.1 == o.flow)).map (·.2)).getD 0)) then
      s.loopEnd false
    else s

/-- LOOP_SIGNATURE_RECEIVE: the signatures of the frames adopted within the last 2 domain frames are compared, and the result
returns to the partner. -/
def loopCompare (s : State) (sig : Nat) : State :=
  let hit := s.lad.flows.any (fun x => !x.anc && (lastN 3 x.held).any (fun g =>
    g.lost.isEmpty && (crc32c (s.inputPicture x g)).toNat == sig))
  s.aksSend aksMatch s.sys.epoch [BitVec.ofNat 8 (b2n hit)]

/-- The partner's verdict on one output frame. -/
def loopResult (s : State) (ok : Bool) : State :=
  let s := s.incFld F.TWN_LOOP_STAT_COMPARED
  if ok then s else s.incFld F.TWN_LOOP_STAT_MISMATCH

/-! ## CROAK_OUT (R547) -/

/-- CROAK_OUT toggles every 50 µs while it runs, outside Quench and Cold. -/
def croakToggle (s : State) : State :=
  if !s.twn.croakOutOn || s.sys.mode == .quench || s.sys.mode == .cold then s
  else
    let s : State := { s with twn := { s.twn with croakOut := !s.twn.croakOut } }
    s.emit (.pin "CROAK_OUT" (b2n s.twn.croakOut))

end State

/-! ## Commands of family 0x0Cxx -/

/-- TWIN_CFG (R496): no partner is needed to configure one. -/
def applyTwinCfg (c : Cmd) (s : State) : CmdResult :=
  let l := byteAt c.params 0
  guarded [lenIs c 4, (decide (15 < l), rej 0x0108 0)] fun _ =>
    .ok ((s.setFld F.TWN_CFG_LINK l).setFlag F.TWN_CFG_EN (bitOf (byteAt c.params 1) 0)) []

/-- PROMOTE on a standby (R513). -/
def applyPromote (c : Cmd) (s : State) : CmdResult :=
  guarded [lenIs c 0, (!s.partnerOk, rejAll 0x0603), (!s.flag F.TWN_STAT_SYNC, rejAll 0x0604)] fun _ =>
    .ok (s.swapPlan c.src.val c.seq.toNat 0x1) []

/-- ROLE_SWAP on the active (R513). -/
def applyRoleSwap (c : Cmd) (s : State) : CmdResult :=
  guarded [lenIs c 0, (!s.partnerOk, rejAll 0x0603),
      (!s.flag F.TWN_STAT_SYNC || s.partnerMode != some Mode.hold.code, rejAll 0x0604)] fun _ =>
    .ok (s.swapPlan c.src.val c.seq.toNat 0x1) []

/-- RESYNC on a standby (R515). -/
def applyResync (c : Cmd) (s : State) : CmdResult :=
  guarded [lenIs c 0, (!s.partnerOk, rejAll 0x0603)] fun _ => .ok s.startResync []

/-- EGRESS_LOOP (R518). -/
def applyEgressLoop (c : Cmd) (s : State) : CmdResult :=
  let k := byteAt c.params 0
  let u := u16 c.params 2
  guarded [lenIs c 4, (decide (2 < k), rej 0x0108 0), (decide ([67, 15, 31].getD k 0 < u), rej 0x0108 2),
      (!s.partnerOk, rejAll 0x0603), (s.twn.loop.isSome, rejAll 0x0306)] fun _ =>
    let s := ((s.setFlag F.TWN_LOOP_STAT_DONE false).setFlag F.TWN_LOOP_STAT_PASS false).setFld F.TWN_LOOP_STAT_KIND k
    let s := ((s.setFld F.TWN_LOOP_STAT_UNIT u).setFld F.TWN_LOOP_STAT_COMPARED 0).setFld F.TWN_LOOP_STAT_MISMATCH 0
    .ok { s with twn := { s.twn with loop := some ⟨k, u, []⟩ } } []

/-! ## Events -/

/-- AKESTIM_RETRY_TIMEOUT (R117). -/
def execAkestimRetryTimeout (seq : Nat) (s : State) : Host.Outcome State Fault Refusal := runEff (fun s => s.aksRetry seq) s

/-- AKESTIM_LINK_UP (R463, R512). -/
def execAkestimLinkUp (mode modeEpoch linkId : Nat) (s : State) : Host.Outcome State Fault Refusal :=
  runEff (fun s => s.aksLinkUp mode modeEpoch linkId) s

/-- PARTNER_UNRESPONSIVE (R497, R509). -/
def execPartnerUnresponsive (s : State) : Host.Outcome State Fault Refusal := runEff State.partnerLost s

/-- CROAK_IN_EDGE (R548). -/
def execCroakInEdge (s : State) : Host.Outcome State Fault Refusal := runEff State.croakInEdge s

/-- CROAK_IN_LOST (R548). -/
def execCroakInLost (s : State) : Host.Outcome State Fault Refusal := runEff State.croakInLost s

/-- CROAK_OUT_TOGGLE (R547). -/
def execCroakOutToggle (s : State) : Host.Outcome State Fault Refusal := runEff State.croakToggle s

/-- EGRESS_LOOP_DONE (R518). -/
def execEgressLoopDone (s : State) : Host.Outcome State Fault Refusal := runEff State.loopDone s

end Sys2Proof.Machine
end

