-- ==== Sys2Proof/Machine/Time.lean ====
section
/-! DEFINITION. PTP time, its servo and ports, transmit stamps, and the raster generators (chapter 02), with the rows of
the reference selector (chapter 03) and the commands of family 0x08xx on time and rasters. -/

namespace Sys2Proof.Machine

/-- Servo states of R611. -/
def servoOff : Nat := 0
def servoFree : Nat := 1
def servoAcq : Nat := 2
def servoLocked : Nat := 3
def servoHold : Nat := 4

/-- The slew of R50, 5 ppm in units of 2^-40, rounded down. -/
def slewMax : Int := 5497558

/-- Ticks for which a slew of 5 ppm removes an offset of `ns` (R50). -/
def slewTicks (ns : Nat) : Nat := ceilDiv (ns * 1099511627776) 5497558

/-- Whether dataset `a` is better than `b` in the default best master clock comparison (R55). -/
def PtpDataset.better (a b : PtpDataset) : Bool :=
  let k (x : PtpDataset) : List Nat := [x.priority1, x.clockClass, x.accuracy, x.variance, x.priority2, x.identity, x.steps]
  decide (k a < k b)

/-- The better of two announced datasets with their ports. -/
def betterForeign (best : Option (PtpDataset × Nat)) (x : PtpDataset × Nat) : Option (PtpDataset × Nat) :=
  match best with
  | none => some x
  | some b => if x.1.better b.1 then some x else some b

namespace State

/-! ## PTP time (R47 to R53) -/

/-- A new set of BASE, TICK_BASE and RATE that gives at its first tick what the old set gave plus `step` ns (R48). -/
def ptpSet (s : State) (freq slew : Int) (slewEnd : Nat) (step : Int) : State :=
  let b := ((s.ptpNow : Int) + step * 65536).toNat
  { s with tim := { s.tim with base := b, tickBase := s.tick, freq := freq, slew := slew, slewEnd := slewEnd } }

/-- What the slew in force has still to remove, in ns (R50). -/
def slewLeft (s : State) : Int :=
  if s.tick < s.tim.slewEnd then (((s.tim.slewEnd - s.tick : Nat) : Int) * s.tim.slew).tdiv 1099511627776 else 0

/-- PTP time is to move by `ns`: the domains that follow it absorb that phase (R54, R84). -/
def ptpAbsorb (s : State) (ns : Int) : State :=
  (List.range 4).foldl (fun (s : State) d =>
    if s.fld F.REF_DPLL_STAT_CUR_IN d = 3 ∧ s.running d then s.absorbBy d ns else s) s

/-- What a step of PTP time by `ns` brings with it: the audio grid's realignment (R361), the end of the report interval
(R434), phase absorption in the domains that follow PTP, and the time that a waiting generator starts from (R68, R79). -/
def stepEffects (s : State) (ns : Int) : State :=
  let s : State := { s with tim := { s.tim with stepped := some ((s.tim.stepped.getD 0) + ns) } }
  let s := (s.measInterval true).ptpAbsorb ns
  (List.range 4).foldl (fun (s : State) d =>
    if s.flag F.REF_RAS_STAT_WAIT_TIME d ∧ s.fld F.REF_DPLL_STAT_STATE d = dpllFree then s.alignFresh d else s) s

/-- SERVO changes (R611); the PTP reference input is present only in state 3 (R72). -/
def setServo (s : State) (v : Nat) : State :=
  let was := s.fld F.TIM_STATUS_SERVO
  let s := s.setFld F.TIM_STATUS_SERVO v
  if v = servoLocked then s.ptpPresent
  else if was = servoLocked then s.refLoss 3
  else s

/-- Updates that the lock test of R611 looks at: those of the last second and the newest one before it. -/
def recentUpdates (s : State) : List (Nat × Int × Int) :=
  let new := s.tim.recent.filter (fun x => decide (s.tick ≤ x.1 + 1000000000))
  let old := s.tim.recent.filter (fun x => decide (x.1 + 1000000000 < s.tick))
  lastN 1 old ++ new

/-- The lock conditions of R611 over a whole second of updates. -/
def servoMayLock (s : State) : Bool :=
  let l := s.recentUpdates
  let within := l.filter (fun x => decide (s.tick ≤ x.1 + 1000000000))
  l.any (fun x => decide (x.1 + 1000000000 ≤ s.tick)) &&
    within.all (fun x => decide (x.2.1.natAbs ≤ 100)) &&
    l.all (fun x => l.all (fun y => decide ((x.2.2 - y.2.2).natAbs * 100000000 ≤ 1099511627776))) &&
    !s.flag F.TIM_STATUS_STEP_PEND

/-- The port in SLAVE. -/
def slavePort (s : State) : Option PtpPort := s.tim.ports.find? (fun p => p.en && p.st == .slave)

/-- Whether the newest Delay_Req of a port left without a transmit stamp (R63). -/
def lastReqLost (s : State) (p : PtpPort) : Bool :=
  s.tim.lostStamps.contains (p.mac, 0x4000 + (p.seqDelay + 65535) % 0x4000)

/-- A correction that the servo makes (R50, R51, R53): the first one after a reset is a step, a later one is slewed or refused. -/
def servoCorrect (s : State) (offset freq : Int) : State :=
  if !s.tim.corrected then
    let left := s.slewLeft
    let s := (s.ptpSet freq 0 0 offset).setFlag F.TIM_STATUS_TIME_VALID true
    ({ s with tim := { s.tim with corrected := true } }).stepEffects (offset - left)
  else if offset.natAbs ≤ s.fld F.TIM_STEP_THR_THR then
    let left := s.slewLeft
    let s := s.ptpSet freq (if offset < 0 then -slewMax else slewMax) (s.tick + slewTicks offset.natAbs) 0
    (s.ptpAbsorb (offset - left)).setFlag F.TIM_STATUS_STEP_PEND false
  else
    let left := s.slewLeft
    let s := ((s.ptpSet freq 0 0 0).ptpAbsorb (-left)).setPair F.TIM_STEP_PEND_LO_PEND F.TIM_STEP_PEND_HI_PEND (toField 64 offset)
    ((s.setFlag F.TIM_STATUS_STEP_PEND true).setFlag F.TIM_STATUS_STEP_REFUSED true).raise fltTimStep [toField 64 offset]

/-- A servo update (R50, R51, R53, R611): the measured offset in ns, the frequency estimate in 2^-40, and the measured
path delay in ns. An estimate beyond the signed 32 bits of RATE is held to them (DESIGN CHOICE, log entry 100: R47 gives the
range only). A message without a transmit stamp counts as lost, and no correction comes from it (R63). -/
def servoUpdate (s : State) (offset freq : Int) (delay : Int) : State :=
  match s.slavePort with
  | none => s
  | some p =>
    if !s.tim.ptpEn ∨ !s.rst.pUp ∨ s.sys.mode = .quench ∨ s.sys.mode = .cold ∨ s.lastReqLost p then s
    else
      let freq := rateClamp freq
      let first := !s.tim.corrected
      let s := ((s.measBoth 6 p.port 4 5 offset).measMean 6 p.port 20 21 offset).measMean 6 p.port 22 23 delay
      let s : State := { s with tim := { s.tim with recent := s.recentUpdates ++ [(s.tick, offset, freq)] } }
      let s := s.servoCorrect offset freq
      let v := s.fld F.TIM_STATUS_SERVO
      if first then s
      else if v = servoLocked ∧ (1000 < offset.natAbs ∨ s.flag F.TIM_STATUS_STEP_PEND) then
        ({ s with tim := { s.tim with recent := [] } }).setServo servoAcq
      else if v = servoAcq ∧ s.servoMayLock then s.setServo servoLocked
      else s

/-! ## The best master clock (R55, R58, R611) -/

/-- The state of a port after the comparison: `lost` the port whose receipt timeout expired. -/
def bmcaPort (s : State) (best : Option (PtpDataset × Nat)) (lost : Option Nat) (p : PtpPort) : PtpPortState :=
  let own := s.tim.own
  let quiet := p.foreign.isNone && (p.st == .listening) && lost != some p.port
  let slaveOnly := own.clockClass == 255
  if slaveOnly then
    match best with
    | some b => if b.2 = p.port then .slave else .listening
    | none => .listening
  else if own.clockClass ≤ 127 then
    match p.foreign with
    | none => if quiet then .listening else .master
    | some f => if own.better f then .master else .passive
  else
    match best with
    | none => if quiet then .listening else .master
    | some b =>
      if own.better b.1 then (if quiet then .listening else .master)
      else if b.2 = p.port then .slave
      else
        match p.foreign with
        | none => if quiet then .listening else .master
        | some f => if f.identity = b.1.identity then .passive else .master

/-- The port states and SERVO after a change of what the ports hear (R611); in holdover the set of R47 stays as it is. In Quench
PTP time advances on its last set (R59). -/
def bmca (s : State) (lost : Option Nat) : State :=
  if !s.tim.ptpEn ∨ s.sys.mode = .quench ∨ s.sys.mode = .cold then s
  else
    let heard := s.tim.ports.filterMap (fun p => if p.en then p.foreign.map (fun f => (f, p.port)) else none)
    let best := heard.foldl betterForeign none
    let ps := s.tim.ports.map (fun p => if p.en then { p with st := s.bmcaPort best lost p } else { p with st := .listening, foreign := none })
    let gm : Bool := match best with
      | some b => s.tim.own.better b.1
      | none => ps.any (fun p => p.en && p.st == .master)
    let has : Bool := ps.any (fun p => p.en && p.st == .slave)
    let s : State := { s with tim := { s.tim with ports := ps } }
    let v := s.fld F.TIM_STATUS_SERVO
    if has then
      if v = servoFree ∨ v = servoHold then ({ s with tim := { s.tim with recent := [] } }).setServo servoAcq else s
    else if gm ∧ (v = servoAcq ∨ v = servoLocked ∨ v = servoHold) then s.setServo servoFree
    else if v = servoAcq ∨ v = servoLocked then s.setServo servoHold
    else s

/-- A port hears an Announce from an address (R55). -/
def ptpHear (s : State) (port : Nat) (f : PtpDataset) (ip : Nat) : State :=
  let s : State := { s with tim := { s.tim with
    ports := s.tim.ports.map (fun p => if p.port == port then { p with foreign := some f, peerIp := ip } else p) } }
  s.bmca none

/-- announceReceiptTimeout of a port expires (R55, R611). -/
def announceLost (s : State) (port : Nat) : State :=
  if s.sys.mode ≠ .quench ∧ s.sys.mode ≠ .cold ∧ s.tim.ports.any (fun p => p.port == port && p.en && p.st != .master) then
    let s : State := { s with tim := { s.tim with ports := s.tim.ports.map (fun p => if p.port == port then { p with foreign := none } else p) } }
    s.bmca (some port)
  else s

/-! ## PTP messages sent (R55, R58, R59) -/

/-- A message's common header (IEEE 1588): type, length, domain, source port, sequence and interval. -/
def ptpHeader (s : State) (p : PtpPort) (ty len seq : Nat) (twoStep : Bool) (log : Int) : Bytes :=
  [BitVec.ofNat 8 ty, 2] ++ be 2 len ++ [BitVec.ofNat 8 s.tim.domainNum, 0, if twoStep then 2 else 0, 0] ++
    List.replicate 12 0 ++ be 8 s.tim.own.identity ++ be 2 (p.port + 1) ++ be 2 (seq % 65536) ++
    [if ty = 0 then 0 else if ty = 1 then 1 else if ty = 8 then 2 else 5, BitVec.ofNat 8 (toField 8 log)]

/-- A time as seconds and nanoseconds. -/
def ptpStampBytes (ns : Nat) : Bytes := be 6 (ns / 1000000000) ++ be 4 (ns % 1000000000)

/-- Whether PTP ports transmit at all (R58, R59). -/
def ptpSends (s : State) : Bool := s.tim.ptpEn && s.sys.mode != .quench && s.sys.mode != .cold

/-- A PTP message is handed to its MAC: event messages in order 1, general ones in order 3 (R139). -/
def ptpOffer (s : State) (p : PtpPort) (kind : Nat) (stamp : Option Nat) (body : Bytes) (dst : Nat := 0x01005E000181) : State :=
  s.offer ⟨p.mac, if kind = 0x40 ∨ kind = 0x43 then 1 else 3, kind, 0, 0, stamp, body.length + 46, dst, body, 0⟩ false

/-- Change a port's record. -/
def modPort (s : State) (port : Nat) (f : PtpPort → PtpPort) : State :=
  { s with tim := { s.tim with ports := s.tim.ports.map (fun p => if p.port == port then f p else p) } }

/-- A master port's Sync (two-step), stamped at its departure (R55, R57, R60). -/
def syncTx (s : State) (port : Nat) : State :=
  match s.tim.ports.find? (fun p => p.port == port && p.en && p.st == .master) with
  | none => s
  | some p =>
    if !s.ptpSends ∨ s.sys.mode = .hold then s
    else
      let s := s.ptpOffer p 0x40 (some (p.seqSync % 0x4000)) (s.ptpHeader p 0 44 p.seqSync true p.logSync ++ List.replicate 10 0)
      s.modPort port (fun p => { p with seqSync := (p.seqSync + 1) % 65536 })

/-- The dataset this clock announces (R55): the grandmaster's, one step further, while a port of it is in SLAVE, else its own. -/
def announced (s : State) : PtpDataset :=
  match s.slavePort.bind PtpPort.foreign with
  | some f => { f with steps := (f.steps + 1) % 65536 }
  | none => s.tim.own

/-- The format whose values the synchronization metadata of ST 2059-2 carries: D0's, in force or configured (R55). -/
def metaFmt (s : State) : Option Fmt :=
  match s.domFmt 0 with
  | some f => some f
  | none => fmtOf (s.fld F.REF_RAS_CFG_FORMAT 0)

/-- A master port's Announce, and in the ST 2059-2 profile the synchronization metadata of domain D0 (R55, R58). The field
currentUtcOffset is 37 and timeSource 0xA0 (DESIGN CHOICE, log entry 101: the specification gives neither). -/
def announceTx (s : State) (port : Nat) : State :=
  match s.tim.ports.find? (fun p => p.port == port && p.en && p.st == .master) with
  | none => s
  | some p =>
    if !s.ptpSends ∨ s.sys.mode = .hold then s
    else
      let gm := s.announced
      let body := s.ptpHeader p 11 64 p.seqAnnounce false p.logAnnounce ++ List.replicate 10 0 ++ be 2 37 ++ [0] ++
        be 1 gm.priority1 ++ be 1 gm.clockClass ++ be 1 gm.accuracy ++ be 2 gm.variance ++ be 1 gm.priority2 ++
        be 8 gm.identity ++ be 2 gm.steps ++ [0xA0]
      let s := s.ptpOffer p 0x42 none body
      let s := s.modPort port (fun p => { p with seqAnnounce := (p.seqAnnounce + 1) % 65536 })
      match s.tim.profile, s.metaFmt with
      | 0, some f => s.ptpOffer p 0x45 none (be 4 f.num ++ be 4 f.den)
      | _, _ => s

/-- A slave port's Delay_Req (R55, R60); a hybrid port sends it to the master it heard. -/
def delayReqTx (s : State) (port : Nat) : State :=
  match s.tim.ports.find? (fun p => p.port == port && p.en && p.st == .slave) with
  | none => s
  | some p =>
    if !s.ptpSends then s
    else
      let dst := if p.hybrid && p.peerIp != 0 then ethDst p.peerIp else 0x01005E000181
      let s := s.ptpOffer p 0x43 (some (0x4000 + p.seqDelay % 0x4000)) (s.ptpHeader p 1 44 p.seqDelay false p.logDelayReq ++ List.replicate 10 0) dst
      s.modPort port (fun p => { p with seqDelay := (p.seqDelay + 1) % 65536 })

/-! ## Transmit stamps (R60 to R63) -/

/-- Entries of a MAC's queue. -/
def txqOf (s : State) (m : Nat) : List TxStamp := s.tim.txq.filter (fun x => x.mac == m)

/-- DEPTH of a MAC's queue, recounted. -/
def txqDepth (s : State) (m : Nat) : State := s.setFld F.TIM_TXQ_DEPTH (s.txqOf m).length m

/-- The sequence number of the Sync whose stamp carries an identifier: the newest one sent with it (R60). -/
def syncSeq (p : PtpPort) (ident : Nat) : Nat :=
  (p.seqSync + 65535 - (p.seqSync + 65535 - ident) % 0x4000) % 65536

/-- Firmware takes one entry (R61, R63): a host frame's goes to the event ring, a Sync's into its Follow_Up. -/
def txqTake (s : State) (x : TxStamp) : State :=
  if 0x8000 ≤ x.ident then s.event blkTim 0 0x0001 [x.mac, x.ident, x.ns]
  else if x.ident < 0x4000 then
    match s.tim.ports.find? (fun p => p.mac == x.mac && p.en && p.st == .master) with
    | some p =>
      if s.ptpSends ∧ s.sys.mode ≠ .hold then
        s.ptpOffer p 0x41 none (s.ptpHeader p 8 44 (syncSeq p x.ident) false p.logSync ++ ptpStampBytes x.ns)
      else s
    | none => s
  else s

/-- Firmware reads every queue while the PTP instance is enabled (R61). -/
def txqRead (s : State) : State :=
  if !(s.tim.ptpEn && s.fwServes) then s
  else
    let l := s.tim.txq
    let s : State := { s with tim := { s.tim with txq := [] } }
    let s := l.foldl txqTake s
    l.foldl (fun (s : State) x => s.txqDepth x.mac) s

/-- A frame whose descriptor asks for a stamp leaves (R57, R60, R62); a PTP message whose stamp is discarded counts as lost (R63). -/
def txStamp (s : State) (f : TxFrame) : State :=
  match f.stamp with
  | none => s
  | some ident =>
    let lat : Int := ((s.tim.ports.find? (fun p => p.mac == f.mac && p.en && decide (ident < 0x8000))).map PtpPort.egress).getD 0
    let ns := ((s.ptpNs : Int) + lat).toNat
    if 64 ≤ (s.txqOf f.mac).length then
      let s := (s.setFld F.TIM_TXQ_OVF_OVF (s.fld F.TIM_TXQ_OVF_OVF ||| 2 ^ f.mac)).incFld F.TIM_TXQ_DROP_CNT f.mac
      let lost := if ident < 0x8000 then lastN 64 (s.tim.lostStamps ++ [(f.mac, ident)]) else s.tim.lostStamps
      ({ s with tim := { s.tim with lostStamps := lost } }).raise fltTimTxqOvf [f.mac]
    else
      let s : State := { s with tim := { s.tim with txq := s.tim.txq ++ [⟨f.mac, ident, ns⟩],
                                                    lostStamps := s.tim.lostStamps.filter (· != (f.mac, ident)) } }
      (s.txqDepth f.mac).txqRead

/-! ## Raster generators (R64 to R71) -/

/-- Whether the generator is aligned to PTP (R68): input 3 is an enabled candidate. -/
def alignsPtp (s : State) (d : Nat) : Bool := s.flag F.REF_DPLL_CAND_EN d 3

/-- A domain's flip (R239) with what the chapters change at it: ANC sources, takes' audio (R283), layers (R325). -/
def domFlip (s : State) (d : Nat) : State :=
  ((((s.flip d).pipeFlip d).ancFlip d).afvFlip d).chmRefresh (s.domLayers d)

/-- A frame boundary at which a format begins (R260, R261): the bank of that format runs, else the sequencer idles. -/
def formatBegin (s : State) (d code : Nat) : State :=
  let act := s.fld (if s.activeNo d = 0 then F.PAT_BANK_FMT_A else F.PAT_BANK_FMT_B) d
  let oth := s.fld (if s.activeNo d = 0 then F.PAT_BANK_FMT_B else F.PAT_BANK_FMT_A) d
  if act = code then s.setFlag F.PAT_BANK_FMT_IDLE false d
  else if oth = code then (s.domFlip d).setFlag F.PAT_BANK_FMT_IDLE false d
  else s.setFlag F.PAT_BANK_FMT_IDLE true d

/-- What the chapters do at a frame boundary of domain `d`: adoption and depth changes, remaps and releases, surface
flips, gates, clock outputs, and outputs of an idle pattern. -/
def frameEffects (s : State) (d : Nat) : State :=
  (((((s.ladFrame d).poolFrame d).chmFrame d).gateFrame d).clkoutApply d).idleFrame d

/-- An enabled generator starts (R68): its first frame by R65, line 1 next. -/
def rasterStart (s : State) (d : Nat) : State :=
  if ¬(d < 4 ∧ s.rst.pUp ∧ s.sys.mode ≠ .cold ∧ s.flag F.REF_RAS_CFG_EN d ∧ !s.running d) then s
  else if s.alignsPtp d ∧ !s.flag F.TIM_STATUS_TIME_VALID then (s.dpllStart d).setFlag F.REF_RAS_STAT_WAIT_TIME true d
  else
    match fmtOf (s.fld F.REF_RAS_CFG_FORMAT d) with
    | none => s
    | some f =>
      let s := s.dpllStart d
      let n := nearestFrame f (s.sfld F.REF_RAS_OFS_OFS d) (s.alignedNow d)
      let s := s.setRas d ⟨n, 0, 255, s.tick⟩
      let s := ((s.setFlag F.REF_RAS_STAT_RUN true d).setFld F.REF_RAS_STAT_FORMAT_ACTIVE f.code d).setFlag F.REF_RAS_STAT_WAIT_TIME false d
      let s := (s.setFlag F.REF_RAS_STAT_ALIGNED true d).formatBegin d f.code
      s.frameEffects d

/-- A stopped generator is enabled (R68, R89): its DPLL runs, and a start that waits for TIME_VALID shows it. -/
def rasterEnabled (s : State) (d : Nat) : State :=
  let s := s.dpllStart d
  s.setFlag F.REF_RAS_STAT_WAIT_TIME (s.alignsPtp d && !s.flag F.TIM_STATUS_TIME_VALID) d

/-- A stopped generator is disabled (R89). -/
def rasterDisabled (s : State) (d : Nat) : State := (s.setFlag F.REF_RAS_STAT_WAIT_TIME false d).dpllStop d

/-- A generator whose EN is 0 stops at the end of its frame (R69); with D0 the timer takes over (R26). -/
def rasterStop (s : State) (d : Nat) : State :=
  let s := s.lastFrames d
  let s : State := if d = 0 then { s with sys := { s.sys with castSrc := false } } else s
  let s := (s.setFlag F.REF_RAS_STAT_RUN false d).setFld F.REF_RAS_STAT_FORMAT_ACTIVE 0 d
  let s := (s.setFlag F.REF_RAS_STAT_ALIGNED false d).setRas d ⟨(s.rasOf d).frameN, 0, 0, s.tick⟩
  ((s.dpllStop d).poolFrame d).clkoutApply d

/-- A frame boundary (R65, R69, R70): effective once the last slot of the last line has begun. -/
def frameBoundary (s : State) (d : Nat) : State :=
  match s.domFmt d with
  | none => s
  | some f =>
    if ¬(d < 4 ∧ s.running d ∧ (s.rasOf d).line = f.lines ∧ (s.rasOf d).slot = 255) then s
    else if !s.flag F.REF_RAS_CFG_EN d then s.rasterStop d
    else
      let n := (s.rasOf d).frameN + 1
      match (if s.fld F.REF_RAS_CFG_FORMAT d = f.code then none else fmtOf (s.fld F.REF_RAS_CFG_FORMAT d)) with
      | none => (s.setRas d ⟨n, 0, 255, s.tick⟩).frameEffects d
      | some g =>
        let s := s.lastFrames d
        let (i, gap) := s.formatFrame d f g
        let aligned := gap == 0
        let s := (s.setRas d ⟨i, 0, 255, s.tick⟩).setFld F.REF_RAS_STAT_FORMAT_ACTIVE g.code d
        let s := if aligned then s else
          (s.setFld F.REF_DPLL_STAT_ABS_REM 0 d).absorbBy d gap
        ((s.review d).formatBegin d g.code).frameEffects d

/-- EPOCH of the cycle that contains the first frame boundary of a stopped domain that is enabled now (R34, R65, R68); none
while its start waits for TIME_VALID; with it the instant's PTP time. -/
def predictStart (s : State) (d : Nat) (f : Fmt) : Option (Nat × Nat) :=
  if s.alignsPtp d ∧ !s.flag F.TIM_STATUS_TIME_VALID then none
  else
    let t : Int := (s.alignedNow d : Int) - s.sfld F.REF_RAS_OFS_OFS d * 65536
    let p : Int := 65536000000000 * f.den
    let r := (t * f.num) % p
    let wait := (if r = 0 then 0 else ((p - r) / (65536 * (f.num : Int))).toNat + 1)
    match (if s.running 0 then s.domFmt 0 else none) with
    | some g => some (s.sys.epoch + wait * g.lpD / g.lpN, s.ptpNs + wait)
    | none => some (s.sys.epoch + wait / 64000, s.ptpNs + wait)

/-- Whether a layer or pipe of domain `d` fails under the format of the tables (R351). -/
def chmFormatBad (s : State) (d : Nat) (f : Fmt) : Bool :=
  (s.domLayers d).any (fun n => (layerCheck s n 0).isSome) ||
    (List.range 34).any (fun p => s.flag F.CHM_PIPE_CFG_EN p && s.fld F.CHM_PIPE_CFG_DOMAIN p == d &&
      (match s.vout (s.fld F.CHM_PIPE_CFG_OUT_FLOW p) with
       | some o => pipeTooEarly s f o
       | none => false))

/-- Whether a flow bound to domain `d` breaks R161 under a format (R262). -/
def rateBroken (s : State) (d : Nat) (f : Fmt) : Bool :=
  let bad (c : Nat) : Bool := match fmtOf c with
    | some x => !rateFits x f
    | none => false
  s.lad.flows.any (fun x => x.dom == d && bad x.format) || s.shk.vouts.any (fun o => o.dom == d && bad o.format) ||
    s.shk.tests.any (fun x => x.dom == d && bad x.format)

end State

/-! ## Commands of family 0x08xx on time and rasters -/

/-- ALLOW_STEP (R52): one step by the pending offset, whose size the reply reports. -/
def applyAllowStep (c : Cmd) (s : State) : CmdResult :=
  guarded [lenIs c 0] fun _ =>
    if s.flag F.TIM_STATUS_STEP_PEND then
      let v := s.pair F.TIM_STEP_PEND_LO_PEND F.TIM_STEP_PEND_HI_PEND
      let t := (s.ptpSet s.tim.freq 0 0 (sext 64 v)).setFlag F.TIM_STATUS_STEP_PEND false
      .ok (t.stepEffects (sext 64 v - s.slewLeft)) (leBytes 8 v)
    else .ok s (leBytes 8 0)

/-- TIM_SET (R53): Melt with the PTP instance disabled; steps without refusal. -/
def applyTimSet (c : Cmd) (s : State) : CmdResult :=
  let ns := u32 c.params 8
  guarded [lenIs c 12, (decide (999999999 < ns), rej 0x0108 8), (s.tim.ptpEn, rejAll 0x0305)] fun _ =>
    let step : Int := ((u48 c.params 0 * 1000000000 + ns : Nat) : Int) - s.ptpNs
    let t : State := { s with tim := { s.tim with base := (u48 c.params 0 * 1000000000 + ns) * 65536, tickBase := s.tick,
                                                  slew := 0, slewEnd := 0 } }
    .ok ((t.setFlag F.TIM_STATUS_TIME_VALID true).stepEffects step) []

/-- STEP_THR: TIM_STEP_THR. -/
def applyStepThr (c : Cmd) (s : State) : CmdResult :=
  let v := bitsOf (u32 c.params 0) 29 0
  guarded [lenIs c 4, (!inRanges [(100, 1000000000)] v, rej 0x0108 0)] fun _ => .ok (s.setFld F.TIM_STEP_THR_THR v) []

/-- PTP_CFG (R55, R611). The clock variance 65535 is the model's (DESIGN CHOICE, log entry 102), and a slew in progress is dropped
when the instance is disabled (DESIGN CHOICE, log entry 103): the specification states neither. -/
def applyPtpCfg (c : Cmd) (s : State) : CmdResult :=
  let b := c.params
  let en := bitOf (byteAt b 0) 0
  guarded [lenIs c 8, (decide (1 < byteAt b 1), rej 0x0108 1), (decide (127 < byteAt b 2), rej 0x0108 2)] fun _ =>
    let (ident, s) := if s.tim.own.identity = 0 then s.fresh 64 else (s.tim.own.identity, s)
    let own : PtpDataset := ⟨byteAt b 3, byteAt b 5, byteAt b 6, 65535, byteAt b 4, ident, 0⟩
    let was := s.tim.ptpEn
    let s : State := { s with tim := { s.tim with ptpEn := en, profile := byteAt b 1, domainNum := byteAt b 2, own := own } }
    if en && was then .ok (s.bmca none) []
    else
      let quiet := s.tim.ports.map (fun p => { p with st := .listening, foreign := none })
      let s : State := { s with tim := { s.tim with ports := quiet, recent := [] } }
      if en then .ok ((s.setServo servoFree).txqRead) []
      else .ok ((if was then s.ptpSet s.tim.freq 0 0 0 else s).setServo servoOff) []

/-- PTP_PORT (R55, R57, R488). -/
def applyPtpPort (c : Cmd) (s : State) : CmdResult :=
  let b := c.params
  let n := byteAt b 0
  let m := byteAt b 1
  let en := bitOf (byteAt b 2) 0
  let ls := sext 8 (byteAt b 4)
  let la := sext 8 (byteAt b 5)
  let ld := sext 8 (byteAt b 6)
  let other := s.tim.ports.any (fun p => p.en && p.mac == m && p.port != n)
  guarded [lenIs c 12, (decide (31 < n), rej 0x0108 0), (decide (31 < m), rej 0x0108 1), (other, rej 0x0108 1),
      (decide (ls < -7 ∨ 1 < ls), rej 0x0108 4), (decide (la < -3 ∨ 4 < la), rej 0x0108 5),
      (decide (ld < -7 ∨ 5 < ld), rej 0x0108 6), (!inRanges [(2, 10)] (byteAt b 7), rej 0x0108 7)] fun _ =>
    let old := s.tim.ports.find? (fun p => p.port == n)
    let keep := old.filter (fun p => p.en && en && p.mac == m)
    let p : PtpPort := ⟨n, m, en, bitOf (byteAt b 2) 1, ls, la, ld, byteAt b 7, sext 16 (u16 b 8), sext 16 (u16 b 10),
      (keep.map PtpPort.st).getD .listening, keep.bind PtpPort.foreign, (old.map PtpPort.seqSync).getD 0,
      (old.map PtpPort.seqDelay).getD 0, (old.map PtpPort.seqAnnounce).getD 0, 0, 0, (keep.map PtpPort.drqDropped).getD 0,
      (keep.map PtpPort.peerIp).getD 0⟩
    let gone := (old.map PtpPort.en).getD false && !en
    let s := if gone then s.measDelete 6 n else s
    let s : State := { s with tim := { s.tim with ports := upsert (fun (x : PtpPort) => x.port == n) p s.tim.ports } }
    .ok (s.bmca none) []

/-- RASTER (R68 to R71, R488). -/
def applyRaster (c : Cmd) (s : State) : CmdResult :=
  let b := c.params
  let d := byteAt b 0
  let en := bitOf (byteAt b 1) 0
  let ofs := sext 32 (u32 b 4)
  let new := byteAt b 2 != s.fld F.REF_RAS_CFG_FORMAT d
  match fmtOf (byteAt b 2) with
  | none => guarded [lenIs c 8, (decide (3 < d), rej 0x0108 0)] fun _ => .bad (rej 0x0108 2)
  | some f =>
    let t := (s.setFlag F.REF_RAS_CFG_EN en d).setFld F.REF_RAS_CFG_FORMAT f.code d
    guarded [lenIs c 8, (decide (3 < d), rej 0x0108 0), (decide (ofs < -8388608 ∨ 8388607 < ofs), rej 0x0108 4),
        (d == 0 && !en && s.flag F.REF_RAS_CFG_EN 0 && (s.sys.mode == .pour || s.sys.mode == .hold), rejDom 0x0305 0),
        (new && (t.rateBroken d f || t.chmFormatBad d f), rejAll 0x0305)] fun _ =>
      match (if new then t.patAdmit d else none) with
      | some r => .bad r
      | none =>
        let move := ofs - s.sfld F.REF_RAS_OFS_OFS d
        let t := t.setFld F.REF_RAS_OFS_OFS (toField 24 ofs) d
        if s.running d then
          let t := t.absorbBy d move
          let t := if new then t.patWrite d else t
          let stop := d == 0 && !en
          .ok t [] (some ((t.predictFrame d).map (fun p => p.2 - b2n stop))) (t.frameNs d)
        else if en then
          let t := if new || (t.fld F.PAT_BANK_FMT_A d != f.code && t.fld F.PAT_BANK_FMT_B d != f.code) then t.patWrite d else t
          let t := t.rasterEnabled d
          .ok t [] (some ((t.predictStart d f).map (·.1))) ((t.predictStart d f).map (·.2))
        else
          .ok ((if new then t.patWrite d else t).rasterDisabled d) [] (some none)

/-! ## Rows -/

/-- FRAME_BOUNDARY (R65, R69, R70). -/
def execFrameBoundary (d : Nat) (s : State) : Host.Outcome State Fault Refusal := runEff (fun s => s.frameBoundary d) s

/-- RASTER_START (R68). -/
def execRasterStart (d : Nat) (s : State) : Host.Outcome State Fault Refusal := runEff (fun s => s.rasterStart d) s

/-- SERVO_UPDATE (R50, R51, R53, R611). -/
def execServoUpdate (offset freq delay : Int) (s : State) : Host.Outcome State Fault Refusal :=
  runEff (fun s => s.servoUpdate offset freq delay) s

/-- PTP_SYNC_TX (R55). -/
def execPtpSyncTx (port : Nat) (s : State) : Host.Outcome State Fault Refusal := runEff (fun s => s.syncTx port) s

/-- PTP_ANNOUNCE_TX (R55, R58). -/
def execPtpAnnounceTx (port : Nat) (s : State) : Host.Outcome State Fault Refusal := runEff (fun s => s.announceTx port) s

/-- PTP_DELAY_REQ_TX (R55). -/
def execPtpDelayReqTx (port : Nat) (s : State) : Host.Outcome State Fault Refusal := runEff (fun s => s.delayReqTx port) s

/-- ANNOUNCE_RECEIPT_TIMEOUT (R55, R611). -/
def execAnnounceReceiptTimeout (port : Nat) (s : State) : Host.Outcome State Fault Refusal :=
  runEff (fun s => s.announceLost port) s

/-- REF_FREQ_GATE (R74, R76). -/
def execRefFreqGate (input : Nat) (f : Int) (s : State) : Host.Outcome State Fault Refusal :=
  runEff (fun s => if s.rst.pUp then s.refGate input f else s) s

/-- REF_INPUT_LOSS (R72, R76). -/
def execRefInputLoss (input : Nat) (s : State) : Host.Outcome State Fault Refusal :=
  runEff (fun s => if s.rst.pUp && decide (input < 9) then s.refLoss input else s) s

/-- REF_QUALIFIED (R75). -/
def execRefQualified (input : Nat) (s : State) : Host.Outcome State Fault Refusal :=
  runEff (fun s => if s.rst.pUp && decide (input < 9) then s.refQualified input else s) s

/-- REF_WTR_EXPIRY (R82, R85). -/
def execRefWtrExpiry (d input : Nat) (s : State) : Host.Outcome State Fault Refusal :=
  runEff (fun s => if s.rst.pUp && decide (d < 4) && decide (input < 9) then s.refWtr d input else s) s

/-- DPLL_ABSORB_DONE (R84, R85). -/
def execDpllAbsorbDone (d : Nat) (s : State) : Host.Outcome State Fault Refusal :=
  runEff (fun s => if s.rst.pUp && decide (d < 4) then s.absorbDone d else s) s

/-- DPLL_LOCKED (R89). -/
def execDpllLocked (d : Nat) (s : State) : Host.Outcome State Fault Refusal :=
  runEff (fun s => if s.rst.pUp && decide (d < 4) then s.dpllLock d else s) s

/-- DPLL_LOCK_LOST (R89). -/
def execDpllLockLost (d : Nat) (s : State) : Host.Outcome State Fault Refusal :=
  runEff (fun s => if s.rst.pUp && decide (d < 4) then s.dpllUnlock d else s) s

/-- OCXO_FAIL (R91). -/
def execOcxoFail (s : State) : Host.Outcome State Fault Refusal :=
  runEff (fun s => if s.rst.pUp then s.ocxoFail else s) s

/-- REF_PHASE_OUTLIER (R77). -/
def execRefPhaseOutlier (input : Nat) (s : State) : Host.Outcome State Fault Refusal :=
  runEff (fun s => if s.rst.pUp && decide (input < 9) then s.refOutlier input else s) s

end Sys2Proof.Machine
end

