-- ==== Sys2Proof/Machine/Sequencer.lean ====
section
/-! DEFINITION. The pattern sequencer (chapter 08): line positions, the execution of a slot's entries, read deadlines, and
the packets that leave at their send times. -/

namespace Sys2Proof.Machine

/-- Tiles of row `a` to row `b` (not included) of a source with `bpl` bytes a row (R233): their first bytes lie there. -/
def rowTiles (bpl a b tpf : Nat) : List Nat :=
  let lo := ceilDiv (a * bpl) tilePayload
  let hi := min tpf (ceilDiv (b * bpl) tilePayload)
  (List.range (hi - lo)).map (fun i => lo + i)

namespace State

/-! ## Reads (R172, R173, R233, R341) -/

/-- Where the frame a read selects lies: ring generation and position of its tile 0, with its TPF; none where the flow is
not defined or has no frame adopted (R182). A surface's BASE is FRONT. -/
def readBase (s : State) (flow delay : Nat) : Option (Nat × Nat × Nat) :=
  if flow < 0x800 ∨ (0x3000 ≤ flow ∧ flow ≤ 0x33FF) then
    (s.inFlow flow).bind (fun x => (x.frameAt delay).map (fun g => (g.gen, g.s * x.tpf, x.tpf)))
  else
    (s.picture flow).map (fun p =>
      (0, if flow < 0x4100 then s.fld F.CHM_SURF_CFG_FRONT (flow - 0x4000) * p.tpf else 0, p.tpf))

/-- A read that cannot reach the pool: its fill is delivered at the deadline (R182, R206, R231). -/
def issueFill (s : State) (exec d : Nat) (rd : Reader) (flow k : Nat) : State :=
  let r : PoolRead := ⟨s.pool.nextRead, exec, d, rd, flow, 0, 0, k, none, none, false, false, false, 0, 0, false, false, true,
    false, (s.rasOf d).line, (s.rasOf d).slot, (s.rasOf d).frameN, false, false, false, s.repeats flow⟩
  { s with pool := { s.pool with reads := s.pool.reads ++ [r], nextRead := s.pool.nextRead + 1 } }

/-- Issue the reads of tiles `ks` of the frame a read selects (R233, R205); `fill` for an entry whose guard failed. -/
def issueTiles (s : State) (exec d : Nat) (rd : Reader) (flow delay : Nat) (ks : List Nat) (fill video : Bool) : State :=
  match (if fill then none else s.readBase flow delay) with
  | none => ks.foldl (fun (s : State) k => s.issueFill exec d rd flow k) s
  | some (gen, pos0, tpf) =>
    match s.ring flow gen with
    | none => ks.foldl (fun (s : State) k => s.issueFill exec d rd flow k) s
    | some r =>
      let n := max 1 r.tiles
      ks.foldl (fun (s : State) k =>
        let p := (pos0 + k) % n
        s.issueRead exec d rd flow gen p k (if video then some ((p + n - tpf % n) % n) else none)) s

/-- A number for one execution of an entry. -/
def nextExecNo (s : State) : Nat × State :=
  (s.pool.nextExec, { s with pool := { s.pool with nextExec := s.pool.nextExec + 1 } })

/-! ## Entries (R232 to R237) -/

/-- The reads of a READ_OUT, READ_LAYER or ANC_OUT entry in line `line` of its run. -/
def runRead (s : State) (d line : Nat) (run e : BitVec 128) (fill : Bool) : State :=
  let (x, s) := s.nextExecNo
  let flow := entFlow e
  let dest := entDest e
  let bpl := ebits e 63 48
  let rel := line - runFirst run
  let tpf := ((s.picture flow).map Picture.tpf).getD 0
  if entOp e = 2 then
    let a := runRow0 run + rel
    s.issueTiles x d (.shakeout dest) flow (entSel e) (rowTiles bpl a (a + 1) tpf) fill true
  else if entOp e = 3 then
    let v := ebits e 31 16
    s.issueTiles x d (.layer dest) flow (entSel e)
      (rowTiles bpl (runRow0 run + rel * v / 256) (runRow0 run + (rel + 1) * v / 256) tpf) fill true
  else s.issueTiles x d (.anc dest) flow (entSel e) (List.range (s.ancTpf flow)) fill false

/-- An AUDIO_BUNDLE entry (R378): TILES transactions of one direction. -/
def runBundle (s : State) (d : Nat) (e : BitVec 128) (fill : Bool) : State :=
  let n := ebits e 63 56
  if entSel e % 2 = 0 then
    if fill then s else (List.range n).foldl (fun (s : State) _ => s.lineWrite (entDest e)) s
  else
    let (x, s) := s.nextExecNo
    if fill then (List.range n).foldl (fun (s : State) _ => s.issueFill x d (.audio (entDest e)) (entFlow e) 0) s else
    (List.range n).foldl (fun (s : State) _ => s.lineRead x d (entDest e)) s

/-- A MARK entry (R232). -/
def runMark (s : State) (e : BitVec 128) : State :=
  match ebits e 63 56 with
  | 1 => s.frameStart (entFlow e)
  | 2 => s.measTap (entFlow e)
  | 3 => s.event blkPat 0 0x0104 [entFlow e, ebits e 47 16]
  | _ => s

/-- Whether a SWITCH entry flips now (R239): FLIP_PEND is 1 and SEL admits the frame. -/
def switchFlips (s : State) (d frame : Nat) (e : BitVec 128) : Bool :=
  entOp e == 8 && guardOk e && s.flag F.PAT_BANK_FLIP_PEND d && (entSel e % 4 == 0 || (entSel e % 4 == 1 && frame % 2 == 0))

/-- One entry but SWITCH (R232). Where its guard or its run's is wrong it is not executed, and its reads end as fill (R231). -/
def runEntry (s : State) (d line : Nat) (x : BitVec 128 × BitVec 128 × Nat) : State :=
  let e := x.2.1
  let ok := guardOk x.1 && guardOk e
  let s := if guardOk e then s else s.guardFail d false x.2.2
  match entOp e with
  | 1 => if ok then s.moveIn (entFlow e) (ebits e 63 56) else s
  | 2 | 3 | 5 => s.runRead d line x.1 e (!ok)
  | 4 => s.runBundle d e (!ok)
  | 6 => if ok then s.runMark e else s
  | 7 => if ok then s.fenceCheck d (entFlow e) (entDest e) else s
  | 9 => if ok then s.scrub (ebits e 63 56) else s
  | _ => s

/-- The entries of the active bank that stand in one slot, in order (R228, R229). -/
def patEntries (s : State) (d line frame slot : Nat) : List (BitVec 128 × BitVec 128 × Nat) :=
  ((s.activeBank d).lineEntries line frame).filter (fun x => entSlot x.2.1 == slot)

/-- Execute a slot's entries until a SWITCH flips: the state, and whether one did. -/
def runEntries (s : State) (d line frame : Nat) : List (BitVec 128 × BitVec 128 × Nat) → State × Bool
  | [] => (s, false)
  | x :: xs =>
    if guardOk x.1 && s.switchFlips d frame x.2.1 then (s.domFlip d, true)
    else (s.runEntry d line x).runEntries d line frame xs

/-- Guards of the runs that cover a line, checked as the line begins (R231). -/
def runGuards (s : State) (d line frame : Nat) : State :=
  ((s.activeBank d).runs.filter (fun p => runCovers p.2 line frame && !guardOk p.2)).foldl
    (fun (s : State) p => s.guardFail d true p.1) s

/-- What the sequencer does in a slot (R235, R239): the active bank's entries, and after a flip the new bank's. -/
def runSlot (s : State) (d : Nat) : State :=
  let r := s.rasOf d
  let frame := s.frameOf d
  let s := if r.slot = 0 then s.runGuards d r.line frame else s
  let (s, flipped) := s.runEntries d r.line frame (s.patEntries d r.line frame r.slot)
  if flipped then (s.runEntries d r.line frame (s.patEntries d r.line frame r.slot)).1 else s

/-- Whether the sequencer of domain `d` executes entries (R259, R261, R263): PAT_BANK.RUNNING. -/
def sequencing (s : State) (d : Nat) : Bool :=
  s.running d && !s.flag F.PAT_BANK_FMT_IDLE d && s.sys.mode != .quench && s.sys.mode != .cold

/-- The next slot of domain `d` begins (R66, R67, R235): every slot in order; the last slot of a frame is followed by the
frame boundary. -/
def slotStart (s : State) (d : Nat) : State :=
  match s.domFmt d with
  | none => s
  | some f =>
    let r := s.rasOf d
    if ¬(d < 4 ∧ s.running d) ∨ (r.slot = 255 ∧ f.lines ≤ r.line) then s
    else
      let s := if r.slot = 255 then ((s.setRas d ⟨r.frameN, r.line + 1, 0, s.tick⟩).lateDrops).tribOpen d
        else s.setRas d { r with slot := r.slot + 1 }
      if s.sequencing d then s.runSlot d else s

/-! ## Deadlines (R206 to R208, R248, R249) -/

/-- Deliver a read as its deadline resolves it (R206). -/
def deliverRead (s : State) (r : PoolRead) : State :=
  match r.reader with
  | .shakeout f => s.deliverTile r f false false
  | .layer n => s.deliverTile r n true false
  | .anc f => s.deliverTile r f false true
  | .audio b => s.lineDeliver r b

/-- Whether a read's flow has had no frame adopted (R182). -/
def neverAdopted (s : State) (flow : Nat) : Bool :=
  (flow < 0x800 || inRanges [(0x3000, 0x33FF)] flow) && ((s.inFlow flow).all (fun x => x.base.isNone))

/-- The deadline of one execution's reads (R206 to R208, R248, R249): each is delivered, the slips of the execution make one
event, concealed deliveries that are no slip are reported, and what is still in flight is late. -/
def readDeadline (s : State) (exec : Nat) : State :=
  let mine := s.pool.reads.filter (fun r => r.exec == exec && !r.late)
  let s := mine.foldl deliverRead s
  let slips := mine.filter (fun r => readOutcome r != 0 && !r.lost)
  let s := match mine.head?, slips.head? with
    | some r, some x =>
      s.slip r.dom true slips.length r.flow (readDest r.reader) ((x.tile.map tileChannel).getD 0) r.line r.slot (s.readUnit r.reader)
    | _, _ => s
  let s := mine.foldl (fun (s : State) r =>
    if r.lost && readOutcome r != 0 && !s.neverAdopted r.flow then
      s.raise fltPoolConceal [r.flow, readDest r.reader, r.k]
    else s) s
  let l := s.pool.reads.filterMap (fun r =>
    if r.exec == exec && !r.late then (if r.inFlight = 0 then none
      else some { r with late := true, noRetry := r.noRetry || r.retryWait, retryWait := false, concWait := false }) else some r)
  ({ s with pool := { s.pool with reads := l } }).serve

/-- A flow's packet reaches its send time (R310): a video output's, or an ANC output's. -/
def packetTime (s : State) (flow : Nat) : State :=
  if !s.rst.pUp ∨ s.sys.mode = .cold ∨ s.sys.mode = .quench then s
  else if (s.vout flow).isSome then s.videoPacket flow else s.ancPacket flow

end State

/-! ## Rows -/

/-- SLOT_START (R235). -/
def execSlotStart (d : Nat) (s : State) : Host.Outcome State Fault Refusal := runEff (fun s => s.slotStart d) s

/-- BANK_COPY_DONE (R241, R242). -/
def execBankCopyDone (d : Nat) (s : State) : Host.Outcome State Fault Refusal :=
  runEff (fun s => if d < 4 then s.bankCopyDone d else s) s

/-- READ_DEADLINE (R206, R237). -/
def execReadDeadline (exec : Nat) (s : State) : Host.Outcome State Fault Refusal := runEff (fun s => s.readDeadline exec) s

/-- POOL_READ_RETURN (R205); `ecc` is the number of bursts corrected (R206) and whether one could not be. -/
def execPoolReadReturn (ident which : Nat) (ecc : Nat × Bool) (s : State) : Host.Outcome State Fault Refusal :=
  runEff (fun s => ((s.readCorrected ident which ecc.1).readReturn ident which ecc.2).serve) s

/-- RETRY_BUDGET_EXPIRY (R205). -/
def execRetryBudgetExpiry (ident : Nat) (s : State) : Host.Outcome State Fault Refusal :=
  runEff (fun s => (s.retryBudget ident).serve) s

/-- PACKET_SEND_TIME (R310). -/
def execPacketSendTime (flow : Nat) (s : State) : Host.Outcome State Fault Refusal := runEff (fun s => s.packetTime flow) s

end Sys2Proof.Machine
end

