-- ==== Sys2Proof/Machine/NetRx.lean ====
section
/-! DEFINITION. Frames received and sent by the MACs (R136 to R142, R150), PTP messages (R55 to R58) and link
markers as they arrive. -/

namespace Sys2Proof.Machine

namespace State

/-! ## PTP messages received -/

/-- The dataset an Announce carries (IEEE 1588 message layout). -/
def announceData (b : Bytes) : PtpDataset :=
  ⟨beField b (8 * 47) 8, beField b (8 * 48) 8, beField b (8 * 49) 8, beField b (8 * 50) 16, beField b (8 * 52) 8,
    beField b (8 * 53) 24 * 1099511627776 + beField b (8 * 56) 24 * 65536 + beField b (8 * 59) 16, beField b (8 * 61) 16⟩

/-- A receive stamp as the ingress latency of the MAC's PTP port corrects it (R57, R135). -/
def rxStamp (s : State) (m stamp : Nat) : Nat :=
  let lat : Int := ((s.tim.ports.find? (fun p => p.mac == m && p.en)).map PtpPort.ingress).getD 0
  ((stamp : Int) - lat).toNat

/-- A Delay_Req at a master port (R56): the first 2,048 of a second are answered, the rest counted as dropped. A second is a whole
second of the stamps (DESIGN CHOICE, log entry 105: the rule does not say fixed or sliding). A hybrid port answers a unicast
request to its sender (R55). -/
def delayReqRx (s : State) (p : PtpPort) (f : NetFrame) : State :=
  let sec := f.stamp / 1000000000
  let n := (if p.drqSecond = sec then p.drqCount else 0) + 1
  let s := s.modPort p.port (fun p => { p with drqSecond := sec, drqCount := n })
  if 2048 < n then (s.modPort p.port (fun p => { p with drqDropped := p.drqDropped + 1 })).measAdd 6 p.port 3 1
  else if s.ptpSends then
    let dst := if p.hybrid && !macGroup f.dst then ethDst f.srcIp else 0x01005E000181
    s.ptpOffer p 0x44 none (s.ptpHeader p 9 54 (beField f.payload (8 * 30) 16) false p.logDelayReq ++
      ptpStampBytes (ptpAt s.tim f.stamp / 65536) ++ slice f.payload 20 10) dst
  else s

/-- A PTP message for the port bound to a MAC (R55, R136 rule 4). -/
def ptpRx (s : State) (p : PtpPort) (f : NetFrame) : State :=
  let ty := byteAt f.payload 0 % 16
  if byteAt f.payload 4 ≠ s.tim.domainNum then s
  else if ty = 11 then
    let d := announceData f.payload
    if beField f.payload (8 * 20) 24 * 1099511627776 + beField f.payload (8 * 23) 24 * 65536 + beField f.payload (8 * 26) 16 =
        s.tim.own.identity then s
    else s.ptpHear p.port d f.srcIp
  else if ty = 0 then (if p.st = .slave then s.measAdd 6 p.port 0 1 else s)
  else if ty = 9 then (if p.st = .slave then s.measAdd 6 p.port 2 1 else s)
  else if ty = 1 ∧ p.st = .master then s.delayReqRx p f
  else s

/-! ## Received frames (R136) -/

/-- The filter entry a frame matches (R137): a source-specific entry before an any-source one. -/
def filterMatch (s : State) (m : Nat) (f : NetFrame) : Option RxFilter :=
  let l := s.mac.filters.filter (fun x => x.mac == m && (x.vlan.isNone || x.vlan == f.vlan) && x.group == f.dstIp &&
    x.port == f.dstPort)
  match l.find? (fun x => x.srcIp == some f.srcIp) with
  | some x => some x
  | none => l.find? (fun x => x.srcIp.isNone)

/-- An IGMP query asks for reports of the groups it names (R138); one shorter than 12 octets is of version 2 (R133). -/
def igmpQuery (s : State) (m : Nat) (f : NetFrame) : State :=
  if byteAt f.payload 0 ≠ 0x11 ∨ !s.fwServes then s
  else
    let s : State := if f.payload.length < 12 then
      { s with mac := { s.mac with igmpV2 := upsert (fun (p : Nat × Nat) => p.1 == m) (m, s.tick) s.mac.igmpV2 } } else s
    let g := beField f.payload 32 16 * 65536 + beField f.payload 48 16
    let due := ((s.mac.filters.filter (fun x => x.mac == m && (g == 0 || x.group == g))).map (fun x => (m, x.group))).dedup
    { s with mac := { s.mac with igmpDue := s.mac.igmpDue ++ due.filter (fun x => !s.mac.igmpDue.contains x) } }

/-- A frame for firmware (R136 rule 5); the last 64 are held. -/
def toFirmware (s : State) (m : Nat) (f : NetFrame) : State :=
  let s := if f.ipProto = 2 ∧ f.etherType = 0x0800 then s.igmpQuery m f else s
  { s with mac := { s.mac with firmwareRx := lastN 64 (s.mac.firmwareRx ++ [(m, f.payload)]) } }

/-- The own Ethernet address of a MAC. -/
def macAddr (s : State) (m : Nat) : Nat := s.fld F.MAC_ADDR_LO_ADDR_LO m + 4294967296 * s.fld F.MAC_ADDR_HI_ADDR_HI m

/-- A good frame goes where the first rule of R136 that applies sends it. -/
def classify (s : State) (m : Nat) (f : NetFrame) : State :=
  let live := s.sys.mode != .quench
  if f.etherType = 0x8808 then s.macCount m 20 1
  else
    let udp := f.etherType == 0x0800 && f.ipProto == 17
    match (if udp then s.filterMatch m f else none) with
    | some x =>
      if !live then s
      else if 0x1000 ≤ x.flow ∧ x.flow < 0x2000 then s.audioRtp x.flow x.path f.payload
      else s.ladleRtp x.flow x.path f.stamp f.payload
    | none =>
      if udp && (f.dstPort == 319 || f.dstPort == 320) then
        match s.tim.ports.find? (fun p => p.en && p.mac == m) with
        | some p => if live && s.tim.ptpEn then s.ptpRx p f else s
        | none => s
      else if f.etherType == 0x0806 || (f.etherType == 0x0800 && f.ipProto == 2) || f.dst == s.macAddr m then
        if live then s.toFirmware m f else s
      else s.macCount m 19 1

/-- A whole frame (R134, R136, R155): one with more wrong symbols than the FEC corrects is a PCS error. -/
def wholeRx (s : State) (m : Nat) (f : NetFrame) : State :=
  if decide (((s.macFec m).map (·.2)).getD 0 < f.symErrs) then s.macCount m 18 1
  else if f.jabber then s.macCount m 17 1
  else if s.fld F.MAC_CFG_MAX_FRAME m < f.len then s.macCount m 16 1
  else if f.len < 64 then s.macCount m 15 1
  else if !f.fcsOk then s.macCount m 14 1
  else
    let s := (s.macCount m 0 f.len).macCount m 1 1
    let s := s.macCount m (if f.dst = 2 ^ 48 - 1 then 4 else if macGroup f.dst then 3 else 2) 1
    (s.macCount m (5 + sizeBin f.len) 1).classify m f

/-- Fragments of the frame being assembled on a MAC (R142). -/
def setAssy (s : State) (m : Nat) (n : Option Nat) : State :=
  let l := s.mac.assy.filter (fun x => x.1 != m)
  { s with mac := { s.mac with assy := match n with
    | some k => (m, k) :: l
    | none => l } }

/-- A frame or fragment arrives at a MAC (R136, R140, R142). -/
def macRx (s : State) (m : Nat) (f : NetFrame) : State :=
  if ¬(m < 32 ∧ s.rst.pUp ∧ s.sys.mode ≠ .cold ∧ s.flag F.MAC_CFG_EN m ∧ s.flag F.MAC_LINK_STAT_LINK_UP m) then s
  else
    let f : NetFrame := { f with stamp := s.rxStamp m f.stamp }
    let assy := s.mac.assy.find? (fun x => x.1 == m)
    match f.smd, assy with
    | .whole, _ => s.wholeRx m f
    | .verify, _ => if s.sys.mode = .quench then s else s.verifyRx m false
    | .respond, _ => if s.sys.mode = .quench then s else s.verifyRx m true
    | .bad, _ => (s.macCount m 21 1).setAssy m none
    | .outOfSeq, _ => (s.macCount m 22 1).setAssy m none
    | .first, a => ((if a.isSome then s.macCount m 22 1 else s).macCount m 23 1).setAssy m (some 1)
    | .cont, some a => (s.macCount m 23 1).setAssy m (some (a.2 + 1))
    | .last, some _ => (((s.macCount m 23 1).macCount m 24 1).setAssy m none).wholeRx m f
    | .cont, none => s.macCount m 22 1
    | .last, none => s.macCount m 22 1

/-! ## Frames sent -/

/-- Whether a queued frame may still leave in this mode (R151, R518). -/
def maySend (s : State) (f : TxFrame) : Bool := s.looping 2 f.mac || s.macSends f.mac (f.kind == 1)

/-- A MAC's line is free for its next frame (R139, R145, R146, R150, R151, R60). -/
def macTx (s : State) (m : Nat) : State :=
  if ¬(m < 32 ∧ s.rst.pUp ∧ s.flag F.MAC_CFG_EN m ∧ s.flag F.MAC_LINK_STAT_LINK_UP m) then s
  else
    let s := s.lateDrop m
    match s.nextFrame m with
    | none => s
    | some f =>
      if !s.maySend f then
        let s := s.unqueue f
        if f.kind = 1 then s.macCount m 48 1 else s
      else if f.done = 0 then (s.startFrame f).txStamp f
      else s.startFrame f

/-! ## Markers -/

/-- An alignment marker (R107 to R110); on the Akestim link it also carries the partner's state (R497, R506). -/
def laneMarker (s : State) (lane : Nat) (m : Marker) : State :=
  if !s.rst.pUp || s.sys.mode == .cold then s
  else
    let link := s.fld F.HLN_LANE_CFG_OWNER lane
    let s := s.markerRx lane m
    if decide (lane < 144) && s.flag F.HLN_LANE_CFG_EN lane && m.crcOk && s.aksUp && s.fld F.TWN_CFG_LINK == link &&
        m.linkId == s.fld F.SPR_LINK_CFG_LINK_ID link then
      s.twinMarker m.stby m.quench m.timeNs m.rtt
    else s

end State

/-! ## Rows -/

/-- MAC_FRAME_RECEIVE (R136). -/
def execMacFrameReceive (mac : Nat) (frame : NetFrame) (s : State) : Host.Outcome State Fault Refusal :=
  runEff (fun s => s.macRx mac frame) s

/-- MAC_FRAME_TRANSMIT (R139, R150). -/
def execMacFrameTransmit (mac : Nat) (s : State) : Host.Outcome State Fault Refusal := runEff (fun s => s.macTx mac) s

/-- LINK_MARKER_RECEIVE (R108). -/
def execLinkMarkerReceive (lane : Nat) (m : Marker) (s : State) : Host.Outcome State Fault Refusal :=
  runEff (fun s => s.laneMarker lane m) s

end Sys2Proof.Machine
end

