-- ==== Sys2Proof/Machine/Replies.lean ====
section
/-! DEFINITION. Replies on their way out (R35, R451, R458, R459, R465, R467): delivery to each kind of source, the release of
applied commands' replies, and the completions and acknowledgements they wait for. -/

namespace Sys2Proof.Machine

/-- One 16-byte completion entry (R458). -/
def completionEntry (r : Reply) (len : Nat) (phase late trunc : Bool) : Bytes :=
  leBytes 2 r.slot ++ leBytes 2 r.status ++ leBytes 4 len ++ leBytes 4 r.seq ++
    [BitVec.ofNat 8 (b2n phase + 2 * b2n late + 4 * b2n trunc), 0, 0, 0]

/-- A byte string cut into a first part of at most `n` bytes and further parts of at most `m`; the first argument bounds the
number of parts. -/
def cutParts : Nat → Nat → Nat → Bytes → List Bytes
  | 0, _, _, b => [b]
  | k + 1, n, m, b => if b.length ≤ n then [b] else b.take n :: cutParts k m m (b.drop n)

/-- The tag of a network reply (R451), empty elsewhere. -/
def Reply.tagBytes (r : Reply) : Bytes := if isNet r.src then (hmacSha256 r.key r.bytes).take 16 else []

namespace State

/-! ## Completion rings (R457, R458) -/

/-- Whether a host source has a ring in use. -/
def ringOn (s : State) (k : Nat) : Bool := decide (k < 8) && s.rst.hUp && s.flag F.CMD_RING_CFG_EN k

/-- Descriptors of a submission ring. -/
def ringSize (s : State) (k : Nat) : Nat := 16 * 2 ^ min 4 (s.fld F.CMD_RING_CFG_SUB_SIZE k)

/-- Completion entries the host has not consumed. -/
def cplWaiting (s : State) (k : Nat) : Nat :=
  (s.fld F.CMD_RING_CFG_CPL_PROD k + 65536 - s.fld F.CMD_RING_CFG_CPL_CONS k) % 65536

/-- Whether the slot of the next completion entry is not consumed yet. -/
def cplFull (s : State) (k : Nat) : Bool := decide (s.fld F.CMD_RING_CFG_CPL_SIZE k ≤ s.cplWaiting k)

/-- Write the completion entry of a reply and raise the source's vector; `n` is the reply's length. -/
def complete (s : State) (k : Nat) (r : Reply) (n : Nat) (late : Bool) : State :=
  let size := s.fld F.CMD_RING_CFG_CPL_SIZE k
  let done := s.cmd.cpl.getD k 0
  let entry := completionEntry r (min n r.rplCap) (done / size % 2 == 0) late (decide (r.rplCap < n))
  let s := s.setFld F.CMD_RING_CFG_CPL_PROD ((s.fld F.CMD_RING_CFG_CPL_PROD k + 1) % 65536) k
  let s : State := { s with cmd := { s.cmd with cpl := s.cmd.cpl.set k (done + 1) } }
  (s.emit (.completion k (done % size) entry)).emit (.msix (s.fld F.CMD_RING_CFG_MSIX k))

/-- Hand a reply to its source. A host source whose domain H is in reset gets none (R473); a ring gets a completion entry, a
network source a datagram cut at 1,500 or 9,000 bytes, the partner a frame of the Akestim link. -/
def sendReply (s : State) (r : Reply) (late : Bool) : State :=
  let n := r.bytes.length
  if r.src < 8 ∧ !s.rst.hUp then s
  else if r.src = 14 then s.aksSend aksReply s.sys.epoch r.bytes
  else if r.src = 12 ∨ r.src = 13 then s
  else
    let s := s.emit (.reply { r with key := [] } r.tagBytes late (decide (r.src < 8) && decide (r.rplCap < n)))
    if s.ringOn r.src then s.complete r.src r n late
    else if isNet r.src then
      let m := if s.flag F.CMD_NET_EP_JUMBO (r.src - 8) then 8976 else 1480
      s.emit (.datagram (s.fld F.CMD_NET_EP_MGMT_PORT (r.src - 8)) r.peer.1 r.peer.2
        (cutParts 64 (m - 8) m (r.bytes ++ r.tagBytes)))
    else s

/-- The reply a source keeps for its SEQ (R464, R465). -/
def storeReply (s : State) (r : Reply) : State :=
  let l := s.cmd.stored.map (fun (x : StoredReply) =>
    if x.src == r.src && x.seq == r.seq && x.reply.isNone then { x with reply := some r } else x)
  { s with cmd := { s.cmd with stored := l } }

/-- Whether a reply may leave now: its completion and its acknowledgement are there, and its completion ring has room. -/
def releasable (s : State) (u : Unreleased) : Bool :=
  u.ack.isNone && !u.wait && !(s.ringOn u.reply.src && s.cplFull u.reply.src)

/-- The mark of a reply that answers a packet which consumed no SEQ: no source keeps it. -/
def replyOnly : Nat := 0x10000

/-- Release one reply. -/
def releaseOne (s : State) (u : Unreleased) : State :=
  let s := if u.late || u.op == replyOnly then s else s.storeReply u.reply
  s.sendReply u.reply u.late

/-- Release every reply that may leave, in order; the others stay. While firmware does not serve none leaves (R258). -/
def release (s : State) : State :=
  if !s.fwServes then s
  else
    let l := s.cmd.unreleased
    let s : State := { s with cmd := { s.cmd with unreleased := [] } }
    l.foldl (fun (t : State) (u : Unreleased) =>
      if t.releasable u then t.releaseOne u
      else { t with cmd := { t.cmd with unreleased := t.cmd.unreleased ++ [u] } }) s

/-- The journal entry of a command whose completion failed takes the reply's status (R470). -/
def journalStatus (s : State) (src seq status : Nat) : State :=
  { s with jnl := s.jnl.map (fun (e : JnlEntry) =>
      if e.source == src && e.seq == seq && e.kind == 0 then { e with kind := 1, status := status } else e) }

/-- A command completes (R467): its waiting reply takes the status and payload, and leaves when nothing else holds it. -/
def finishReply (s : State) (src seq status : Nat) (payload : Bytes) (epoch : Option Nat) : State :=
  let fin (u : Unreleased) : Unreleased :=
    let keep := status == 0 || status == 0x0601
    { u with wait := false, ack := if keep then u.ack else none,
             reply := { u.reply with status := status, payload := payload,
                                     epoch := if keep then u.reply.epoch else epoch,
                                     time := if keep then u.reply.time else none } }
  let isIt (u : Unreleased) : Bool := u.wait && u.reply.src == src && u.reply.seq == seq
  let found := s.cmd.unreleased.any isIt
  let s : State := { s with cmd := { s.cmd with unreleased := s.cmd.unreleased.map (fun u => if isIt u then fin u else u) } }
  let s := if found && status != 0 && status != 0x0601 then (s.journalStatus src seq status).incFld F.CMD_SRC_CNT_REFUSED src
    else s
  s.release

/-! ## Acknowledgements of cast records (R35, R467) -/

/-- Every record up to an epoch is acknowledged: the replies that waited for it leave. -/
def ackReplies (s : State) (epoch : Nat) : State :=
  let f (u : Unreleased) : Unreleased :=
    { u with ack := match u.ack with
        | some e => if e ≤ epoch then none else some e
        | none => none }
  ({ s with cmd := { s.cmd with unreleased := s.cmd.unreleased.map f } }).release

/-- The record of a cycle stays unacknowledged: its replies leave as 0x0601 NO_MIRROR_ACK, each with a journal entry of
KIND 0x6. -/
def noAckReplies (s : State) (epoch : Nat) : State :=
  let hit (u : Unreleased) : Bool := u.ack == some epoch
  let s := (s.cmd.unreleased.filter hit).foldl (fun (t : State) (u : Unreleased) =>
    t.journal ⟨t.sys.epoch, u.reply.src, 0x6, 0, u.reply.seq, u.op, 0x0601, u.reply.tag, 0xFF, 0⟩) s
  let f (u : Unreleased) : Unreleased :=
    if hit u then { u with ack := none, reply := { u.reply with status := 0x0601 } } else u
  ({ s with cmd := { s.cmd with unreleased := s.cmd.unreleased.map f } }).release

/-- No acknowledgement can come any more: an active without a partner waits for none (R496). -/
def soloReplies (s : State) : State :=
  ({ s with cmd := { s.cmd with unreleased := s.cmd.unreleased.map (fun (u : Unreleased) => { u with ack := none }) } }).release

/-! ## Outstanding commands (R454) -/

/-- Descriptors of a submission ring that the device has not read (R457). -/
def unread (s : State) (src : Nat) : Nat :=
  if 8 ≤ src then 0 else (s.fld F.CMD_RING_CFG_PROD src + 65536 - s.fld F.CMD_RING_CFG_CONS src) % 65536

/-- Commands outstanding on a source (R454): submitted and not read yet, waiting for their boundary or for the release of their
first reply, or held ahead of NEXT_SEQ. -/
def outstanding (s : State) (src : Nat) : Nat :=
  s.unread src +
  (s.cmd.admitted.filter (fun a => a.cmd.src.val == src)).length +
    (s.cmd.unreleased.filter (fun u => u.reply.src == src && !u.late)).length +
    (s.cmd.held.filter (fun h => h.cmd.src.val == src)).length

end State

/-! ## Completions of the image loader and of snapshots -/

/-- IMAGE_CHECK_DONE (R486): the oldest complete assembly of a slot is checked, measured and installed, or
discarded, and the errors of control SRAM corrected and written back as it was read are counted (R579). `image` is the slot and their number. -/
def execImageCheckDone (image : Nat × Nat) (s : State) : Host.Outcome State Fault Refusal :=
  runEff (fun s =>
    match s.imageCheck image.1 with
    | none => s
    | some (s, src, seq, status, payload) =>
      (if image.2 = 0 then s else s.addFld F.BUS_CNT_SRAM_CORR image.2).finishReply src seq status payload (some s.sys.epoch)) s

/-- SNAPSHOT_COPY_DONE (R413). -/
def execSnapshotCopyDone (s : State) : Host.Outcome State Fault Refusal :=
  runEff (fun s =>
    match s.snapDone with
    | none => s
    | some (s, q) => s.finishReply q.src q.seq 0 [BitVec.ofNat 8 q.ident, 0, 0, 0] none) s

/-- CPL_CONS_WRITE (R458): the host reports entries consumed; replies that waited for room leave. -/
def execCplConsWrite (src value : Nat) (s : State) : Host.Outcome State Fault Refusal :=
  runEff (fun s =>
    if !s.ringOn src then s else (s.setFld F.CMD_RING_CFG_CPL_CONS (value % 65536) src).release) s

end Sys2Proof.Machine
end

