-- ==== Sys2Proof/Machine/Keys.lean ====
section
/-! DEFINITION. The key store, debug unlock, attestation and tamper (chapter 20): the commands of family 0x0Dxx, 0x0020 and
0x0021. -/

namespace Sys2Proof.Machine

/-! ## Copies (R554, R555) -/

/-- A blank copy: 80 zero bytes, held as the empty string. -/
def copyBlank (b : Bytes) : Bool := b.all (· == 0)

/-- KEY, BITS and GEN of a copy. -/
def copyKey (b : Bytes) : Bytes := slice b 0 64
def copyBits (b : Bytes) : Nat := u16 b 64
def copyGen (b : Bytes) : Nat := u32 b 68

/-- TAG over the slot index and bytes 0 to 71 of a copy (R555). -/
def copyTag (slot : Nat) (b : Bytes) : Bytes :=
  (hmacSha256 Config.tagKey (BitVec.ofNat 8 slot :: padTo 72 (slice b 0 72))).take 8

/-- A copy is valid when its GEN is not 0 and its TAG matches. -/
def copyValid (slot : Nat) (b : Bytes) : Bool := copyGen b != 0 && slice b 72 8 == copyTag slot b

/-- A whole copy. -/
def mkCopy (slot bits gen : Nat) (key : Bytes) : Bytes :=
  let b := padTo 64 key ++ leBytes 2 bits ++ [0, 0] ++ leBytes 4 gen
  b ++ copyTag slot b

/-- GEN `x` is later than GEN `y`. -/
def genLater (x y : Nat) : Bool :=
  let d := (x + 4294967296 - y) % 4294967296
  decide (1 ≤ d) && decide (d ≤ 2147483647)

/-- The generation after another, skipping 0. -/
def genNext (g : Nat) : Nat := if (g + 1) % 4294967296 = 0 then 1 else (g + 1) % 4294967296

/-- Which copy of a slot is active: false for A, true for B (R555). -/
def KeySlot.active (x : KeySlot) (slot : Nat) : Option Bool :=
  match copyValid slot x.a, copyValid slot x.b with
  | true, true => some (genLater (copyGen x.b) (copyGen x.a))
  | true, false => some false
  | false, true => some true
  | false, false => none

/-- The active copy's bytes. -/
def KeySlot.current (x : KeySlot) (slot : Nat) : Option Bytes :=
  (x.active slot).map (fun b => if b then x.b else x.a)

/-- A slot's state: 0 EMPTY, 1 VALID, 2 BAD (R556). -/
def KeySlot.status (x : KeySlot) (slot : Nat) : Nat :=
  match x.current slot with
  | some c => if copyBits c = 0 then 0 else 1
  | none => if copyBlank x.a && copyBlank x.b then 0 else 2

/-- COPY_A and COPY_B: 0 blank, 1 valid, 2 invalid (R569). -/
def copyState (slot : Nat) (b : Bytes) : Nat := if copyBlank b then 0 else if copyValid slot b then 1 else 2

/-- The copy a write goes to: the one that is not active, or A (R557). -/
def KeySlot.target (x : KeySlot) (slot : Nat) : Bool := x.active slot == some false

/-- The generation a write commits (R557). -/
def KeySlot.newGen (x : KeySlot) (slot : Nat) : Nat :=
  match x.current slot with
  | some c => genNext (copyGen c)
  | none => 1

/-- Replace a copy. -/
def KeySlot.put (x : KeySlot) (isB : Bool) (b : Bytes) : KeySlot := if isB then { x with b := b } else { x with a := b }

/-- A copy's GEN written as 0: step 1 of a write. A blank copy stays blank. -/
def genZero (b : Bytes) : Bytes := if copyBlank b then b else slice b 0 68 ++ [0, 0, 0, 0] ++ slice b 72 8

/-- One 64-byte measurement entry (R566). -/
def measEntry (kind index epoch : Nat) (digest : Bytes) : Bytes :=
  leBytes 1 kind ++ leBytes 1 index ++ [0, 0] ++ leBytes 8 epoch ++ [0, 0, 0, 0] ++ padTo 48 digest

namespace State

/-- A key slot. -/
def keySlot (s : State) (k : Nat) : KeySlot := s.key.slots.getD k ⟨[], [], 0⟩

/-- Replace a key slot. -/
def setKeySlot (s : State) (k : Nat) (x : KeySlot) : State :=
  { s with key := { s.key with slots := s.key.slots.set k x } }

/-- A VALID slot's record: BITS and key (R561). -/
def slotKey (s : State) (k : Nat) : Option (Nat × Bytes) :=
  match (s.keySlot k).current k with
  | some c => if copyBits c = 0 then none else some (copyBits c, slice (copyKey c) 0 (ceilDiv (copyBits c) 8))
  | none => none

/-- An enabled tamper source is active (R572). -/
def tamperNow (s : State) : Bool := (s.fld F.KEY_TAMPER_ACTIVE &&& s.fld F.KEY_TAMPER_CFG_EN) != 0

/-! ## Key operations (R557 to R560) -/

/-- Step 1 of the first waiting key operation: the target copy's GEN becomes 0. -/
def keyStep1 (s : State) : State :=
  match s.key.ops with
  | [] => s
  | o :: _ =>
    let x := s.keySlot o.slot
    let t := x.target o.slot
    s.setKeySlot o.slot (x.put t (genZero (if t then x.b else x.a)))

/-- A key command joins the others in journal order; the first starts at once. -/
def keyQueue (s : State) (o : KeyOp) : State :=
  let first := s.key.ops.isEmpty
  let s : State := { s with key := { s.key with ops := s.key.ops ++ [o] } }
  if first then s.keyStep1 else s

/-- The first waiting key operation commits: the target copy holds the new record; an erase then blanks the other copy. -/
def keyCommit (s : State) : State :=
  match s.key.ops with
  | [] => s
  | o :: rest =>
    let x := s.keySlot o.slot
    let t := x.target o.slot
    let g := x.newGen o.slot
    let y : KeySlot := { x with commit := s.sys.epoch }
    let (y, payload) : KeySlot × Bytes := match o.write with
      | some (bits, key) => (y.put t (mkCopy o.slot bits g key), leBytes 4 g)
      | none => ((y.put t (mkCopy o.slot 0 g [])).put (!t) [], [])
    let s : State := { s with key := { s.key with ops := rest } }
    ((s.setKeySlot o.slot y).keyStep1).finishReply o.src o.seq 0 payload none

/-! ## Readback (R569) and status registers -/

/-- The 32-byte entry of a slot. -/
def slotEntry (s : State) (k : Nat) : Bytes :=
  let x := s.keySlot k
  let c := (x.current k).getD []
  let act := match x.active k with
    | some true => 1
    | some false => 0
    | none => 0xFF
  leBytes 1 k ++ leBytes 1 (x.status k) ++ leBytes 2 (copyBits c) ++ leBytes 4 (copyGen c) ++
    leBytes 1 (copyState k x.a) ++ leBytes 1 (copyState k x.b) ++ leBytes 1 act ++ [0] ++ leBytes 8 x.commit ++
    List.replicate 12 0

/-- Every slot's entry in slot order. -/
def slotEntries (s : State) : Bytes := (List.range 64).flatMap s.slotEntry

/-- Slots in a state. -/
def slotsIn (s : State) (st : Nat) : Nat := ((List.range 64).filter (fun k => (s.keySlot k).status k == st)).length

/-- KEY_STAT as it reads. -/
def keyStat (s : State) : Word :=
  BitVec.ofNat 32 ((if s.slotsIn 1 = 0 then 2147483648 else 0) + (if s.key.attest.isSome then 1073741824 else 0) +
    (if s.sys.unlock then 536870912 else 0) + s.slotsIn 1 * 65536 + s.slotsIn 2)

/-- Word `w` of KEY_SLOT_STAT[k] as it reads. -/
def keySlotStat (s : State) (k w : Nat) : Word :=
  let x := s.keySlot k
  let c := (x.current k).getD []
  BitVec.ofNat 32 (match w with
    | 0 => x.status k * 1073741824 + copyState k x.a * 268435456 + copyState k x.b * 67108864 +
        (if x.active k = some true then 33554432 else 0) + copyBits c
    | 1 => copyGen c
    | 2 => x.commit % 4294967296
    | _ => x.commit / 4294967296)

/-! ## Attestation (R564 to R566) -/

/-- The measurement entries, by kind and index. -/
def measEntries (s : State) : List Bytes :=
  let img := if s.fld F.RST_STAT_BOOT = 1 then 1 else 0
  let dig (f : Nat → Byte) : Bytes := (List.range 48).map f
  let user (k : Nat) : Option NwtImage := s.nwt.images.find? (fun x => x.slot == k)
  [measEntry 1 0 s.key.bootEpoch (dig Config.romDigest), measEntry 2 img s.key.bootEpoch (dig (Config.fwDigest img)),
    measEntry 3 (s.fld F.OTP_STAT_COPY_USED) s.key.optEpoch (sha384 (padTo 512 s.otp.applied)),
    measEntry 4 0 s.sys.epoch (sha384 s.slotEntries)] ++
    (List.range 5).map (fun k => measEntry 5 k s.key.bootEpoch (dig (Config.libDigest k))) ++
    ((List.range 56).filterMap (fun j => (user (j + 8)).map (fun x => measEntry 5 x.slot x.epoch x.measure)))

/-- The statement before its signature (R565). -/
def statement (s : State) (nonce : Bytes) : Bytes :=
  let es := s.measEntries
  let tv := s.flag F.TIM_STATUS_TIME_VALID
  let flags := b2n (s.flag F.KEY_TAMPER_LATCH) + 2 * b2n (s.slotsIn 1 == 0) + 4 * b2n s.key.unlockedEver +
    8 * b2n (s.flag F.OTP_STAT_FALLBACK) + 16 * b2n (s.fld F.RST_STAT_BOOT == 1) +
    32 * b2n (s.fld F.KEY_TAMPER_CFG_EN != 15) + 64 * b2n tv
  leBytes 2 0x4154 ++ [1, 0] ++ leBytes 4 (296 + 64 * es.length) ++ slice nonce 0 48 ++
    leBytes 4 (s.reg F.SYS_DEVID_PART.off).toNat ++ (List.range 16).map Config.deviceId ++
    (List.range 96).map Config.devicePub ++ leBytes 8 s.sys.epoch ++ leBytes 8 (if tv then s.ptpNs else 2 ^ 64 - 1) ++
    leBytes 4 flags ++ leBytes 2 (s.fld F.KEY_TAMPER_CNT) ++ leBytes 2 s.key.unlockCnt ++ leBytes 2 es.length ++ [0, 0] ++
    es.flatten

/-- The signature is complete: 96 bytes that no proof can see. -/
def attestDone (s : State) : State :=
  match s.key.attest with
  | none => s
  | some (st, src, seq) =>
    let (sig, s) := s.freshBytes 96
    ({ s with key := { s.key with attest := none } }).finishReply src seq 0 (st ++ sig) none

/-! ## Tamper (R567 to R572) -/

/-- Blank every copy of every slot. -/
def blankAll (s : State) : State :=
  { s with key := { s.key with slots := s.key.slots.map (fun (x : KeySlot) => { x with a := [], b := [] }) } }

/-- An applied key operation whose reply is not released (R571). -/
def keyOpRuns (u : Unreleased) : Bool :=
  [opKeyWrite, opKeyErase, opAttest, opDebugUnlock].contains u.op && !u.late && u.reply.status == 0

/-- Abort every key operation in progress (R571), those that are complete but not replied included. -/
def abortKeys (s : State) : State :=
  let ops := (s.cmd.unreleased.filter keyOpRuns).map (fun u => (u.reply.src, u.reply.seq))
  let s : State := { s with key := { s.key with ops := [], attest := none },
                            cmd := { s.cmd with unreleased := s.cmd.unreleased.map (fun (u : Unreleased) =>
                              if keyOpRuns u then { u with wait := true } else u) } }
  ops.foldl (fun (t : State) (p : Nat × Nat) => t.finishReply p.1 p.2 0x0410 (rejAll 0x0410).bytes (some t.sys.epoch)) s

/-- Main power is absent while POWER_ON is asserted. -/
def mainPower (s : State) : Bool := !s.rst.asserted.contains .powerOn

/-- A tamper source becomes active (R568): once, until it has been inactive again. -/
def tamperOn (s : State) (src : Nat) : State :=
  let act := s.fld F.KEY_TAMPER_ACTIVE
  if 3 < src ∨ act.testBit src then s
  else
    let s := s.setFld F.KEY_TAMPER_ACTIVE (act ||| 2 ^ src)
    if !(s.fld F.KEY_TAMPER_CFG_EN).testBit src then s
    else
      let s := s.blankAll.abortKeys
      let s := ((s.setFlag F.KEY_TAMPER_LATCH true).setFld F.KEY_TAMPER_SEEN (s.fld F.KEY_TAMPER_SEEN ||| 2 ^ src)).incFld
        F.KEY_TAMPER_CNT
      let e := if s.mainPower then s.sys.epoch else 2 ^ 64 - 1
      let t := if s.mainPower then s.tick else 2 ^ 64 - 1
      let s := (s.setFld F.KEY_TAMPER_LOG_SRC (2 ^ src)).setPair F.KEY_TAMPER_LOG_EPOCH_W1 F.KEY_TAMPER_LOG_EPOCH_W2 e
      let s := s.setPair F.KEY_TAMPER_LOG_TICK_W3 F.KEY_TAMPER_LOG_TICK_W4 t
      let s : State := { s with sys := { s.sys with unlock := false } }
      if s.rst.aUp then (s.raise fltTamper [src]).event blkKey 0 0x0001 [src] else s

/-- A tamper source becomes inactive. -/
def tamperOff (s : State) (src : Nat) : State :=
  let act := s.fld F.KEY_TAMPER_ACTIVE
  if 3 < src then s else s.setFld F.KEY_TAMPER_ACTIVE (act &&& (15 - 2 ^ src))

/-- A write of 1 to KEY_TAMPER.LATCH (R572). -/
def tamperClear (s : State) : State :=
  if s.sys.mode = .melt ∧ !s.tamperNow then (s.setFlag F.KEY_TAMPER_LATCH false).setFld F.KEY_TAMPER_SEEN 0 else s

/-- The key slot the option block names for DEBUG_UNLOCK (R533): 0xFF for none. -/
def debugSlot (s : State) : Nat := byteAt s.otp.applied 5

/-- A DEBUG_UNLOCK uses up its NONCE, whatever its outcome (R479). -/
def nonceUsed (s : State) : State := { s with key := { s.key with nonce := none } }

end State

/-! ## Commands -/

/-- KEY_WRITE (R557, R572, R493). -/
def applyKeyWrite (c : Cmd) (s : State) : CmdResult :=
  let b := c.params
  let slot := byteAt b 0
  let bits := u16 b 2
  let n := ceilDiv bits 8
  let key := slice b 4 n
  guarded [(decide (b.length < 4), rej 0x0108 b.length), (decide (63 < slot), rej 0x0108 0),
      (decide (bits < 1) || decide (512 < bits), rej 0x0108 2), lenIs c (4 + pad4 n),
      (bits % 8 != 0 && byteAt key (n - 1) / 2 ^ (bits % 8) != 0, rej 0x0108 (3 + n)),
      (s.tamperNow, rejAll 0x0410)] fun _ =>
    .ok (s.keyQueue ⟨slot, some (bits, key), c.src.val, c.seq.toNat⟩) []

/-- KEY_ERASE (R558). -/
def applyKeyErase (c : Cmd) (s : State) : CmdResult :=
  let slot := byteAt c.params 0
  guarded [lenIs c 4, (decide (63 < slot), rej 0x0108 0)] fun _ =>
    .ok (s.keyQueue ⟨slot, none, c.src.val, c.seq.toNat⟩) []

/-- ATTEST (R564). -/
def applyAttest (c : Cmd) (s : State) : CmdResult :=
  guarded [lenIs c 48, (s.key.attest.isSome, rejAll 0x0306)] fun _ =>
    .ok { s with key := { s.key with attest := some (s.statement c.params, c.src.val, c.seq.toNat) } } []

/-- DEBUG_CHALLENGE (R479). -/
def applyDebugChallenge (c : Cmd) (s : State) : CmdResult :=
  guarded [lenIs c 0, (s.debugSlot == 0xFF, rejAll 0x0405)] fun _ =>
    let (n, s) := s.freshBytes 48
    .ok { s with key := { s.key with nonce := some n } } n

/-- DEBUG_UNLOCK (R479, R561). -/
def applyDebugUnlock (c : Cmd) (s : State) : CmdResult :=
  let slot := s.debugSlot
  let point := (s.slotKey slot).bind (fun k => if k.1 = 392 then ecPoint (slice k.2 0 49) else none)
  guarded [lenIs c 96, (slot == 0xFF, rejAll 0x0405), (s.key.nonce.isNone, rejAll 0x0404),
      ((s.slotKey slot).isNone, rejAll 0x0411)] fun _ =>
    match point, s.key.nonce with
    | some q, some nonce =>
      if ecdsaOk q (sha384 nonce) c.params then
        .ok { s with sys := { s.sys with unlock := true },
                     key := { s.key with nonce := none, unlockCnt := satAdd 16 s.key.unlockCnt 1, unlockedEver := true } } []
      else .bad (rejAll 0x0404)
    | _, _ => .bad (rejAll 0x0404)

/-! ## Events -/

/-- KEY_COMMIT_DONE (R559). -/
def execKeyCommitDone (s : State) : Host.Outcome State Fault Refusal := runEff State.keyCommit s

/-- ATTEST_SIGNED (R564). -/
def execAttestSigned (s : State) : Host.Outcome State Fault Refusal := runEff State.attestDone s

/-- TAMPER_ONSET (R568). -/
def execTamperOnset (src : Nat) (s : State) : Host.Outcome State Fault Refusal := runEff (fun s => s.tamperOn src) s

/-- LATCH (R572): a write of 1 to KEY_TAMPER.LATCH. -/
def execLatch (s : State) : Host.Outcome State Fault Refusal := runEff State.tamperClear s

/-- TAMPER_INACTIVE (R568). -/
def execTamperInactive (src : Nat) (s : State) : Host.Outcome State Fault Refusal := runEff (fun s => s.tamperOff src) s

end Sys2Proof.Machine
end

