-- ==== Sys2Proof/Machine/Spares.lean ====
section
/-! DEFINITION. Substitutions carried out, the fault collector's clears, and the fault rows (chapter 19). -/

namespace Sys2Proof.Machine

namespace State

/-! ## Substitutions (R184, R316, R354, R415, R546, R552) -/

/-- Copy `n` register words from one offset to another, and give the source its reset values. -/
def moveRegs (s : State) (src dst : Nat) : Nat → State
  | 0 => s
  | n + 1 =>
    let t := (s.setReg (dst + 4 * n) (s.reg (src + 4 * n))).setReg (src + 4 * n) (resetWord (src + 4 * n))
    t.moveRegs src dst n

/-- The flows and streams of a Ladle move to its spare. -/
def moveLadle (s : State) (u sp : Nat) : State :=
  let fs := (s.lad.flows.filter (fun x => x.ladle == u && !x.anc)).map InFlow.flow
  let s : State := { s with lad := { s.lad with flows := s.lad.flows.map (fun (x : InFlow) => if x.ladle == u then { x with ladle := sp, spare := none } else x) },
                            aud := { s.aud with streams := s.aud.streams.map (fun (x : AStream) =>
                              if x.isIn && x.unit == u then { x with unit := sp } else x) } }
  ((fs.foldl (fun (t : State) f => t.setFld F.LAD_FLOW_CFG_LADLE sp f) s).ladUse u).ladUse sp

/-- The outputs and streams of a Shakeout move to its spare; the templates stay in the MACs. -/
def moveShakeout (s : State) (u sp : Nat) : State :=
  let fs := (s.shk.vouts.filter (fun o => s.fld F.SHK_FLOW_CFG_SHAKEOUT (o.flow - 0x800) == u)).map (fun o => o.flow - 0x800)
  let s := fs.foldl (fun (t : State) n => t.setFld F.SHK_FLOW_CFG_SHAKEOUT sp n) s
  let s : State := { s with shk := { s.shk with vouts := s.shk.vouts.map (fun (o : VOut) => if o.spare.any (fun p => p.1 == sp) then { o with spare := none } else o),
                                                ancOuts := s.shk.ancOuts.map (fun (x : AncOut) => if x.shakeout == u then { x with shakeout := sp } else x) },
                            aud := { s.aud with streams := s.aud.streams.map (fun (x : AStream) =>
                              if !x.isIn && x.unit == u then { x with unit := sp } else x) } }
  (s.shkUse u).shkUse sp

/-- A pipe's binding and layers move to its spare: each layer's PIPE field names the spare, in both banks. -/
def movePipe (s : State) (u sp : Nat) : State :=
  let ls := (List.range 512).filter (fun n => s.flag F.CHM_LAYER_CFG_EN n && s.fld F.CHM_LAYER_CFG_PIPE n == u)
  let s := s.moveRegs (F.CHM_PIPE_CFG_EN.addr u 0) (F.CHM_PIPE_CFG_EN.addr sp 0) 2
  let s := ls.foldl (fun (t : State) n => t.setFld F.CHM_LAYER_CFG_PIPE sp n) s
  let fix (p : LayerParam) : LayerParam := match p.words with
    | w :: ws => if getBits w 29 24 == u then { p with words := putBits w 29 24 sp :: ws } else p
    | [] => p
  let live (x : Nat × Nat × Nat) : Nat × Nat × Nat := if x.1 = u then (sp, x.2) else x
  ({ s with chm := { s.chm with next := s.chm.next.map fix, bound := s.chm.bound.map live } }).chmRefresh ls

/-- A core's number in an SRC stage's core × 32 + task. -/
def moveStage (u sp : Nat) (k : Option Nat) : Option Nat := k.map (fun x => if x / 32 = u then sp * 32 + x % 32 else x)

/-- A core's tasks and memories move to its spare. -/
def moveCore (s : State) (u sp : Nat) : State :=
  let x := s.core u
  let s := (s.setCore sp x).setCore u NwtCore.reset
  let s := s.moveRegs (F.NWT_TASK_STAT_VALID.addr u 0) (F.NWT_TASK_STAT_VALID.addr sp 0) 256
  let s := (s.setFld F.NWT_CORE_STAT_TASKS (s.fld F.NWT_CORE_STAT_TASKS u) sp).setFld F.NWT_CORE_STAT_TASKS 0 u
  let s := (s.setFld F.NWT_CORE_STAT_CYC_ADM (s.fld F.NWT_CORE_STAT_CYC_ADM u) sp).setFld F.NWT_CORE_STAT_CYC_ADM 0 u
  let s := ((s.setFlag F.NWT_CORE_STAT_IN_SERVICE true sp).setFlag F.NWT_CORE_STAT_IN_SERVICE false u).setFlag
    F.NWT_CORE_STAT_FAULTY true u
  { s with aud := { s.aud with maps := s.aud.maps.map (fun (m : EmbMap) => { m with srcCore := moveStage u sp m.srcCore }) },
           apt := { s.apt with ports := s.apt.ports.map (fun (p : AptPort) => { p with srcTask := moveStage u sp p.srcTask }) } }

/-- The next queued request of a kind, when a spare is free (R546). -/
def substNext (s : State) (k : UnitKind) : State :=
  match s.axl.queued.find? (fun x => x.1 == k) with
  | none => s
  | some (k', u) =>
    match s.unitsIn k 1 with
    | [] => s
    | sp :: _ => ({ s with axl := { s.axl with queued := s.axl.queued.erase (k', u) } }).substStart k u sp true

/-- Differences counted against the spare while it was compared: per output of a Shakeout, else per unit. -/
def countMism (s : State) (k : UnitKind) (sp : Nat) (mism : List (Nat × Nat)) : State :=
  mism.foldl (fun (t : State) (p : Nat × Nat) =>
    match k with
    | .shakeout => if p.1 < 2048 then t.addFld F.SHK_FLOW_CNT_SHADOW_MISM p.2 p.1 else t
    | .newt => t.addFld F.NWT_CORE_CNT_SHADOW_MISM p.2 sp
    | .pipe => t.addFld F.CHM_PIPE_STAT_SHADOW_MISM p.2 sp
    | .ladle => t) s

/-- Service moves to the spare of a running substitution: the unit is faulty from then on. -/
def substDone (s : State) (k : UnitKind) (u : Nat) (mism : List (Nat × Nat)) : State :=
  match s.axl.running.find? (fun x => x.kind == k && x.unit == u) with
  | none => s
  | some x =>
    let sp := x.spare
    let s := (s.countMism k sp mism).setShadow k sp false
    let s := match k with
      | .ladle => s.moveLadle u sp
      | .shakeout => s.moveShakeout u sp
      | .newt => s.moveCore u sp
      | .pipe => s.movePipe u sp
    let s := ((s.setFld (axlState k) 3 u).setFld (axlRepl k) sp u).setFld (axlState k) 0 sp
    let s := ((s.incFld (axlCnt k) u).incFld (axlCnt k) sp).setSpareBit k sp false
    let s : State := { s with axl := { s.axl with running := s.axl.running.erase x } }
    ((((s.axlEvent 0x0002 k.num u sp).raise fltAxlSubst [k.num, u, sp]).axlRefresh k).substNext k)

/-! ## Clearing faults (R542, R543) -/

/-- Conditions that are still observed (R542). -/
def condPresent (s : State) (n : Nat) : Bool :=
  match n with
  | 0 => s.meas.tempRun.any (fun x => decide (x.1 < 16) && x.2.1 == 2 && x.2.2 == 3)
  | 1 => s.meas.railRun.any (fun x => x.2.1 == 2 && x.2.2 == 2)
  | 2 => s.rst.xtalLost
  | _ => s.rst.present.contains n

/-- Clear FLT_STATUS bits; a bit whose condition persists is set again at once. -/
def fltClear (s : State) (mask : Nat) : State :=
  let keep := (List.range 48).foldl (fun m n => if mask.testBit n && s.condPresent n then m + 2 ^ n else m) 0
  let lo := s.fld F.FLT_STATUS_LO_STATUS
  let hi := s.fld F.FLT_STATUS_HI_STATUS
  let m := mask % 2 ^ 48
  let s := s.setFld F.FLT_STATUS_LO_STATUS ((lo - (lo &&& (m % 4294967296))) ||| (keep % 4294967296 &&& lo))
  s.setFld F.FLT_STATUS_HI_STATUS ((hi - (hi &&& (m / 4294967296))) ||| (keep / 4294967296 &&& hi))

/-- Empty FLT_FIRST and clear FLT_OVERFLOW. -/
def fltFirstClear (s : State) : State :=
  let s := (s.setFlag F.FLT_FIRST_VALID false).setFlag F.FLT_FIRST_OVERFLOW false
  let s := (s.setFld F.FLT_FIRST_CLASS 0).setFld F.FLT_FIRST_SOURCE 0
  (s.setPair F.FLT_FIRST_EPOCH_W1 F.FLT_FIRST_EPOCH_W2 0).setPair F.FLT_FIRST_TICK_W3 F.FLT_FIRST_TICK_W4 0

/-- A condition begins, or has ended. -/
def setPresent (s : State) (n : Nat) (b : Bool) : State :=
  { s with rst := { s.rst with present := if b then upsert (· == n) n s.rst.present else s.rst.present.erase n } }

/-- Loss of the crystal clock (R44, R542): the tick counter goes on with the backup oscillator. -/
def xtalLoss (s : State) : State :=
  if s.rst.xtalLost then s
  else
    let s : State := { s with rst := { s.rst with xtalLost := true } }
    (s.setFlag F.TIM_STATUS_TICK_BACKUP true).raise fltXtalLoss []

end State

/-! ## Commands -/

/-- Nanoseconds to the end of a substitution that starts now, by prediction (R33, R34, R184, R316, R354, R415): the second frame
start of every flow of the unit, of which the first begins the compared frame; for a core 16 blocks compared from the block after
the copy, then the first D0 frame boundary, then the block boundary. None while a domain of the unit is stopped (DEDUCED, log
entry 110). -/
def State.substWait (s : State) (k : UnitKind) (u : Nat) : Option Nat :=
  let frames (d n : Nat) : Option Nat := (s.frameLines d).map (fun x => s.ticksAhead d x.1 (x.2 + n * x.1.lines))
  let out (o : VOut) : Option Nat :=
    if s.halfOut o then frames o.dom (2 + ((s.rasOf o.dom).frameN + 1) % 2) else frames o.dom 1
  let all (l : List (Option Nat)) : Option Nat := if l.any Option.isNone then none else some ((latest l).getD 0)
  match k with
  | .ladle => all ((s.lad.flows.filter (fun x => x.ladle == u)).map (fun x => frames x.dom 1))
  | .shakeout =>
    all ((s.shk.vouts.filter (fun o => s.fld F.SHK_FLOW_CFG_SHAKEOUT (o.flow - 0x800) == u)).map out ++
      (s.shk.ancOuts.filter (fun x => x.shakeout == u)).map (fun x => frames x.dom 1))
  | .pipe => all ((s.shk.vouts.filter (fun o => s.pipeOf o.flow == some u)).map out)
  | .newt =>
    let m := s.mediaNs
    let blocks := (m / 62500 + 18) * 62500 - m
    let start := match (if s.running 0 then s.domFmt 0 else none) with
      | some f =>
        let first := s.ticksAhead 0 f (f.lines + 1 - (s.lineNow 0 f).2)
        if blocks ≤ first then first
        else s.ticksAhead 0 f (f.lines + 1 - (s.lineNow 0 f).2 + f.lines * ceilDiv ((blocks - first) * f.lpD) (f.lpN * f.lines))
      | none => blocks
    some (ceilDiv (m + start) 62500 * 62500 - m)

/-- SPARE_SUBST (R491). -/
def applySpareSubst (c : Cmd) (s : State) : CmdResult :=
  let b := c.params
  let kind : Option UnitKind := match byteAt b 0 with
    | 0 => some .ladle
    | 1 => some .shakeout
    | 2 => some .newt
    | 3 => some .pipe
    | _ => none
  let u := byteAt b 1
  let sp := byteAt b 2
  guarded [lenIs c 4, (kind.isNone, rej 0x0108 0)] fun _ =>
    match kind with
    | none => .bad (rej 0x0108 0)
    | some k =>
      let free := s.unitsIn k 1
      guarded [(decide (unitCount k ≤ u), rej 0x0108 1), (s.fld (axlState k) u != 0, rej 0x0108 1),
          (decide (unitCount k ≤ sp) && sp != 0xFF, rej 0x0108 2),
          (s.axl.running.any (fun x => x.kind == k && x.unit == u), { rejAll 0x0306 with unit := some u }),
          (free.isEmpty, { rejRes 0x0230 0 1 with unit := some u }),
          (sp != 0xFF && !free.contains sp, rej 0x0108 2)] fun _ =>
        let x := if sp = 0xFF then free.headD 0 else sp
        let w := s.substWait k u
        .ok (s.substStart k u x false) [BitVec.ofNat 8 x] (some (w.map s.epochAfter)) (w.map (s.ptpNs + ·))

/-- FLT_CLEAR (R542, R543). -/
def applyFltClear (c : Cmd) (s : State) : CmdResult :=
  guarded [lenIs c 12] fun _ =>
    let s := s.fltClear (u64 c.params 0)
    .ok (if bitOf (byteAt c.params 8) 0 then s.fltFirstClear else s) []

/-- QUENCH (R494): Quench is entered at the boundary of application. -/
def applyQuench (c : Cmd) (s : State) : CmdResult :=
  guarded [lenIs c 0] fun _ => .ok (s.raise fltQuenchCmd []) []

/-- CAUSE_CLEAR (R525). -/
def applyCauseClear (c : Cmd) (s : State) : CmdResult :=
  guarded [lenIs c 0] fun _ => .ok (s.setReg F.RST_CAUSE_CAUSE.off 0) []

/-- RSTCNT_CLEAR (R539). -/
def applyRstcntClear (c : Cmd) (s : State) : CmdResult :=
  guarded [lenIs c 0] fun _ =>
    .ok (((List.range 8).foldl (fun (t : State) i => t.setFld F.RST_CNT_COUNT 0 i) s).setFld F.OTP_RESTARTS_OPT_LOAD_RESTARTS 0) []

/-! ## Rows -/

/-- SUBST_COMPLETE (R184, R316, R354, R415). -/
def execSubstComplete (k : UnitKind) (u : Nat) (mism : List (Nat × Nat)) (s : State) : Host.Outcome State Fault Refusal :=
  runEff (fun s => s.substDone k u mism) s

/-- STATUS (R542): a write of ones to FLT_STATUS. -/
def execStatus (mask : Nat) (s : State) : Host.Outcome State Fault Refusal :=
  runEff (fun s => if s.rst.aUp then s.fltClear mask else s) s

/-- VALID (R543): a write of 1 to FLT_FIRST.VALID. -/
def execValid (s : State) : Host.Outcome State Fault Refusal :=
  runEff (fun s => if s.rst.aUp then s.fltFirstClear else s) s

/-- XTAL_LOSS (R44). -/
def execXtalLoss (s : State) : Host.Outcome State Fault Refusal := runEff (fun s => if s.rst.aUp then s.xtalLoss else s) s

/-- PLL_UNLOCK (R541): `stays` while the monitor goes on reporting it (R542). -/
def execPllUnlock (stays : Bool) (s : State) : Host.Outcome State Fault Refusal :=
  runEff (fun s => if s.rst.aUp then (s.setPresent 3 stays).raise fltPllUnlock [] else s) s

end Sys2Proof.Machine
end

