-- ==== Sys2Proof/Machine/Reset.lean ====
section
/-! DEFINITION. Resets, start-up and Cold (R521 to R536, R550, R551, R598, R615, R22): sources that overlap, what each reset
clears, the Chip-reach sequence, the watchdog, and the entry into and wake from Cold. -/

namespace Sys2Proof.Machine

/-! ## Sources (R521) -/

/-- Sources of Chip reach. -/
def ResetSrc.chip : ResetSrc → Bool
  | .powerOn | .resetN | .chipCmd | .optReload => true
  | _ => false

/-- Sources that reset domain C alone. -/
def ResetSrc.onlyC : ResetSrc → Bool
  | .watchdog | .control | .partner => true
  | _ => false

/-- Cause index. -/
def ResetSrc.index : ResetSrc → Nat
  | .powerOn => 0
  | .resetN => 1
  | .chipCmd => 2
  | .optReload => 3
  | .data => 4
  | .watchdog => 5
  | .control | .partner => 6
  | .perst => 7

/-- Field words of the option block (R533). -/
def optBoot (b : Bytes) : Nat := byteAt b 4

/-- The factory defaults (R533). -/
def factoryOptions : Bytes :=
  [0x50, 0x4F, 1, 0, 0, 0xFF, 0, 0] ++ List.replicate 24 0 ++ leBytes 4 100 ++
    (List.range 28).map Config.flashDefault ++ List.replicate 448 0

/-- Whether an OTP copy is valid (R534). -/
def copyGood (b : Bytes) : Bool :=
  b.length == 516 && u32 b 512 == (crc32 (b.take 512)).toNat && u16 b 0 == 0x4F50 && byteAt b 2 == 1 &&
    optBoot b / 16 == 0 && byteAt b 7 == 0

/-- The copy the loader applies (R534): the largest GEN among the valid ones, the lower index on equal GEN. -/
def copyChosen (l : List Bytes) : Option Nat :=
  (List.range 4).foldl (fun (m : Option Nat) c =>
    let b := l.getD c []
    if !copyGood b then m
    else match m with
      | none => some c
      | some k => if byteAt (l.getD k []) 3 < byteAt b 3 then some c else some k) none

namespace State

/-- An asserted source of Chip reach. -/
def chipHeld (s : State) : Bool := s.rst.asserted.any ResetSrc.chip

/-- Domain P held by a source (R522). -/
def pHeld (s : State) : Bool := s.chipHeld || s.rst.asserted.contains .data

/-- Domain C held by a source (R522, R551). -/
def cHeld (s : State) : Bool :=
  s.chipHeld || s.rst.asserted.any ResetSrc.onlyC || (s.rst.asserted.contains .data && s.rst.quenchC)

/-- Domain H held by a source. -/
def hHeld (s : State) : Bool := s.chipHeld || s.rst.asserted.contains .perst

/-- A domain is out of reset once its step is reached and no source holds it (R522, R524). -/
def settle (s : State) : State :=
  let r := s.rst
  let h := r.hStep && !s.hHeld
  let s : State := { s with rst := { r with aUp := r.aStep && !s.chipHeld, cUp := r.cStep && !s.cHeld,
                                            pUp := r.pStep && !s.pHeld, hUp := h,
                                            bar2 := if h && !r.hUp then s.fld F.BUS_PCIE_CFG_BAR2_SIZE else r.bar2 } }
  let s := (s.setFlag F.RST_STAT_C_IN_RESET (!s.rst.cUp)).setFlag F.RST_STAT_P_IN_RESET (!s.rst.pUp)
  s.setFlag F.RST_STAT_H_WAIT (s.rst.hStep && !s.rst.hUp)

/-! ## What a reset clears -/

/-- The registers of a reset domain read as at reset. -/
def clearDom (s : State) (d : Dom) (keep : Nat → Bool) : State :=
  let s := s.clearRegs (fun a => domOf a == some d && !keep a)
  { s with latches := s.latches.filter (fun e => !(domOf (e.1 % 268435456) == some d)) }

/-- A reset of domain H (R472, R473): the rings stop. -/
def hClear (s : State) : State :=
  let s := s.clearDom .h (fun _ => false)
  { s with cmd := { s.cmd with cpl := List.replicate 8 0 } }

/-- Registers that outlive a Control reset: the endpoints, which answer during it, and the macros (R473, R290). -/
def cKept (a : Nat) : Bool := ((decide (0x400880 ≤ a)) && decide (a < 0x400BA0) && decide (a % 0x100 < 0xA0) && decide (0x80 ≤ a % 0x100)) ||
  (decide (0x480000 ≤ a) && decide (a < 0x482000))

/-- A reset of domain C (R465, R466, R472, R473, R495): firmware restarts; stored replies, held packets and snapshots are gone, and
what consumed its SEQ and was not applied is refused later. Firing replies wait (R258). -/
def cClear (s : State) : State :=
  let s := s.clearDom .c cKept
  let refuse (a : Admitted) : Admitted := { a with verdict := .refuse (rejAll 0x0301) }
  let waits (x : StoredReply) : Bool := s.cmd.admitted.any (fun a => a.cmd.src.val == x.src && a.cmd.seq.toNat == x.seq)
  let lose (x : StoredReply) : StoredReply := if waits x then x else { x with reply := none, lost := true }
  let s : State := { s with cmd := { s.cmd with admitted := s.cmd.admitted.map refuse, stored := s.cmd.stored.map lose,
                                                unreleased := s.cmd.unreleased.filter (fun u => u.late), held := [],
                                                partials := [], staging := [], reads := [] },
                            nwt := { s.nwt with snaps := [] }, twn := { s.twn with afterCtl := true },
                            rst := { s.rst with fwUp := false, restarting := true } }
  s.setFlag F.RST_STAT_C_FAULTY false

/-- Registers of domain P that a Data reset keeps (R448, R615): unit states, thresholds and the report interval. -/
def pKept (a : Nat) : Bool :=
  (decide (0x1610000 ≤ a) && decide (a < 0x1610700)) || (decide (0x1300010 ≤ a) && decide (a < 0x1300024))

/-- The spares' own SPARE bits and a replaced core's FAULTY after domain P is cleared (R615). -/
def spareBits (s : State) : State :=
  [UnitKind.ladle, .shakeout, .newt, .pipe].foldl (fun (s : State) k =>
    let s := (List.range (unitCount k)).foldl (fun (s : State) u =>
      let st := s.fld (axlState k) u
      let s := if decide (64 ≤ u) || (k == .pipe && decide (32 ≤ u)) then s.setSpareBit k u (st == 1) else s
      if k == .newt && st == 3 then s.setFlag F.NWT_CORE_STAT_FAULTY true u else s) s
    s.axlRefresh k) s

/-- The masks of every audio port after a Data reset are zero (R431). -/
def aptMasksClear (s : State) : State :=
  (List.range 16).foldl (fun (s : State) p =>
    [F.APT_MASK_IN_MASK, F.APT_MASK_OUT_MASK, F.APT_MASK_ACTIVE_IN_MASK, F.APT_MASK_ACTIVE_OUT_MASK].foldl
      (fun (s : State) f => s.setFld f 0 p) s) s

/-- A Data reset of domain P (R532, and each chapter's table of modes and resets): the remap table, the tiles' contents and
the image store stay, the environment monitors' runs, and the faults of units (log entry 121). Every reference input is
disqualified (R78), the MACs, filters, templates, gates and statistics are cleared (R153), and the ring maps, the free list and the
suspect table (R224). -/
def pClear (s : State) : State :=
  let s := s.substAbandonAll.discardTimed
  let rpt := s.fld F.MEAS_CFG_RPT_INT
  let dead := s.rst.wdtLast.map (fun t => t - s.tick)
  let s := s.clearDom .p pKept
  let s : State := { s with tick := 0, tim := TimState.reset, ref := RefState.reset, lane := LaneState.reset,
                            mac := MacState.reset, lad := LadState.reset,
                            pool := { PoolState.reset with mem := s.pool.mem, remap := s.pool.remap, resUsed := s.pool.resUsed,
                                                           resBack := s.pool.resBack },
                            pat := PatState.reset, shk := ShkState.reset, chm := ChmState.reset, aud := AudState.reset,
                            nwt := { NwtState.reset with images := s.nwt.images }, apt := AptState.reset,
                            meas := { MeasState.reset with tempRun := s.meas.tempRun, railRun := s.meas.railRun },
                            twn := { TwnState.reset with afterCtl := s.twn.afterCtl },
                            axl := ⟨[], [], false, s.axl.dead⟩, cmd := { s.cmd with staging := [] },
                            sys := { s.sys with role := .solo, castSrc := false }, rst := { s.rst with wdtLast := dead } }
  let s := (s.aptMasksClear.setFld F.MEAS_CFG_RPT_INT rpt).setFlag F.TIM_STATUS_TICK_BACKUP s.rst.xtalLost
  s.spareBits

/-- A reset of Chip reach (R521): domains A, C, P and H; domain B, the OTP copies and the sources asserted stay, with the
model's queue and free values. Images and the journal are gone; an interrupted key update stays torn (R559). Where the crystal
was lost, the environment decides whether this reset finds it running (R44): a free bit (DESIGN CHOICE, log entry 104). -/
def chipClear (s : State) : State :=
  let (v, s) := if s.rst.xtalLost then s.fresh 1 else (1, s)
  let t : State := { State.reset with
    pending := s.pending, out := s.out, free := s.free, regs := s.regs.filter (fun e => domOf e.1 == some .b),
    rst := { RstState.reset with asserted := s.rst.asserted, xtalLost := v == 0 }, otp := ⟨s.otp.copies, []⟩,
    key := { s.key with ops := [], nonce := none, attest := none, unlockedEver := false, bootEpoch := 0, optEpoch := 0 } }
  if v = 0 then t.setFlag F.TIM_STATUS_TICK_BACKUP true else t

/-- RST_LAST_FLT takes the fault record (R539). -/
def keepFaults (s : State) : State :=
  let s := (s.setReg F.RST_LAST_FLT_STATUS_LO.off (s.reg F.FLT_STATUS_LO_STATUS.off)).setReg F.RST_LAST_FLT_STATUS_HI.off
    (s.reg F.FLT_STATUS_HI_STATUS.off)
  (s.setReg F.RST_LAST_FLT_FIRST.off (s.reg F.FLT_FIRST_VALID.off)).setReg F.RST_LAST_FLT_QUENCH.off (s.reg F.FLT_QUENCH_VALID.off)

/-! ## Assertion and release (R522 to R525) -/

/-- RST_CNT and RST_CAUSE of a source (R525). -/
def resetCount (s : State) (src : ResetSrc) : State :=
  let s := s.incFld F.RST_CNT_COUNT src.index
  let s := s.setFld F.RST_CAUSE_CAUSE (s.fld F.RST_CAUSE_CAUSE ||| 2 ^ src.index)
  if src = .partner then s.setFlag F.RST_CAUSE_PARTNER true else s

/-- A source is asserted: counted, and its reach is cleared. The start-up sequence in progress stops (R523) and the option load is
aborted (R535). POWER_ON is
counted when the supplies become good (R521). -/
def assertSrc (s : State) (src : ResetSrc) : State :=
  if s.rst.asserted.contains src then s
  else
    let s := if src = .powerOn then s else s.resetCount src
    if src.chip then
      let loading := !s.chipHeld && !s.rst.aStep
      let s := if loading then s.incFld F.OTP_RESTARTS_OPT_LOAD_RESTARTS else s
      let s := if s.rst.aUp then s.keepFaults else s
      let s : State := { s with rst := { s.rst with asserted := s.rst.asserted ++ [src] } }
      s.chipClear.settle
    else
      let fltC := (s.fld F.FLT_STATUS_LO_STATUS).testBit 8 || (s.fld F.FLT_STATUS_LO_STATUS).testBit 9 ||
        (s.fld F.FLT_STATUS_LO_STATUS).testBit 11
      let withC := s.flag F.RST_STAT_C_FAULTY || (s.sys.mode == .quench && fltC)
      let s : State := { s with rst := { s.rst with asserted := s.rst.asserted ++ [src],
                                                    quenchC := if src = .data then withC else s.rst.quenchC } }
      let s := if s.rst.aUp ∧ src = .data then s.journalOwn 0x9 2 else if s.rst.aUp ∧ src.onlyC then s.journalOwn 0x9 3 else s
      let s := if src = .perst then s.hClear
        else if src = .data then (if withC then s.cClear.pClear else s.pClear)
        else s.cClear
      s.settle

/-- Quench is entered again when a monitored condition is still present at the release of a Data reset (R551). -/
def quenchAgain (s : State) : State :=
  match [0, 1, 2, 3].find? (fun n => s.condPresent n) with
  | some n => s.enterQuench n
  | none => s

/-- A source is released: the domains that nothing else holds leave reset. The release of the last source of Chip reach enters
Melt and begins cycle 0 (R18, R19, R28). A Data reset, which held domain P cleared, ends in Melt (R532, R19, R547). -/
def releaseSrc (s : State) (src : ResetSrc) : State :=
  if !s.rst.asserted.contains src then s
  else
    let was := s.rst.pUp
    let s : State := { s with rst := { s.rst with asserted := s.rst.asserted.erase src } }
    let s := s.settle
    if src.chip then (if s.chipHeld then s else s.enterMode .melt 0)
    else if src = .data ∧ s.rst.pUp ∧ !was then
      let s := s.pClear
      let s := if s.sys.mode = .melt then s else s.enterMode .melt 0x6
      let s : State := { s with twn := { s.twn with croakOutOn := s.sys.meltReady } }
      s.quenchAgain
    else s

/-- The supplies become good: POWER_ON is counted and released (R521, R598). -/
def powerGood (s : State) : State :=
  if s.rst.asserted.contains .powerOn then (s.resetCount .powerOn).releaseSrc .powerOn else s

/-- A Backup reset (R521, R539, R556): everything reads as at reset; a pin that is held low is asserted anew. -/
def backupReset (s : State) : State :=
  let held := s.rst.asserted.filter (fun x => x == .resetN || x == .perst)
  let t : State := { State.reset with pending := s.pending, out := s.out, free := s.free, otp := ⟨s.otp.copies, []⟩ }
  held.foldl (fun (t : State) x => t.assertSrc x) t

/-- A pending RESET command asserts its reset (R494). -/
def resetNow (s : State) : State :=
  match s.rst.rstPend with
  | none => s
  | some k =>
    let s : State := { s with rst := { s.rst with rstPend := none } }
    match k with
    | 1 => s.assertSrc .chipCmd
    | 2 => s.assertSrc .data
    | 3 => s.assertSrc .control
    | _ => s.assertSrc .optReload

/-! ## The Chip-reach sequence (R526, R527) -/

/-- RST_STAT.STEP. -/
def setStep (s : State) (n : Nat) : State := s.setFld F.RST_STAT_STEP n

/-- VOUT_COMMAND in the linear format with an exponent of −12, to the nearest step, for a setpoint in mV (R599). -/
def voutCode (mv : Nat) : Nat := (mv * 4096 + 500) / 1000

/-- Send a setpoint to the VDD_CORE regulator (R599). -/
def voutSend (s : State) (mv : Nat) : State := s.emit (.pin "I2C3.VOUT_COMMAND" (voutCode mv))

/-- Step 1 ends (R533 to R536, R463, R599): the chosen options apply, domain A is released and VDD_CORE moves to the setpoint of
the vendor trims. -/
def optionsDone (s : State) : State :=
  if s.chipHeld || s.rst.aStep then s
  else
    let pick := copyChosen s.otp.copies
    let blk := match pick with
      | some c => (s.otp.copies.getD c []).take 512
      | none => factoryOptions
    let ok := (List.range 4).foldl (fun n c => if copyGood (s.otp.copies.getD c []) then n + 2 ^ c else n) 0
    let s : State := { s with otp := { s.otp with applied := blk }, rst := { s.rst with aStep := true },
                              gpio := { s.gpio with vddSet := 700 + Config.vddTrim.val, vddRetry := none, vddAge := [] },
                              key := { s.key with optEpoch := s.sys.epoch } }
    let s := s.settle.voutSend (700 + Config.vddTrim.val)
    let s := ((s.setFlag F.OTP_STAT_LOAD_DONE true).setFlag F.OTP_STAT_FALLBACK pick.isNone).setFld F.OTP_STAT_COPY_OK ok
    let s := (s.setFld F.OTP_STAT_COPY_USED (pick.getD 0)).setFld F.OTP_STAT_GEN (byteAt blk 3)
    let s := s.setFld F.RST_WDT_TIMEOUT (max 10 (min 1000 (u32 blk 32)))
    let s := [12, 13].foldl (fun (s : State) k => (s.setFld F.CMD_SRC_SEQ_SESSION 1 k).setFld F.CMD_SRC_SEQ_NEXT_SEQ 0 k) s
    let s := s.setStep 2
    if pick.isNone then s.raise fltOptFallback [] else s

/-- Step 2 ends, after a reset or a wake: the PLLs lock, H is released, and P at the start of step 3 (R43, R524, R526). -/
def clocksLocked (s : State) : State :=
  if !(s.rst.aUp && s.fld F.RST_STAT_STEP == 2) then s
  else
    let s : State := { s with rst := { s.rst with hStep := true, pStep := true } }
    s.settle.setStep 3

/-- Step 3 ends (R217, R526, R215, R570): the tiles are initialised, those that come out of self-refresh as they were; or a stack
failed. -/
def poolTrained (s : State) (ok : Bool) : State :=
  if !(s.rst.aUp && s.fld F.RST_STAT_STEP == 3) then s
  else if !ok then (s.setPresent 5 true).raise fltPoolTrain []
  else
    let s : State := { s with rst := { s.rst with cStep := true } }
    let s : State := if s.rst.waking && s.rst.dramHeld then s else { s with pool := { s.pool with mem := [] } }
    let s := s.setFlag F.POOL_STAT_INIT_DONE true
    let s := s.settle.setStep 4
    if s.flag F.KEY_TAMPER_LATCH then s.blankAll else s

/-- Step 5 (R527): an image starts, or both failed. -/
def imageVerified (s : State) (okA okB : Bool) : State :=
  if !(s.rst.cUp && s.fld F.RST_STAT_STEP == 4) then s
  else
    let bFirst := bitOf (optBoot s.otp.applied) 0
    let pick : Option Nat := if bFirst then (if okB then some 1 else if okA then some 0 else none)
      else (if okA then some 0 else if okB then some 1 else none)
    match pick with
    | none => (s.setFld F.RST_STAT_BOOT 3).setStep 5
    | some k =>
      let s : State := { s with key := { s.key with bootEpoch := s.sys.epoch } }
      let s := (s.setFld F.RST_STAT_BOOT k).setStep 6
      if k = b2n bFirst then s else s.raise fltFwImageB []

/-- Firmware serves from here on. -/
def fwStart (s : State) : State :=
  { s with rst := { s.rst with fwUp := true, restarting := false, waking := false, wdtStart := s.tick },
           sys := { s.sys with meltReady := true }, twn := { s.twn with croakOutOn := s.sys.mode != .quench } }

/-! ## Cold (R22) -/

/-- The bits of a word that a resume image holds: what commands and direct writes set. A register a command fills without a
field to write it (flow and route definitions, bindings, macros, pool maps) is held whole but for its counts. -/
def resumeMask (a : Nat) : Word :=
  let whole := (decide (0xB00000 ≤ a) && decide (a < 0xB60000)) || (decide (0xC00010 ≤ a) && decide (a < 0xC40000)) ||
    (decide (0xD00000 ≤ a) && decide (a < 0xE60000)) || (decide (0xF00000 ≤ a) && decide (a < 0x1000000)) ||
    (decide (0x1040000 ≤ a) && decide (a < 0x10C0000)) || (decide (0x1100000 ≤ a) && decide (a < 0x1180000)) ||
    (decide (0x480000 ≤ a) && decide (a < 0x481000))
  match regRow a with
  | none => 0
  | some r => r.fields.foldl (fun m f =>
      if f.acc = Acc.rw ∨ (whole ∧ (f.acc = Acc.ro ∨ f.acc = Acc.rws)) then m ||| bitMask f.hi f.lo else m) 0

/-- What the image holds (R22). -/
def resumeImage (s : State) : Resume :=
  ⟨s.regs.filter (fun e => domOf e.1 == some .p || domOf e.1 == some .c), s.tim, s.ref, s.lane, s.mac, s.lad, s.pool, s.pat, s.shk,
   s.chm, s.aud, s.nwt, s.apt, s.meas, s.cmd.macros⟩

/-- Domains P, C and H lose their power: everything of C and P is gone but the tiles that a self-refresh keeps and what domain
A keeps (R22); units replaced stay replaced (R615). -/
def powerOff (s : State) (held : Bool) : State :=
  let image := s.rst.resume
  let s := s.cClear
  let lose (x : StoredReply) : StoredReply := { x with reply := none, lost := true }
  let s : State := { s with cmd := { s.cmd with admitted := [], unreleased := [], macros := [], stored := s.cmd.stored.map lose } }
  let s : State := { s.pClear with twn := TwnState.reset }
  let s := s.clearRegs (fun a => (domOf a == some .p || domOf a == some .c) && !(decide (0x1610000 ≤ a) && decide (a < 0x1610700)))
  let s := s.spareBits.setFlag F.TIM_STATUS_TICK_BACKUP s.rst.xtalLost
  let mem := if held then s.pool.mem else []
  let s : State := { s with pool := { PoolState.reset with mem := mem }, nwt := NwtState.reset, meas := MeasState.reset,
                            sys := { s.sys with meltReady := false },
                            rst := { s.rst with hStep := false, pStep := false, cStep := false, dramHeld := held, resume := image,
                                                restarting := false } }
  s.settle

/-- COLD_ENTRY: queued repairs end, the image is written where the free list holds it, and the power goes. Its length and first
tile are firmware's: free values. -/
def coldEntry (s : State) : State :=
  if !(s.sys.mode == .cold && s.rst.pUp) then s
  else
    let held := !(s.sys.targetDramOff || bitOf (optBoot s.otp.applied) 1)
    if !held then (((s.setFlag F.SYS_RESUME_VALID false).setFld F.SYS_RESUME_FIRST_TILE 0).setFld F.SYS_RESUME_LEN_TILES 0).powerOff false
    else
      let rows := (s.pool.ppr.filter (fun r => !r.noSpare)).length
      let s : State := { s with pool := { s.pool with pprRun := decide (0 < rows) } }
      let s := (List.range rows).foldl (fun (s : State) _ => s.pprDone true) s
      let (len, s) := s.fresh 32
      let (first, s) := s.fresh 25
      if s.freeTiles < len then (s.setFlag F.SYS_RESUME_NONE true).powerOff true
      else
        let s := ((s.setFlag F.SYS_RESUME_VALID true).setFld F.SYS_RESUME_FIRST_TILE first).setFld F.SYS_RESUME_LEN_TILES len
        ({ s with rst := { s.rst with resume := some s.resumeImage } }).powerOff true

/-- A task that starts again after a wake: zero state region, its active parameter page in both pages (R416). -/
def wakeTask (x : NwtCore) (t : NwtTask) : NwtTask :=
  let par := if t.startDue then t.par else sgetMany zeroByte x.dmem (if t.page = 0 then t.page0 else t.page1) t.parLen
  { t with par := par, startDue := true, swapDue := false, swapped := false, page := 0, traps := [], done := false, discard := false }

/-- An audio port after a wake: what its commands left waiting, its conversion task, and nothing that runs. -/
def wakePort (x : AptPort) : AptPort :=
  { AptPort.reset with maskIn := x.maskIn.map (fun p => (p.1, 0)), maskOut := x.maskOut.map (fun p => (p.1, 0)), waitIn := x.waitIn,
                       waitOut := x.waitOut, csPend := x.csPend, srcTask := x.srcTask }

/-- A link after a wake: the tributary changes that wait for a marker boundary. -/
def wakeLink (x : LinkRec) : LinkRec :=
  { x with reqLane := 31, farBridged := 31, switches := 0, bridgeNext := 31, idBad := false, lost := [], txAt := none }

/-- Restore an image: configuration and definitions as they were, with the changes that commands left waiting, and every running
state at rest. The instance of R611 starts free-running, enabled generators' DPLLs run (R89), and the filters are reported
again (R138). -/
def restore (s : State) (r : Resume) : State :=
  let put (s : State) (e : Nat × Word) : State :=
    let m := resumeMask e.1
    s.setReg e.1 ((s.reg e.1 &&& ~~~m) ||| (e.2 &&& m))
  let s := r.regs.foldl put s
  let ports := r.tim.ports.map (fun (p : PtpPort) => { p with st := .listening, foreign := none })
  let tim : TimState := { TimState.reset with ptpEn := r.tim.ptpEn, profile := r.tim.profile, domainNum := r.tim.domainNum,
                                              own := r.tim.own, ports := ports }
  let flows := r.lad.flows.map (fun (x : InFlow) => 
    { x with opens := [], mism := 0, matchN := 0, lastTs := none, startTick := 0, nextSeq0 := none, lastExt := none, gone := [], spare := none })
  let vouts := r.shk.vouts.map (fun (o : VOut) => { o with lossRun := 0, blackSrc := none, begun := none, sends := [], silent := false, spare := none })
  let ancs := r.shk.ancOuts.map (fun (o : AncOut) => { o with send := none })
  let delays := r.aud.delays.map (fun (x : DelayLine) => { x with start := none, sendBuf := [], back := [] })
  let maps := r.aud.maps.map (fun (x : EmbMap) => { x with nextPos := none, buf := [] })
  let streams := r.aud.streams.map (fun (x : AStream) => { x with lastSeq := [], rx := [], phase := none })
  let core (x : NwtCore) : NwtCore := ⟨[], [], x.tasks.map (wakeTask x), none, []⟩
  let aud : AudState := { AudState.reset with streams := streams, maps := maps, delays := delays, pend := r.aud.pend }
  let lad : LadState := ⟨flows, false, 0⟩
  let nwt : NwtState := ⟨r.nwt.cores.map core, r.nwt.images, []⟩
  let s : State :=
    { s with tim := tim, lad := lad, ref := { s.ref with clkPend := r.ref.clkPend },
             lane := { s.lane with links := r.lane.links.map wakeLink },
             mac := { MacState.reset with filters := r.mac.filters, templates := r.mac.templates, gatePend := r.mac.gatePend },
             apt := ⟨r.apt.ports.map wakePort⟩, meas := { s.meas with cfgPend := r.meas.cfgPend },
             pool := { r.pool with reads := [], pprRun := false, mem := s.pool.mem },
             pat := { r.pat with sched := [] }, shk := { r.shk with vouts := vouts, ancOuts := ancs, staging := [] },
             chm := { r.chm with staging := [], mirrored := [] }, aud := aud, nwt := nwt,
             cmd := { s.cmd with macros := r.macros } }
  let s := if tim.ptpEn then s.setServo servoFree else s
  let s := (List.range 4).foldl (fun (s : State) d => if s.flag F.REF_RAS_CFG_EN d then s.rasterEnabled d else s) s
  (s.mac.filters.foldl (fun (s : State) x => s.igmp x false) s).macUse

/-- WAKE_COMPLETE: the image is restored or absent, and MELT_READY is set (R22 steps 3 and 4). -/
def wakeComplete (s : State) : State :=
  if !(s.rst.waking && s.rst.cUp && s.fld F.RST_STAT_STEP == 6) then s
  else
    let s := match s.rst.resume with
      | some r => s.restore r
      | none => s
    let s := ((s.setFlag F.SYS_RESUME_VALID false).setFld F.SYS_RESUME_FIRST_TILE 0).setFld F.SYS_RESUME_LEN_TILES 0
    (({ s with rst := { s.rst with resume := none } }).setStep 7).fwStart

/-- MELT_READY (R526, R547), of a start-up or of a wake. -/
def meltReadyNow (s : State) : State :=
  if s.rst.waking then s.wakeComplete
  else if s.rst.cUp && s.fld F.RST_STAT_STEP == 6 then (s.setStep 7).fwStart
  else s

/-- A write of RST_WDT.KICK (R529). -/
def wdtKick (s : State) : State := if s.rst.aUp then { s with rst := { s.rst with wdtStart := s.tick } } else s

/-- A write of 1 to RST_CTL.CHIP (R550). -/
def chipWrite (s : State) : State :=
  if s.rst.aUp ∧ (s.sys.mode = .quench ∨ s.sys.mode = .melt) then s.assertSrc .chipCmd else s

/-- A write of 1 to RST_CTL.QUENCH_EXIT (R550). -/
def quenchExitWrite (s : State) : State :=
  if s.rst.aUp ∧ s.sys.mode = .quench then (s.setFlag F.RST_CAUSE_QUENCH_EXIT true).assertSrc .data else s

/-- A write of 1 to SYS_WAKE.GO (R590). -/
def wakeAsk (s : State) : State :=
  if s.sys.mode = .cold then { s with sys := { s.sys with wakePend := true } } else s

/-- A wake's boundary (R22, R18): the device enters Melt and the sequence runs from its clocks step. -/
def wakeNow (s : State) : State :=
  if !(s.sys.wakePend && s.sys.mode == .cold && !s.rst.pUp) then s
  else
    let s := s.enterMode .melt 0x5
    let s : State := { s with sys := { s.sys with wakePend := false, meltReady := false }, rst := { s.rst with waking := true } }
    s.setStep 2

/-! ## Watchdog and partner (R529 to R531) -/

/-- Domain C becomes faulty: CTL_FAULTY. -/
def ctlFaulty (s : State) : State := (s.setFlag F.RST_STAT_C_FAULTY true).raise fltCtlFaulty []

/-- A TIMEOUT passes without a kick. A second expiry within 10 s of the one before makes C faulty; `wdtLast` holds the tick
until which it counts so. -/
def watchdog (s : State) : State :=
  if !(s.flag F.RST_WDT_EN && s.rst.cUp && s.rst.fwUp && s.sys.mode != .cold) then s
  else
    let again := s.rst.wdtLast.any (fun t => decide (s.tick ≤ t))
    let s := (s.raise fltCtlWdt []).assertSrc .watchdog
    let s : State := { s with rst := { s.rst with wdtLast := some (s.tick + 10000000000) } }
    if again then s.ctlFaulty else s

/-- A partner's request (R530). -/
def partnerReset (s : State) : State :=
  if s.sys.mode = .hold ∧ bitOf (optBoot s.otp.applied) 2 ∧ s.partnerMode = some Mode.pour.code then s.assertSrc .partner else s

/-- A fault source is raised from outside (R541, R542). POOL_TRAIN and PLL_UNLOCK persist as conditions; an uncorrectable
error in control SRAM makes C faulty and asserts a Control reset (R531). -/
def faultRow (s : State) (n : Nat) (unit : Option (UnitKind × Nat)) : State :=
  if 47 < n ∨ !s.rst.aUp then s
  else if n = 9 then (s.assertSrc .control).ctlFaulty
  else (if n = 3 ∨ n = 5 then s.setPresent n true else s).raiseFault n unit []

end State

/-! ## Rows -/

/-- POWER_GOOD (R598). -/
def execPowerGood (s : State) : Host.Outcome State Fault Refusal := runEff State.powerGood s

/-- POWER_SAG (R598). -/
def execPowerSag (s : State) : Host.Outcome State Fault Refusal := runEff (fun s => s.assertSrc .powerOn) s

/-- BACKUP_SUPPLY_RISE (R521). -/
def execBackupSupplyRise (s : State) : Host.Outcome State Fault Refusal := runEff State.backupReset s

/-- RESET_N_CHANGE (R521). -/
def execResetNChange (low : Bool) (s : State) : Host.Outcome State Fault Refusal :=
  runEff (fun s => if low then s.assertSrc .resetN else s.releaseSrc .resetN) s

/-- PERST_N_CHANGE (R521). -/
def execPerstNChange (low : Bool) (s : State) : Host.Outcome State Fault Refusal :=
  runEff (fun s => if low then s.assertSrc .perst else s.releaseSrc .perst) s

/-- RESET_PULSE_END (R521): the 10 µs of a source that no pin or supply holds. -/
def execResetPulseEnd (src : ResetSrc) (s : State) : Host.Outcome State Fault Refusal :=
  runEff (fun s => if src = .powerOn ∨ src = .resetN ∨ src = .perst then s else s.releaseSrc src) s

/-- OPTION_LOAD_DONE (R534). -/
def execOptionLoadDone (s : State) : Host.Outcome State Fault Refusal := runEff State.optionsDone s

/-- CLOCKS_LOCKED (R526). -/
def execClocksLocked (s : State) : Host.Outcome State Fault Refusal := runEff State.clocksLocked s

/-- POOL_TRAINING_DONE (R526). -/
def execPoolTrainingDone (ok : Bool) (s : State) : Host.Outcome State Fault Refusal := runEff (fun s => s.poolTrained ok) s

/-- FIRMWARE_VERIFIED (R527). -/
def execFirmwareVerified (okA okB : Bool) (s : State) : Host.Outcome State Fault Refusal :=
  runEff (fun s => s.imageVerified okA okB) s

/-- MELT_READY (R526). -/
def execMeltReady (s : State) : Host.Outcome State Fault Refusal := runEff State.meltReadyNow s

/-- WATCHDOG_EXPIRY (R529). -/
def execWatchdogExpiry (s : State) : Host.Outcome State Fault Refusal := runEff State.watchdog s

/-- KICK (R529). -/
def execKick (s : State) : Host.Outcome State Fault Refusal := runEff State.wdtKick s

/-- CHIP (R550): effective in Quench and Melt. -/
def execChip (s : State) : Host.Outcome State Fault Refusal := runEff State.chipWrite s

/-- QUENCH_EXIT (R550): effective in Quench. -/
def execQuenchExit (s : State) : Host.Outcome State Fault Refusal := runEff State.quenchExitWrite s

/-- GO (R590): effective in Cold. -/
def execGo (s : State) : Host.Outcome State Fault Refusal := runEff State.wakeAsk s

/-- COLD_ENTRY (R22). -/
def execColdEntry (s : State) : Host.Outcome State Fault Refusal := runEff State.coldEntry s

/-- WAKE_COMPLETE (R22). -/
def execWakeComplete (s : State) : Host.Outcome State Fault Refusal := runEff State.wakeComplete s

/-- PARTNER_RESET_REQUEST (R530). -/
def execPartnerResetRequest (s : State) : Host.Outcome State Fault Refusal := runEff State.partnerReset s

/-- FAULT_RAISE (R542). -/
def execFaultRaise (n : Nat) (unit : Option (UnitKind × Nat)) (s : State) : Host.Outcome State Fault Refusal :=
  runEff (fun s => s.faultRow n unit) s

end Sys2Proof.Machine
end

