-- ==== Sys2Proof/Machine/Control.lean ====
section
/-! DEFINITION. The device commands of families 0x00xx and 0x0Exx that no other chapter owns (R461, R478, R494, R537), and the
mode transitions of R18. -/

namespace Sys2Proof.Machine

namespace State

/-! ## Conditions of the transitions (R18, R478, R612) -/

/-- Whether the egress lanes of every admitted output are trained (R612). -/
def egressTrained (s : State) : Bool :=
  let h (l : List Nat) : Bool := l.all (fun x => s.flag F.HLN_LANE_STAT_TX_TRAINED x)
  (List.range 68).all (fun l => (slaneOuts s l).isEmpty || s.flag F.SLN_LANE_STAT_TX_TRAINED l) &&
    s.shk.vouts.all (fun o => s.fld F.SHK_FLOW_CFG_KIND (o.flow - 0x800) != 1 ||
      h (s.linkLanes (s.fld F.SHK_FLOW_CFG_LINK (o.flow - 0x800)))) &&
    s.mac.templates.all (fun t => h (s.ownedLanes [1] t.mac))

/-- The conditions of entering Hold from Melt or Proof. -/
def holdChecks (s : State) : List (Bool × RefRec) :=
  [(s.pool.pprRun, rejAll 0x0304), (!s.running 0, rejDom 0x0305 0), (!s.aksUp || !s.partnerOk, rejAll 0x0603),
   (s.partnerMode != some Mode.pour.code, rejAll 0x0606)]

/-- The conditions of a transition by command; a transition R18 lacks is refused by mode. -/
def modeChecks (s : State) (m : Mode) : List (Bool × RefRec) :=
  match s.sys.mode, m with
  | .melt, .cold => [(s.pool.pprRun, rejAll 0x0304)]
  | .melt, .pour => [(!s.running 0, rejDom 0x0305 0), (!s.egressTrained, rejAll 0x0305),
      (s.partnerMode == some Mode.pour.code, rejAll 0x0605)]
  | .melt, .hold => s.holdChecks
  | .proof, .hold => s.holdChecks
  | .melt, .proof => []
  | .pour, .hold => [(!s.aksUp || !s.partnerOk, rejAll 0x0603),
      (s.partnerMode != some Mode.hold.code || !s.flag F.TWN_STAT_SYNC, rejAll 0x0604)]
  | .pour, .melt => []
  | .hold, .melt => []
  | .hold, .proof => []
  | .proof, .melt => []
  | _, _ => [(true, rejAll 0x0302)]

/-- Entry into a mode by command: what the chapters add (R22, R258, R492, R515, R547). -/
def modeEnter (s : State) (m : Mode) : State :=
  let s := if s.sys.mode = .proof then s.loopEnd true else s
  let s := s.enterMode m 0x1
  match m with
  | .hold => s.holdEntry
  | .cold =>
    let s := s.discardTimed.substAbandonAll
    { s with mac := { s.mac with held := [], queue := [] }, twn := { s.twn with croakOutOn := false, croakOut := false } }
  | _ => s

end State

/-! ## Commands -/

/-- MODE_SET (R478). -/
def applyModeSet (c : Cmd) (s : State) : CmdResult :=
  match Mode.ofCode (byteAt c.params 0) with
  | none => guarded [lenIs c 4] fun _ => .bad (rej 0x0108 0)
  | some m =>
    guarded ([lenIs c 4, (m == .quench, rej 0x0108 0)] ++ s.modeChecks m) fun _ =>
      let s : State := { s with sys := { s.sys with targetDramOff := m == .cold && bitOf (byteAt c.params 1) 0 } }
      .ok (s.modeEnter m) []

/-- SESSION_OPEN (R461, R462): the new session, and the old one's LAST_APPLIED in the reply. -/
def applySessionOpen (c : Cmd) (s : State) : CmdResult :=
  let k := c.src.val
  let net := isNet k
  guarded [lenIs c (if net then 8 else 0)] fun _ =>
    let v := (s.fld F.CMD_SRC_SEQ_SESSION k + 1) % 4294967296
    let v := if v = 0 then 1 else v
    let t := s.setFld F.CMD_SRC_SEQ_SESSION v k
    let t := if net then t.setPair F.CMD_NET_EP_OPEN_CTR_LO F.CMD_NET_EP_OPEN_CTR_HI (u64 c.params 0) (k - 8) else t
    .ok t (leBytes 4 v ++ leBytes 4 (s.fld F.CMD_SRC_SEQ_LAST_APPLIED k))

/-- PING. -/
def applyPing (c : Cmd) (s : State) : CmdResult := guarded [lenIs c 0] fun _ => .ok s []

/-- IDENT: SYS_DEVID, the firmware's version and the image running. -/
def applyIdent (c : Cmd) (s : State) : CmdResult :=
  guarded [lenIs c 0] fun _ =>
    let img := if s.fld F.RST_STAT_BOOT = 1 then 1 else 0
    .ok s (leBytes 4 (s.reg F.SYS_DEVID_PART.off).toNat ++ leBytes 4 (Config.fwVersion img).toNat ++ [BitVec.ofNat 8 img, 0, 0, 0])

/-- RESET (R494): the reset is asserted at the first boundary after the reply's release. -/
def applyReset (c : Cmd) (s : State) : CmdResult :=
  let k := byteAt c.params 0
  guarded [lenIs c 4, (!inRanges [(1, 4)] k, rej 0x0108 0)] fun _ =>
    .ok { s with rst := { s.rst with rstPend := some k } } []

/-- OPT_PROGRAM (R537). -/
def applyOptProgram (c : Cmd) (s : State) : CmdResult :=
  let k := byteAt c.params 0
  let b := slice c.params 4 512
  let crc := leBytes 4 (crc32 b).toNat
  guarded [lenIs c 516, (decide (3 < k), rej 0x0108 0), ((s.otp.copies.getD k []).any (· != 0), rejAll 0x0305)] fun _ =>
    .ok { s with otp := { s.otp with copies := s.otp.copies.set k (b ++ crc) } } crc

end Sys2Proof.Machine
end

