-- ==== Sys2Proof/Machine/Readback.lean ====
section
/-! DEFINITION. Readback (R471, R495): the object classes, their entries, and change counts. -/

namespace Sys2Proof.Machine

/-- What a READ selects: bytes per entry, the number of the first entry held, and the entries. -/
structure ReadView where
  esize : Nat
  base : Nat
  entries : List Bytes

/-- Entries of one size, padded or cut to it. -/
def sized (n : Nat) (l : List Bytes) : ReadView := ⟨n, 0, l.map (fun b => padTo n (b.take n))⟩

/-- Parameter blocks with their counters (R495): the blocks are padded to the longest, then the counters follow. -/
def blockView (l : List (Bytes × List Nat)) : ReadView :=
  let w := min 65400 (l.foldl (fun m x => max m x.1.length) 0)
  let c := l.foldl (fun m x => max m x.2.length) 0
  sized (w + 4 * c) (l.map (fun x => padTo w (x.1.take w) ++ x.2.flatMap (leBytes 4)))

/-- An entry whose layout is not stated: `n` bytes that the numbers it shows determine. -/
def openEntry (cls n : Nat) (l : List Nat) : Bytes := padTo n ((Config.readEntry cls l).take n)

/-- A journal entry's 32 bytes (R470). -/
def JnlEntry.bytes (e : JnlEntry) : Bytes :=
  leBytes 8 e.epoch ++ leBytes 1 e.source ++ leBytes 1 e.kind ++ leBytes 2 e.order ++ leBytes 4 e.seq ++ leBytes 2 e.opcode ++
    leBytes 2 e.status ++ leBytes 2 e.tag ++ leBytes 1 e.origSource ++ [0] ++ leBytes 4 e.origSeq ++ leBytes 4 0

/-- A cast record's header and section headers (R499); its lengths and CRC follow from the record. -/
def CastRec.headBytes (r : CastRec) : Bytes :=
  let open_ (i : Nat) : Bytes := openEntry 0x0D 4 [r.epoch, r.first, i]
  leBytes 2 0x4352 ++ [1, BitVec.ofNat 8 (b2n r.merged + 2 * b2n r.full.isSome + 4 * b2n r.swap)] ++ leBytes 8 r.epoch ++ open_ 0 ++
    leBytes 8 r.first ++ leBytes 4 0 ++ open_ 11 ++
    ((List.range 10).map (· + 1)).flatMap (fun t => leBytes 1 t ++ (open_ t).take 3)

/-- A receive block (chapter 17) of a filter. -/
def RxFilter.block (x : RxFilter) : Bytes :=
  leBytes 1 x.mac ++ [0] ++ leBytes 2 (x.vlan.getD 0xFFFF) ++ leBytes 4 x.group ++ leBytes 4 (x.srcIp.getD 0) ++ leBytes 2 x.port ++ [0, 0]

/-- A send block (chapter 17) of a template. -/
def TxTemplate.block (x : TxTemplate) : Bytes :=
  leBytes 1 x.mac ++ leBytes 1 x.payloadType ++ leBytes 2 (x.vlan.getD 0xFFFF) ++ leBytes 4 x.dstIp ++ leBytes 2 x.dstPort ++
    leBytes 2 x.srcPort ++ leBytes 2 x.maxPayload ++ leBytes 1 (b2n x.udpCsum + 2 * b2n x.idFixed) ++ [0]

/-- Pairs of 32-bit numbers as 8-byte entries. -/
def pairEntries (l : List (Nat × Nat)) : ReadView := sized 8 (l.map (fun x => leBytes 4 x.1 ++ leBytes 4 x.2))

/-- A block of a map's entries: embedded channel, zero, channel. -/
def mapBytes (l : List (Nat × Nat)) : Bytes := l.flatMap (fun x => leBytes 1 x.1 ++ [0] ++ leBytes 2 x.2)

/-- An object of a class: its SUBJECT, its parameter block and its counters. -/
abbrev ReadEntry := Nat × Bytes × List Nat

namespace State

/-! ## Classes whose entries recreate an object -/

/-- The receive blocks of a flow, Cope then Drag; sixteen zero bytes for a path that is not used. -/
def rxBlocks (s : State) (flow : Nat) : Bytes :=
  [0, 1].flatMap (fun p => ((s.mac.filters.find? (fun x => x.flow == flow && x.path == p)).map RxFilter.block).getD (List.replicate 16 0))

/-- The send blocks of a flow. -/
def txBlocks (s : State) (flow : Nat) : Bytes :=
  [0, 1].flatMap (fun p => ((s.mac.templates.find? (fun x => x.flow == flow && x.path == p)).map TxTemplate.block).getD (List.replicate 16 0))

/-- A TAKE of one route; none routes the output to nothing. -/
def takeBlock (out : Nat) (r : Option Route) : Bytes :=
  leBytes 2 1 ++ [0, 0] ++ leBytes 2 out ++ leBytes 2 ((r.map Route.src).getD 0xFFFF) ++ leBytes 1 ((r.map Route.delay).getD 0) ++
    leBytes 1 ((r.map (fun x => b2n x.afv + 2 * b2n x.anc)).getD 0) ++ [0, 0]

/-- Class 0x02: routes in force, takes that wait for a flip, macro bodies with FIRE_CNT. -/
def readRoutes (s : State) : List ReadEntry :=
  let now (o : VOut) : Option Route := s.activeRoute o.dom o.flow
  let next (o : VOut) : Option Route := s.pat.routes.find? (fun r => r.out == o.flow)
  (s.shk.vouts.filterMap (fun o => (now o).map (fun r => ((o.flow, takeBlock o.flow (some r), []) : ReadEntry)))) ++
    (s.shk.vouts.filterMap (fun o => if now o == next o then none else some ((o.flow, takeBlock o.flow (next o), []) : ReadEntry))) ++
    s.cmd.macros.map (fun m =>
      (m.index, leBytes 1 m.index ++ leBytes 1 (s.fld F.CMD_MACRO_EDGE m.index) ++ leBytes 1 (s.fld F.CMD_MACRO_PIN m.index) ++
        leBytes 1 (s.fld F.CMD_MACRO_ARMED m.index) ++ leBytes 4 0 ++ m.packet, [s.fld F.CMD_MACRO_FIRE_CNT m.index]))

/-- Class 0x06: receive filter entries and header templates. -/
def readFilters (s : State) : List ReadEntry :=
  s.mac.filters.map (fun x => (x.flow, x.block, [])) ++ s.mac.templates.map (fun x => (x.flow, x.block, []))

/-- Class 0x07: ANC flows and audio streams, the inputs with their counters. -/
def readStreams (s : State) : List ReadEntry :=
  (s.lad.flows.filter InFlow.anc).map (fun x =>
    (x.flow, leBytes 2 x.flow ++ leBytes 1 x.dom ++ leBytes 1 x.ladle ++ leBytes 1 x.depth ++ leBytes 1 x.ancTpf ++ leBytes 1 x.paths ++
      [0] ++ leBytes 2 x.mergeHold ++ [0, 0] ++ leBytes 4 x.wireRate ++ s.rxBlocks x.flow, x.counts)) ++
  s.shk.ancOuts.map (fun x =>
    (x.flow, leBytes 2 x.flow ++ leBytes 1 x.dom ++ leBytes 1 x.shakeout ++ leBytes 1 (2 * b2n x.dual) ++ leBytes 1 x.delay ++
      leBytes 2 (x.source.getD 0xFFFF) ++ leBytes 4 x.tsOfs ++ leBytes 4 0 ++ s.txBlocks x.flow, [])) ++
  s.aud.streams.map (fun x =>
    let head := leBytes 2 x.ident ++ leBytes 1 x.enc ++ leBytes 1 x.rate ++ leBytes 1 x.ptime ++ leBytes 1 x.chans ++ leBytes 1 x.unit
    if x.isIn then
      (x.ident, head ++ leBytes 1 x.paths ++ leBytes 2 x.base ++ leBytes 1 x.rxo ++ [0] ++ leBytes 4 x.tsOfs ++ s.rxBlocks x.ident, x.counts)
    else
      (x.ident, head ++ leBytes 1 (if x.paths = 3 then 2 else 0) ++ leBytes 2 x.base ++ [0, 0] ++ leBytes 4 x.tsOfs ++ s.txBlocks x.ident, []))

/-- The SUBJECT numbers of a delay line, an internal channel's meters and a loudness task. -/
def subjBundle (n : Nat) : Nat := 0x4000 + n
def subjMeter (n : Nat) : Nat := 0x8000 + n
def subjTask (core task : Nat) : Nat := 0xD000 + 32 * core + task

/-- Class 0x08: de-embed and embed maps with their slips, delay lines, meters of internal channels, loudness tasks. -/
def readAudio (s : State) : List ReadEntry :=
  s.aud.maps.map (fun m =>
    (m.flow, leBytes 2 m.flow ++ leBytes 1 (b2n m.srcEn) ++ leBytes 1 m.entries.length ++
      (if m.embed then leBytes 1 m.embDly ++ [0, 0, 0] else []) ++ mapBytes m.entries, [m.slips])) ++
  s.aud.delays.map (fun x =>
    (subjBundle x.bundle, leBytes 2 x.bundle ++ leBytes 2 x.label ++ leBytes 2 x.send ++ leBytes 2 x.ret ++ leBytes 1 x.chans ++
      leBytes 1 x.dom ++ leBytes 1 x.rate ++ [0] ++ leBytes 4 x.delay, [])) ++
  s.aud.intMeters.map (fun m => (subjMeter (m.1 % 0x4000), leBytes 4 m.2.1 ++ leBytes 4 m.2.2, [])) ++
  (List.range 68).flatMap (fun c => ((s.core c).tasks.filter (fun t => t.image == 4)).map (fun t =>
    (subjTask c t.index, openEntry 0x08 12 ([c, t.index] ++ (sgetMany zeroByte (s.core c).dmem t.stateBase t.stateLen).map BitVec.toNat), [])))

/-- A TASK_DEFINE block that recreates a task. -/
def taskBlock (s : State) (c : Nat) (t : NwtTask) : Bytes :=
  let raw (l : List Nat) : List Nat :=
    if t.rate96 then (List.range (l.length / 2)).map (fun i => l.getD (2 * i) 0) else l
  let par := if t.startDue then padTo t.parLen t.par else sgetMany zeroByte (s.core c).dmem (if t.page = 0 then t.page0 else t.page1) t.parLen
  let refs := (raw t.ins ++ raw t.outs).flatMap (leBytes 2)
  leBytes 1 c ++ leBytes 1 t.index ++ leBytes 1 t.image ++ leBytes 1 (b2n t.rate96) ++ leBytes 2 (raw t.ins).length ++
    leBytes 2 (raw t.outs).length ++ leBytes 2 t.parLen ++ [0, 0] ++ padTo (pad4 refs.length) refs ++ padTo (pad4 par.length) par

/-- Class 0x09: images as IMAGE_LOAD parts of 16,384 bytes, then tasks. -/
def readNewt (s : State) : List ReadEntry :=
  s.nwt.images.flatMap (fun m =>
    let n := ceilDiv m.bytes.length 16384
    (List.range n).map (fun i =>
      ((m.slot, leBytes 1 m.slot ++ leBytes 1 (b2n (i == 0) + 2 * b2n (i + 1 == n)) ++ [0, 0] ++ leBytes 4 (16384 * i) ++
        slice m.bytes (16384 * i) (min 16384 (m.bytes.length - 16384 * i)), []) : ReadEntry))) ++
  (List.range 68).flatMap (fun c => (s.core c).tasks.map (fun t => ((subjTask c t.index, s.taskBlock c t, []) : ReadEntry)))

/-- The scaler's coefficient tables: 0 of 4 taps, 1 of 8, 64 phases each. -/
def coefRows (k : Nat) : List ReadEntry :=
  (List.range 64).map (fun ph =>
    (0x8000 + k, (List.range (if k = 0 then 4 else 8)).flatMap (fun t => leBytes 2 (Config.scalerCoef k ph t).toNat), []))

/-- Class 0x0A: pending flips by their first surface, mirrored fences by their number, coefficient tables. -/
def readChm (s : State) : List ReadEntry :=
  s.chm.flips.map (fun x =>
    (((x.surfaces.map (·.1)).headD 0x4000), leBytes 1 x.fence ++ leBytes 1 x.surfaces.length ++ [0, 0] ++ leBytes 4 x.target ++
      x.surfaces.flatMap (fun p => leBytes 2 p.1 ++ leBytes 1 p.2 ++ [0]), [])) ++
  s.chm.mirrored.map (fun p => (p.1, leBytes 4 p.1 ++ leBytes 4 p.2, [])) ++ coefRows 0 ++ coefRows 1

/-- Class 0x0B: pending timed commands as their packets, by their source. -/
def readTimed (s : State) : List ReadEntry := s.pat.sched.map (fun t => (t.cmd.src.val, cmdBytes t.op t.cmd, []))

/-- The objects of a class whose entries recreate them. -/
def readObjs (s : State) : Nat → List ReadEntry
  | 0x02 => s.readRoutes
  | 0x06 => s.readFilters
  | 0x07 => s.readStreams
  | 0x08 => s.readAudio
  | 0x09 => s.readNewt
  | 0x0A => s.readChm
  | 0x0B => s.readTimed
  | _ => []

/-- The SUBJECT values of such a class. -/
def readSubjects : Nat → List (Nat × Nat)
  | 0x02 => [(0, 255), (0x0800, 0x0FFF)]
  | 0x06 => [(0, 0x37FF)]
  | 0x07 => [(0x1000, 0x37FF)]
  | 0x08 => [(0, 0x0FFF), (0x4000, 0x4FFF), (0x8000, 0xBFFF), (0xD000, 0xD87F)]
  | 0x09 => [(0, 63), (0xD000, 0xD87F)]
  | 0x0A => [(0, 255), (0x4000, 0x40FF), (0x8000, 0x8001)]
  | 0x0B => [(0, 15)]
  | _ => []

/-! ## The other classes -/

/-- Class 0x01, one part of one bank (R227, R230). -/
def patPart (s : State) (subj : Nat) : List Bytes :=
  let b := s.bank (subj / 4) (subj / 2 % 2)
  if subj % 2 = 0 then (List.range 16384).map (fun i => entryBytes (b.ent i)) else (List.range 4096).map (fun i => entryBytes (b.runE i))

/-- A snapshot's pages (R495): data memory, program memory, then the parameter pages and the task table. -/
def snapPages (q : Snapshot) : List Bytes :=
  let pages := q.tasks.flatMap (fun t => sgetMany zeroByte q.dmem t.page0 t.parLen ++ sgetMany zeroByte q.dmem t.page1 t.parLen)
  let table := q.tasks.flatMap (fun t => openEntry 0x09 32 [t.index, t.image, b2n t.rate96, t.inBase, t.outBase, t.page0, t.page1, t.stateBase, t.page])
  let tail := pages ++ table
  (List.range 8).map (fun i => sgetMany zeroByte q.dmem (32768 * i) 32768) ++
    (List.range 2).map (fun i => sgetMany zeroByte q.pmem (32768 * i) 32768) ++ cutParts (tail.length / 32768) 32768 32768 tail

/-- Class 0x0D: the PTP servo, a DPLL, and the headers of retained and buffered records and of the last transfer. -/
def recordView (s : State) (subj : Nat) : Option ReadView :=
  let servo := openEntry 0x0D 64 ([0, s.tim.base, s.tim.tickBase, s.tim.freq.toNat, (-s.tim.freq).toNat, s.tim.slew.toNat, (-s.tim.slew).toNat] ++
    [s.fld F.TIM_STATUS_SERVO])
  let dpll (d : Nat) : Bytes := openEntry 0x0D 64 ([1 + d, (s.dpllOf d).alBase, (s.dpllOf d).alTick, s.fld F.REF_DPLL_STAT_STATE d] ++
    (s.dpllOf d).lockLog.flatMap (fun x => [x.toNat, (-x).toNat]))
  match subj with
  | 0 => some (sized 64 [servo])
  | 0x10 => some (sized 72 (s.twn.retained.map CastRec.headBytes))
  | 0x11 => some (sized 72 (s.twn.buffered.map CastRec.headBytes))
  | 0x12 => some (sized 72 (s.twn.lastFull.toList.map (fun x => leBytes 2 0x4352 ++ [1, 2] ++ leBytes 8 x.1 ++
      openEntry 0x0D 4 [x.1, x.2, 0] ++ leBytes 8 x.2 ++ leBytes 4 0 ++ openEntry 0x0D 4 [x.1, x.2, 11] ++
      ((List.range 10).map (· + 1)).flatMap (fun t => leBytes 1 t ++ openEntry 0x0D 3 [x.1, x.2, t]))))
  | n => if inRanges [(1, 4)] n then some (sized 64 [dpll (n - 1)]) else none

/-- Class 0x10: records of the interval in progress and those last sent, alarm states, eye maps (R445, R490). -/
def measView (s : State) (subj : Nat) : Option ReadView :=
  let k := s.meas.k % 4294967296
  if 0x8000 ≤ subj then (s.lane.eyeMaps.find? (fun x => x.1 == subj - 0x8000)).map (fun x => sized 4096 (cutParts 8 4096 4096 x.2))
  else if subj = 0x0A then
    some (sized 24 (s.meas.alarms.map (fun x =>
      State.recordBytes 0x0A (s.recordFlags false false false) x.2 k ([0x80000000 + x.1] ++ (List.range 3).map (fun i => u32 (openEntry 0x10 12 [x.1, x.2]) (4 * i))))))
  else if inRanges [(1, 9)] subj then
    let now := (s.measSubjects.filter (fun x => x.1 == subj)).map (fun x =>
      State.recordBytes x.1 (s.recordFlags (decide (x.1 ≤ 6) && !s.meas.known.contains x) false false) x.2 k (s.recordWords x.1 x.2))
    let last := s.meas.lastRecords.flatMap (fun q => (q.dgrams.filter (fun g => g.1 == subj)).flatMap (fun g =>
      let b := g.2.2.drop 32
      cutParts (b.length / recordSize subj) (recordSize subj) (recordSize subj) b))
    some (sized (recordSize subj) (now ++ last))
  else none

/-- An AXL event record (R552): its parameter bytes stand in bytes 16 to 27, little-endian (R4): kind, unit or lane, spare or
position, EPOCH. What else the record holds, and the first four bytes for a tile or a row, is not stated. -/
def axlRecord (e : Event) : Bytes :=
  let rest := openEntry 0x11 20 ([e.severity, e.code, e.epoch, e.tick] ++ e.args)
  let who := if e.code < 0x20 then leBytes 1 (e.args.getD 0 0) ++ leBytes 1 (e.args.getD 1 0) ++ leBytes 2 (e.args.getD 2 0)
    else openEntry 0x11 4 (e.code :: e.args)
  rest.take 16 ++ who ++ leBytes 8 e.epoch ++ rest.drop 16

/-- Class 0x11 (R553). -/
def axlView (s : State) (subj : Nat) : Option ReadView :=
  let unit (k : UnitKind) (u : Nat) : Bytes := leBytes 1 k.num ++ leBytes 1 u ++ leBytes 1 (s.fld (axlState k) u) ++
    leBytes 1 (s.fld (axlRepl k) u) ++ leBytes 4 (s.fld (axlCnt k) u)
  let link (l : Nat) : Bytes := leBytes 1 l ++ leBytes 1 (s.fld F.SPR_LINK_STAT_RX_SEL l) ++ leBytes 1 (s.fld F.SPR_LINK_STAT_TX_BRIDGE l) ++
    leBytes 1 (s.fld F.SPR_LINK_STAT_DEGRADED l + 2 * s.fld F.SPR_LINK_STAT_SPARE_BAD l) ++ leBytes 4 (s.linkRec l).switches
  match subj with
  | 0 => some (sized 8 ([UnitKind.ladle, .shakeout, .newt, .pipe].flatMap (fun k => (List.range (unitCount k)).map (unit k))))
  | 1 => some (sized 8 ((List.range 16).map link))
  | 2 => some (sized 32 ((lastN 256 (s.events.filter (fun e => e.block == blkAxl))).map axlRecord))
  | _ => none

/-- The object that CLASS and SUBJECT select, or the refusal (R495, R613). -/
def readView (s : State) (cls subj : Nat) : Except RefRec ReadView :=
  let all := subj == 0xFFFF
  let bad : Except RefRec ReadView := .error (rej 0x0108 2)
  let opt (x : Option ReadView) : Except RefRec ReadView := match x with
    | some v => .ok v
    | none => bad
  match cls with
  | 0x01 => if all then .ok (sized 16 ((List.range 16).flatMap s.patPart)) else if subj < 16 then .ok (sized 16 (s.patPart subj)) else bad
  | 0x03 =>
    let l := ((s.pool.rings.map Ring.flow).dedup.flatMap (fun f => (s.pool.rings.filter (fun r => r.flow == f)).reverse)).filter
      (fun r => all || r.flow == subj)
    if !all ∧ !inRanges ringIds subj then bad
    else if l.isEmpty ∧ !all then .error (rej 0x030F 2) else .ok (pairEntries (l.flatMap Ring.extents))
  | 0x04 => if all ∨ subj = 0 then .ok (pairEntries s.pool.free) else bad
  | 0x05 =>
    if subj = 0 then .ok (pairEntries s.pool.remap)
    else if subj = 1 then .ok (sized 16 (s.pool.suspect.map (fun x => leBytes 4 x.tile ++ leBytes 4 x.count ++ leBytes 8 x.first)))
    else bad
  | 0x0C => if all ∨ subj = 0 then .ok ⟨32, (s.jnlHead - s.jnl.length) % 4294967296, s.jnl.map JnlEntry.bytes⟩ else bad
  | 0x0D => opt (s.recordView subj)
  | 0x0E =>
    if all then .ok (sized 32 ((List.range 64).map s.slotEntry))
    else if subj < 64 then .ok (sized 32 [s.slotEntry subj])
    else if subj = 0x40 then .ok (sized (min 1536 Config.certificate.length) [Config.certificate])
    else bad
  | 0x0F =>
    if subj = 0 then .ok (sized 512 [s.otp.applied])
    else if subj = 1 then .ok (sized 2 ((List.range 8).map (fun i => leBytes 2 (s.fld F.RST_CNT_COUNT i))))
    else bad
  | 0x10 => opt (if all then none else s.measView subj)
  | 0x11 => opt (if all then none else s.axlView subj)
  | _ =>
    if cls = 0x09 ∧ inRanges [(0x100, 0x103)] subj then
      match s.nwt.snaps.find? (fun q => q.ident == subj - 0x100 && q.copied) with
      | some q => .ok (sized 32768 (snapPages q))
      | none => .error (rej 0x030F 2)
    else if (readSubjects cls).isEmpty then .error (rej 0x0108 0)
    else if !all ∧ !inRanges (readSubjects cls) subj then bad
    else
      let l := (s.readObjs cls).filter (fun x => all || x.1 == subj)
      if l.isEmpty ∧ !all ∧ cls ≠ 0x0B then .error (rej 0x030F 2) else .ok (blockView (l.map (·.2)))

/-! ## Change counts (R471) -/

/-- The entries of a tracked object now. -/
def readKey (s : State) (cls subj : Nat) : List Bytes :=
  match s.readView cls subj with
  | .ok v => v.entries
  | .error _ => []

/-- An object's change count at a boundary. -/
def ReadObj.follow (s : State) (x : ReadObj) : ReadObj :=
  let k := s.readKey x.cls x.subj
  if k == x.key then x else { x with gen := (x.gen + 1) % 4294967296, key := k }

/-- Every change count at a boundary; one starts at a value not stated when its object is first read. -/
def readChanges (s : State) : State :=
  { s with cmd := { s.cmd with reads := s.cmd.reads.map (ReadObj.follow s) } }

/-- The change count of an object that a READ captures. -/
def readGen (s : State) (cls subj : Nat) : Nat × State :=
  match s.cmd.reads.find? (fun x => x.cls == cls && x.subj == subj) with
  | some x =>
    let y := ReadObj.follow s x
    (y.gen, { s with cmd := { s.cmd with reads := s.cmd.reads.map (fun z => if z.cls == cls && z.subj == subj then y else z) } })
  | none =>
    let (g, s) := s.fresh 32
    (g, { s with cmd := { s.cmd with reads := s.cmd.reads ++ [(⟨cls, subj, g, s.readKey cls subj⟩ : ReadObj)] } })

end State

/-- READ (R471, R495): the object header, then as many entries as asked for and as fit. -/
def applyRead (c : Cmd) (s : State) : CmdResult :=
  let (cls, subj, first, most) := (u16 c.params 0, u16 c.params 2, u32 c.params 4, u32 c.params 8)
  guarded [lenIs c 12] fun _ =>
    match s.readView cls subj with
    | .error r => .bad r
    | .ok v =>
      let fit := (maxParams c.src.val - 16) / max 1 v.esize
      let i := (first + 4294967296 - v.base) % 4294967296
      let n := if i < v.entries.length then min (if most = 0 then fit else min fit most) (v.entries.length - i) else 0
      let done := decide (v.entries.length ≤ i + n)
      let next := if done then 0xFFFFFFFF else (first + n) % 4294967296
      let (gen, s) := s.readGen cls subj
      let s : State := if done && cls == 9 && inRanges [(0x100, 0x103)] subj
        then { s with nwt := { s.nwt with snaps := s.nwt.snaps.filter (fun q => q.ident != subj - 0x100) } } else s
      .ok s (leBytes 2 cls ++ leBytes 2 v.esize ++ leBytes 4 first ++ leBytes 4 next ++ leBytes 4 gen ++ ((v.entries.drop i).take n).flatten)

end Sys2Proof.Machine
end

