-- ==== Sys2Proof/Machine/Apply.lean ====
section
/-! DEFINITION. Every opcode's effect by its number (R474), and a command as a cast record carries it (R499, R503). -/

namespace Sys2Proof.Machine

/-- The effects of the command reference's opcodes. -/
def applyTable0 : List (Nat × (Cmd → State → CmdResult)) :=
  [(opSessionOpen, applySessionOpen), (opPing, applyPing), (opIdent, applyIdent), (opModeSet, applyModeSet),
   (opDebugChallenge, applyDebugChallenge), (opDebugUnlock, applyDebugUnlock), (opVinDefine, applyVinDefine),
   (opFlowDelete, applyFlowDelete), (opVinDepth, applyVinDepth), (opAncInDefine, applyAncInDefine),
   (opVoutDefine, applyVoutDefine), (opAncOutDefine, applyAncOutDefine), (opAncOutRoute, applyAncOutRoute),
   (opTestDefine, applyTestDefine), (opTake, applyTake), (opMacroStore, applyMacroStore), (opMacroArm, applyMacroArm),
   (opMacroDelete, applyMacroDelete), (opPatWrite, applyPatWrite), (opPatClear, applyPatClear),
   (opPatShare, applyPatShare), (opSchedCancel, applySchedCancel), (opAstreamIn, applyAstreamIn),
   (opAstreamOut, applyAstreamOut), (opAstreamDelete, applyAstreamDelete), (opXpSet, applyXpSet),
   (opDeembedMap, applyDeembedMap), (opEmbedMap, applyEmbedMap), (opDelayDefine, applyDelayDefine),
   (opDelayDelete, applyDelayDelete)]

def applyTable1 : List (Nat × (Cmd → State → CmdResult)) :=
  [(opAptPort, applyAptPort), (opAptMask, applyAptMask), (opAptTdm, applyAptTdm), (opAptCsTx, applyAptCsTx),
   (opAptRestart, applyAptRestart), (opAudCfg, applyAudCfg), (opImageLoad, applyImageLoad),
   (opImageDelete, applyImageDelete), (opTaskDefine, applyTaskDefine), (opTaskRemove, applyTaskRemove),
   (opTaskParam, applyTaskParam), (opTaskEnable, applyTaskEnable), (opPipeDefine, applyPipeDefine),
   (opPipeDelete, applyPipeDelete), (opLayerSet, applyLayerSet), (opSurfaceDefine, applySurfaceDefine),
   (opSurfaceDelete, applySurfaceDelete), (opSurfaceFlip, applySurfaceFlip), (opFlipCancel, applyFlipCancel),
   (opMeasCfg, applyMeasCfg), (opMeasDest, applyMeasDest), (opAllowStep, applyAllowStep), (opTimSet, applyTimSet),
   (opStepThr, applyStepThr), (opPtpCfg, applyPtpCfg), (opPtpPort, applyPtpPort), (opRefInput, applyRefInput),
   (opDpllCfg, applyDpllCfg), (opRaster, applyRaster), (opClkout, applyClkout)]

def applyTable2 : List (Nat × (Cmd → State → CmdResult)) :=
  [(opOscSel, applyOscSel), (opMacCfg, applyMacCfg), (opMacGate, applyMacGate), (opHlaneCfg, applyHlaneCfg),
   (opSlaneCfg, applySlaneCfg), (opLinkCfg, applyLinkCfg), (opTribSet, applyTribSet), (opMarginCfg, applyMarginCfg),
   (opEyeMap, applyEyeMap), (opPoolCfg, applyPoolCfg), (opPprRun, applyPprRun), (opPoolWindow, applyPoolWindow),
   (opSpareSubst, applySpareSubst), (opTwinCfg, applyTwinCfg), (opPromote, applyPromote), (opResync, applyResync),
   (opRoleSwap, applyRoleSwap), (opEgressLoop, applyEgressLoop), (opKeyWrite, applyKeyWrite),
   (opKeyErase, applyKeyErase), (opAttest, applyAttest), (opReset, applyReset), (opFltClear, applyFltClear),
   (opQuench, applyQuench), (opCauseClear, applyCauseClear), (opRstcntClear, applyRstcntClear),
   (opOptProgram, applyOptProgram), (opRead, applyRead), (opSnapshot, applySnapshot)]

def applyTable : List (Nat × (Cmd → State → CmdResult)) := applyTable0 ++ applyTable1 ++ applyTable2

/-- An opcode's effect: the state after it and its reply, or the refusal. -/
def applyOp (op : Nat) (c : Cmd) (s : State) : CmdResult :=
  match applyTable.find? (fun x => x.1 == op) with
  | some x => x.2 c s
  | none => .bad (rejAll 0x0105)

/-- The state after an opcode's effect; a refusal leaves it. -/
def applyQuiet (op : Nat) (c : Cmd) (s : State) : State :=
  match applyOp op c s with
  | .ok t _ _ _ => t
  | .bad _ => s

/-- Where a command names units and where its reply names those chosen (R475): offsets of one byte in the parameters and in
the payload. -/
def unitFields (op : Nat) (c : Cmd) : List (Nat × Nat) :=
  if op = opVinDefine ∨ op = opVoutDefine then [(4, 0)]
  else if op = opAncInDefine ∨ op = opAncOutDefine then [(3, 0)]
  else if op = opAstreamIn ∨ op = opAstreamOut then [(6, 0)]
  else if op = opTaskDefine then [(0, 0), (1, 1)]
  else if op = opPipeDefine then [(0, 0)]
  else if op = opLayerSet then (List.range (u16 c.params 0)).flatMap (fun i => [(32 + 32 * i, 2 * i), (33 + 32 * i, 2 * i + 1)])
  else []

/-- A command with the units its reply names. -/
def withUnits (op : Nat) (c : Cmd) (payload : Bytes) : Cmd :=
  { c with params := (unitFields op c).foldl (fun b x => b.set x.1 (payload.getD x.2 0)) c.params }

/-- A command as a cast record or the journal's record carries it (R493, R499): without its tag and its checking key, and a
key write without the key. -/
def recorded (op : Nat) (c : Cmd) : Cmd :=
  { c with auth := [], key := [], params := if op = opKeyWrite then c.params.take 1 else c.params }

end Sys2Proof.Machine
end

