-- ==== Sys2Proof/Machine/Arrival.lean ====
section
/-! DEFINITION. Command packets on arrival (R453 to R464): the ordered checks, sequence numbers, admission against the state
that earlier commands leave, held packets, and macros (R287 to R291). -/

namespace Sys2Proof.Machine

/-- A timed command as admission sees it: opcode, packet. -/
abbrev OpCmd := Nat × Cmd

/-- An accepted QUENCH, which a boundary applies before anything else (R20, R494). -/
def Admitted.quenches (a : Admitted) : Bool := a.op == opQuench && a.verdict == .accept

namespace State

/-! ## Time of the cast cycle (R253) -/

/-- Whether D0 line starts end the cast cycles (R23, R26): not in the last line of D0's last frame. -/
def onLines (s : State) : Bool :=
  s.running 0 && (s.flag F.REF_RAS_CFG_EN 0 || (match s.domFmt 0 with
    | some f => decide ((s.rasOf 0).line < f.lines)
    | none => false))

/-- The cast cycle length in force, in ns. -/
def cycleNs (s : State) : Nat :=
  match (if s.running 0 then s.domFmt 0 else none) with
  | some g => max 1 (g.lpN / g.lpD)
  | none => 64000

/-- PTP time in ns at the next cast cycle boundary, as predicted now. -/
def boundaryNs (s : State) : Nat :=
  match (if s.running 0 then s.domFmt 0 else none) with
  | some g => s.ptpNs + s.ticksAhead 0 g 1
  | none => s.ptpNs + (64000 - s.sys.castAge)

/-- The PTP time that a WHEN names, as predicted now. -/
def whenNs (s : State) (c : Cmd) : Nat :=
  if c.whenEpoch then s.boundaryNs + (c.whenF.toNat - (s.sys.epoch + 1)) * s.cycleNs else c.whenF.toNat

/-- The statuses of R253: a WHEN already past, or too close to the boundary of acceptance. -/
def whenCheck (s : State) (c : Cmd) : Option RefRec :=
  let w := c.whenF.toNat
  if c.whenEpoch then
    (if w ≤ s.sys.epoch then some (rejAll 0x0701) else if w < s.sys.epoch + 5 then some (rejAll 0x0702) else none)
  else if w < s.ptpNs then some (rejAll 0x0701)
  else if w < s.boundaryNs + 4 * s.cycleNs then some (rejAll 0x0702)
  else none

/-- The order of R254 between two timed commands: WHEN, then source, then SEQ. -/
def firesBefore (s : State) (a b : OpCmd) : Bool :=
  let (x, y) := (s.whenNs a.2, s.whenNs b.2)
  decide (x < y) || (x == y && (decide (a.2.src.val < b.2.src.val) ||
    (a.2.src.val == b.2.src.val && decide (a.2.seq.toNat < b.2.seq.toNat))))

/-- Put a timed command into its place. -/
def insertTimed (s : State) (x : OpCmd) : List OpCmd → List OpCmd
  | [] => [x]
  | y :: l => if s.firesBefore x y then x :: y :: l else y :: s.insertTimed x l

/-- Every pending timed command, those accepted in this cycle too, in firing order. -/
def pendingTimed (s : State) : List OpCmd :=
  let new := s.cmd.admitted.filter (fun a => a.timed && a.verdict == .accept)
  (s.pat.sched.map (fun t => (t.op, t.cmd)) ++ new.map (fun a => (a.op, a.cmd))).foldl (fun l x => s.insertTimed x l) []

/-! ## The state admission sees (R31, R38, R252) -/

/-- `k` cast cycles ahead, in ns. -/
def cyclesNs (s : State) (k : Nat) : Nat :=
  match (if s.running 0 then s.domFmt 0 else none) with
  | some g => k * g.lpN / g.lpD
  | none => k * 64000

/-- The rasters as predicted `ns` ahead, `k` boundaries on (R34); at a boundary a line of D0 starts, which R23 lets its last
slot stand for. -/
def rastersAhead (s : State) (k ns : Nat) : State :=
  (List.range 4).foldl (fun (s : State) d =>
    match (if s.running d then s.domFmt d else none) with
    | none => s
    | some f =>
      let r := s.rasOf d
      let n := if d = 0 then (if r.slot = 255 then k else k - 1) else (s.tick + ns - r.lineTick) * f.lpD / f.lpN
      let t := (if d = 0 then r.line else max 1 r.line) + n
      s.setRas d ⟨r.frameN + (t - 1) / f.lines, if t = 0 then 0 else (t - 1) % f.lines + 1, if d = 0 then 255 else r.slot,
        r.lineTick + n * f.lpN / f.lpD⟩) s

/-- The state as predicted `ns` ahead, `k` boundaries on (R34). -/
def ahead (s : State) (k ns : Nat) : State :=
  let t := s.rastersAhead k ns
  { t with tick := s.tick + ns, sys := { s.sys with epoch := s.sys.epoch + k, castAge := s.sys.castAge + ns - s.cyclesNs k } }

/-- The state at the next boundary before its commands. -/
def atBoundary (s : State) : State := s.ahead 1 (s.boundaryNs - s.ptpNs)

/-- The state that the untimed commands admitted so far leave. -/
def view (s : State) : State :=
  (s.cmd.admitted.filter (fun a => !a.timed && a.verdict == .accept)).foldl (fun t a => applyQuiet a.op a.cmd t) s.atBoundary

/-- A state with timed commands in force. -/
def withTimed (s : State) (l : List OpCmd) : State := l.foldl (fun t x => applyQuiet x.1 x.2 t) s

/-- Admission of an untimed command (R244, R252): it must pass where earlier commands leave the state, and there with every
pending timed command in force. -/
def admitNow (s : State) (op : Nat) (c : Cmd) : Except RefRec Bytes :=
  let v := s.view
  match applyOp op c v with
  | .bad r => .error r
  | .ok _ p _ _ =>
    if s.pendingTimed.isEmpty then .ok p
    else match applyOp op c (v.withTimed s.pendingTimed) with
      | .bad r => .error r
      | .ok _ _ _ _ => .ok p

/-- Admission of a timed command (R251 to R253): the state it will meet is the present one with every earlier timed command in
force. -/
def admitTimed (s : State) (op : Nat) (c : Cmd) : Except RefRec Bytes :=
  if 4096 ≤ s.pendingTimed.length ∧ !c.isDry then .error (rejRes 0x020C 4096 (s.pendingTimed.length + 1))
  else match s.whenCheck c with
    | some r => .error r
    | none =>
      match applyOp op c (s.atBoundary.withTimed (s.pendingTimed.filter (fun x => s.firesBefore x (op, c)))) with
      | .bad r => .error r
      | .ok _ p _ _ => .ok p

/-! ## Steps 8 to 10 of R453 -/

/-- Whether a source may send an opcode (R456, R479, R493, R498). -/
def permitted (s : State) (op src : Nat) : Bool :=
  let f := op / 256
  if src = 14 then op == opSessionOpen || f == 0x0C || f == 0x0F
  else decide (15 < f) || bitOf (s.fld F.CMD_SRC_CFG_PERM src) f

/-- Whether an opcode's entry names a source (chapter 17). -/
def OpInfo.fromSource (x : OpInfo) (src : Nat) : Bool :=
  x.who == 0 || src == 15 || (x.who == 2 && decide (src < 8))

/-- Key commands come only from CS0 to CS7 and CS15 (R493). -/
def keySource (op src : Nat) : Bool := (op != opKeyWrite && op != opKeyErase) || decide (src < 8) || src == 15

/-- Mode, permission, opcode and TIMED checks: the first that fails. -/
def formCheck (s : State) (op : Nat) (c : Cmd) : Option RefRec :=
  let k := c.src.val
  match opInfo op with
  | none =>
    if s.sys.mode = .quench then some (rejAll 0x0302) else if !s.permitted op k then some (rejAll 0x0402) else some (rejAll 0x0105)
  | some x =>
    firstFail [(!x.acceptedIn s.sys.mode, rejAll 0x0302), (s.sys.mode == .hold && x.hold == .mirrored, rejAll 0x0602),
      (!s.permitted op k || !OpInfo.fromSource x k || !keySource op k, rejAll 0x0402), (c.isTimed && !x.timed, rejAll 0x0106)]

/-- The verdict of steps 8 to 10; a dry run gets the status that the command would (R468, R469). -/
def judge (s : State) (op : Nat) (c : Cmd) : Verdict :=
  let r : Except RefRec Bytes := match s.formCheck op c with
    | some r => .error r
    | none => if c.isTimed then s.admitTimed op c else s.admitNow op c
  match c.isDry, r with
  | true, .ok p => .dry (b2n c.isTimed) (if c.isTimed then [] else p)
  | true, .error r => .dry r.status r.bytes
  | false, .ok _ => .accept
  | false, .error r => .refuse r

/-! ## Replies that consume no SEQ -/

/-- The reply to a packet. -/
def replyOf (_s : State) (c : Cmd) (status : Nat) (epoch time : Option Nat) (payload : Bytes) : Reply :=
  ⟨c.src.val, c.slot, c.rplCap, status, c.tag.toNat, c.seq.toNat, epoch, time, payload, (c.peerIp.toNat, c.peerPort.toNat), c.key⟩

/-- Queue a reply that no source keeps. -/
def queueReply (s : State) (c : Cmd) (r : Reply) : State :=
  { s with cmd := { s.cmd with unreleased := s.cmd.unreleased ++ [(⟨replyOnly, c, r, none, false, false⟩ : Unreleased)] } }

/-- Answer a packet with a refusal that consumes no SEQ and is not journalled. -/
def answer (s : State) (c : Cmd) (r : RefRec) : State :=
  (s.queueReply c (s.replyOf c r.status (some s.sys.epoch) none r.bytes)).release

/-- The ring and endpoint hardware's answer while firmware does not serve (R473). -/
def answerBusy (s : State) (c : Cmd) : State :=
  let r := s.replyOf c 0x0301 (some s.sys.epoch) none (rejAll 0x0301).bytes
  if s.ringOn c.src.val && s.cplFull c.src.val then s.queueReply c r else s.sendReply r false

/-! ## Acceptance (R453, R461, R464) -/

/-- The mode that a role change agreed for the next boundary enters (R513). -/
def swapTarget (s : State) : Option Mode :=
  match s.twn.swapAt with
  | some (e, _, _, _) =>
    if s.sys.epoch + 1 == e && s.twn.swapAck && s.flag F.TWN_STAT_SYNC then
      (match s.sys.mode with
       | .pour => some .hold
       | .hold => some .pour
       | _ => none)
    else none
  | none => none

/-- The mode that the next boundary enters by an admitted change, in the order of R20 (SYS_MODE.TRANS_PEND and TARGET, R17): a
QUENCH, a wake, the leave of R512, a promotion, a role change, the last MODE_SET accepted. -/
def modeTarget (s : State) : Option Mode :=
  let sets := s.cmd.admitted.filter (fun a => a.op == opModeSet && a.verdict == .accept && !a.timed)
  if s.cmd.admitted.any Admitted.quenches then some .quench
  else if s.sys.wakePend && s.sys.mode == .cold then some .melt
  else if s.twn.leave && s.sys.mode == .pour then some .melt
  else if s.twn.promote.isSome && s.sys.mode == .hold && s.flag F.TWN_STAT_SYNC_EVER then some .pour
  else match s.swapTarget, sets.getLast? with
    | some m, none => some m
    | m, some a => if (Mode.ofCode (byteAt a.cmd.params 0)).isSome then Mode.ofCode (byteAt a.cmd.params 0) else m
    | none, none => none

/-- The command consumes its SEQ and waits for the boundary with its verdict. -/
def consume (s : State) (op : Nat) (c : Cmd) (v : Verdict) : State :=
  let k := c.src.val
  let q := c.seq.toNat
  let seen := s.modeTarget.getD s.sys.mode
  let s := s.setFld F.CMD_SRC_SEQ_NEXT_SEQ ((q + 1) % 4294967296) k
  let keep := s.cmd.stored.filter (fun x => !(x.src == k && x.seq == q))
  let s : State := { s with cmd := { s.cmd with
    stored := keep ++ [(⟨k, q, c.hdrCrc.toNat, c.bodyCrc.toNat, none, false⟩ : StoredReply)],
    admitted := s.cmd.admitted ++ [(⟨op, c, v, c.isTimed, seen⟩ : Admitted)] } }
  match v with
  | .refuse r => if r.status = 0x020C then s.setFlag F.PAT_SCHED_STAT_FULL_SEEN true else s
  | .accept => s
  | .dry _ _ => s

/-- Accept held packets whose SEQ has become NEXT_SEQ; the first argument bounds their number. -/
def acceptHeld (k : Nat) : Nat → State → State
  | 0, s => s
  | n + 1, s =>
    let next := s.fld F.CMD_SRC_SEQ_NEXT_SEQ k
    match s.cmd.held.find? (fun h => h.cmd.src.val == k && h.cmd.seq.toNat == next) with
    | none => s
    | some h =>
      let s : State := { s with cmd := { s.cmd with held := s.cmd.held.filter (fun x => !(x.cmd.src.val == k && x.cmd.seq.toNat == next)) } }
      acceptHeld k n (s.consume h.op h.cmd (s.judge h.op h.cmd))

/-- Accept a packet whose SEQ is NEXT_SEQ. -/
def acceptCmd (s : State) (op : Nat) (c : Cmd) : State := acceptHeld c.src.val 16 (s.consume op c (s.judge op c))

/-- A session-open (R461, R462): accepted whatever its SESSION and SEQ. One that is refused or a dry run consumes its SEQ where
that is NEXT_SEQ. -/
def arriveOpen (s : State) (op : Nat) (c : Cmd) : State :=
  let k := c.src.val
  let v := s.view
  let stored := v.pair F.CMD_NET_EP_OPEN_CTR_LO F.CMD_NET_EP_OPEN_CTR_HI (k - 8)
  let sent := u64 c.params 0
  if isNet k ∧ sent ≤ stored ∧ c.params.length = 8 then
    s.answer c { rejAll 0x0403 with limit := stored % 4294967296, demand := sent % 4294967296, extra := stored }
  else
    let j := s.judge op c
    if j = .accept ∨ c.seq.toNat = s.fld F.CMD_SRC_SEQ_NEXT_SEQ k then acceptHeld k 16 (s.consume op c j)
    else match j with
      | .refuse r => s.answer c r
      | .dry st p => (s.queueReply c (s.replyOf c st (some s.sys.epoch) none p)).release
      | .accept => s

/-- A packet whose SEQ lies in the last 256 or is older (R464). -/
def arriveOld (s : State) (c : Cmd) (back : Nat) : State :=
  let k := c.src.val
  match (if back ≤ 256 then s.cmd.stored.find? (fun x => x.src == k && x.seq == c.seq.toNat && x.hdrCrc == c.hdrCrc.toNat &&
      x.bodyCrc == c.bodyCrc.toNat) else none) with
  | none => s.answer c (rejAll 0x0109)
  | some x =>
    if x.lost then s.answer c (rejAll 0x010A)
    else match x.reply with
      | none => s.incFld F.CMD_SRC_CNT_DUP_DROPPED k
      | some r =>
        let s := s.incFld F.CMD_SRC_CNT_DUP_REPLAYED k
        (s.queueReply c { r with slot := c.slot, rplCap := c.rplCap, peer := (c.peerIp.toNat, c.peerPort.toNat) }).release

/-- A packet whose SEQ is ahead (R464): held on a network source, up to 16. -/
def arriveAhead (s : State) (op : Nat) (c : Cmd) : State :=
  let k := c.src.val
  let mine := s.cmd.held.filter (fun h => h.cmd.src.val == k)
  if isNet k then
    if mine.any (fun h => h.cmd.seq == c.seq) then s.incFld F.CMD_SRC_CNT_DUP_DROPPED k
    else if mine.length < 16 then { s with cmd := { s.cmd with held := s.cmd.held ++ [(⟨op, c⟩ : HeldPacket)] } }
    else s.answer c (rejAll 0x0107)
  else s.answer c (rejAll 0x0107)

/-- Steps 6 and 7: the session and the sequence number. -/
def arriveSeq (s : State) (op : Nat) (c : Cmd) : State :=
  let k := c.src.val
  if op = opSessionOpen then s.arriveOpen op c
  else
    let sess := s.view.fld F.CMD_SRC_SEQ_SESSION k
    if sess = 0 ∨ c.session.toNat ≠ sess then s.answer c (rejAll 0x0303)
    else
      let back := (s.fld F.CMD_SRC_SEQ_NEXT_SEQ k + 4294967296 - c.seq.toNat) % 4294967296
      if back = 0 then s.acceptCmd op c else if back < 2147483648 then s.arriveOld c back else s.arriveAhead op c

/-- Steps 0 to 5 on the packet's bytes: a failure is counted, and answered except on the network sources. -/
def arriveChecks (s : State) (op : Nat) (c : Cmd) (b : Bytes) : State :=
  let k := c.src.val
  match packetCheck k b with
  | some st =>
    let s := s.incFld F.CMD_SRC_CNT_HDR_ERR k
    if isNet k then s else s.answer c (rejAll st)
  | none =>
    if isNet k ∧ !tagOk c.key b then
      ((s.incFld F.CMD_SRC_CNT_AUTH_FAIL k).event blkCmd 0 0x0001 [k, c.peerIp.toNat]).raise fltCmdAuth [k]
    else s.arriveSeq op c

/-- The key that a network endpoint checks a packet with, when the packet comes from the allowed peer and the slot is usable
(R459, R460, R561). -/
def netKey (s : State) (c : Cmd) : Option Bytes :=
  let n := c.src.val - 8
  let peer := s.fld F.CMD_NET_EP_PEER_IP n
  if peer ≠ 0 ∧ peer ≠ c.peerIp.toNat then none else (s.slotKey (s.fld F.CMD_NET_EP_KEY_SLOT n)).map (·.2)

/-- A packet on an endpoint or another transport, once its bytes are there. -/
def arriveServed (s : State) (op : Nat) (c : Cmd) (b : Bytes) : State :=
  let k := c.src.val
  if !s.fwServes then (if k < 12 then s.answerBusy c else s)
  else if 256 ≤ s.outstanding k then
    (if k < 8 then s else (s.incFld F.CMD_SRC_CNT_FULL k).answer c (rejAll 0x0307))
  else s.arriveChecks op c b

/-- A packet arrives at a source (R453, R473). In Cold no source is served; CS13 receives none; CS12's come from its macros. -/
def arrive (s : State) (op : Nat) (c : Cmd) (b : Bytes) : State :=
  let k := c.src.val
  if s.sys.mode = .cold ∨ !s.rst.aUp ∨ k = 12 ∨ k = 13 ∨ !s.flag F.CMD_SRC_CFG_EN k then s
  else if k < 8 ∧ !s.rst.hUp then s
  else if isNet k then
    if !s.flag F.CMD_NET_EP_EN (k - 8) then s
    else match s.netKey c with
      | none => s.incFld F.CMD_SRC_CNT_AUTH_FAIL k
      | some key => s.arriveServed op { c with key := key } b
  else s.arriveServed op c b

/-! ## GPI macros (R287 to R291, R463) -/

/-- A macro's firing is recorded: LAST_STATUS and an event with the macro, the status, the applied EPOCH and the latest
FLIP_EPOCH. -/
def macroDone (s : State) (i status epoch flip : Nat) : State :=
  (s.setFld F.CMD_MACRO_LAST_STATUS status i).event blkCmd 0 0x0002 [i, status, epoch, flip]

/-- CS12 submits a command: the device numbers it, and SEQ, SESSION and TIMED of the packet are not used. -/
def submit12 (s : State) (op : Nat) (c : Cmd) : State :=
  let c := { c with src := 12, seq := BitVec.ofNat 32 (s.fld F.CMD_SRC_SEQ_NEXT_SEQ 12), flags := c.flags &&& 0xFD#8,
                    session := BitVec.ofNat 32 (s.fld F.CMD_SRC_SEQ_SESSION 12) }
  if !s.flag F.CMD_SRC_CFG_EN 12 then s else s.consume op c (s.judge op c)

/-- Fire a macro. -/
def fireMacro (s : State) (i : Nat) : State :=
  match macroBody s i with
  | none => s
  | some m =>
    let s := s.incFld F.CMD_MACRO_FIRE_CNT i
    let s : State := { s with twn := { s.twn with macroNow := s.twn.macroNow ++ [i] } }
    if s.sys.mode = .hold then s.setFld F.CMD_MACRO_LAST_STATUS 0x0607 i
    else
      let (op, c) := parseCmd 12 i 65536 0 0 m.packet
      s.submit12 op c

/-- Armed macros bound to a pin's edge, in ascending index (R289). -/
def macrosOn (s : State) (pin : Nat) (level : Bool) : List Nat :=
  (List.range 256).filter (fun i => (macroBody s i).isSome && s.flag F.CMD_MACRO_ARMED i && s.fld F.CMD_MACRO_PIN i == pin &&
    (s.fld F.CMD_MACRO_EDGE i == 2 || s.fld F.CMD_MACRO_EDGE i == (if level then 0 else 1)))

/-- Queue a trigger (R290); the 65th is discarded and counted. -/
def queueTrigger (s : State) (pin : Nat) (level : Bool) : State :=
  if s.cmd.trigQ.length < 64 then
    let s : State := { s with cmd := { s.cmd with trigQ := s.cmd.trigQ ++ [pin + 64 * b2n level] } }
    s.setFld F.CMD_MACRO_STAT_QUEUED s.cmd.trigQ.length
  else
    let s := s.incFld F.CMD_MACRO_STAT_QUEUE_DROP
    { s with cmd := { s.cmd with trigLost := s.cmd.trigLost ++ [pin] } }

/-- An accepted edge reaches CS12 (R288 to R291, R454): it waits while firmware does not serve, the source is full
or an earlier edge waits. -/
def trigger (s : State) (pin : Nat) (level : Bool) : State :=
  if !s.fwServes ∨ !s.cmd.trigQ.isEmpty then s.queueTrigger pin level
  else
    let l := s.macrosOn pin level
    if s.sys.mode ≠ .hold ∧ !l.isEmpty ∧ 256 < s.outstanding 12 + l.length then s.queueTrigger pin level
    else l.foldl (fun (s : State) i => s.fireMacro i) s

/-- Write the events of discarded triggers, and fire the queued ones in the order of their edges (R290). -/
def drainTriggers (s : State) : State :=
  if !s.fwServes then s
  else
    let q := s.cmd.trigQ
    let s := s.cmd.trigLost.foldl (fun (s : State) p => s.event blkCmd 0 0x0003 [p]) s
    let s : State := { s with cmd := { s.cmd with trigQ := [], trigLost := [] } }
    let s := q.foldl (fun (s : State) e => s.trigger (e % 64) (decide (64 ≤ e))) s
    s.setFld F.CMD_MACRO_STAT_QUEUED s.cmd.trigQ.length

/-! ## A command row -/

/-- A command of the table arrives as a packet on its source; on CS12 a firing of a macro that holds it. -/
def commandRow (s : State) (op : Nat) (c : Cmd) : State :=
  if c.src.val = 12 then
    (if s.sys.mode = .cold ∨ !s.fwServes ∨ s.sys.mode = .hold ∨ 256 ≤ s.outstanding 12 then s else s.submit12 op c)
  else
    let b := cmdBytes op c
    let c := if c.params.length = c.paramLen.toNat then c else (parseCmd c.src c.slot c.rplCap c.peerIp c.peerPort b).2
    s.arrive op { c with key := [] } b

end State

end Sys2Proof.Machine
end

