-- ==== Sys2Proof/Machine/Commands.lean ====
section
/-! DEFINITION. The command rows of the table: each is a packet with that opcode arriving on its source (R453). What it does there
is `State.arrive`, and what its application does is its own `applyX`. -/

namespace Sys2Proof.Machine

/-- SESSION_OPEN (R461). -/
def execSessionOpen (c : Cmd) (s : State) : Host.Outcome State Fault Refusal := runEff (fun s => s.commandRow opSessionOpen c) s

/-- PING (R474). -/
def execPing (c : Cmd) (s : State) : Host.Outcome State Fault Refusal := runEff (fun s => s.commandRow opPing c) s

/-- IDENT (R474). -/
def execIdent (c : Cmd) (s : State) : Host.Outcome State Fault Refusal := runEff (fun s => s.commandRow opIdent c) s

/-- MODE_SET (R478). -/
def execModeSet (c : Cmd) (s : State) : Host.Outcome State Fault Refusal := runEff (fun s => s.commandRow opModeSet c) s

/-- DEBUG_CHALLENGE (R479). -/
def execDebugChallenge (c : Cmd) (s : State) : Host.Outcome State Fault Refusal := runEff (fun s => s.commandRow opDebugChallenge c) s

/-- DEBUG_UNLOCK (R479). -/
def execDebugUnlock (c : Cmd) (s : State) : Host.Outcome State Fault Refusal := runEff (fun s => s.commandRow opDebugUnlock c) s

/-- VIN_DEFINE (R172). -/
def execVinDefine (c : Cmd) (s : State) : Host.Outcome State Fault Refusal := runEff (fun s => s.commandRow opVinDefine c) s

/-- FLOW_DELETE (R480). -/
def execFlowDelete (c : Cmd) (s : State) : Host.Outcome State Fault Refusal := runEff (fun s => s.commandRow opFlowDelete c) s

/-- VIN_DEPTH (R174). -/
def execVinDepth (c : Cmd) (s : State) : Host.Outcome State Fault Refusal := runEff (fun s => s.commandRow opVinDepth c) s

/-- ANC_IN_DEFINE (R192). -/
def execAncInDefine (c : Cmd) (s : State) : Host.Outcome State Fault Refusal := runEff (fun s => s.commandRow opAncInDefine c) s

/-- VOUT_DEFINE (R294). -/
def execVoutDefine (c : Cmd) (s : State) : Host.Outcome State Fault Refusal := runEff (fun s => s.commandRow opVoutDefine c) s

/-- ANC_OUT_DEFINE (R305). -/
def execAncOutDefine (c : Cmd) (s : State) : Host.Outcome State Fault Refusal := runEff (fun s => s.commandRow opAncOutDefine c) s

/-- ANC_OUT_ROUTE (R286). -/
def execAncOutRoute (c : Cmd) (s : State) : Host.Outcome State Fault Refusal := runEff (fun s => s.commandRow opAncOutRoute c) s

/-- TEST_DEFINE (R317). -/
def execTestDefine (c : Cmd) (s : State) : Host.Outcome State Fault Refusal := runEff (fun s => s.commandRow opTestDefine c) s

/-- TAKE (R273). -/
def execTake (c : Cmd) (s : State) : Host.Outcome State Fault Refusal := runEff (fun s => s.commandRow opTake c) s

/-- MACRO_STORE (R481). -/
def execMacroStore (c : Cmd) (s : State) : Host.Outcome State Fault Refusal := runEff (fun s => s.commandRow opMacroStore c) s

/-- MACRO_ARM (R288). -/
def execMacroArm (c : Cmd) (s : State) : Host.Outcome State Fault Refusal := runEff (fun s => s.commandRow opMacroArm c) s

/-- MACRO_DELETE (R287). -/
def execMacroDelete (c : Cmd) (s : State) : Host.Outcome State Fault Refusal := runEff (fun s => s.commandRow opMacroDelete c) s

/-- PAT_WRITE (R482). -/
def execPatWrite (c : Cmd) (s : State) : Host.Outcome State Fault Refusal := runEff (fun s => s.commandRow opPatWrite c) s

/-- PAT_CLEAR (R482). -/
def execPatClear (c : Cmd) (s : State) : Host.Outcome State Fault Refusal := runEff (fun s => s.commandRow opPatClear c) s

/-- PAT_SHARE (R246). -/
def execPatShare (c : Cmd) (s : State) : Host.Outcome State Fault Refusal := runEff (fun s => s.commandRow opPatShare c) s

/-- SCHED_CANCEL (R483). -/
def execSchedCancel (c : Cmd) (s : State) : Host.Outcome State Fault Refusal := runEff (fun s => s.commandRow opSchedCancel c) s

/-- ASTREAM_IN (R362). -/
def execAstreamIn (c : Cmd) (s : State) : Host.Outcome State Fault Refusal := runEff (fun s => s.commandRow opAstreamIn c) s

/-- ASTREAM_OUT (R366). -/
def execAstreamOut (c : Cmd) (s : State) : Host.Outcome State Fault Refusal := runEff (fun s => s.commandRow opAstreamOut c) s

/-- ASTREAM_DELETE (R484). -/
def execAstreamDelete (c : Cmd) (s : State) : Host.Outcome State Fault Refusal := runEff (fun s => s.commandRow opAstreamDelete c) s

/-- XP_SET (R371). -/
def execXpSet (c : Cmd) (s : State) : Host.Outcome State Fault Refusal := runEff (fun s => s.commandRow opXpSet c) s

/-- DEEMBED_MAP (R373). -/
def execDeembedMap (c : Cmd) (s : State) : Host.Outcome State Fault Refusal := runEff (fun s => s.commandRow opDeembedMap c) s

/-- EMBED_MAP (R374). -/
def execEmbedMap (c : Cmd) (s : State) : Host.Outcome State Fault Refusal := runEff (fun s => s.commandRow opEmbedMap c) s

/-- DELAY_DEFINE (R376). -/
def execDelayDefine (c : Cmd) (s : State) : Host.Outcome State Fault Refusal := runEff (fun s => s.commandRow opDelayDefine c) s

/-- DELAY_DELETE (R376). -/
def execDelayDelete (c : Cmd) (s : State) : Host.Outcome State Fault Refusal := runEff (fun s => s.commandRow opDelayDelete c) s

/-- APT_PORT (R417). -/
def execAptPort (c : Cmd) (s : State) : Host.Outcome State Fault Refusal := runEff (fun s => s.commandRow opAptPort c) s

/-- APT_MASK (R425). -/
def execAptMask (c : Cmd) (s : State) : Host.Outcome State Fault Refusal := runEff (fun s => s.commandRow opAptMask c) s

/-- APT_TDM (R423). -/
def execAptTdm (c : Cmd) (s : State) : Host.Outcome State Fault Refusal := runEff (fun s => s.commandRow opAptTdm c) s

/-- APT_CS_TX (R422). -/
def execAptCsTx (c : Cmd) (s : State) : Host.Outcome State Fault Refusal := runEff (fun s => s.commandRow opAptCsTx c) s

/-- APT_RESTART (R429). -/
def execAptRestart (c : Cmd) (s : State) : Host.Outcome State Fault Refusal := runEff (fun s => s.commandRow opAptRestart c) s

/-- AUD_CFG (R365). -/
def execAudCfg (c : Cmd) (s : State) : Host.Outcome State Fault Refusal := runEff (fun s => s.commandRow opAudCfg c) s

/-- IMAGE_LOAD (R486). -/
def execImageLoad (c : Cmd) (s : State) : Host.Outcome State Fault Refusal := runEff (fun s => s.commandRow opImageLoad c) s

/-- IMAGE_DELETE (R485). -/
def execImageDelete (c : Cmd) (s : State) : Host.Outcome State Fault Refusal := runEff (fun s => s.commandRow opImageDelete c) s

/-- TASK_DEFINE (R412). -/
def execTaskDefine (c : Cmd) (s : State) : Host.Outcome State Fault Refusal := runEff (fun s => s.commandRow opTaskDefine c) s

/-- TASK_REMOVE (R412). -/
def execTaskRemove (c : Cmd) (s : State) : Host.Outcome State Fault Refusal := runEff (fun s => s.commandRow opTaskRemove c) s

/-- TASK_PARAM (R389). -/
def execTaskParam (c : Cmd) (s : State) : Host.Outcome State Fault Refusal := runEff (fun s => s.commandRow opTaskParam c) s

/-- TASK_ENABLE (R409). -/
def execTaskEnable (c : Cmd) (s : State) : Host.Outcome State Fault Refusal := runEff (fun s => s.commandRow opTaskEnable c) s

/-- PIPE_DEFINE (R321). -/
def execPipeDefine (c : Cmd) (s : State) : Host.Outcome State Fault Refusal := runEff (fun s => s.commandRow opPipeDefine c) s

/-- PIPE_DELETE (R487). -/
def execPipeDelete (c : Cmd) (s : State) : Host.Outcome State Fault Refusal := runEff (fun s => s.commandRow opPipeDelete c) s

/-- LAYER_SET (R325). -/
def execLayerSet (c : Cmd) (s : State) : Host.Outcome State Fault Refusal := runEff (fun s => s.commandRow opLayerSet c) s

/-- SURFACE_DEFINE (R340). -/
def execSurfaceDefine (c : Cmd) (s : State) : Host.Outcome State Fault Refusal := runEff (fun s => s.commandRow opSurfaceDefine c) s

/-- SURFACE_DELETE (R345). -/
def execSurfaceDelete (c : Cmd) (s : State) : Host.Outcome State Fault Refusal := runEff (fun s => s.commandRow opSurfaceDelete c) s

/-- SURFACE_FLIP (R347). -/
def execSurfaceFlip (c : Cmd) (s : State) : Host.Outcome State Fault Refusal := runEff (fun s => s.commandRow opSurfaceFlip c) s

/-- FLIP_CANCEL (R487). -/
def execFlipCancel (c : Cmd) (s : State) : Host.Outcome State Fault Refusal := runEff (fun s => s.commandRow opFlipCancel c) s

/-- MEAS_CFG (R436). -/
def execMeasCfg (c : Cmd) (s : State) : Host.Outcome State Fault Refusal := runEff (fun s => s.commandRow opMeasCfg c) s

/-- MEAS_DEST (R447). -/
def execMeasDest (c : Cmd) (s : State) : Host.Outcome State Fault Refusal := runEff (fun s => s.commandRow opMeasDest c) s

/-- ALLOW_STEP (R52). -/
def execAllowStep (c : Cmd) (s : State) : Host.Outcome State Fault Refusal := runEff (fun s => s.commandRow opAllowStep c) s

/-- TIM_SET (R53). -/
def execTimSet (c : Cmd) (s : State) : Host.Outcome State Fault Refusal := runEff (fun s => s.commandRow opTimSet c) s

/-- STEP_THR (R50). -/
def execStepThr (c : Cmd) (s : State) : Host.Outcome State Fault Refusal := runEff (fun s => s.commandRow opStepThr c) s

/-- PTP_CFG (R611). -/
def execPtpCfg (c : Cmd) (s : State) : Host.Outcome State Fault Refusal := runEff (fun s => s.commandRow opPtpCfg c) s

/-- PTP_PORT (R55). -/
def execPtpPort (c : Cmd) (s : State) : Host.Outcome State Fault Refusal := runEff (fun s => s.commandRow opPtpPort c) s

/-- REF_INPUT (R74). -/
def execRefInput (c : Cmd) (s : State) : Host.Outcome State Fault Refusal := runEff (fun s => s.commandRow opRefInput c) s

/-- DPLL_CFG (R80). -/
def execDpllCfg (c : Cmd) (s : State) : Host.Outcome State Fault Refusal := runEff (fun s => s.commandRow opDpllCfg c) s

/-- RASTER (R488). -/
def execRaster (c : Cmd) (s : State) : Host.Outcome State Fault Refusal := runEff (fun s => s.commandRow opRaster c) s

/-- CLKOUT (R94). -/
def execClkout (c : Cmd) (s : State) : Host.Outcome State Fault Refusal := runEff (fun s => s.commandRow opClkout c) s

/-- OSC_SEL (R91). -/
def execOscSel (c : Cmd) (s : State) : Host.Outcome State Fault Refusal := runEff (fun s => s.commandRow opOscSel c) s

/-- MAC_CFG (R489). -/
def execMacCfg (c : Cmd) (s : State) : Host.Outcome State Fault Refusal := runEff (fun s => s.commandRow opMacCfg c) s

/-- MAC_GATE (R147). -/
def execMacGate (c : Cmd) (s : State) : Host.Outcome State Fault Refusal := runEff (fun s => s.commandRow opMacGate c) s

/-- HLANE_CFG (R96). -/
def execHlaneCfg (c : Cmd) (s : State) : Host.Outcome State Fault Refusal := runEff (fun s => s.commandRow opHlaneCfg c) s

/-- SLANE_CFG (R101). -/
def execSlaneCfg (c : Cmd) (s : State) : Host.Outcome State Fault Refusal := runEff (fun s => s.commandRow opSlaneCfg c) s

/-- LINK_CFG (R132). -/
def execLinkCfg (c : Cmd) (s : State) : Host.Outcome State Fault Refusal := runEff (fun s => s.commandRow opLinkCfg c) s

/-- TRIB_SET (R132). -/
def execTribSet (c : Cmd) (s : State) : Host.Outcome State Fault Refusal := runEff (fun s => s.commandRow opTribSet c) s

/-- MARGIN_CFG (R125). -/
def execMarginCfg (c : Cmd) (s : State) : Host.Outcome State Fault Refusal := runEff (fun s => s.commandRow opMarginCfg c) s

/-- EYE_MAP (R490). -/
def execEyeMap (c : Cmd) (s : State) : Host.Outcome State Fault Refusal := runEff (fun s => s.commandRow opEyeMap c) s

/-- POOL_CFG (R491). -/
def execPoolCfg (c : Cmd) (s : State) : Host.Outcome State Fault Refusal := runEff (fun s => s.commandRow opPoolCfg c) s

/-- PPR_RUN (R492). -/
def execPprRun (c : Cmd) (s : State) : Host.Outcome State Fault Refusal := runEff (fun s => s.commandRow opPprRun c) s

/-- POOL_WINDOW (R220). -/
def execPoolWindow (c : Cmd) (s : State) : Host.Outcome State Fault Refusal := runEff (fun s => s.commandRow opPoolWindow c) s

/-- SPARE_SUBST (R491). -/
def execSpareSubst (c : Cmd) (s : State) : Host.Outcome State Fault Refusal := runEff (fun s => s.commandRow opSpareSubst c) s

/-- TWIN_CFG (R496). -/
def execTwinCfg (c : Cmd) (s : State) : Host.Outcome State Fault Refusal := runEff (fun s => s.commandRow opTwinCfg c) s

/-- PROMOTE (R513). -/
def execPromote (c : Cmd) (s : State) : Host.Outcome State Fault Refusal := runEff (fun s => s.commandRow opPromote c) s

/-- RESYNC (R515). -/
def execResync (c : Cmd) (s : State) : Host.Outcome State Fault Refusal := runEff (fun s => s.commandRow opResync c) s

/-- ROLE_SWAP (R513). -/
def execRoleSwap (c : Cmd) (s : State) : Host.Outcome State Fault Refusal := runEff (fun s => s.commandRow opRoleSwap c) s

/-- EGRESS_LOOP (R518). -/
def execEgressLoop (c : Cmd) (s : State) : Host.Outcome State Fault Refusal := runEff (fun s => s.commandRow opEgressLoop c) s

/-- KEY_WRITE (R557). -/
def execKeyWrite (c : Cmd) (s : State) : Host.Outcome State Fault Refusal := runEff (fun s => s.commandRow opKeyWrite c) s

/-- KEY_ERASE (R558). -/
def execKeyErase (c : Cmd) (s : State) : Host.Outcome State Fault Refusal := runEff (fun s => s.commandRow opKeyErase c) s

/-- ATTEST (R564). -/
def execAttest (c : Cmd) (s : State) : Host.Outcome State Fault Refusal := runEff (fun s => s.commandRow opAttest c) s

/-- RESET (R494). -/
def execReset (c : Cmd) (s : State) : Host.Outcome State Fault Refusal := runEff (fun s => s.commandRow opReset c) s

/-- FLT_CLEAR (R543). -/
def execFltClear (c : Cmd) (s : State) : Host.Outcome State Fault Refusal := runEff (fun s => s.commandRow opFltClear c) s

/-- QUENCH (R494). -/
def execQuench (c : Cmd) (s : State) : Host.Outcome State Fault Refusal := runEff (fun s => s.commandRow opQuench c) s

/-- CAUSE_CLEAR (R525). -/
def execCauseClear (c : Cmd) (s : State) : Host.Outcome State Fault Refusal := runEff (fun s => s.commandRow opCauseClear c) s

/-- RSTCNT_CLEAR (R539). -/
def execRstcntClear (c : Cmd) (s : State) : Host.Outcome State Fault Refusal := runEff (fun s => s.commandRow opRstcntClear c) s

/-- OPT_PROGRAM (R537). -/
def execOptProgram (c : Cmd) (s : State) : Host.Outcome State Fault Refusal := runEff (fun s => s.commandRow opOptProgram c) s

/-- READ (R471). -/
def execRead (c : Cmd) (s : State) : Host.Outcome State Fault Refusal := runEff (fun s => s.commandRow opRead c) s

/-- SNAPSHOT (R413). -/
def execSnapshot (c : Cmd) (s : State) : Host.Outcome State Fault Refusal := runEff (fun s => s.commandRow opSnapshot c) s

end Sys2Proof.Machine
end

