-- ==== Sys2Proof/Machine/Gpio.lean ====
section
/-! DEFINITION. GPIO events and quarantine (R608, R609), and the VDD_CORE setpoint (R599). -/

namespace Sys2Proof.Machine

namespace State

/-! ## Events and quarantine (R608, R609) -/

/-- Whether an OTP WAKE_MASK bit is set (R533). -/
def wakeMask (s : State) (pin : Nat) : Bool := (byteAt s.otp.applied (8 + pin / 8)).testBit (pin % 8)

/-- An accepted event of a pin that is not quarantined: counted in all and in the window. Past the window's limit the pin is
quarantined and nothing follows; else it wakes the device or triggers macros. -/
def gpioAccepted (s : State) (pin : Nat) (level : Bool) : State :=
  let s := s.incFld F.GPIO_PIN_STAT_EVT_CNT pin
  let n := sget (fun _ => 0) s.gpio.window pin + 1
  let s : State := { s with gpio := { s.gpio with window := sset (fun _ => 0) s.gpio.window pin n } }
  if s.fld F.GPIO_PIN_LIM_EVT_LIMIT pin < n then s.setFlag F.GPIO_PIN_STAT_QUARANTINE true pin
  else if s.sys.mode = .cold then
    (if s.wakeMask pin then { s with sys := { s.sys with wakePend := true } } else s)
  else s.trigger pin level

/-- A change of a pin's level that has been stable for DEBOUNCE. -/
def gpioEvent (s : State) (pin : Nat) (level : Bool) : State :=
  if 64 ≤ pin ∨ !s.rst.aUp ∨ s.flag F.GPIO_PIN_STAT_IN pin = level then s
  else
    let s := s.setFlag F.GPIO_PIN_STAT_IN level pin
    if s.flag F.GPIO_PIN_STAT_QUARANTINE pin then s else s.gpioAccepted pin level

/-! ## VDD_CORE (R599) -/

/-- A nanosecond of the 100 ms that a setpoint command counts in. -/
def vddClock (s : State) : State :=
  { s with gpio := { s.gpio with vddAge := s.gpio.vddAge.filterMap (fun a => if a + 1 < 100000000 then some (a + 1) else none) } }

/-- One step of the setpoint: it counts in the 100 ms from now. -/
def vddMove (s : State) (mv : Nat) (ack : Bool) : State :=
  let s := s.voutSend mv
  let age := 0 :: s.gpio.vddAge
  if ack then { s with gpio := { s.gpio with vddSet := mv, vddAge := age } }
  else { s with gpio := { s.gpio with vddRetry := some mv, vddAge := age } }

end State

/-- GPIO_EVENT (R608). -/
def execGpioEvent (pin : Nat) (level : Bool) (s : State) : Host.Outcome State Fault Refusal :=
  runEff (fun s => s.gpioEvent pin level) s

/-- GPIO_WINDOW_END (R609): the counts of the 1 s windows start anew. -/
def execGpioWindowEnd (s : State) : Host.Outcome State Fault Refusal :=
  runEff (fun s => { s with gpio := { s.gpio with window := [] } }) s

/-- QUARANTINE (R609): a write of 1 re-arms the pin. -/
def execQuarantine (pin : Nat) (s : State) : Host.Outcome State Fault Refusal :=
  runEff (fun s => if 64 ≤ pin ∨ !s.rst.aUp then s else s.setFlag F.GPIO_PIN_STAT_QUARANTINE false pin) s

/-- VDD_CORE_SETPOINT_STEP (R599): one step of 5 mV within 0.70 to 0.80 V, at most two in 100 ms; `ack` whether the regulator
acknowledges it. -/
def execVddCoreSetpointStep (up ack : Bool) (s : State) : Host.Outcome State Fault Refusal :=
  runEff (fun s =>
    let mv := if up then s.gpio.vddSet + 5 else s.gpio.vddSet - 5
    if !s.rst.aStep ∨ s.gpio.vddRetry.isSome ∨ 2 ≤ s.gpio.vddAge.length ∨ mv < 700 ∨ 800 < mv then s
    else s.vddMove mv ack) s

/-- PMBUS_RETRY_EXPIRY (R599): 1 ms after a command without acknowledgement the device sends it again. Without one again it
keeps its setpoint and writes an event. -/
def execPmbusRetryExpiry (ack : Bool) (s : State) : Host.Outcome State Fault Refusal :=
  runEff (fun s =>
    match s.gpio.vddRetry with
    | none => s
    | some mv =>
      let s : State := State.voutSend { s with gpio := { s.gpio with vddRetry := none } } mv
      if ack then { s with gpio := { s.gpio with vddSet := mv } } else s.event blkMeas 0 0x0200 [mv, s.gpio.vddSet]) s

end Sys2Proof.Machine
end

