-- ==== Sys2Proof/Machine/Mirror.lean ====
section
/-! DEFINITION. Cast records (R499 to R507) and full-state transfers (R515, R516): what an active gathers and sends, what a
standby does with a record, and the frames of the Akestim link. -/

namespace Sys2Proof.Machine

/-- The bits of a register word that belong to mirrored state (R505): definitions, routes, banks, layers, surfaces, audio maps
and delay lines, tasks, audio ports, macros, rasters and tributaries. -/
def mirrorMask (a : Nat) : Word :=
  let within (l : List (Nat × Nat)) : Bool := l.any (fun p => decide (p.1 ≤ a) && decide (a < p.2))
  let r (b n : Nat) : Bool := decide (b ≤ a % n) && decide (a % n < b + 4)
  if within [(0xB40000, 0xB60000), (0xD20000, 0xD40000), (0xE40000, 0xE60000), (0xF40000, 0xF80000), (0xFC0000, 0xFE0000),
      (0x1000000, 0x1000008), (0x1000020, 0x1000030), (0x1040000, 0x1080000), (0x1200000, 0x1200004)] then 0xFFFFFFFF
  else if within [(0x480000, 0x481000)] then (if a % 0x10 = 0 then 0xFFFFFFFF else 0)
  else if within [(0xD00000, 0xD00400)] then (if r 0 0x100 || r 4 0x100 || r 0x30 0x100 || r 0x34 0x100 || r 0x38 0x100 then 0xFFFFFFFF else 0)
  else if within [(0xF00000, 0xF02200)] then (if r 0 0x100 || r 4 0x100 then 0xFFFFFFFF else 0)
  else if within [(0x1100000, 0x1144000)] then
    (if r 0 0x1000 then 0x0FFFFFFF else if decide (0x100 ≤ a % 0x1000) && (a % 0x20 == 0 || a % 0x20 == 4) then 0xFFFFFFFF else 0)
  else if within [(0x1210000, 0x1211000)] then
    (if decide (a % 0x100 < 8) || (decide (0x10 ≤ a % 0x100) && decide (a % 0x100 < 0x20)) ||
      (decide (0xC0 ≤ a % 0x100) && decide (a % 0x100 < 0xF0)) then 0xFFFFFFFF else 0)
  else if within [(0x680000, 0x680400)] then (if r 0 0x100 || r 4 0x100 then 0xFFFFFFFF else 0)
  else if within [(0x900000, 0xA00000)] then
    (if decide (0x1000 ≤ a % 0x10000) && decide (a % 0x10000 < 0x2000) then 0xFFFFFFFF else 0)
  else 0

/-- Event codes of the twin controller. -/
def twnApplyFailed : Nat := 0x0002
def twnGap : Nat := 0x0003
def twnEpoch : Nat := 0x0004
def twnFiring : Nat := 0x0005

/-- Bytes of a command's entry in section 0x01: the packet without its tag and the decision block (R499). -/
def recCmdSize (c : Cmd) : Nat := 36 + c.params.length + 32

/-- Bytes of a record, counted from its header and its section 0x01. -/
def CastRec.size (r : CastRec) : Nat := r.cmds.foldl (fun n x => n + recCmdSize x.cmd) 36

/-- A standby's buffer during a transfer (R515): 8 MiB. -/
def bufferLimit : Nat := 8388608

namespace State

/-! ## What a record carries (R499) -/

/-- Section 0x02 of a domain: FLIP_PEND stands for any flip that a write waits for. -/
def recBank (s : State) (d : Nat) : RecBank :=
  let p := s.patDom d
  let pend := s.flag F.PAT_BANK_FLIP_PEND d || p.flipReq || p.deferred || !p.rawPend.isEmpty
  let fr := match (if s.running d then s.domFmt d else none) with
    | some f => ((s.lineNow d f).1 + (s.nextSwitch d f).1) % 4294967296
    | none => 0
  let w := s.twn.banksNow.filter (fun x => x.1 == d)
  ⟨d, s.activeNo d, pend, fr, ascending (w.flatMap (·.2.1)), ascending (w.flatMap (·.2.2))⟩

/-- Section 0x03 of a source. -/
def recSource (s : State) (k : Nat) : RecSource :=
  ⟨k, s.fld F.CMD_SRC_SEQ_SESSION k, s.fld F.CMD_SRC_SEQ_NEXT_SEQ k, s.fld F.CMD_SRC_SEQ_LAST_APPLIED k,
   if isNet k then s.pair F.CMD_NET_EP_OPEN_CTR_LO F.CMD_NET_EP_OPEN_CTR_HI (k - 8) else 0⟩

/-- Section 0x04. -/
def recServo (s : State) : RecServo :=
  ⟨s.tim.base, s.tim.tickBase, s.tim.freq, s.fld F.TIM_STATUS_SERVO,
   (List.range 4).map (fun d => (s.fld F.REF_DPLL_STAT_STATE d, s.fld F.REF_DPLL_STAT_CUR_IN d, s.fld F.REF_DPLL_STAT_HO_FREQ d))⟩

/-- TS_OFS of an output's packets. -/
def outTsOfs (s : State) (f : Nat) : Nat :=
  if 0x0800 ≤ f ∧ f ≤ 0x0FFF then s.fld F.SHK_FLOW_CFG_TS_OFS (f - 0x800)
  else match s.ancOut f with
    | some o => o.tsOfs
    | none => ((s.astream f).map AStream.tsOfs).getD 0

/-- Section 0x06. -/
def recRtp (s : State) : List (Nat × Nat × Nat × Nat × Nat) :=
  s.mac.templates.map (fun t => (t.flow, t.path, t.rtpSeq, t.extSeq, s.outTsOfs t.flow))

/-- Fence values of section 0x08. -/
def recFences (s : State) : List (Nat × Nat) :=
  (List.range 256).filterMap (fun n => if s.fld F.CHM_FENCE_VALUE n = 0 then none else some (n, s.fld F.CHM_FENCE_VALUE n))

/-- The record of the cycles `first` to the present one. -/
def castRec (s : State) (first : Nat) : CastRec :=
  { epoch := s.sys.epoch, first := first, merged := decide (first < s.sys.epoch), swap := s.twn.swapRec, full := none,
    cmds := s.twn.applied, banks := (List.range 4).map s.recBank, sources := (List.range 16).map s.recSource,
    servo := s.recServo, newt := s.twn.newtNow, pages := s.twn.pagesNow, rtp := s.recRtp, axl := s.twn.axlNow, flips := s.twn.flipsNow,
    fences := s.recFences, cancelled := s.twn.cancelledNow, fired := s.twn.firedNow, macroFires := s.twn.macroNow,
    mode := s.sys.mode.code, role := s.sys.role.code }

/-- A new cycle gathers afresh. -/
def gatherClear (s : State) : State :=
  { s with twn := { s.twn with applied := [], firedNow := [], cancelledNow := [], macroNow := [], flipsNow := [], newtNow := [],
                               pagesNow := [], banksNow := [],
                               axlNow := [], swapRec := false } }

/-- The last records that fit 1,024 and 4 MiB (R502). -/
def retainFit : Nat → List CastRec → List CastRec
  | 0, _ => []
  | n + 1, l => if l.length ≤ 1024 ∧ (l.foldl (fun m r => m + r.size) 0) ≤ 4194304 then l else retainFit n (l.drop 1)

/-- At boundary N + 1, an active with a standby sends the record of cycle N (R32, R499, R507). While firmware restarts it
gathers on; a device without a standby gathers nothing. -/
def sendRecord (s : State) : State :=
  if s.twn.lastRec = some s.sys.epoch then s
  else if s.sys.mode = .pour ∧ s.partnerMode = some Mode.hold.code then
    if !s.fwServes then s
    else
      let first := match s.twn.lastRec with
        | some e => e + 1
        | none => s.sys.epoch
      let r := s.castRec (min first s.sys.epoch)
      let l := s.twn.retained ++ [r]
      let s : State := { s with twn := { s.twn with retained := retainFit (l.length + 1) l, lastRec := some s.sys.epoch } }
      (((s.incFld F.TWN_CNT_RECORDS).aksSend aksRecord r.epoch r.headBytes).gatherClear)
  else ({ s with twn := { s.twn with lastRec := none } }).gatherClear

/-! ## Full-state transfers (R515) -/

/-- The mirrored state as it stands. -/
def mirror (s : State) : Mirror :=
  { regs := s.regs.filter (fun e => mirrorMask e.1 != 0), flows := s.lad.flows, filters := s.mac.filters,
    templates := s.mac.templates, pat := s.pat, shk := s.shk, chm := s.chm, aud := s.aud, nwt := s.nwt, macros := s.cmd.macros,
    rings := s.pool.rings.map (fun r => (r.flow, r.gen, r.dom, r.tiles)) }

/-- An asked transfer: the active captures at its boundary E0 and sends FULL records. -/
def sendFull (s : State) : State :=
  if !s.twn.fullReq then s
  else if s.sys.mode ≠ .pour ∨ !s.fwServes then s
  else
    let r : CastRec := { s.castRec s.sys.epoch with full := some s.mirror, cmds := [], swap := false }
    let s : State := { s with twn := { s.twn with fullReq := false, lastFull := some (r.epoch, r.first) } }
    s.aksSend aksFull r.epoch r.headBytes

/-- The mirrored registers take the captured values. -/
def installRegs (s : State) (l : List (Nat × Word)) : State :=
  let clear (s : State) (e : Nat × Word) : State :=
    let m := mirrorMask e.1
    s.setReg e.1 ((s.reg e.1 &&& ~~~m) ||| (resetWord e.1 &&& m))
  let put (s : State) (e : Nat × Word) : State :=
    let m := mirrorMask e.1
    s.setReg e.1 ((s.reg e.1 &&& ~~~m) ||| (e.2 &&& m))
  l.foldl put ((s.regs.filter (fun e => mirrorMask e.1 != 0)).foldl clear s)

/-- The rings a transfer needs, allocated from this device's own free list (R503); whether all could be. -/
def installRings (s : State) (want : List (Nat × Nat × Nat × Nat)) : Bool × State :=
  let kept (r : Ring) : Bool := want.contains (r.flow, r.gen, r.dom, r.tiles)
  let s := (s.pool.rings.filter (fun r => !kept r)).foldl (fun (s : State) r => s.releaseRing r.flow r.gen) s
  want.foldl (fun (a : Bool × State) w =>
    if (a.2.ring w.1 w.2.1).isSome then a
    else match a.2.allocTry w.2.2.2 with
      | .bad _ => (false, a.2)
      | .ok l => (a.1, a.2.allocRing w.1 w.2.1 w.2.2.1 w.2.2.2 l)) (true, s)

/-- An input flow's definition as captured; its frames and counts are this device's own (R505). -/
def installFlow (s : State) (x : InFlow) : InFlow :=
  match s.inFlow x.flow with
  | some y =>
    if y.gen = x.gen ∧ y.dom = x.dom ∧ y.ringTiles = x.ringTiles ∧ y.tpf = x.tpf then
      { y with ladle := x.ladle, anc := x.anc, src := x.src, depth := x.depth, width := x.width, height := x.height,
               format := x.format, sampling := x.sampling, wireRate := x.wireRate, paths := x.paths, mergeHold := x.mergeHold,
               ancTpf := x.ancTpf, companion := x.companion, skewTiles := x.skewTiles, depthPend := x.depthPend }
    else { newFlow x.flow x.dom x.ladle x.anc x.src x.depth x.width x.height x.format x.sampling x.wireRate x.paths x.mergeHold
             x.tpf x.skewTiles s.tick x.companion with ancTpf := x.ancTpf, ringTiles := x.ringTiles, gen := x.gen, depthPend := x.depthPend }
  | none => { newFlow x.flow x.dom x.ladle x.anc x.src x.depth x.width x.height x.format x.sampling x.wireRate x.paths x.mergeHold
                x.tpf x.skewTiles s.tick x.companion with ancTpf := x.ancTpf, ringTiles := x.ringTiles, gen := x.gen, depthPend := x.depthPend }

/-- A video output's definition as captured. -/
def installVout (s : State) (o : VOut) : VOut :=
  match s.vout o.flow with
  | some y => { o with lossRun := y.lossRun, blackSrc := y.blackSrc, begun := y.begun, sends := y.sends }
  | none => { o with lossRun := 0, blackSrc := none, begun := none, sends := [] }

/-- A stream's definition as captured. -/
def installStream (s : State) (x : AStream) : AStream :=
  match s.astream x.ident with
  | some y => { x with counts := y.counts, lastSeq := y.lastSeq, loss := y.loss, rx := y.rx, phase := y.phase }
  | none => { x with counts := x.counts.map (fun _ => 0), lastSeq := [], loss := false, rx := [], phase := none }

/-- A delay line's definition as captured. -/
def installDelay (s : State) (x : DelayLine) : DelayLine :=
  match s.aud.delays.find? (fun y => y.bundle == x.bundle && y.label == x.label && y.chans == x.chans && y.rate == x.rate &&
      y.delay == x.delay && y.dom == x.dom) with
  | some y => { x with start := y.start, origin := y.origin, wrTile := y.wrTile, rdTile := y.rdTile, sendBuf := y.sendBuf, back := y.back }
  | none => { x with start := none, origin := 0, wrTile := 0, rdTile := 0, sendBuf := [], back := [] }

/-- A de-embed or embed map as captured. -/
def installMap (s : State) (x : EmbMap) : EmbMap :=
  match s.aud.maps.find? (fun y => y.flow == x.flow && y.embed == x.embed) with
  | some y => { x with slips := y.slips, nextPos := y.nextPos, buf := y.buf }
  | none => { x with slips := 0, nextPos := none, buf := [] }

/-- Sessions, sequence numbers and stored counters of a record (R505, R520). -/
def installSources (s : State) (l : List RecSource) : State :=
  l.foldl (fun (s : State) x =>
    let s := (s.setFld F.CMD_SRC_SEQ_SESSION x.session x.src).setFld F.CMD_SRC_SEQ_NEXT_SEQ x.nextSeq x.src
    let s := s.setFld F.CMD_SRC_SEQ_LAST_APPLIED x.lastApplied x.src
    if isNet x.src then s.setPair F.CMD_NET_EP_OPEN_CTR_LO F.CMD_NET_EP_OPEN_CTR_HI x.openCtr (x.src - 8) else s) s

/-- The mirrored state is replaced (R515 step 3); whether every ring could be allocated. Essence, samples and meters stay. -/
def install (s : State) (m : Mirror) : Bool × State :=
  let (ok, s) := s.installRings m.rings
  let flows := m.flows.map s.installFlow
  let vouts := m.shk.vouts.map s.installVout
  let ancs := m.shk.ancOuts.map (fun (o : AncOut) => { o with send := (s.ancOut o.flow).bind AncOut.send })
  let own (d : Nat) (p : PatDom) : PatDom := { p with slips := (s.patDom d).slips, slipHold := (s.patDom d).slipHold, repairs := [] }
  let doms := (List.range 4).map (fun d => own d (m.pat.doms.getD d PatDom.reset))
  let sched := m.pat.sched.map (fun (t : Timed) => { t with own := false })
  let aud : AudState := { s.aud with streams := m.aud.streams.map s.installStream, maps := m.aud.maps.map s.installMap,
                                     delays := m.aud.delays.map s.installDelay, pend := m.aud.pend }
  let s := s.installRegs m.regs
  let s : State := { s with lad := { s.lad with flows := flows }, mac := { s.mac with templates := m.templates },
                            pat := ⟨doms, m.pat.routes, sched⟩,
                            shk := { s.shk with vouts := vouts, ancOuts := ancs, tests := m.shk.tests, seqAdopt := [] },
                            chm := { s.chm with next := m.chm.next, flips := m.chm.flips, bound := m.chm.bound, twinFlips := [] }, aud := aud,
                            nwt := { s.nwt with images := m.nwt.images }, cmd := { s.cmd with macros := m.macros } }
  let s := (List.range 68).foldl (fun (s : State) u => (s.ladUse u).shkUse u) s
  (ok, ((s.setFilters m.filters).chmRefresh (List.range 512)).schedCount)

/-! ## A record on the standby (R501 to R507) -/

/-- An applied command is journalled under the cycle it was applied in. -/
def recJournal (s : State) (a : RecCmd) : State :=
  let kind := if a.cmd.isDry then 2 else if 1 < a.status then 1 else if a.op = opSessionOpen then 5 else if a.timed then 3 else 0
  s.journal ⟨a.epoch, a.cmd.src.val, kind, 0, a.cmd.seq.toNat, a.op, a.status, a.cmd.tag.toNat, 0xFF, 0⟩

/-- A recorded command could not be applied (R503): it stays unapplied, SYNC clears, and a transfer is asked for. -/
def applyFailed (s : State) (src seq status : Nat) : State :=
  let s := (s.event blkTwn 1 twnApplyFailed [src, seq, status]).syncClear 0x4
  if s.flag F.TWN_STAT_RESYNC_BUSY then s else s.startResync

/-- One command of section 0x01: journalled, and applied when it changes mirrored state; a timed one waits in CS13 (R507). -/
def recApply (s : State) (a : RecCmd) : State :=
  let s := s.recJournal a
  if a.cmd.isDry ∨ 1 < a.status ∨ a.isLocal then s
  else if a.timed then
    let t : Timed := ⟨a.op, a.cmd, a.epoch, false, false⟩
    ({ s with pat := { s.pat with sched := s.pat.sched ++ [t] } }).schedCount
  else match applyOp a.op (withUnits a.op a.cmd a.payload) s with
    | .ok t _ _ _ => t
    | .bad r => s.applyFailed a.cmd.src.val a.cmd.seq.toNat r.status

/-- Section 0x02 of a domain (R504): FLIP_PEND is set as soon as the entries are in place; a flip later than the one named is
counted. -/
def recFlip (s : State) (b : RecBank) : State :=
  let p := s.patDom b.dom
  if !(p.flipReq || p.deferred) then s
  else
    let ahead := match (if s.running b.dom then s.domFmt b.dom else none) with
      | some f => ((s.lineNow b.dom f).1 + (s.nextSwitch b.dom f).1 + 4294967296 - b.flipFrame) % 4294967296
      | none => 0
    if 2147483648 ≤ ahead then s
    else
      let s := if p.deferred && !s.flag F.PAT_BANK_COPY_BUSY b.dom then s.patWriteNow b.dom else s
      let p := s.patDom b.dom
      if !p.flipReq then s
      else
        let s := (s.setPatDom b.dom { p with flipReq := false }).setFlag F.PAT_BANK_FLIP_PEND true b.dom
        if b.flipPend ∧ 0 < ahead ∧ s.running b.dom then s.incFld F.TWN_CNT_LATE_FLIPS else s

/-- The 32-bit sequence number of a template. -/
def tplSeq (t : TxTemplate) : Nat := t.extSeq * 65536 + t.rtpSeq

/-- Section 0x06 against this device's own numbers at the end of the same cycle (R314). -/
def recSeqs (s : State) (r : CastRec) : State :=
  match s.twn.rtpLog.find? (fun x => x.1 == r.epoch) with
  | none => s
  | some (_, l) =>
    let diff (x : Nat × Nat × Nat × Nat × Nat) : Option (Nat × Nat) :=
      if x.2.1 != 0 then none
      else (l.find? (fun y => y.1 == x.1)).bind (fun y =>
        let d := (x.2.2.2.1 * 65536 + x.2.2.1 + 4294967296 - y.2) % 4294967296
        if d = 0 then none else some (x.1, d))
    let ds := (r.rtp.filterMap diff).filter (fun x => !s.shk.seqAdopt.any (fun y => y.1 == x.1))
    { s with shk := { s.shk with seqAdopt := s.shk.seqAdopt ++ ds } }

/-- A record's firings against this device's own (R507): a firing of the active that this device has not made is reported. -/
def recFirings (s : State) (r : CastRec) : State :=
  if !r.merged then s
  else (r.fired.filter (fun x => !s.jnl.any (fun e => e.kind == 4 && e.origSource == x.1 && e.origSeq == x.2))).foldl
    (fun (s : State) x => s.event blkTwn 1 twnFiring [x.1, x.2]) s

/-- A task that the active disabled stops here as well (R499 section 0x05, R409). -/
def recDisable (s : State) (x : Nat × Nat × Bool) : State :=
  match (s.core x.1).task x.2.1 with
  | some t =>
    if x.2.2 then (s.setCore x.1 ((s.core x.1).setTask { t with dis := true, traps := [] })).setFlag F.NWT_TASK_STAT_DIS true x.1 x.2.1
    else s
  | none => s

/-- The next cycle's role change, as a SWAP record names it (R513, R545). -/
def recSwap (s : State) (r : CastRec) : State :=
  if !r.swap then s
  else
    let cmd := r.cmds.any (fun a => a.op == opRoleSwap && a.status == 0)
    let x := match s.twn.swapAt with
      | some x => x
      | none => if cmd then (r.epoch + 3, 0xFE, 0, 0x1) else (r.epoch + 3, 0xFF, 0, 0x9)
    { s with twn := { s.twn with swapAt := some x, swapAck := s.flag F.TWN_STAT_SYNC } }

/-- A record is applied. -/
def recordApply (s : State) (r : CastRec) : State :=
  let s := r.cmds.foldl recApply s
  let s := r.banks.foldl recFlip s
  let s := ((s.installSources r.sources).recSeqs r).recFirings r
  let s := r.newt.foldl recDisable s
  let gone (t : Timed) : Bool := r.cancelled.any (fun x => x.1 == t.cmd.src.val && x.2 == t.cmd.seq.toNat)
  let s : State := { s with pat := { s.pat with sched := s.pat.sched.filter (fun t => !gone t) },
                            chm := { s.chm with twinFlips := s.chm.twinFlips ++ r.flips, mirrored := r.fences },
                            twn := { s.twn with servo := some r.servo, replay := none,
                                                rtpLog := s.twn.rtpLog.filter (fun x => decide (r.epoch < x.1)),
                                                partner := some (r.mode, ((s.twn.partner.map (·.2)).getD 0)) } }
  let s := (s.schedCount.recSwap r).gatherClear
  (s.setPair F.TWN_REC_EPOCH_LO_REC_EPOCH F.TWN_REC_EPOCH_HI_REC_EPOCH r.epoch).incFld F.TWN_CNT_RECORDS

/-- EPOCH of the last record applied or acknowledged. -/
def recEpoch (s : State) : Nat := s.pair F.TWN_REC_EPOCH_LO_REC_EPOCH F.TWN_REC_EPOCH_HI_REC_EPOCH

/-- A record is missing (R502): a replay is asked for once. -/
def askReplay (s : State) (e : Nat) : State :=
  if s.twn.replay = some e then s
  else (({ s with twn := { s.twn with replay := some e } }).incFld F.TWN_CNT_REPLAYS).aksSend aksReplay e []

/-- The cycle whose record comes next: after the last one applied, or, during a transfer, after those buffered. -/
def recNext (s : State) : Nat :=
  match s.twn.buffered.getLast? with
  | some r => r.epoch + 1
  | none => match s.twn.full with
    | some r => r.epoch + 1
    | none => s.recEpoch + 1

/-- A device that took over in a planned change still applies its partner's records of the cycles before (R513). -/
def swapTail (s : State) (r : CastRec) : Bool :=
  s.sys.mode == .pour && s.partnerMode == some Mode.hold.code && s.flag F.TWN_STAT_SYNC && r.full.isNone &&
    decide (r.epoch < s.sys.modeEpoch)

/-- FULL records arrive: the transfer in progress has its captured state (R515, R516). -/
def fullArrive (s : State) (r : CastRec) : State :=
  { s with twn := { s.twn with full := some r, buffered := [], lastFull := some (r.epoch, r.first),
                               nwtPend := r.full.map (fun m => (m.aud.block, m.nwt.cores)) } }

/-- The standby buffers a record during a transfer, up to 8 MiB; a buffer that overflows restarts it (R515). -/
def recordBuffer (s : State) (r : CastRec) : State :=
  let l := s.twn.buffered ++ [r]
  if decide (bufferLimit < (l.map CastRec.size).sum) then s.startResync
  else { s with twn := { s.twn with buffered := l, replay := none } }

/-- A whole record that is not FULL: the next one is applied or buffered, a later one shows a gap. -/
def recordOrdinary (s : State) (r : CastRec) (crcOk : Bool) : State :=
  let next := s.recNext
  let tracks := s.flag F.TWN_STAT_SYNC || s.twn.full.isSome
  if crcOk && decide (r.epoch < next) then s
  else if !crcOk || decide (next < r.first) then (if tracks then s.askReplay next else s)
  else if s.flag F.TWN_STAT_RESYNC_BUSY && s.twn.full.isSome then s.recordBuffer r
  else
    let s := s.recordApply r
    if s.flag F.TWN_STAT_SYNC then s.aksSend aksRecAck r.epoch [] else s

/-- A whole record arrives at the standby (R501, R502, R515). -/
def recordArrive (s : State) (r : CastRec) (crcOk : Bool) : State :=
  if !s.twinOn || !s.rst.pUp || (s.sys.mode != .hold && !s.swapTail r) then s
  else
    let s := s.partnerHeard
    let busy := s.flag F.TWN_STAT_RESYNC_BUSY
    if r.full.isSome then (if busy && crcOk then s.fullArrive r else s)
    else if busy && s.twn.full.isNone && !s.flag F.TWN_STAT_SYNC_EVER then s
    else s.recordOrdinary r crcOk

/-- A transfer completes at a boundary that the active numbers `epoch` (R515 steps 3 and 4, R29, R516). -/
def resyncDone (s : State) (epoch : Nat) : State :=
  if !(s.flag F.TWN_STAT_RESYNC_BUSY && s.sys.mode == .hold) then s
  else match s.twn.full.bind (fun r => r.full.map (fun m => (r, m))) with
  | none => s
  | some (r, m) =>
    let l := s.twn.buffered
    let old := s.sys.epoch
    let s := s.newtInstall s.aud.block
    let (ok, s) := s.install m
    let s := s.installSources r.sources
    let s : State := { s with sys := { s.sys with epoch := epoch },
                              chm := { s.chm with mirrored := r.fences },
                              twn := { s.twn with full := none, buffered := [], rtpLog := [], replay := none, afterCtl := false,
                                                  servo := some r.servo } }
    let s := (s.event blkTwn 0 twnEpoch [old, epoch]).setPair F.TWN_REC_EPOCH_LO_REC_EPOCH F.TWN_REC_EPOCH_HI_REC_EPOCH r.epoch
    let s := (s.setFlag F.TWN_STAT_RESYNC_BUSY false).setFlag F.TWN_STAT_SYNC ok
    let s := (s.setFlag F.TWN_STAT_SYNC_EVER true).setFld F.TWN_STAT_UNSYNC_CAUSE (if ok then 0 else 4)
    let s := if ok then s else s.applyFailed 0xFF 0 0x0204
    let s := l.foldl recordApply s
    if s.flag F.TWN_STAT_SYNC then s.aksSend aksRecAck s.recEpoch [] else s

/-! ## The active's side (R501, R502, R467) -/

/-- An acknowledgement of a record and every earlier one. -/
def mirrorAck (s : State) (epoch : Nat) : State :=
  if !s.partnerOk ∨ s.sys.mode = .hold then s
  else
    let swap := match s.twn.swapAt with
      | some x => decide (x.1 ≤ epoch + 3)
      | none => false
    let s : State := { s with twn := { s.twn with retained := s.twn.retained.filter (fun r => decide (epoch < r.epoch)),
                                                  swapAck := s.twn.swapAck || swap } }
    let s := ((s.setFlag F.TWN_STAT_SYNC true).setFlag F.TWN_STAT_SYNC_EVER true).setFld F.TWN_STAT_UNSYNC_CAUSE 0
    (s.setPair F.TWN_REC_EPOCH_LO_REC_EPOCH F.TWN_REC_EPOCH_HI_REC_EPOCH epoch).ackReplies epoch

/-- Boundary N + 9 has come without an acknowledgement of the record of cycle N. -/
def mirrorNoAck (s : State) (epoch : Nat) : State :=
  if s.sys.epoch < epoch + 9 then s
  else
    let late := s.twn.retained.any (fun r => decide (r.first ≤ epoch) && decide (epoch ≤ r.epoch))
    (if late then s.incFld F.TWN_CNT_NO_ACK else s).noAckReplies epoch

/-- A replay is asked for: the retained records again, or the notice that they are gone. -/
def replayFrom (s : State) (e : Nat) : State :=
  let l := s.twn.retained.filter (fun r => decide (e ≤ r.epoch))
  if l.any (fun r => decide (r.first ≤ e)) then l.foldl (fun (s : State) r => s.aksSend aksRecord r.epoch r.headBytes) s
  else s.aksSend aksGone e []

/-! ## Frames of the Akestim link (R117, R118, R498) -/

/-- What a delivered frame does. -/
def aksBody (s : State) : AksBody → State
  | .command b =>
    let (op, c) := parseCmd 14 0 65536 0 0 b
    s.arrive op c b
  | .reply _ => s
  | .ack seq => s.aksAck seq
  | .replay e => if s.sys.mode = .pour then s.replayFrom e else s
  | .gone _ => if s.sys.mode = .hold then s.syncClear (if s.twn.afterCtl then 0x5 else 0x2) else s
  | .resync => if s.sys.mode = .pour then { s with twn := { s.twn with fullReq := true } } else s
  | .swap b =>
    if s.sys.mode = .pour ∧ s.twn.swapAt = none then
      { s with twn := { s.twn with swapAt := some (b, 0xFE, 0, 0x1), swapAck := false, swapRec := true } }
    else s
  | .report m e => { s with twn := { s.twn with partner := some (m, e) } }
  | .loopMatch ok => s.loopResult ok

/-- What a delivered frame does, of whatever row it came in. -/
def aksDeliver (s : State) : AksFrame → State
  | .body b => s.aksBody b
  | .record r ok => s.recordArrive r ok
  | .recAck e => s.mirrorAck e
  | .signature g => s.loopCompare g

/-- Deliver the held frames that now follow in sequence (R118), at most `n` of them. -/
def aksDrain (s : State) : Nat → State
  | 0 => s
  | n + 1 =>
    match s.twn.aksHeld.find? (fun x => x.1 == s.lane.aksRx) with
    | none => s
    | some x =>
      let s : State := { s with lane := { s.lane with aksRx := (x.1 + 1) % 4294967296 },
                                twn := { s.twn with aksHeld := s.twn.aksHeld.filter (fun y => y.1 != x.1) } }
      (s.aksDeliver x.2.2).aksDrain n

/-- A good frame (R117, R118): acknowledged, then delivered in sequence order; one delivered before is only acknowledged again,
and one ahead of a gap is held. -/
def aksTake (s : State) (seq : Nat) (f : AksFrame) : State :=
  if !s.aksOpen then s
  else
    let s := (s.partnerHeard).emit (.akestim aksBlockAck seq 0 [])
    let ahead := (seq + 4294967296 - s.lane.aksRx % 4294967296) % 4294967296
    if 2147483648 ≤ ahead then s
    else if ahead = 0 then
      let s : State := { s with lane := { s.lane with aksRx := (seq + 1) % 4294967296 } }
      (s.aksDeliver f).aksDrain s.twn.aksHeld.length
    else { s with twn := { s.twn with aksHeld := upsert (fun (x : Nat × Nat × AksFrame) => x.1 == seq) (seq, s.tick, f) s.twn.aksHeld } }

/-- A frame, or an acknowledgement block, which carries no sequence number of its own and is discarded once the partner is declared
unresponsive (R119). -/
def aksFrame (s : State) (seq : Nat) (b : AksBody) : State :=
  match b with
  | .ack q => if s.aksOpen && s.flag F.TWN_STAT_PARTNER_UP then s.aksAck q else s
  | b => s.aksTake seq (.body b)

/-- A gap whose missing frame must have been abandoned, since the 3 attempts of 2 µs have passed since the first later frame came
(R117; DEDUCED, log entry 114): it is reported, and the later frames are delivered (R118). -/
def aksGapClock (s : State) : State :=
  match s.twn.aksHeld with
  | [] => s
  | x :: xs =>
    let dist (y : Nat × Nat × AksFrame) : Nat := (y.1 + 4294967296 - s.lane.aksRx % 4294967296) % 4294967296
    let near := xs.foldl (fun a y => if dist y < dist a then y else a) x
    if (x :: xs).any (fun y => decide (y.2.1 + 6000 ≤ s.tick)) then
      let s := s.event blkTwn 1 twnGap [s.lane.aksRx, near.1]
      ({ s with lane := { s.lane with aksRx := near.1 } }).aksDrain s.twn.aksHeld.length
    else s

/-! ## Promotion, completed (R510, R352) -/

/-- What promotion adds to the mode change: each fence takes the larger of its two values, outcomes of the active that wait
stand, and a DPLL that followed the partner's clock holds over with the record's frequency. -/
def promoteRest (s : State) : State :=
  let s := s.chm.mirrored.foldl (fun (s : State) p =>
    if fenceReached (s.fld F.CHM_FENCE_VALUE p.1) p.2 then s else s.setFld F.CHM_FENCE_VALUE p.2 p.1) s
  let s := s.chm.twinFlips.foldl (fun (s : State) p =>
    match s.chm.flips.find? (fun x => x.surfaces.any (fun q => q.1 == p.1)) with
    | some x => if p.2.1 = 0xFF then s.flipLate x else s.setFlip x { x with reached := true }
    | none => s) s
  let s : State := { s with chm := { s.chm with twinFlips := [], mirrored := [] }, shk := { s.shk with seqAdopt := [] },
                            twn := { s.twn with rtpLog := [], replay := none, nwtPend := none } }
  let on4 := (List.range 4).filter (fun d => s.fld F.REF_DPLL_STAT_CUR_IN d == 4)
  let s := s.refLoss 4
  match s.twn.servo with
  | none => s
  | some v => on4.foldl (fun (s : State) d =>
      if s.fld F.REF_DPLL_STAT_STATE d = dpllHold then
        s.setFld F.REF_DPLL_STAT_HO_FREQ ((v.dplls.getD d (0, 0, 0)).2.2) d
      else s) s

/-- PROMOTION at a boundary. -/
def promoteBoundary (s : State) : State :=
  let t := s.promoteNow
  if s.sys.mode = .hold ∧ t.sys.mode = .pour then t.atNext promoteRest else t

/-- A role change at its boundary: the old active first sends the record of the cycle that ends, and the records of either
direction count on from there. -/
def swapBoundary (s : State) : State :=
  let due := match s.twn.swapAt with
    | some x => decide (x.1 ≤ s.sys.epoch + 1)
    | none => false
  let s := if due then s.sendRecord else s
  let (t, x) := s.swapNow
  let t := if s.sys.mode = .hold ∧ t.sys.mode = .pour then
      let t := t.atNext promoteRest
      { t with twn := { t.twn with lastRec := some s.sys.epoch } }
    else if s.sys.mode = .pour ∧ t.sys.mode = .hold then
      let t := t.setPair F.TWN_REC_EPOCH_LO_REC_EPOCH F.TWN_REC_EPOCH_HI_REC_EPOCH s.sys.epoch
      { t with twn := { t.twn with lastRec := none } }
    else t
  match x with
  | some (src, seq, ok) => if 0xF0 ≤ src then t else t.atNext (fun t => t.finishReply src seq (if ok then 0 else 0x0601) [] none)
  | none => t

end State

/-! ## Rows -/

/-- MIRROR_ACK_RECEIVE (R501): the frame's sequence number and the EPOCH acknowledged. -/
def execMirrorAckReceive (ack : Nat × Nat) (s : State) : Host.Outcome State Fault Refusal :=
  runEff (fun s => s.aksTake ack.1 (.recAck ack.2)) s

/-- NO_MIRROR_ACK_TIMEOUT (R467). -/
def execNoMirrorAckTimeout (epoch : Nat) (s : State) : Host.Outcome State Fault Refusal := runEff (fun s => s.mirrorNoAck epoch) s

/-- CAST_RECORD_RECEIVE (R501): the frame's sequence number and the record. -/
def execCastRecordReceive (rec : Nat × CastRec) (crcOk : Bool) (s : State) : Host.Outcome State Fault Refusal :=
  runEff (fun s => s.aksTake rec.1 (.record rec.2 crcOk)) s

/-- LOOP_SIGNATURE_RECEIVE (R518): the frame's sequence number and the signature. -/
def execLoopSignatureReceive (sig : Nat × Nat) (s : State) : Host.Outcome State Fault Refusal :=
  runEff (fun s => s.aksTake sig.1 (.signature sig.2)) s

/-- RESYNC_COMPLETE (R515). -/
def execResyncComplete (epoch : Nat) (s : State) : Host.Outcome State Fault Refusal := runEff (fun s => s.resyncDone epoch) s

/-- AKESTIM_FRAME_RECEIVE (R117). -/
def execAkestimFrameReceive (seq : Nat) (body : AksBody) (s : State) : Host.Outcome State Fault Refusal :=
  runEff (fun s => s.aksFrame seq body) s

/-- PROMOTION (R508): a pending promotion at the boundary that opens the next cycle. -/
def execPromotion (s : State) : Host.Outcome State Fault Refusal := runEff State.promoteBoundary s

/-- ROLE_SWAP_EXECUTE (R513): the agreed role change at the boundary that opens the next cycle. -/
def execRoleSwapExecute (s : State) : Host.Outcome State Fault Refusal := runEff State.swapBoundary s

end Sys2Proof.Machine
end

