-- ==== Sys2Proof/Machine/Cast.lean ====
section
/-! DEFINITION. The cast cycle (R23 to R39): what a boundary ends and begins, the commands it applies, and the timed commands
of CS13 (R251 to R258). -/

namespace Sys2Proof.Machine

/-- The device's order of the commands of one boundary (R37): `order` names sources, each occurrence taking that source's next
command; the rest follow as they arrived. Commands of one source stay in their order (R36). -/
def boundaryOrder : List Nat → List Admitted → List Admitted
  | [], l => l
  | k :: ks, l =>
    match l.find? (fun a => a.cmd.src.val == k) with
    | none => boundaryOrder ks l
    | some a => a :: boundaryOrder ks (l.erase a)

/-- Whether an opcode changes mirrored state (R467). -/
def opMirrored (op : Nat) : Bool :=
  op == opSessionOpen || (match opInfo op with
    | some x => x.hold == .mirrored
    | none => false)

/-- Whether a command's reply waits for a completion (R467). -/
def opWaits (op : Nat) (c : Cmd) : Bool :=
  [opKeyWrite, opKeyErase, opAttest, opRoleSwap, opPromote, opSnapshot].contains op ||
    (op == opImageLoad && bitOf (byteAt c.params 1) 1)

namespace State

/-! ## One command at its boundary -/

/-- PTP time of the boundary, none while it is not valid (R451). -/
def appliedTime (s : State) : Option Nat := if s.flag F.TIM_STATUS_TIME_VALID then some s.ptpNs else none

/-- Queue the reply of a command that consumed its SEQ. -/
def replyLater (s : State) (a : Admitted) (status : Nat) (epoch time : Option Nat) (payload : Bytes) : State :=
  let ok := status == 0 || status == 1
  let ack := if s.sys.role == .active && a.cmd.ackMirror && ok && !a.cmd.isDry && opMirrored a.op then some s.sys.epoch else none
  let wait := status == 0 && !a.cmd.isDry && opWaits a.op a.cmd
  let r := s.replyOf a.cmd status epoch time payload
  let u : Unreleased := ⟨a.op, a.cmd, r, ack, wait, false⟩
  { s with cmd := { s.cmd with unreleased := s.cmd.unreleased ++ [u] } }

/-- Journal a command and put it into the record of the cycle (R32, R470, R499); LAST_APPLIED reaches its SEQ (R466). -/
def noteCommand (s : State) (a : Admitted) (kind status : Nat) (payload : Bytes) : State :=
  let order := (s.jnl.filter (fun x => x.epoch == s.sys.epoch)).length
  let rc : RecCmd := ⟨a.op, recorded a.op a.cmd, order, status, !opMirrored a.op, kind == 3, payload, s.sys.epoch⟩
  let s := s.journal ⟨s.sys.epoch, a.cmd.src.val, kind, 0, a.cmd.seq.toNat, a.op, status, a.cmd.tag.toNat, 0xFF, 0⟩
  let s : State := { s with twn := { s.twn with applied := s.twn.applied ++ [rc] } }
  s.setFld F.CMD_SRC_SEQ_LAST_APPLIED a.cmd.seq.toNat a.cmd.src.val

/-- A command is not applied (R20, R470): KIND 0x1, counted, the refusal record in its reply. -/
def refuseAt (s : State) (a : Admitted) (r : RefRec) (epoch : Nat) : State :=
  let s := (s.noteCommand a 1 r.status []).incFld F.CMD_SRC_CNT_REFUSED a.cmd.src.val
  let s := if a.op = opDebugUnlock then s.nonceUsed else s
  let s := if a.cmd.src.val = 12 then s.macroDone a.cmd.slot r.status epoch 0 else s
  s.replyLater a r.status (some epoch) none r.bytes

/-- The mode left by everything before a command against its opcode (R20). -/
def modeRefuses (s : State) (a : Admitted) : Option RefRec :=
  match opInfo a.op with
  | none => none
  | some x => firstFail [(!x.acceptedIn s.sys.mode, rejAll 0x0302), (s.sys.mode == .hold && x.hold == .mirrored, rejAll 0x0305)]

/-- The first reply of a timed command: EPOCH, PTP time and take result records as predicted for the instant that WHEN names
(R33, R253, R275). A PTP-time WHEN of Frame class names an instant between two boundaries: the state before it, whose next
boundary is replaced by that instant. -/
def timedReply (s : State) (a : Admitted) : Option Nat × Option Nat × Bytes :=
  let c := a.cmd
  let frame := (opInfo a.op).any (fun x => x.cls == .frame) && !c.whenEpoch
  let up := (c.whenF.toNat - s.ptpNs + s.cycleNs - 1) / s.cycleNs
  let k := if c.whenEpoch then c.whenF.toNat - s.sys.epoch else if frame then up - 1 else up
  let ns := if frame then c.whenF.toNat - s.ptpNs else s.cyclesNs k
  let t := s.ahead k ns
  let t : State := if frame then { t with sys := { t.sys with castLen := 0 } } else t
  match applyOp a.op c (t.withTimed (s.pendingTimed.filter (fun x => s.firesBefore x (a.op, c)))) with
  | .bad _ => (none, none, [])
  | .ok _ p ep tm =>
    let time : Option Nat := match ep with
      | none => t.appliedTime
      | some _ => if t.flag F.TIM_STATUS_TIME_VALID then tm else none
    (ep.getD (some t.sys.epoch), time, if a.op = opTake || a.op = opAncOutRoute then p else [])

/-- A timed command is accepted: it waits in CS13 (R252). -/
def scheduleAt (s : State) (a : Admitted) : State :=
  let (epoch, time, p) := s.timedReply a
  let s := (s.noteCommand a 3 1 []).replyLater a 1 epoch time p
  let t : Timed := ⟨a.op, a.cmd, s.sys.epoch, false, true⟩
  ({ s with pat := { s.pat with sched := s.pat.sched ++ [t] } }).schedCount

/-- The refusal of a command that fails at its boundary: 0x0305 where the mode has changed after its admission so that it no
longer passes (R20), and for a mode change whose conditions no longer hold (R478). -/
def lateRefusal (s : State) (a : Admitted) (r : RefRec) : RefRec :=
  let byMode := a.op == opModeSet || r.status == 0x0302 || (s.sys.mode != a.seen &&
    (match applyOp a.op a.cmd { s with sys := { s.sys with mode := a.seen } } with
     | .ok _ _ _ _ => true
     | .bad _ => false))
  if byMode && r.status != 0x0305 then rejAll 0x0305 else r

/-- An untimed command is applied (R31): its effect, its journal entry, its reply. -/
def effectAt (s : State) (a : Admitted) : State :=
  match applyOp a.op a.cmd s with
  | .bad r => s.refuseAt a (s.lateRefusal a r) s.sys.epoch
  | .ok t p ep tm =>
    let epoch : Option Nat := match ep with
      | none => some s.sys.epoch
      | some e => e
    let time : Option Nat := match ep, tm with
      | none, none => t.appliedTime
      | some none, _ => none
      | _, x => if t.flag F.TIM_STATUS_TIME_VALID then x else none
    let t := t.noteCommand a (if a.op = opSessionOpen then 5 else 0) 0 p
    let t := if a.cmd.src.val = 12 then t.macroDone a.cmd.slot 0 s.sys.epoch (epoch.getD (2 ^ 64 - 1)) else t
    t.replyLater a 0 epoch time p

/-- A command at its boundary. -/
def applyAt (s : State) (a : Admitted) : State :=
  match a.verdict with
  | .refuse r => s.refuseAt a r s.sys.epoch
  | .dry st p => (s.noteCommand a 2 st []).replyLater a st (some s.sys.epoch) none p
  | .accept =>
    match s.modeRefuses a with
    | some r => s.refuseAt a r s.sys.epoch
    | none => if a.timed then s.scheduleAt a else s.effectAt a

/-- Whether the record of the cycle has no room for a command (R500). -/
def recordFull (s : State) (a : Admitted) : Bool :=
  s.sys.role == .active && decide (262144 < s.twn.applied.foldl (fun n x => n + recCmdSize x.cmd) 36 + recCmdSize a.cmd)

/-- The commands of a boundary in their order, and those that wait for the next one with every later one of their source. -/
def applyCommands (s : State) : List Admitted → List Admitted → State × List Admitted
  | [], kept => (s, kept)
  | a :: l, kept =>
    if kept.any (fun x => x.cmd.src == a.cmd.src) || s.recordFull a then s.applyCommands l (kept ++ [a])
    else (s.applyAt a).applyCommands l kept

/-- The commands that the boundary applies, those of a QUENCH first, or those of a QUENCH alone. -/
def boundaryCommands (s : State) (order : List Nat) (quenchOnly : Bool) : State :=
  if !s.fwServes ∨ s.sys.mode = .cold then s
  else
    let l := boundaryOrder order s.cmd.admitted
    let rest := l.filter (fun a => !a.quenches)
    let s : State := { s with cmd := { s.cmd with admitted := [] } }
    let (s, kept) := s.applyCommands (l.filter Admitted.quenches ++ (if quenchOnly then [] else rest)) []
    { s with cmd := { s.cmd with admitted := kept ++ (if quenchOnly then rest else []) ++ s.cmd.admitted } }

/-! ## The boundary -/

/-- Whether a RESET command's reset is asserted now: its reply is released (R494). -/
def resetDue (s : State) : Bool := s.rst.rstPend.isSome && !s.cmd.unreleased.any (fun u => u.op == opReset && !u.late)

/-- A QUENCH at this boundary leaves no room for a promotion or another change of role (R20). -/
def dropTwin (s : State) : State :=
  let s := match s.twn.swapAt with
    | some (_, src, seq, _) => if 0xF0 ≤ src then s else s.finishReply src seq 0x0601 [] none
    | none => s
  { s with twn := { s.twn with promote := none, leave := false, swapAt := none, swapAck := false } }

/-- Changes of mode that the twin controller makes at this boundary, unless a QUENCH or a reset comes before them (R20). -/
def twinBoundary (s : State) : State :=
  if s.cmd.admitted.any Admitted.quenches && s.fwServes then s.dropTwin
  else if s.resetDue && s.rst.rstPend != some 3 then s
  else s.leaveNow.promoteBoundary.swapBoundary

/-- A failover request at the boundary (R545). -/
def failoverNow (s : State) : State :=
  if !s.axl.failover then s
  else
    let s : State := { s with axl := { s.axl with failover := false } }
    if s.sys.role = .active ∧ s.flag F.TWN_STAT_SYNC ∧ s.flag F.FLT_CFG_FAILOVER ∧ s.sys.mode = .pour ∧ s.twn.swapAt = none then
      s.swapPlan 0xFF 0 0x9
    else s.event blkFlt 3 0x0101 []

/-- A standby's own sequence numbers at the end of the cycle (R314). -/
def logSeqs (s : State) : State :=
  if s.sys.mode = .hold ∧ s.twinOn then
    let x := (s.mac.templates.filter (fun t => t.path == 0)).map (fun t => (t.flow, tplSeq t))
    { s with twn := { s.twn with rtpLog := lastN 1024 (s.twn.rtpLog ++ [(s.sys.epoch, x)]) } }
  else s

/-- The cast cycle ends and the next begins (R23 to R28): SYS_CAST, EPOCH, the length of the new cycle. -/
def castCount (s : State) (d0 : Bool) (len : Nat) : State :=
  let s := s.setFld F.SYS_CAST_LAST_LEN (min 128000 len)
  { s with sys := { s.sys with epoch := (s.sys.epoch + 1) % 2 ^ 64, castAge := 0, castSrc := d0, castLen := s.cycleNs } }

/-- What follows the commands of a boundary. -/
def castAfter (s : State) (before : Mode) : State :=
  let s := s.roleNow
  let s := if s.sys.mode = before then s
    else s.aksSend aksReport s.sys.epoch (leBytes 4 s.sys.mode.code ++ leBytes 8 s.sys.modeEpoch)
  let s := s.aptFormat.sendFull
  s.drainTriggers.readChanges.release

/-- Boundary N (R19, R20, R31, R32): flip requests, the twin's changes, the record of cycle N − 1, then EPOCH N with a pending
reset, a wake, ROLE, a failover request and the commands. A QUENCH, and no other command, comes before a reset (R20). -/
def boundary (s : State) (order : List Nat) (d0 : Bool) (len : Nat) : State :=
  let before := s.sys.mode
  let s := if s.rst.pUp then (List.range 4).foldl (fun (s : State) d => s.patBoundary d) s else s
  let s := (s.twinBoundary.logSeqs.sendRecord).castCount d0 len
  let s := if s.resetDue then (s.boundaryCommands order true).resetNow else s
  if !s.rst.aUp then s
  else
    let s := s.wakeNow.roleNow.failoverNow
    (s.boundaryCommands order false).castAfter before

/-- A D0 line start ends the cycle (R23, R25): after D0 has started, the first one at least 2 µs after the cycle began. At the
end of D0's last frame no line starts (R26, R69). -/
def castBoundary (s : State) (order : List Nat) : State :=
  if !s.rst.aUp || !s.onLines || (!s.sys.castSrc && decide (s.sys.castAge < 2000)) then s
  else s.boundary order true s.sys.castAge

/-- The 64 µs timer ends the cycle while D0 does not run (R24, R26). It runs from the release of the last source of Chip reach,
during the option load too (R28). -/
def castTimer (s : State) (order : List Nat) : State :=
  if s.chipHeld || s.running 0 then s else s.boundary order false 64000

/-! ## Timed commands (R251 to R258) -/

/-- Whether a pending timed command is the one of a source and SEQ. -/
def isTimed (src seq : Nat) (t : Timed) : Bool := t.cmd.src.val == src && t.cmd.seq.toNat == seq

/-- CS13 releases an action list (R254). -/
def timedRelease (s : State) (src seq : Nat) : State :=
  { s with pat := { s.pat with sched := s.pat.sched.map (fun (t : Timed) => if isTimed src seq t then { t with released := true } else t) } }

/-- The PTP second fraction before which no flip takes a change bound now, in every domain that waits for no flip already. -/
def nameLine (s : State) (w : Option Nat) : State :=
  (List.range 4).foldl (fun (u : State) d =>
    let p := u.patDom d
    if p.deferred || !p.rawPend.isEmpty then u else u.setPatDom d { p with notBefore := w }) s

/-- CS13 applies a timed command (R254, R255, R256): journalled with CS13's own SEQ, and a second reply goes to its source. -/
def timedFire (s : State) (src seq : Nat) : State :=
  match s.pat.sched.find? (isTimed src seq) with
  | none => s
  | some t =>
    if !s.rst.pUp then s
    else
      let s : State := { s with pat := { s.pat with sched := s.pat.sched.filter (fun x => !isTimed src seq x) } }
      let s := s.schedCount
      let okMode := match opInfo t.op with
        | some x => x.acceptedIn s.sys.mode
        | none => false
      let byPtp := !t.cmd.whenEpoch && (opInfo t.op).any (fun x => x.cls == .frame)
      let res : CmdResult := if okMode then applyOp t.op t.cmd (if byPtp then s.nameLine (some t.cmd.whenF.toNat) else s)
        else .bad (rejAll 0x0305)
      let now := s.sys.epoch
      let (s, status, payload, epoch, time) : State × Nat × Bytes × Option Nat × Option Nat := match res with
        | .ok u p ep tm => (u.nameLine none, 0, p, ep.getD (some now), match ep with
          | none => u.appliedTime
          | some none => none
          | some _ => if u.flag F.TIM_STATUS_TIME_VALID then tm else none)
        | .bad r => (s, r.status, r.bytes, some now, none)
      let n := s.fld F.CMD_SRC_SEQ_NEXT_SEQ 13
      let s := s.journal ⟨now, 13, 4, 0, n, t.op, status, t.cmd.tag.toNat, src, seq⟩
      let s := (s.setFld F.CMD_SRC_SEQ_NEXT_SEQ ((n + 1) % 4294967296) 13).setFld F.CMD_SRC_SEQ_LAST_APPLIED n 13
      let s : State := { s with twn := { s.twn with firedNow := s.twn.firedNow ++ [(src, seq)] } }
      ((s.secondReply t status payload epoch time)).release

/-- Firmware is back after a restart (R530, R466, R258, R62): it serves commands, reads the waiting stamps, fires the waiting
triggers and sends the waiting replies. -/
def firmwareReturn (s : State) : State :=
  if !(s.rst.cUp && s.rst.restarting && s.sys.meltReady) then s
  else
    let s : State := { s with rst := { s.rst with fwUp := true, restarting := false, wdtStart := s.tick } }
    s.txqRead.drainTriggers.release

end State

/-! ## Rows -/

/-- CAST_BOUNDARY (R23). -/
def execCastBoundary (order : List Nat) (s : State) : Host.Outcome State Fault Refusal := runEff (fun s => s.castBoundary order) s

/-- CAST_TIMER_EXPIRY (R24). -/
def execCastTimerExpiry (order : List Nat) (s : State) : Host.Outcome State Fault Refusal := runEff (fun s => s.castTimer order) s

/-- TIMED_RELEASE (R254). -/
def execTimedRelease (src seq : Nat) (s : State) : Host.Outcome State Fault Refusal := runEff (fun s => s.timedRelease src seq) s

/-- TIMED_FIRE (R255). -/
def execTimedFire (src seq : Nat) (s : State) : Host.Outcome State Fault Refusal := runEff (fun s => s.timedFire src seq) s

/-- FIRMWARE_RETURN (R530). -/
def execFirmwareReturn (s : State) : Host.Outcome State Fault Refusal := runEff State.firmwareReturn s

end Sys2Proof.Machine
end

