-- ==== Sys2Proof/Machine/Intake.lean ====
section
/-! DEFINITION. How packets come in: the submission rings of the host (R457), UDP datagrams and their fragments on the network
control endpoints (R459, R460), and packets held ahead of NEXT_SEQ (R464). -/

namespace Sys2Proof.Machine

namespace State

/-! ## Submission rings (R457) -/

/-- Whether the device reads the descriptors of a ring now (R473): the ring and its source are enabled and the part is awake. -/
def ringServed (s : State) (src : Nat) : Bool :=
  s.ringOn src && s.flag F.CMD_SRC_CFG_EN src && s.sys.mode != .cold && s.rst.aUp

/-- The device reads one descriptor: CONS advances and the packet arrives. -/
def readSub (s : State) (src : Nat) (d : Submission) : State :=
  if s.unread src = 0 then s
  else
    let cons := s.fld F.CMD_RING_CFG_CONS src
    let s := s.setFld F.CMD_RING_CFG_CONS ((cons + 1) % 65536) src
    let x := parseCmd (Fin.ofNat 16 src) (cons % s.ringSize src) d.rplCap 0 0 d.packet
    s.arrive x.1 x.2 d.packet

/-- A write of PROD: ignored with PROD_REFUSED set where the outstanding count would pass 256 or the ring size; else the device
reads the descriptors that it has not read, in order. -/
def prodWrite (s : State) (src value : Nat) (subs : List Submission) : State :=
  if 8 ≤ src ∨ !s.rst.hUp then s
  else
    let n := (value % 65536 + 65536 - s.fld F.CMD_RING_CFG_PROD src) % 65536
    if min 256 (s.ringSize src) < s.outstanding src + n then s.setFlag F.CMD_SRC_STAT_PROD_REFUSED true src
    else
      let s := s.setFld F.CMD_RING_CFG_PROD (value % 65536) src
      if s.ringServed src then subs.foldl (fun (s : State) d => s.readSub src d) s else s

/-! ## Network control endpoints (R459) -/

/-- Whether a management port is up: an S-lane in Ethernet use is bound to it and receives (R105). -/
def mgmtUp (s : State) (port : Nat) : Bool :=
  s.rst.pUp && (List.range 68).any (fun l => s.fld F.SLN_LANE_CFG_USE l == 2 && s.flag F.SLN_LANE_CFG_RX_EN l &&
    s.fld F.SLN_LANE_CFG_MGMT_PORT l == port)

/-- The endpoint that listens on a UDP port of a management port: the lowest such source. -/
def endpointOf (s : State) (port udpPort : Nat) : Option Nat :=
  ((List.range 4).find? (fun n => s.flag F.CMD_NET_EP_EN n && s.fld F.CMD_NET_EP_MGMT_PORT n == port &&
    s.fld F.CMD_NET_EP_UDP_PORT n == udpPort)).map (· + 8)

/-- A whole datagram is one packet. -/
def datagram (s : State) (src peer srcPort : Nat) (data : Bytes) : State :=
  let x := parseCmd (Fin.ofNat 16 src) 0 65536 (BitVec.ofNat 32 peer) (BitVec.ofNat 16 srcPort) data
  s.arrive x.1 x.2 data

/-- Whether a partial datagram is the one a fragment belongs to. -/
def partialIs (src ident peer : Nat) (p : PartialDatagram) : Bool := p.src == src && p.ident == ident && p.peer == peer

/-- The payload of a datagram whose every byte has come. -/
def assembled (p : PartialDatagram) : Option Bytes :=
  match p.total with
  | none => none
  | some n =>
    let covered := (List.range n).all (fun i => p.frags.any (fun f => decide (f.1 ≤ i) && decide (i < f.1 + f.2.length)))
    if !covered then none
    else some ((List.range n).map (fun i => match p.frags.find? (fun f => decide (f.1 ≤ i) && decide (i < f.1 + f.2.length)) with
      | some f => f.2.getD (i - f.1) 0
      | none => 0))

/-- A fragment: `off` is its first byte's place in the UDP payload, `more` that later ones follow. The ninth datagram in parts
of an endpoint is dropped. -/
def fragment (s : State) (src ident peer srcPort off : Nat) (more : Bool) (data : Bytes) : State :=
  let old := s.cmd.partials.find? (partialIs src ident peer)
  if old.isNone ∧ 8 ≤ (s.cmd.partials.filter (fun p => p.src == src)).length then s
  else
    let was : PartialDatagram := old.getD ⟨src, ident, peer, [], none⟩
    let now : PartialDatagram := { was with frags := was.frags ++ [(off, data)],
                                            total := if more then was.total else some (off + data.length) }
    let rest := s.cmd.partials.filter (fun p => !partialIs src ident peer p)
    match assembled now with
    | none => { s with cmd := { s.cmd with partials := rest ++ [now] } }
    | some b => ({ s with cmd := { s.cmd with partials := rest } } : State).datagram src peer srcPort b

end State

/-- PROD_WRITE (R457). `subs` holds the descriptors from CONS on, with the packets that the device reads from host memory. -/
def execProdWrite (src value : Nat) (subs : List Submission) (s : State) : Host.Outcome State Fault Refusal :=
  runEff (fun s => s.prodWrite src value subs) s

/-- HELD_PACKET_TIMEOUT (R464): 10 ms after it arrived, a packet still held is refused with SEQ_GAP. -/
def execHeldPacketTimeout (src seq : Nat) (s : State) : Host.Outcome State Fault Refusal :=
  runEff (fun s =>
    match s.cmd.held.find? (fun h => h.cmd.src.val == src && h.cmd.seq.toNat == seq) with
    | none => s
    | some h =>
      let keep := s.cmd.held.filter (fun x => !(x.cmd.src.val == src && x.cmd.seq.toNat == seq))
      ({ s with cmd := { s.cmd with held := keep } } : State).answer h.cmd (rejAll 0x0107)) s

/-- FRAGMENT_TIMEOUT (R459): after 100 ms a partial datagram is discarded. -/
def execFragmentTimeout (src ident peer : Nat) (s : State) : Host.Outcome State Fault Refusal :=
  runEff (fun s =>
    { s with cmd := { s.cmd with partials := s.cmd.partials.filter (fun p => !State.partialIs src ident peer p) } }) s

/-- MGMT_DATAGRAM_RECEIVE (R459): a UDP datagram or one of its fragments, with the ports and addresses of the datagram. -/
def execMgmtDatagramReceive (port udpPort peer srcPort ident off : Nat) (more : Bool) (data : Bytes) (s : State) :
    Host.Outcome State Fault Refusal :=
  runEff (fun s =>
    if !s.mgmtUp port ∨ !s.rst.aUp ∨ s.sys.mode = .cold then s
    else match s.endpointOf port udpPort with
      | none => s
      | some src => if off = 0 ∧ !more then s.datagram src peer srcPort data else s.fragment src ident peer srcPort off more data) s

end Sys2Proof.Machine
end

