-- ==== Sys2Proof/Machine/Bus.lean ====
section
/-! DEFINITION. The control bus matrix (chapter 21): what a register reads as, reads with side effects, direct writes field by
field, the default target, and the windows onto the pattern SRAM and the Newt memories. -/

namespace Sys2Proof.Machine

/-- Control address of the register space, and of the pattern SRAM window (R574). -/
def regBase : Nat := 0x40000000
def patBase : Nat := 0x200000000

/-- Control address of the pool aperture (R574). -/
def poolBase : Nat := 0x1000000000

/-- Where a control address leads (R574): a register-space offset, an offset of the pattern window, the audio tank, the boot ROM,
the control SRAM, the pool aperture, or nowhere. -/
inductive Target where
  | reg (off : Nat)
  | pattern (off : Nat)
  | tank | rom | sram | pool
  | none
  deriving DecidableEq, Repr

/-- The target of a control address. -/
def targetOf (a : Nat) : Target :=
  if regBase ≤ a ∧ a < regBase + 0x10000000 then .reg (a - regBase)
  else if patBase ≤ a ∧ a < patBase + 0x400000 then .pattern (a - patBase)
  else if 0x100000000 ≤ a ∧ a < 0x102000000 then .tank
  else if a < 0x40000 then .rom
  else if 0x1000000 ≤ a ∧ a < 0x2000000 then .sram
  else if poolBase ≤ a ∧ a < 0x3000000000 then .pool
  else .none

/-- An offset of NWT_MEM_WIN (R414). -/
def isNwtWin (off : Nat) : Bool := decide (0x1190000 ≤ off) && decide (off < 0x11A0000)

/-- A word with a value over some of its bits. -/
def overlay (w : Word) (f : Fld) (v : Nat) : Word := putBits w f.hi f.lo v

/-- The higher words that a read of a low word latches (R584). -/
def latchesOf (a : Nat) : List Nat :=
  if a = 0x10 ∨ a = 0x18 ∨ a = 0x500000 ∨ a = 0x500048 ∨ a = 0xC00044 ∨ a = 0x4A0000 ∨ a = 0x1400010 ∨ a = 0x200014 ∨
      a = 0x20001C then [a + 4]
  else if a = 0x500010 then [a + 4, a + 8, a + 12, a + 16, a + 20]
  else if a = 0x300010 then [a + 4, a + 8]
  else if a = 0x4A0010 then (List.range 7).map (fun i => a + 4 + 4 * i)
  else if 0x680010 ≤ a ∧ a < 0x680410 ∧ a % 0x100 = 0x10 then [a + 4, a + 8, a + 12]
  else if 0xD00008 ≤ a ∧ a < 0xD00408 ∧ a % 0x100 = 8 then [a + 4]
  else if 0xD20008 ≤ a ∧ a < 0xD40000 ∧ a % 16 = 8 ∧ (regRow a).isSome then [a + 4]
  else if 0x501000 ≤ a ∧ a < 0x501400 ∧ a % 0x20 = 0 then [a + 4, a + 8, a + 12]
  else []

/-- Whether a word is one that a read of a lower word latches. -/
def isLatched (a : Nat) : Bool :=
  (List.range 7).any (fun i => decide (4 * (i + 1) ≤ a) && (latchesOf (a - 4 * (i + 1))).contains a)

namespace State

/-! ## What a register reads as -/

/-- SYS_MODE. -/
def sysModeWord (s : State) : Word :=
  BitVec.ofNat 32 (s.sys.lastCause * 1048576 + b2n s.sys.meltReady * 524288 + s.sys.role.code * 65536 +
    b2n s.modeTarget.isSome * 2048 + ((s.modeTarget.map Mode.code).getD 0) * 256 + s.sys.mode.code)

/-- SYS_CAST: the source of the boundary that ends the cycle, and the length of the last one (R23, R24). -/
def sysCastWord (s : State) : Word := BitVec.ofNat 32 (b2n s.onLines * 2147483648 + s.fld F.SYS_CAST_LAST_LEN)

/-- TIM_RATE: the rate in force, with the slew term while it applies (R48, R50). -/
def rateNow (s : State) : Nat := toField 32 (if s.tick < s.tim.slewEnd then s.tim.slewRate else s.tim.freq)

/-- Word `i` of TIM_NOW and its set (R49): NS, SEC_LO, SEC_HI, FRAC, TICK_LO, TICK_HI. -/
def nowWord (s : State) (i : Nat) : Word :=
  let t := s.ptpNow
  let sec := t / secUnits
  BitVec.ofNat 32 (match i with
    | 0 => t / 65536 % 1000000000
    | 1 => sec % 4294967296
    | 2 => sec / 4294967296 % 65536
    | 3 => t % 65536
    | 4 => s.tick % 4294967296
    | _ => s.tick / 4294967296)

/-- Word `i` of REF_RAS_POS of domain `d` (R65, R68): from a start or a frame boundary on, line 1 and slot 0. -/
def rasPosWord (s : State) (d i : Nat) : Word :=
  let r := s.rasOf d
  BitVec.ofNat 32 (match i with
    | 0 => if s.running d && r.line == 0 then 65536 else r.line * 65536 + r.slot
    | 1 => r.frameN % 4294967296
    | 2 => r.lineTick % 4294967296
    | _ => r.lineTick / 4294967296)

/-- Word `i` of POOL_FREE. -/
def poolFreeWord (s : State) (i : Nat) : Word :=
  let largest := s.pool.free.foldl (fun m e => max m e.2) 0
  let used := s.pool.rings.foldl (fun n r => n + r.extents.length) 0
  let least := (List.range 128).foldl (fun m c => min m (s.reserveLeft c)) 8192
  BitVec.ofNat 32 (match i with
    | 0 => s.freeTiles
    | 1 => largest
    | 2 => min 65535 used * 65536 + min 65535 s.pool.free.length
    | _ => min 65535 s.pool.remap.length * 65536 + least)

/-- Word `i` of entry `k` of POOL_PPR_Q (R213, R214). -/
def pprWord (s : State) (k i : Nat) : Word :=
  match s.pool.ppr[k]? with
  | none => 0
  | some r => BitVec.ofNat 32 (if i = 0 then 2147483648 + b2n r.noSpare * 1073741824 + r.channel * 8388608 + r.bank * 524288 + r.row
      else r.tile)

/-- Word `i` of CMD_JNL_DATA: the entry that CMD_JNL_SEL names; where the store holds none, word 0 is all ones and the rest is
open. -/
def jnlWord (s : State) (i : Nat) : Word :=
  let k := s.pair F.CMD_JNL_SEL_INDEX_W0 F.CMD_JNL_SEL_INDEX_W1
  let first := s.jnlHead - s.jnl.length
  match (if k < first then none else s.jnl[k - first]?) with
  | some e => BitVec.ofNat 32 (u32 e.bytes (4 * i))
  | none => if i = 0 then 0xFFFFFFFF#32 else BitVec.ofNat 32 (u32 (openEntry 0x0C 32 [k]) (4 * i))

/-- Whether a MAC's transmitter is in electrical idle (R151, R538). -/
def macIdle (s : State) (m : Nat) : Bool :=
  !(s.rst.pUp && s.flag F.MAC_CFG_EN m && (match s.sys.mode with
    | .pour | .hold => true
    | .melt | .proof => s.flag F.MAC_CFG_TX_EN m
    | _ => false))

/-- Whether an H-lane's transmitter is in electrical idle (R116, R120, R151, R538). -/
def laneIdle (s : State) (l : Nat) : Bool :=
  let use := s.fld F.HLN_LANE_CFG_USE l
  !(s.rst.pUp && s.flag F.HLN_LANE_CFG_EN l && (match s.sys.mode with
    | .cold => false
    | .quench => use == 3 || (use == 2 && byteAt s.otp.applied 6 == 1)
    | .melt | .proof => if use = 1 then !s.macIdle (s.fld F.HLN_LANE_CFG_OWNER l) else use != 0
    | _ => use != 0 && use != 4))

/-- Words of the SYS, CMD and TIM blocks that follow from other state. -/
def liveLow (s : State) (a : Nat) (w : Word) : Word :=
  if a = 0x8 then s.sysModeWord
  else if a = 0x20 then s.sysCastWord
  else if a = 0x10 then BitVec.ofNat 32 s.sys.epoch
  else if a = 0x14 then BitVec.ofNat 32 (s.sys.epoch / 4294967296)
  else if a = 0x18 then BitVec.ofNat 32 s.sys.modeEpoch
  else if a = 0x1C then BitVec.ofNat 32 (s.sys.modeEpoch / 4294967296)
  else if a = 0x40 then BitVec.ofNat 32 s.intLines
  else if 0x400020 ≤ a ∧ a < 0x401020 ∧ a % 0x100 = 0x20 then
    overlay w F.CMD_SRC_STAT_OUTSTANDING (min 256 (s.outstanding ((a - 0x400020) / 0x100)))
  else if a = 0x4A0000 then BitVec.ofNat 32 s.jnlHead
  else if a = 0x4A0004 then BitVec.ofNat 32 (s.jnlHead / 4294967296)
  else if 0x4A0010 ≤ a ∧ a < 0x4A0030 then s.jnlWord ((a - 0x4A0010) / 4)
  else if a = 0x500000 then BitVec.ofNat 32 s.tick
  else if a = 0x500004 then BitVec.ofNat 32 (s.tick / 4294967296)
  else if 0x500010 ≤ a ∧ a < 0x500028 then s.nowWord ((a - 0x500010) / 4)
  else if a = 0x500030 then BitVec.ofNat 32 s.rateNow
  else if a = 0x500050 then overlay w F.TIM_STATUS_TXQ_OVF_ANY (b2n (s.fld F.TIM_TXQ_OVF_OVF != 0))
  else w

/-- Words of the other blocks that follow from other state. -/
def liveHigh (s : State) (a : Nat) (w : Word) : Word :=
  if 0x640010 ≤ a ∧ a < 0x640800 ∧ 0x10 ≤ a % 0x200 ∧ a % 0x200 < 0x34 then
    overlay w F.REF_DPLL_CAND_FAMILY_BAD (b2n (s.familyBad ((a - 0x640000) / 0x200) ((a % 0x200 - 0x10) / 4)))
  else if 0x680010 ≤ a ∧ a < 0x680420 ∧ 0x10 ≤ a % 0x100 ∧ a % 0x100 < 0x20 then
    s.rasPosWord ((a - 0x680000) / 0x100) ((a % 0x100 - 0x10) / 4)
  else if 0x700004 ≤ a ∧ a < 0x702400 ∧ a % 0x40 = 4 then overlay w F.HLN_LANE_STAT_TX_IDLE (b2n (s.laneIdle ((a - 0x700000) / 0x40)))
  else if 0xA00010 ≤ a ∧ a < 0xA80000 ∧ a % 0x4000 = 0x10 then
    overlay w F.MAC_LINK_STAT_TX_IDLE (b2n (s.macIdle ((a - 0xA00000) / 0x4000)))
  else if 0xC00010 ≤ a ∧ a < 0xC00020 then s.poolFreeWord ((a - 0xC00010) / 4)
  else if 0xC20000 ≤ a ∧ a < 0xC22000 then s.pprWord ((a - 0xC20000) / 8) (a % 8 / 4)
  else if 0xD00004 ≤ a ∧ a < 0xD00400 ∧ a % 0x100 = 4 then overlay w F.PAT_BANK_RUNNING (b2n (s.sequencing ((a - 0xD00000) / 0x100)))
  else if 0xD00028 ≤ a ∧ a < 0xD00400 ∧ a % 0x100 = 0x28 then overlay w F.PAT_SLIP_CNT_IN_WIN (s.slipsInWin ((a - 0xD00000) / 0x100))
  else if a = 0xD10010 then overlay w F.PAT_SCHED_STAT_PENDING s.pat.sched.length
  else if a = 0x2B00000 then
    overlay (overlay w F.CHM_STAT_FENCE_LATE_ANY (b2n ((List.range 16).any (fun i => s.fld F.CHM_FENCE_LATE_LATE i != 0))))
      F.CHM_STAT_LBUF_SHORT_ANY (b2n ((List.range 16).any (fun i => s.fld F.CHM_LBUF_SHORT_SHORT i != 0)))
  else if 0x1210020 ≤ a ∧ a < 0x1211020 ∧ a % 0x100 = 0x20 ∧ (s.sys.mode = .quench ∨ s.sys.mode = .cold) then
    overlay w F.APT_PORT_STAT_FORMAT 3
  else if 0xE60000 ≤ a ∧ a < 0xE68000 ∧ a % 16 = 0 then overlay w F.SHK_FLOW_STAT_SENDING (b2n (s.outSending (0x800 + (a - 0xE60000) / 16)))
  else if a = 0x1500000 then s.keyStat
  else if 0x1501000 ≤ a ∧ a < 0x1501400 then s.keySlotStat ((a - 0x1501000) / 16) (a % 16 / 4)
  else if 0x1700100 ≤ a ∧ a < 0x1700300 then BitVec.ofNat 32 (u32 s.otp.applied (a - 0x1700100))
  else w

/-- A register word as it reads now: write-only fields read zero (R7), and words that follow from other state are computed. -/
def liveWord (s : State) (a : Nat) : Word :=
  let w := match regRow a with
    | none => 0
    | some r => r.fields.foldl (fun w f => if f.acc = .wo then putBits w f.hi f.lo 0 else w) (s.reg a)
  if a < 0x600000 then s.liveLow a w else s.liveHigh a w

/-! ## Reach, domains and the default target (R573, R576, R577, R588) -/

/-- Whether a target's domain is out of reset for an access by a master (R528, R577). In Cold only the always-on path serves, and only the
host and the debug port. -/
def domServes (s : State) (m : Nat) (t : Target) : Bool :=
  let byDom (d : Dom) : Bool := match d with
    | .a | .b => s.rst.aUp
    | .c => s.rst.cUp
    | .p => s.rst.pUp
    | .h => s.rst.hUp
  if s.sys.mode = .cold ∧ !s.rst.waking then (match t with
    | .reg off => (m == 4 || m == 5) && decide (off < 0x100) && (regRow off).isSome && s.rst.aUp
    | _ => false)
  else match t with
    | .reg off => if isNwtWin off then s.rst.pUp else ((domOf off).map byDom).getD false
    | .pattern _ | .tank | .pool => s.rst.pUp
    | .rom | .sram => s.rst.cUp
    | .none => false

/-- Whether a master reaches a target (R573, R586, R588). -/
def reaches (s : State) (m : Nat) (t : Target) (write : Bool) : Bool :=
  match m, t with
  | 4, .reg _ | 4, .pattern _ | 5, .reg _ => true
  | 4, _ => false
  | 5, _ => s.sys.unlock
  | 6, .sram => true
  | 6, _ => false
  | 7, .sram => true
  | 7, _ => !write
  | _, _ => decide (m < 4)

/-- Whether an access is one the target takes (R577, R583, R588). -/
def accessOk (s : State) (a : BusAccess) (write : Bool) : Bool :=
  let t := targetOf a.addr
  let shape := match t with
    | .reg off => a.enables == 15 && decide (off % 4 = 0) && (isNwtWin off || (regRow off).isSome)
    | .rom | .tank => !write
    | _ => true
  s.reaches a.master t write && s.domServes a.master t && shape

/-! ## Reads -/

/-- A master's latch of a word (R584). -/
def latchOf (s : State) (m a : Nat) : Word := sget (fun _ => 0) s.latches (m * 268435456 + a)

/-- Fill a master's latch of a word. -/
def setLatch (s : State) (m a : Nat) (w : Word) : State :=
  { s with latches := sset (fun _ => 0) s.latches (m * 268435456 + a) w }

/-- The read restarts what a peak register tracks: the register reads as at reset until the next reading. -/
def restartPeak (s : State) (a : Nat) : State :=
  if 0x110001C ≤ a ∧ a < 0x1144000 ∧ a % 0x1000 = 0x1C then s.setFld F.NWT_CORE_CNT_CYC_PEAK 0 ((a - 0x1100000) / 0x1000)
  else if 0xC10018 ≤ a ∧ a < 0xC12000 ∧ a % 0x40 = 0x18 then
    let ch := (a - 0xC10018) / 0x40
    (s.setFld F.POOL_CH_CNT_TAG_PEAK_PAT (s.patternUse ch) ch).setFld F.POOL_CH_CNT_TAG_PEAK_REC (s.recoveryUse ch) ch
  else if 0x1320000 ≤ a ∧ a < 0x1320050 then s.setFld F.MEAS_ENV_TEMP_MAX 0x8000 ((a - 0x1320000) / 4)
  else if 0x1320100 ≤ a ∧ a < 0x1320124 then s.setFld F.MEAS_ENV_RAIL_MIN 0xFFFF ((a - 0x1320100) / 4)
  else s

/-- A read of word 0 of TIM_TXQ (R61): the oldest stamp of the MAC leaves the queue into the reading master's latches. It does so in
every mode, with the PTP instance enabled too (DESIGN CHOICE, log entry 106: the rule says only when the host may read). -/
def txqPop (s : State) (m mac : Nat) : State :=
  match s.tim.txq.find? (fun x => x.mac == mac) with
  | none => s.emit (.busData m [0] false)
  | some x =>
    let s : State := { s with tim := { s.tim with txq := s.tim.txq.erase x } }
    let s := s.txqDepth mac
    let a := F.TIM_TXQ_NS.addr mac 0
    let sec := x.ns / 1000000000
    let s := s.setLatch m a (BitVec.ofNat 32 (x.ns % 1000000000))
    let s := (s.setLatch m (a + 4) (BitVec.ofNat 32 (sec % 4294967296))).setLatch m (a + 8) (BitVec.ofNat 32 (sec / 4294967296 % 65536))
    s.emit (.busData m [BitVec.ofNat 32 (2147483648 + x.ident % 65536)] false)

/-- A read of a register word: its latches are filled, a latched word comes from the master's latch, and a peak starts again. -/
def readReg (s : State) (m off : Nat) : State :=
  if 0x501000 ≤ off ∧ off < 0x501400 ∧ off % 0x20 = 0 then s.txqPop m ((off - 0x501000) / 0x20)
  else
    let w := if isLatched off then s.latchOf m off else s.liveWord off
    let s := (latchesOf off).foldl (fun (t : State) h => t.setLatch m h (s.liveWord h)) s
    let s := s.restartPeak off
    s.emit (.busData m [w] false)

/-- The word of a pattern bank at an offset of the window (R226). -/
def patWinRead (s : State) (off : Nat) : Word :=
  let (d, b, x) := (off / 0x100000, off / 0x80000 % 2, off % 0x80000)
  let part (e : BitVec 128) : Word := BitVec.ofNat 32 (e.toNat >>> (8 * (off % 16 / 4 * 4)))
  if x < 0x40000 then part ((s.bank d b).ent (x / 16))
  else if x < 0x50000 then part ((s.bank d b).runE ((x - 0x40000) / 16))
  else 0

/-- The window of 12 to 15 whose region holds an offset of the pool aperture, with the byte of the region (R220). -/
def winAt (s : State) (off : Nat) : Option (Nat × Nat) :=
  ([12, 13, 14, 15].find? (fun w => decide (s.fld F.POOL_WIN_CFG_OFFSET w * 4096 ≤ off) &&
    decide (0 < s.winRoom w (off - s.fld F.POOL_WIN_CFG_OFFSET w * 4096)))).map
    (fun w => (w, off - s.fld F.POOL_WIN_CFG_OFFSET w * 4096))

/-- A 32-bit read on the matrix; accesses run whole, in the order of their commands (R580 to R583). The pool aperture answers through its windows (R220). What the control SRAM, the boot ROM and the
audio tank hold is not stated there: the word is free. -/
def busRead (s : State) (a : BusAccess) : State :=
  if !s.masterUp a.master then s
  else if !s.accessOk a false then s.defaultHit a false
  else match targetOf a.addr with
    | .reg off => if isNwtWin off then s.emit (.busData a.master [s.nwtWinRead (off - 0x1190000)] false) else s.readReg a.master off
    | .pattern off => s.emit (.busData a.master [s.patWinRead off] false)
    | .pool => match s.winAt (a.addr - poolBase) with
      | some (w, b) => s.winAsk (.read a.master w b 4)
      | none => s.defaultHit a false
    | .none => s.defaultHit a false
    | .rom | .sram | .tank =>
      let x := s.fresh 32
      x.2.emit (.busData a.master [BitVec.ofNat 32 x.1] false)

/-! ## Direct writes (R589) -/

/-- Registers whose writes by the host are no configuration writes. -/
def exemptReg (off : Nat) : Bool :=
  (decide (0xFE0000 ≤ off) && decide (off < 0xFE0800) && decide (off % 8 = 0)) ||
    (decide (0x400050 ≤ off) && decide (off < 0x400870) && decide (0x50 ≤ off % 0x100) && decide (off % 0x100 < 0x70)) ||
    off == 0x100008 || off == 0x30

/-- Whether R589 or a register's own Melt rule refuses a write to a word's RW and RWS fields. -/
def ownedNow (s : State) (m off : Nat) : Bool :=
  let melt := s.sys.mode == .melt
  match regRow off with
  | none => false
  | some r => (r.meltOnly && !melt) || ((m == 4 || m == 5) && !melt && !s.sys.unlock && !exemptReg off)

/-- Whether the host or the debug port may write a window now (R9); firmware may always. -/
def directOk (s : State) (m : Nat) : Bool := !(m == 4 || m == 5) || s.sys.mode == .melt || s.sys.unlock

/-- One field of a written word by its access code (R7). `owned` refuses RW and RWS; an undefined value leaves the field and
sets BAD_VALUE (R6). -/
def writeField (a : BusAccess) (off v : Nat) (owned : Bool) (s : State) (f : FieldRow) : State :=
  let x := (v >>> f.lo) % 2 ^ (f.hi + 1 - f.lo)
  let w := s.reg off
  let old := getBits w f.hi f.lo
  match f.acc with
  | .ro | .wo => s
  | .w1c => s.setReg off (putBits w f.hi f.lo (old - (old &&& x)))
  | .w1s => s.setReg off (putBits w f.hi f.lo (old ||| x))
  | .cnt => if x = 0 then s else s.setReg off (putBits w f.hi f.lo 0)
  | .rw | .rws =>
    if owned then s
    else if f.legal.isEmpty || inRanges f.legal x then s.setReg off (putBits w f.hi f.lo x)
    else if s.rst.cUp then (s.setFlag F.BUS_STAT_BAD_VALUE true).busLog a true 3
    else s

/-- A write of SYS_INT_VEC (R591): the vector is sent again while an enabled line is raised. -/
def vecAgain (s : State) : State :=
  if s.rst.hUp && ((List.range 25).any (fun n => (s.fld F.SYS_INT_EN_LINE).testBit n && s.intLines.testBit n)) then s.sendVec else s

/-- What follows a write of the REF block (chapters 02 and 03): an input switched off (REF_IN_CFG.EN), the selectors' choice (R73,
R80, R83), the oscillator (R74), a clock output, of which FREQ and DPLL wait for the frame boundary of the newly named domain
(R94), a stopped generator enabled or disabled (R68, R89), and a new offset (R71). -/
def afterRefWrite (s t : State) (off : Nat) : State :=
  if off < 0x600240 then
    let i := (off - 0x600000) / 0x40
    (if s.flag F.REF_IN_CFG_EN i && !t.flag F.REF_IN_CFG_EN i then t.inputOff i
     else if i = 3 ∧ t.fld F.TIM_STATUS_SERVO = servoLocked then t.ptpPresent else t).reviewAll
  else if 0x640000 ≤ off ∧ off < 0x640800 then
    (if off % 0x200 < 0x34 then t.review ((off - 0x640000) / 0x200) else t)
  else if 0x660000 ≤ off ∧ off < 0x660090 then
    let o := (off - 0x660000) / 16
    let w := if o < 8 then t.reg off &&& 0xFFFFFFF7#32 else t.reg off
    let old := s.reg off
    if old &&& 0xF3#32 = w &&& 0xF3#32 ∨ !s.running (w.toNat % 4) then t.setReg off w
    else
      let t := t.setReg off ((old &&& 0x7FFFFFFF#32) ||| (w &&& 0x80000000#32))
      { t with ref := { t.ref with clkPend := upsert (fun p => p.1 == o) (o, w.toNat) t.ref.clkPend } }
  else if off = 0x670000 then t.oscChosen
  else if 0x680000 ≤ off ∧ off < 0x680400 then
    let d := (off - 0x680000) / 0x100
    if off % 0x100 = 0 then
      (if s.running d then t
       else if t.flag F.REF_RAS_CFG_EN d then t.rasterEnabled d else t.rasterDisabled d).review d
    else if off % 0x100 = 4 ∧ s.running d then t.absorbBy d (t.sfld F.REF_RAS_OFS_OFS d - s.sfld F.REF_RAS_OFS_OFS d)
    else t
  else t

/-- A video input flow takes its paths, receiver type, hold and port from LAD_FLOW_CFG as a direct write left it. What a definition
fixed with the ring, the unit and the companion flow stays (DESIGN CHOICE, log entry 134). -/
def ladTake (s : State) (f : Nat) : State :=
  s.modFlow f (fun x => { x with
    paths := s.fld F.LAD_FLOW_CFG_COPE_EN f + 2 * s.fld F.LAD_FLOW_CFG_DRAG_EN f, rxType := s.fld F.LAD_FLOW_CFG_RXTYPE f,
    mergeHold := s.fld F.LAD_FLOW_CFG_MERGE_HOLD f, link := s.fld F.LAD_FLOW_CFG_LINK f, port := s.fld F.LAD_FLOW_CFG_PORT f })

/-- What else follows a write of a register's RW fields: TIM_RATE in force from now while PTP is off, a pin configured, a
port's masks (R425), a
completion ring's first pass, and what follows a write of the REF block. -/
def afterWrite (s t : State) (off v : Nat) : State :=
  if 0x600000 ≤ off ∧ off < 0x700000 then s.afterRefWrite t off else
  if off = 0x48 then t.vecAgain
  else if off = 0x500030 then
    (if t.tim.ptpEn then t else
      let now := t.ptpNow
      { t with tim := { t.tim with base := now, tickBase := t.tick, freq := sext 32 (v % 4294967296), slew := 0, slewEnd := t.tick } })
  else if 0x1800000 ≤ off ∧ off < 0x1800400 ∧ off % 16 = 0 then
    { t with gpio := { t.gpio with configured := ascending (t.gpio.configured ++ [(off - 0x1800000) / 16]) } }
  else if 0x1210010 ≤ off ∧ off < 0x1211018 ∧ (off % 0x100 = 0x10 ∨ off % 0x100 = 0x14) then
    let p := (off - 0x1210010) / 0x100
    s.maskChange p (t.fld F.APT_MASK_IN_MASK p) (t.fld F.APT_MASK_OUT_MASK p)
  else if 0x700000 ≤ off ∧ off < 0x702400 ∧ off % 0x40 = 0 then
    let l := (off - 0x700000) / 0x40
    (t.laneOff s l).ownersRefresh s l
  else if 0x800000 ≤ off ∧ off < 0x801100 ∧ off % 0x40 = 0 then t.slaneOff s ((off - 0x800000) / 0x40)
  else if 0x900000 ≤ off ∧ off < 0xA00000 ∧ off % 0x10000 = 0 then t.linkRefresh ((off - 0x900000) / 0x10000)
  else if 0x901000 ≤ off ∧ off < 0xA00000 ∧ 0x1000 ≤ off % 0x10000 ∧ off % 0x10000 < 0x8800 ∧ off % 8 = 0 then
    let link := (off - 0x900000) / 0x10000
    let r := s.linkRec link
    (t.setReg off (s.reg off)).setLink { r with tribPend := r.tribPend ++ [((off % 0x10000 - 0x1000) / 8, t.reg off)] }
  else if 0xA00100 ≤ off ∧ off < 0xA80000 ∧ (off % 0x4000 = 0x100 ∨ (0x140 ≤ off % 0x4000 ∧ off % 0x4000 < 0x1C0)) then
    (t.setReg off (s.reg off)).gateWrite ((off - 0xA00000) / 0x4000) (if off % 0x4000 = 0x100 then 0 else (off % 0x4000 - 0x13C) / 4)
      (t.reg off)
  else if off = 0x1300000 ∨ (0x1300010 ≤ off ∧ off < 0x1300024) ∨ (0x1310000 ≤ off ∧ off < 0x1310100 ∧ off % 0x40 < 0x10) then
    (let u := t.setReg off (s.reg off)
     { u with meas := { u.meas with cfgPend := upsert (fun (y : Nat × Word) => y.1 == off) (off, t.reg off) u.meas.cfgPend } })
  else if 0xB40000 ≤ off ∧ off < 0xB50000 then t.ladTake ((off - 0xB40000) / 0x20)
  else if 0x400060 ≤ off ∧ off < 0x400860 ∧ off % 0x100 = 0x60 then
    let k := (off - 0x400060) / 0x100
    if t.flag F.CMD_RING_CFG_EN k ∧ !s.flag F.CMD_RING_CFG_EN k then { t with cmd := { t.cmd with cpl := t.cmd.cpl.set k 0 } } else t
  else t

/-- The words whose writes are operations with rows of their own. -/
def ownWrite (s : State) (off v : Nat) : Option State :=
  let bit (n : Nat) : Bool := v.testBit n
  if off = 0x30 then some (if bit 0 then s.wakeAsk else s)
  else if off = 0x100008 then
    let t := if bit F.RST_CTL_CHIP.lo then s.chipWrite else s
    some (if bit F.RST_CTL_QUENCH_EXIT.lo then t.quenchExitWrite else t)
  else if off = 0x100014 then some s.wdtKick
  else if off = 0x200000 then some (s.fltClear (v % 4294967296))
  else if off = 0x200004 then some (s.fltClear (v % 65536 * 4294967296))
  else if off = 0x200010 then some (if bit 31 then s.fltFirstClear else s)
  else if off = 0x1500010 ∧ bit 31 then
    let t := s.tamperClear
    let seen := t.fld F.KEY_TAMPER_SEEN
    some (t.setFld F.KEY_TAMPER_SEEN (seen - (seen &&& ((v >>> 24) % 16))))
  else if 0x400068 ≤ off ∧ off < 0x400868 ∧ off % 0x100 = 0x68 then some (s.prodWrite ((off - 0x400068) / 0x100) v [])
  else if 0x40006C ≤ off ∧ off < 0x40086C ∧ off % 0x100 = 0x6C then
    let k := (off - 0x40006C) / 0x100
    some (if s.ringOn k then (s.setFld F.CMD_RING_CFG_CPL_CONS (v % 65536) k).release else s.setFld F.CMD_RING_CFG_CPL_CONS (v % 65536) k)
  else if 0xA00200 ≤ off ∧ off < 0xA80000 ∧ off % 0x4000 = 0x200 then
    let k := (off - 0xA00200) / 0x4000
    let t := if bit F.MAC_STAT_CTL_SNAP.lo then s.macSnap k else s
    some (if bit F.MAC_STAT_CTL_CLR.lo then t.macClr k else t)
  else if 0xC30018 ≤ off ∧ off < 0xC30200 ∧ off % 0x20 = 0x18 ∧ bit 25 then some (s.winAsk (.flush ((off - 0xC30018) / 0x20) (v % 33554432)))
  else if 0xFE0000 ≤ off ∧ off < 0xFE0800 ∧ off % 8 = 0 then
    some (if s.sys.mode = .cold ∨ s.sys.mode = .quench then s else s.fencePost ((off - 0xFE0000) / 8) v)
  else if 0x1210024 ≤ off ∧ off < 0x1211024 ∧ off % 0x100 = 0x24 then
    some (if bit F.APT_PORT_CTL_RESTART.lo then s.restartAsk ((off - 0x1210024) / 0x100) else s)
  else none

/-- A write of a register word, field by field. RW fields that R589 protects stay, which WR_OWNED reports. -/
def writeReg (s : State) (a : BusAccess) (off v : Nat) : State :=
  match s.ownWrite off v, regRow off with
  | some t, _ => t
  | none, none => s
  | none, some r =>
    let owned := s.ownedNow a.master off
    let t := r.fields.foldl (writeField a off v owned) s
    let t := if off = 0x1200000 ∧ !owned ∧ 49152 < tdmClock v then
        (let u := t.setReg off (s.reg off)
         if u.rst.cUp then (u.setFlag F.BUS_STAT_BAD_VALUE true).busLog a true 3 else u)
      else t
    let hasRw := r.fields.any (fun f => f.acc == .rw || f.acc == .rws)
    if owned && hasRw then
      (if t.rst.cUp && (a.master == 4 || a.master == 5) then
        ((t.setFlag F.BUS_STAT_WR_OWNED true).incFld F.BUS_CNT_WR_OWNED).busLog a true 2 else t)
    else s.afterWrite t off v

/-- A 32-bit write into the pattern window (R226): the active bank keeps its entry, and an entry written counts among those
that the copy after a flip carries (R241). -/
def patWinWrite (s : State) (m off v : Nat) : State :=
  let (d, b, x) := (off / 0x100000, off / 0x80000 % 2, off % 0x80000)
  let put (e : BitVec 128) : BitVec 128 :=
    let sh := 8 * (off % 16 / 4 * 4)
    BitVec.ofNat 128 (e.toNat - ((e.toNat >>> sh) % 4294967296) <<< sh + (v % 4294967296) <<< sh)
  if 4 ≤ d ∨ 0x50000 ≤ x ∨ !s.directOk m then s
  else if b = s.activeNo d then s.setFlag F.PAT_STAT_WR_ACTIVE true
  else
    let k := s.bank d b
    if x < 0x40000 then
      let i := x / 16
      s.setBank d b { k with tmpl := sset emptyEntry k.tmpl i (put (k.ent i)), dirtyT := ascending (k.dirtyT ++ [i]) }
    else
      let i := (x - 0x40000) / 16
      s.setBank d b { k with runs := sset emptyEntry k.runs i (put (k.runE i)), dirtyR := ascending (k.dirtyR ++ [i]) }

/-- The bytes that a 32-bit write to a window stores, with the first byte's place: from the lowest byte that is enabled to the
highest, where a byte between them that is not enabled keeps what is stored. -/
def enabledBytes (s : State) (enables w b v : Nat) : Nat × Bytes :=
  let on := (List.range 4).filter enables.testBit
  match on.head?, on.getLast? with
  | some lo, some hi => (lo, (List.range (hi + 1 - lo)).map (fun k =>
      if enables.testBit (lo + k) then BitVec.ofNat 8 (v >>> (8 * (lo + k)))
      else ((s.winTile w (b + lo + k)).map (fun t => (s.tileBytes t ((b + lo + k) % 4096) 1).headD 0)).getD 0))
  | _, _ => (0, [])

/-- A 32-bit write on the matrix. The pool aperture is written through its windows (R220, R223). The control SRAM's contents change
by no rule here. -/
def busWrite (s : State) (a : BusAccess) (v : Nat) : State :=
  if !s.masterUp a.master then s
  else if !s.accessOk a true then s.defaultHit a true
  else match targetOf a.addr with
    | .reg off =>
      if isNwtWin off then s.nwtWinWrite (s.directOk a.master) (off - 0x1190000) (BitVec.ofNat 32 v) else s.writeReg a off v
    | .pattern off => s.patWinWrite a.master off v
    | .pool => match s.winAt (a.addr - poolBase) with
      | some (w, b) =>
        let x := s.enabledBytes a.enables w b v
        s.winAsk (.write a.master w (b + x.1) x.2)
      | none => s.defaultHit a true
    | .none => s.defaultHit a true
    | .rom | .sram | .tank => s

end State

/-! ## Reads with side effects -/

/-- EPOCH_LO_READ (R30). -/
def execEpochLoRead (master : Nat) (s : State) : Host.Outcome State Fault Refusal :=
  runEff (fun s => s.busRead { master := master, addr := regBase + 0x10 }) s

/-- TICK_LO_READ (R46). -/
def execTickLoRead (master : Nat) (s : State) : Host.Outcome State Fault Refusal :=
  runEff (fun s => s.busRead { master := master, addr := regBase + 0x500000 }) s

/-- NOW_NS_READ (R49). -/
def execNowNsRead (master : Nat) (s : State) : Host.Outcome State Fault Refusal :=
  runEff (fun s => s.busRead { master := master, addr := regBase + 0x500010 }) s

/-- RAS_POS_READ (R65). -/
def execRasPosRead (master d : Nat) (s : State) : Host.Outcome State Fault Refusal :=
  runEff (fun s => s.busRead { master := master, addr := regBase + 0x680010 + 0x100 * d }) s

/-- TXQ_READ (R61). -/
def execTxqRead (master mac : Nat) (s : State) : Host.Outcome State Fault Refusal :=
  runEff (fun s => s.busRead { master := master, addr := regBase + 0x501000 + 0x20 * mac }) s

/-- LATCHED_LOW_READ (R584): a read of any other low word, and of any word without side effects. -/
def execLatchedLowRead (a : BusAccess) (s : State) : Host.Outcome State Fault Refusal := runEff (fun s => s.busRead a) s

/-- PEAK_READ (R413): a read of a peak, maximum or minimum register, which restarts its tracking. -/
def execPeakRead (a : BusAccess) (s : State) : Host.Outcome State Fault Refusal := runEff (fun s => s.busRead a) s

/-- BUS_ACCESS_TIMEOUT (R578): completed as the default target does, with TIMEOUT in place of DEF_HIT. -/
def execBusAccessTimeout (a : BusAccess) (write : Bool) (s : State) : Host.Outcome State Fault Refusal :=
  runEff (fun s =>
    if !s.masterUp a.master ∨ !s.rst.cUp then s
    else
      let s := ((s.setFlag F.BUS_STAT_TIMEOUT true).incFld F.BUS_CNT_TIMEOUTS).busLog a write 1
      (s.raise fltBusTimeout [a.master]).badAnswer a write) s

/-! ## Writes -/

/-- REGISTER_WRITE (R589). -/
def execRegisterWrite (a : BusAccess) (value : Nat) (s : State) : Host.Outcome State Fault Refusal :=
  runEff (fun s => s.busWrite a value) s

/-- VEC (R591). -/
def execVec (master value : Nat) (s : State) : Host.Outcome State Fault Refusal :=
  runEff (fun s => s.busWrite { master := master, addr := regBase + 0x48 } value) s

/-- CHM_FENCE_WRITE (R344). -/
def execChmFenceWrite (master fence value : Nat) (s : State) : Host.Outcome State Fault Refusal :=
  runEff (fun s => if 256 ≤ fence then s else s.busWrite { master := master, addr := regBase + 0xFE0000 + 8 * fence } value) s

/-- PATTERN_WINDOW_WRITE (R226). -/
def execPatternWindowWrite (master off value : Nat) (s : State) : Host.Outcome State Fault Refusal :=
  runEff (fun s => s.busWrite { master := master, addr := patBase + off } value) s

/-- NWT_MEM_WINDOW_WRITE (R414). -/
def execNwtMemWindowWrite (master off value : Nat) (s : State) : Host.Outcome State Fault Refusal :=
  runEff (fun s => s.busWrite { master := master, addr := regBase + 0x1190000 + off } value) s

end Sys2Proof.Machine
end

