-- ==== Sys2Proof/Machine/Dispatch.lean ====
section
/-! DEFINITION. One arm per row of the opcode table. -/

namespace Sys2Proof.Machine

def exec (i : Instr) (s : State) : Host.Outcome State Fault Refusal :=
  match i with
  | .sessionOpen p => Sys2Proof.Machine.execSessionOpen p s
  | .ping p => Sys2Proof.Machine.execPing p s
  | .ident p => Sys2Proof.Machine.execIdent p s
  | .modeSet p => Sys2Proof.Machine.execModeSet p s
  | .debugChallenge p => Sys2Proof.Machine.execDebugChallenge p s
  | .debugUnlock p => Sys2Proof.Machine.execDebugUnlock p s
  | .vinDefine p => Sys2Proof.Machine.execVinDefine p s
  | .flowDelete p => Sys2Proof.Machine.execFlowDelete p s
  | .vinDepth p => Sys2Proof.Machine.execVinDepth p s
  | .ancInDefine p => Sys2Proof.Machine.execAncInDefine p s
  | .voutDefine p => Sys2Proof.Machine.execVoutDefine p s
  | .ancOutDefine p => Sys2Proof.Machine.execAncOutDefine p s
  | .ancOutRoute p => Sys2Proof.Machine.execAncOutRoute p s
  | .testDefine p => Sys2Proof.Machine.execTestDefine p s
  | .take p => Sys2Proof.Machine.execTake p s
  | .macroStore p => Sys2Proof.Machine.execMacroStore p s
  | .macroArm p => Sys2Proof.Machine.execMacroArm p s
  | .macroDelete p => Sys2Proof.Machine.execMacroDelete p s
  | .patWrite p => Sys2Proof.Machine.execPatWrite p s
  | .patClear p => Sys2Proof.Machine.execPatClear p s
  | .patShare p => Sys2Proof.Machine.execPatShare p s
  | .schedCancel p => Sys2Proof.Machine.execSchedCancel p s
  | .astreamIn p => Sys2Proof.Machine.execAstreamIn p s
  | .astreamOut p => Sys2Proof.Machine.execAstreamOut p s
  | .astreamDelete p => Sys2Proof.Machine.execAstreamDelete p s
  | .xpSet p => Sys2Proof.Machine.execXpSet p s
  | .deembedMap p => Sys2Proof.Machine.execDeembedMap p s
  | .embedMap p => Sys2Proof.Machine.execEmbedMap p s
  | .delayDefine p => Sys2Proof.Machine.execDelayDefine p s
  | .delayDelete p => Sys2Proof.Machine.execDelayDelete p s
  | .aptPort p => Sys2Proof.Machine.execAptPort p s
  | .aptMask p => Sys2Proof.Machine.execAptMask p s
  | .aptTdm p => Sys2Proof.Machine.execAptTdm p s
  | .aptCsTx p => Sys2Proof.Machine.execAptCsTx p s
  | .aptRestart p => Sys2Proof.Machine.execAptRestart p s
  | .audCfg p => Sys2Proof.Machine.execAudCfg p s
  | .imageLoad p => Sys2Proof.Machine.execImageLoad p s
  | .imageDelete p => Sys2Proof.Machine.execImageDelete p s
  | .taskDefine p => Sys2Proof.Machine.execTaskDefine p s
  | .taskRemove p => Sys2Proof.Machine.execTaskRemove p s
  | .taskParam p => Sys2Proof.Machine.execTaskParam p s
  | .taskEnable p => Sys2Proof.Machine.execTaskEnable p s
  | .pipeDefine p => Sys2Proof.Machine.execPipeDefine p s
  | .pipeDelete p => Sys2Proof.Machine.execPipeDelete p s
  | .layerSet p => Sys2Proof.Machine.execLayerSet p s
  | .surfaceDefine p => Sys2Proof.Machine.execSurfaceDefine p s
  | .surfaceDelete p => Sys2Proof.Machine.execSurfaceDelete p s
  | .surfaceFlip p => Sys2Proof.Machine.execSurfaceFlip p s
  | .flipCancel p => Sys2Proof.Machine.execFlipCancel p s
  | .measCfg p => Sys2Proof.Machine.execMeasCfg p s
  | .measDest p => Sys2Proof.Machine.execMeasDest p s
  | .allowStep p => Sys2Proof.Machine.execAllowStep p s
  | .timSet p => Sys2Proof.Machine.execTimSet p s
  | .stepThr p => Sys2Proof.Machine.execStepThr p s
  | .ptpCfg p => Sys2Proof.Machine.execPtpCfg p s
  | .ptpPort p => Sys2Proof.Machine.execPtpPort p s
  | .refInput p => Sys2Proof.Machine.execRefInput p s
  | .dpllCfg p => Sys2Proof.Machine.execDpllCfg p s
  | .raster p => Sys2Proof.Machine.execRaster p s
  | .clkout p => Sys2Proof.Machine.execClkout p s
  | .oscSel p => Sys2Proof.Machine.execOscSel p s
  | .macCfg p => Sys2Proof.Machine.execMacCfg p s
  | .macGate p => Sys2Proof.Machine.execMacGate p s
  | .hlaneCfg p => Sys2Proof.Machine.execHlaneCfg p s
  | .slaneCfg p => Sys2Proof.Machine.execSlaneCfg p s
  | .linkCfg p => Sys2Proof.Machine.execLinkCfg p s
  | .tribSet p => Sys2Proof.Machine.execTribSet p s
  | .marginCfg p => Sys2Proof.Machine.execMarginCfg p s
  | .eyeMap p => Sys2Proof.Machine.execEyeMap p s
  | .poolCfg p => Sys2Proof.Machine.execPoolCfg p s
  | .pprRun p => Sys2Proof.Machine.execPprRun p s
  | .poolWindow p => Sys2Proof.Machine.execPoolWindow p s
  | .spareSubst p => Sys2Proof.Machine.execSpareSubst p s
  | .twinCfg p => Sys2Proof.Machine.execTwinCfg p s
  | .promote p => Sys2Proof.Machine.execPromote p s
  | .resync p => Sys2Proof.Machine.execResync p s
  | .roleSwap p => Sys2Proof.Machine.execRoleSwap p s
  | .egressLoop p => Sys2Proof.Machine.execEgressLoop p s
  | .keyWrite p => Sys2Proof.Machine.execKeyWrite p s
  | .keyErase p => Sys2Proof.Machine.execKeyErase p s
  | .attest p => Sys2Proof.Machine.execAttest p s
  | .reset p => Sys2Proof.Machine.execReset p s
  | .fltClear p => Sys2Proof.Machine.execFltClear p s
  | .quench p => Sys2Proof.Machine.execQuench p s
  | .causeClear p => Sys2Proof.Machine.execCauseClear p s
  | .rstcntClear p => Sys2Proof.Machine.execRstcntClear p s
  | .optProgram p => Sys2Proof.Machine.execOptProgram p s
  | .read p => Sys2Proof.Machine.execRead p s
  | .snapshot p => Sys2Proof.Machine.execSnapshot p s
  | .castBoundary x0 => Sys2Proof.Machine.execCastBoundary x0 s
  | .castTimerExpiry x0 => Sys2Proof.Machine.execCastTimerExpiry x0 s
  | .mirrorAckReceive x0 => Sys2Proof.Machine.execMirrorAckReceive x0 s
  | .noMirrorAckTimeout x0 => Sys2Proof.Machine.execNoMirrorAckTimeout x0 s
  | .cplConsWrite x0 x1 => Sys2Proof.Machine.execCplConsWrite x0 x1 s
  | .prodWrite x0 x1 x2 => Sys2Proof.Machine.execProdWrite x0 x1 x2 s
  | .heldPacketTimeout x0 x1 => Sys2Proof.Machine.execHeldPacketTimeout x0 x1 s
  | .fragmentTimeout x0 x1 x2 => Sys2Proof.Machine.execFragmentTimeout x0 x1 x2 s
  | .timedRelease x0 x1 => Sys2Proof.Machine.execTimedRelease x0 x1 s
  | .timedFire x0 x1 => Sys2Proof.Machine.execTimedFire x0 x1 s
  | .slotStart x0 => Sys2Proof.Machine.execSlotStart x0 s
  | .bankCopyDone x0 => Sys2Proof.Machine.execBankCopyDone x0 s
  | .frameBoundary x0 => Sys2Proof.Machine.execFrameBoundary x0 s
  | .rasterStart x0 => Sys2Proof.Machine.execRasterStart x0 s
  | .poolReadReturn x0 x1 x2 => Sys2Proof.Machine.execPoolReadReturn x0 x1 x2 s
  | .readDeadline x0 => Sys2Proof.Machine.execReadDeadline x0 s
  | .retryBudgetExpiry x0 => Sys2Proof.Machine.execRetryBudgetExpiry x0 s
  | .suspectExpiry x0 => Sys2Proof.Machine.execSuspectExpiry x0 s
  | .pprRowDone x0 => Sys2Proof.Machine.execPprRowDone x0 s
  | .poolWindowRead x0 x1 x2 => Sys2Proof.Machine.execPoolWindowRead x0 x1 x2 s
  | .poolWindowWrite x0 x1 x2 => Sys2Proof.Machine.execPoolWindowWrite x0 x1 x2 s
  | .flush x0 x1 => Sys2Proof.Machine.execFlush x0 x1 s
  | .macFrameReceive x0 x1 => Sys2Proof.Machine.execMacFrameReceive x0 x1 s
  | .mergeHoldExpiry x0 x1 => Sys2Proof.Machine.execMergeHoldExpiry x0 x1 s
  | .frameOpenTimeout x0 x1 => Sys2Proof.Machine.execFrameOpenTimeout x0 x1 s
  | .pathIdleTimeout x0 x1 => Sys2Proof.Machine.execPathIdleTimeout x0 x1 s
  | .inputLossTimeout x0 => Sys2Proof.Machine.execInputLossTimeout x0 s
  | .sdiFrameReceive x0 x1 x2 => Sys2Proof.Machine.execSdiFrameReceive x0 x1 x2 s
  | .slaneLos x0 => Sys2Proof.Machine.execSlaneLos x0 s
  | .slaneRateChange x0 x1 => Sys2Proof.Machine.execSlaneRateChange x0 x1 s
  | .slaneLock x0 x1 => Sys2Proof.Machine.execSlaneLock x0 x1 s
  | .sprueBlockReceive x0 x1 x2 x3 x4 => Sys2Proof.Machine.execSprueBlockReceive x0 x1 x2 x3 x4 s
  | .linkMarkerReceive x0 x1 => Sys2Proof.Machine.execLinkMarkerReceive x0 x1 s
  | .laneCdrLoss x0 => Sys2Proof.Machine.execLaneCdrLoss x0 s
  | .laneWtrExpiry x0 => Sys2Proof.Machine.execLaneWtrExpiry x0 s
  | .marginMeasure x0 x1 x2 => Sys2Proof.Machine.execMarginMeasure x0 x1 x2 s
  | .laneTxTrained x0 x1 => Sys2Proof.Machine.execLaneTxTrained x0 x1 s
  | .akestimFrameReceive x0 x1 => Sys2Proof.Machine.execAkestimFrameReceive x0 x1 s
  | .akestimRetryTimeout x0 => Sys2Proof.Machine.execAkestimRetryTimeout x0 s
  | .akestimLinkUp x0 x1 x2 => Sys2Proof.Machine.execAkestimLinkUp x0 x1 x2 s
  | .castRecordReceive x0 x1 => Sys2Proof.Machine.execCastRecordReceive x0 x1 s
  | .partnerUnresponsive => Sys2Proof.Machine.execPartnerUnresponsive s
  | .croakInEdge => Sys2Proof.Machine.execCroakInEdge s
  | .croakInLost => Sys2Proof.Machine.execCroakInLost s
  | .croakOutToggle => Sys2Proof.Machine.execCroakOutToggle s
  | .promotion => Sys2Proof.Machine.execPromotion s
  | .roleSwapExecute => Sys2Proof.Machine.execRoleSwapExecute s
  | .resyncComplete x0 => Sys2Proof.Machine.execResyncComplete x0 s
  | .loopSignatureReceive x0 => Sys2Proof.Machine.execLoopSignatureReceive x0 s
  | .egressLoopDone => Sys2Proof.Machine.execEgressLoopDone s
  | .partnerResetRequest => Sys2Proof.Machine.execPartnerResetRequest s
  | .powerGood => Sys2Proof.Machine.execPowerGood s
  | .powerSag => Sys2Proof.Machine.execPowerSag s
  | .backupSupplyRise => Sys2Proof.Machine.execBackupSupplyRise s
  | .resetNChange x0 => Sys2Proof.Machine.execResetNChange x0 s
  | .perstNChange x0 => Sys2Proof.Machine.execPerstNChange x0 s
  | .resetPulseEnd x0 => Sys2Proof.Machine.execResetPulseEnd x0 s
  | .optionLoadDone => Sys2Proof.Machine.execOptionLoadDone s
  | .clocksLocked => Sys2Proof.Machine.execClocksLocked s
  | .poolTrainingDone x0 => Sys2Proof.Machine.execPoolTrainingDone x0 s
  | .firmwareVerified x0 x1 => Sys2Proof.Machine.execFirmwareVerified x0 x1 s
  | .meltReady => Sys2Proof.Machine.execMeltReady s
  | .watchdogExpiry => Sys2Proof.Machine.execWatchdogExpiry s
  | .kick => Sys2Proof.Machine.execKick s
  | .firmwareReturn => Sys2Proof.Machine.execFirmwareReturn s
  | .chip => Sys2Proof.Machine.execChip s
  | .quenchExit => Sys2Proof.Machine.execQuenchExit s
  | .go => Sys2Proof.Machine.execGo s
  | .coldEntry => Sys2Proof.Machine.execColdEntry s
  | .wakeComplete => Sys2Proof.Machine.execWakeComplete s
  | .faultRaise x0 x1 => Sys2Proof.Machine.execFaultRaise x0 x1 s
  | .substComplete x0 x1 x2 => Sys2Proof.Machine.execSubstComplete x0 x1 x2 s
  | .status x0 => Sys2Proof.Machine.execStatus x0 s
  | .valid => Sys2Proof.Machine.execValid s
  | .xtalLoss => Sys2Proof.Machine.execXtalLoss s
  | .pllUnlock x0 => Sys2Proof.Machine.execPllUnlock x0 s
  | .tempSample x0 x1 => Sys2Proof.Machine.execTempSample x0 x1 s
  | .railSample x0 x1 x2 => Sys2Proof.Machine.execRailSample x0 x1 x2 s
  | .tamperOnset x0 => Sys2Proof.Machine.execTamperOnset x0 s
  | .latch => Sys2Proof.Machine.execLatch s
  | .keyCommitDone => Sys2Proof.Machine.execKeyCommitDone s
  | .attestSigned => Sys2Proof.Machine.execAttestSigned s
  | .snapshotCopyDone => Sys2Proof.Machine.execSnapshotCopyDone s
  | .imageCheckDone x0 => Sys2Proof.Machine.execImageCheckDone x0 s
  | .eyeMapDone x0 x1 => Sys2Proof.Machine.execEyeMapDone x0 x1 s
  | .servoUpdate x0 x1 x2 => Sys2Proof.Machine.execServoUpdate x0 x1 x2 s
  | .ptpSyncTx x0 => Sys2Proof.Machine.execPtpSyncTx x0 s
  | .ptpAnnounceTx x0 => Sys2Proof.Machine.execPtpAnnounceTx x0 s
  | .ptpDelayReqTx x0 => Sys2Proof.Machine.execPtpDelayReqTx x0 s
  | .announceReceiptTimeout x0 => Sys2Proof.Machine.execAnnounceReceiptTimeout x0 s
  | .macFrameTransmit x0 => Sys2Proof.Machine.execMacFrameTransmit x0 s
  | .packetSendTime x0 => Sys2Proof.Machine.execPacketSendTime x0 s
  | .txqRead x0 x1 => Sys2Proof.Machine.execTxqRead x0 x1 s
  | .macLinkUp x0 => Sys2Proof.Machine.execMacLinkUp x0 s
  | .macVerifyTimer x0 => Sys2Proof.Machine.execMacVerifyTimer x0 s
  | .macLinkDown x0 => Sys2Proof.Machine.execMacLinkDown x0 s
  | .igmpReportSend x0 x1 => Sys2Proof.Machine.execIgmpReportSend x0 x1 s
  | .snap x0 => Sys2Proof.Machine.execSnap x0 s
  | .clr x0 => Sys2Proof.Machine.execClr x0 s
  | .refFreqGate x0 x1 => Sys2Proof.Machine.execRefFreqGate x0 x1 s
  | .refInputLoss x0 => Sys2Proof.Machine.execRefInputLoss x0 s
  | .refQualified x0 => Sys2Proof.Machine.execRefQualified x0 s
  | .refWtrExpiry x0 x1 => Sys2Proof.Machine.execRefWtrExpiry x0 x1 s
  | .dpllAbsorbDone x0 => Sys2Proof.Machine.execDpllAbsorbDone x0 s
  | .dpllLocked x0 => Sys2Proof.Machine.execDpllLocked x0 s
  | .blockBoundary => Sys2Proof.Machine.execBlockBoundary s
  | .audioStreamLoss x0 => Sys2Proof.Machine.execAudioStreamLoss x0 s
  | .meterWindowEnd => Sys2Proof.Machine.execMeterWindowEnd s
  | .tdmFrameSync x0 => Sys2Proof.Machine.execTdmFrameSync x0 s
  | .aes3BlockEnd x0 x1 x2 => Sys2Proof.Machine.execAes3BlockEnd x0 x1 x2 s
  | .aes3BlockSyncLoss x0 x1 => Sys2Proof.Machine.execAes3BlockSyncLoss x0 x1 s
  | .restart x0 => Sys2Proof.Machine.execRestart x0 s
  | .nwtTrap x0 x1 => Sys2Proof.Machine.execNwtTrap x0 x1 s
  | .nwtInterrupt x0 => Sys2Proof.Machine.execNwtInterrupt x0 s
  | .nwtTimerExpiry x0 => Sys2Proof.Machine.execNwtTimerExpiry x0 s
  | .nop x0 x1 => Sys2Proof.Machine.execNop x0 x1 s
  | .br x0 x1 => Sys2Proof.Machine.execBr x0 x1 s
  | .brz x0 x1 => Sys2Proof.Machine.execBrz x0 x1 s
  | .brnz x0 x1 => Sys2Proof.Machine.execBrnz x0 x1 s
  | .brn x0 x1 => Sys2Proof.Machine.execBrn x0 x1 s
  | .call x0 x1 => Sys2Proof.Machine.execCall x0 x1 s
  | .ret x0 x1 => Sys2Proof.Machine.execRet x0 x1 s
  | .rep x0 x1 => Sys2Proof.Machine.execRep x0 x1 s
  | .break x0 x1 => Sys2Proof.Machine.execBreak x0 x1 s
  | .swi x0 x1 => Sys2Proof.Machine.execSwi x0 x1 s
  | .reti x0 x1 => Sys2Proof.Machine.execReti x0 x1 s
  | .tend x0 x1 => Sys2Proof.Machine.execTend x0 x1 s
  | .tmr x0 x1 => Sys2Proof.Machine.execTmr x0 x1 s
  | .sld x0 x1 => Sys2Proof.Machine.execSld x0 x1 s
  | .sst x0 x1 => Sys2Proof.Machine.execSst x0 x1 s
  | .vld x0 x1 => Sys2Proof.Machine.execVld x0 x1 s
  | .vst x0 x1 => Sys2Proof.Machine.execVst x0 x1 s
  | .vldb x0 x1 => Sys2Proof.Machine.execVldb x0 x1 s
  | .vlds x0 x1 => Sys2Proof.Machine.execVlds x0 x1 s
  | .ast x0 x1 => Sys2Proof.Machine.execAst x0 x1 s
  | .ald x0 x1 => Sys2Proof.Machine.execAld x0 x1 s
  | .movi x0 x1 => Sys2Proof.Machine.execMovi x0 x1 s
  | .mov x0 x1 => Sys2Proof.Machine.execMov x0 x1 s
  | .padd x0 x1 => Sys2Proof.Machine.execPadd x0 x1 s
  | .add x0 x1 => Sys2Proof.Machine.execAdd x0 x1 s
  | .sub x0 x1 => Sys2Proof.Machine.execSub x0 x1 s
  | .and x0 x1 => Sys2Proof.Machine.execAnd x0 x1 s
  | .or x0 x1 => Sys2Proof.Machine.execOr x0 x1 s
  | .xor x0 x1 => Sys2Proof.Machine.execXor x0 x1 s
  | .shl x0 x1 => Sys2Proof.Machine.execShl x0 x1 s
  | .shr x0 x1 => Sys2Proof.Machine.execShr x0 x1 s
  | .abs x0 x1 => Sys2Proof.Machine.execAbs x0 x1 s
  | .min x0 x1 => Sys2Proof.Machine.execMin x0 x1 s
  | .max x0 x1 => Sys2Proof.Machine.execMax x0 x1 s
  | .cmplt x0 x1 => Sys2Proof.Machine.execCmplt x0 x1 s
  | .vsel x0 x1 => Sys2Proof.Machine.execVsel x0 x1 s
  | .vmul x0 x1 => Sys2Proof.Machine.execVmul x0 x1 s
  | .vmac x0 x1 => Sys2Proof.Machine.execVmac x0 x1 s
  | .vmsb x0 x1 => Sys2Proof.Machine.execVmsb x0 x1 s
  | .vmacm x0 x1 => Sys2Proof.Machine.execVmacm x0 x1 s
  | .ftap x0 x1 => Sys2Proof.Machine.execFtap x0 x1 s
  | .aclr x0 x1 => Sys2Proof.Machine.execAclr x0 x1 s
  | .rnd x0 x1 => Sys2Proof.Machine.execRnd x0 x1 s
  | .ashf x0 x1 => Sys2Proof.Machine.execAshf x0 x1 s
  | .exp x0 x1 => Sys2Proof.Machine.execExp x0 x1 s
  | .norm x0 x1 => Sys2Proof.Machine.execNorm x0 x1 s
  | .reportIntervalEnd => Sys2Proof.Machine.execReportIntervalEnd s
  | .measDatagramSend x0 => Sys2Proof.Machine.execMeasDatagramSend x0 s
  | .gpioEvent x0 x1 => Sys2Proof.Machine.execGpioEvent x0 x1 s
  | .gpioWindowEnd => Sys2Proof.Machine.execGpioWindowEnd s
  | .quarantine x0 => Sys2Proof.Machine.execQuarantine x0 s
  | .chmFenceWrite x0 x1 x2 => Sys2Proof.Machine.execChmFenceWrite x0 x1 x2 s
  | .vec x0 x1 => Sys2Proof.Machine.execVec x0 x1 s
  | .epochLoRead x0 => Sys2Proof.Machine.execEpochLoRead x0 s
  | .tickLoRead x0 => Sys2Proof.Machine.execTickLoRead x0 s
  | .nowNsRead x0 => Sys2Proof.Machine.execNowNsRead x0 s
  | .rasPosRead x0 x1 => Sys2Proof.Machine.execRasPosRead x0 x1 s
  | .latchedLowRead x0 => Sys2Proof.Machine.execLatchedLowRead x0 s
  | .peakRead x0 => Sys2Proof.Machine.execPeakRead x0 s
  | .busAccessTimeout x0 x1 => Sys2Proof.Machine.execBusAccessTimeout x0 x1 s
  | .registerWrite x0 x1 => Sys2Proof.Machine.execRegisterWrite x0 x1 s
  | .dpllLockLost x0 => Sys2Proof.Machine.execDpllLockLost x0 s
  | .ocxoFail => Sys2Proof.Machine.execOcxoFail s
  | .refPhaseOutlier x0 => Sys2Proof.Machine.execRefPhaseOutlier x0 s
  | .tribRateGate x0 x1 x2 => Sys2Proof.Machine.execTribRateGate x0 x1 x2 s
  | .aes3ZPreambleReceive x0 x1 => Sys2Proof.Machine.execAes3ZPreambleReceive x0 x1 s
  | .aes3TxBlockStart x0 x1 => Sys2Proof.Machine.execAes3TxBlockStart x0 x1 s
  | .mgmtDatagramReceive x0 x1 x2 x3 x4 x5 x6 x7 => Sys2Proof.Machine.execMgmtDatagramReceive x0 x1 x2 x3 x4 x5 x6 x7 s
  | .tamperInactive x0 => Sys2Proof.Machine.execTamperInactive x0 s
  | .patternWindowWrite x0 x1 x2 => Sys2Proof.Machine.execPatternWindowWrite x0 x1 x2 s
  | .nwtMemWindowWrite x0 x1 x2 => Sys2Proof.Machine.execNwtMemWindowWrite x0 x1 x2 s
  | .vddCoreSetpointStep x0 x1 => Sys2Proof.Machine.execVddCoreSetpointStep x0 x1 s
  | .pmbusRetryExpiry x0 => Sys2Proof.Machine.execPmbusRetryExpiry x0 s

end Sys2Proof.Machine
end

