-- ==== Sys2Proof/Machine/LinkTx.lean ====
section
/-! DEFINITION. What the serial links do at their own pace (chapter 04): the alignment markers and container blocks they send, the
changes that wait for a marker boundary, and the markers and frames that fail to come. -/

namespace Sys2Proof.Machine
namespace State

/-- The RATE of a link's lanes. -/
def linkRate (s : State) (link : Nat) : Nat :=
  match s.linkLanes link with
  | l :: _ => s.fld F.HLN_LANE_CFG_RATE l
  | [] => 3

/-- The lanes on which a link transmits: enabled and not in electrical idle (R116, R120). -/
def txLanes (s : State) (link : Nat) : List Nat :=
  if s.rst.pUp && s.flag F.SPR_LINK_CFG_EN link && s.sys.mode != .cold then (s.linkLanes link).filter (fun l => !s.laneIdle l) else []

/-- The marker that a lane of a link sends now (R107, R116, R120, R126). -/
def markerOf (s : State) (link lane round : Nat) : BitVec 256 :=
  markerBits (s.fld F.SPR_LINK_CFG_LINK_ID link)
    (if s.flag F.HLN_LANE_CFG_SPARE lane then 31 else s.fld F.HLN_LANE_CFG_POS lane) round (s.linkRec link).reqLane
    (s.fld F.SPR_LINK_STAT_TX_BRIDGE link) (s.sys.mode == .hold) (s.sys.mode == .quench)
    (if s.flag F.SPR_LINK_CFG_TYPE link then s.alignedNow 0 / 65536 else 0)

/-- A marker boundary of a link (R106, R126, R132): the tributary changes and the bridge asked for take effect, and every lane sends
its marker. -/
def sendMarkers (s : State) (link round : Nat) : State :=
  let s := s.tribApply link
  let s := s.setFld F.SPR_LINK_STAT_TX_BRIDGE (s.linkRec link).bridgeNext link
  (s.txLanes link).foldl (fun (s : State) l => s.emit (.marker l (s.markerOf link l round))) s

/-- The video output that a transmitted tributary carries. -/
def tribOut (s : State) (link trib : Nat) : Option VOut :=
  s.shk.vouts.find? (fun o => s.isTrib o && s.fld F.SHK_FLOW_CFG_LINK (o.flow - 0x800) == link &&
    decide (s.fld F.SHK_FLOW_CFG_PORT (o.flow - 0x800) ≤ trib) && decide (trib < s.fld F.SHK_FLOW_CFG_PORT (o.flow - 0x800) + s.outLinks o))

/-- The words that a word stream has handed to a tributary of `k` containers by now: 148.5 million a second and container, in the
1.001 form for the families C and E (R102, R307). -/
def wordsDue (s : State) (x : TribTx) (d k : Nat) : Nat :=
  let slow := (s.domFmt d).any (fun f => f.family == 2 || f.family == 4)
  (s.tick - x.openAt) * 1485 * k * (if slow then 1000 else 1001) / 10010000

/-- The enabled transmit tributaries of a link with their word streams, as (first container, containers, words waiting for the
round), and the streams with the words of the round sent (R111, R113). -/
def roundWords (s : State) (link : Nat) : List (Nat × Nat × Nat) × List TribTx :=
  (s.tribsOf link).foldl (fun (acc : List (Nat × Nat × Nat) × List TribTx) t =>
    match tribSpan (s.reg (F.SPR_TRIB_CFG_EN.addr link t)) with
    | some (st, k, 1) =>
      match s.tribOut link t with
      | none => acc
      | some o =>
        match acc.2.find? (fun x => x.flow == o.flow) with
        | none => acc
        | some x =>
          let n := min (24 * k) (s.wordsDue x o.dom k - x.sent)
          let first := decide (t = s.fld F.SHK_FLOW_CFG_PORT (o.flow - 0x800))
          (acc.1 ++ [(st, k, n)],
            if first then acc.2.map (fun (y : TribTx) => if y.flow == o.flow then { y with sent := y.sent + n } else y) else acc.2)
    | _ => acc) ([], s.lane.tx)

/-- A round of container blocks of a Sprue link (R112, R113, R116, R302): each container of a tributary takes up to 24 of the words that
wait, in container order; a block without words is filler, and every block is standby in Hold. The words are those of the serial
interface, whose standards lie outside the specification: the payload is free. -/
def sendRound (s : State) (link round : Nat) : State :=
  let (tr, tx) := s.roundWords link
  let block (c : Nat) : BitVec 256 :=
    let pay := (Config.freeBits 240 (s.free + c)).toNat
    if s.sys.mode = .hold then blockOf 2 0 round pay
    else match tr.find? (fun x => decide (x.1 ≤ c) && decide (c < x.1 + x.2.1)) with
      | some (st, _, n) =>
        let m := min 24 (n - 24 * (c - st))
        if m = 0 then blockOf 0 0 round pay else blockOf 1 m round pay
      | none => blockOf 0 0 round pay
  let n := s.linkRoom link
  ({ s with free := s.free + n, lane := { s.lane with tx := tx } }).emit (.round link ((List.range n).map block))

/-- A link's transmitters at a tick (R106): round `q` begins after `q` rounds and the markers between them; before every round that
follows 1,920 data blocks the lanes send their markers. -/
def linkSend (s : State) (link : Nat) : State :=
  let r := s.linkRec link
  if (s.txLanes link).isEmpty then (if r.txAt.isSome then s.setLink { r with txAt := none } else s)
  else match r.txAt with
    | none => s.setLink { r with txAt := some (s.tick, 0) }
    | some (t0, q) =>
      let rate := s.linkRate link
      let per := roundsOf rate
      if 100 * (s.tick - t0) < q / per * markerInterval rate + q % per * 15360 then s
      else
        let s := s.setLink { r with txAt := some (t0, q + 1) }
        let s := if q % per = 0 ∧ 0 < q then s.sendMarkers link ((q / per - 1) % 4294967296) else s
        if s.flag F.SPR_LINK_CFG_TYPE link then s else s.sendRound link q

/-- A lane whose second marker in a row fails to come fails (R109); 1,024 ns of skew are allowed for (R108; DEDUCED, log entry
114). -/
def linkListen (s : State) (link : Nat) : State :=
  let late := (s.linkLanes link).filter (fun l =>
    (s.laneRec l).round.isSome && !(s.laneRec l).failed &&
      decide (2 * markerInterval (s.fld F.HLN_LANE_CFG_RATE l) + 102400 < 100 * (s.tick - (s.laneRec l).seenAt)))
  if s.flag F.SPR_LINK_CFG_EN link then late.foldl laneFail s else s

/-- The links at a tick, of which the lane state holds a record. -/
def linkClocks (s : State) : State :=
  if !s.rst.pUp then s
  else ((s.lane.links.map LinkRec.link).foldl (fun (s : State) k => (s.linkSend k).linkListen k) s).aksGapClock

end State
end Sys2Proof.Machine
end

