-- ==== Sys2Proof/Machine/Step.lean ====
section
/-! DEFINITION. One step of the block: the command at the front of the queue, or a tick. -/

namespace Sys2Proof.Machine

/-- The step on an empty queue (DESIGN CHOICE, log entry 1): a nanosecond, which the tick counter counts while domain P runs (R42,
R43) and the cast cycle timer of domain A outside a reset of Chip reach (R24, R45), with what the serial links do in it
(chapter 04) and the 100 ms of the setpoint commands (R599). -/
def State.idle (s : State) : State :=
  (State.linkClocks
    { s with out := [], tick := if s.rst.pUp then (s.tick + 1) % 2 ^ 64 else s.tick,
             sys := { s.sys with castAge := if s.chipHeld then s.sys.castAge else s.sys.castAge + 1 } }).vddClock

/-- Take the command at the front of the queue and run it with the rest of the queue; idle on an empty
queue. -/
def step (s : State) : Host.Outcome State Fault Refusal :=
  match s.pending with
  | [] => .next s.idle
  | c :: rest => exec c { s with pending := rest }

/-- The state with the command a table word spells put in front of its queue; no row of the table has
bits, so every word spells none. -/
def State.withFetchWord (s : State) (nbits w : Nat) : State :=
  match Sys2Proof.decodeTableWord nbits w with
  | some c => { s with pending := c :: s.pending }
  | none => s

end Sys2Proof.Machine
end

