-- ==== Sys2Proof/WellFormed.lean ====
section
/-! DEFINITION. Well-formed commands: operands that name a source, unit, register or instance the device has, and packets of the
shape of R449. What the device does with others is for the meanings to say. -/

namespace Sys2Proof
open Sys2Proof.Machine

/-- A packet of the shape of R449: MAGIC, VERSION, no reserved flag, PARAM_LEN as long as the parameters and a multiple of 4
within the limit of its source, and a tag on CS8 to CS11 alone. -/
def Cmd.wellFormed (c : Cmd) : Bool :=
  let net := decide (8 ≤ c.src.val ∧ c.src.val ≤ 11)
  c.magic == 0x4C54#16 && c.version == 1#8 && decide (c.flags.toNat < 32) && c.paramLen.toNat == c.params.length &&
    decide (c.params.length % 4 = 0) && decide (c.params.length ≤ if net then 65484 else 65500) &&
    c.auth.length == (if net then 16 else 0)

/-- One aligned 32-bit access by a master of R573. -/
def BusAccess.wellFormed (a : BusAccess) : Bool :=
  decide (a.master < 8) && decide (a.id < 16) && decide (a.addr < 1099511627776) && decide (a.addr % 4 = 0) && a.enables == 15

/-- The check of a command's operands. -/
def wellFormed : Instr → Bool
  | .sessionOpen c | .ping c | .ident c | .modeSet c | .debugChallenge c | .debugUnlock c | .vinDefine c | .flowDelete c |
    .vinDepth c | .ancInDefine c | .voutDefine c | .ancOutDefine c | .ancOutRoute c | .testDefine c | .take c |
    .macroStore c | .macroArm c | .macroDelete c | .patWrite c | .patClear c | .patShare c | .schedCancel c | .astreamIn c |
    .astreamOut c | .astreamDelete c | .xpSet c | .deembedMap c | .embedMap c | .delayDefine c | .delayDelete c |
    .aptPort c | .aptMask c | .aptTdm c | .aptCsTx c | .aptRestart c | .audCfg c | .imageLoad c | .imageDelete c |
    .taskDefine c | .taskRemove c | .taskParam c | .taskEnable c | .pipeDefine c | .pipeDelete c | .layerSet c |
    .surfaceDefine c | .surfaceDelete c | .surfaceFlip c | .flipCancel c | .measCfg c | .measDest c | .allowStep c |
    .timSet c | .stepThr c | .ptpCfg c | .ptpPort c | .refInput c | .dpllCfg c | .raster c | .clkout c | .oscSel c |
    .macCfg c | .macGate c | .hlaneCfg c | .slaneCfg c | .linkCfg c | .tribSet c | .marginCfg c | .eyeMap c | .poolCfg c |
    .pprRun c | .poolWindow c | .spareSubst c | .twinCfg c | .promote c | .resync c | .roleSwap c | .egressLoop c |
    .keyWrite c | .keyErase c | .attest c | .reset c | .fltClear c | .quench c | .causeClear c | .rstcntClear c |
    .optProgram c | .read c | .snapshot c => c.wellFormed
  | .castBoundary _ | .castTimerExpiry _ | .noMirrorAckTimeout _ | .poolReadReturn _ _ _ | .readDeadline _ |
    .retryBudgetExpiry _ | .pprRowDone _ | .akestimRetryTimeout _ | .partnerUnresponsive | .croakInEdge | .croakInLost |
    .croakOutToggle | .promotion | .roleSwapExecute | .resyncComplete _ | .egressLoopDone | .partnerResetRequest |
    .powerGood | .powerSag | .backupSupplyRise | .resetNChange _ | .perstNChange _ | .resetPulseEnd _ | .optionLoadDone |
    .clocksLocked | .poolTrainingDone _ | .firmwareVerified _ _ | .meltReady | .watchdogExpiry | .kick | .firmwareReturn |
    .chip | .quenchExit | .go | .coldEntry | .wakeComplete | .valid | .xtalLoss | .pllUnlock _ | .latch | .keyCommitDone |
    .attestSigned | .snapshotCopyDone | .servoUpdate _ _ _ | .blockBoundary | .meterWindowEnd | .reportIntervalEnd |
    .gpioWindowEnd | .ocxoFail | .vddCoreSetpointStep _ _ | .pmbusRetryExpiry _ => true
  | .mirrorAckReceive ack => decide (ack.1 < 4294967296)
  | .cplConsWrite src value => decide (src < 8) && decide (value < 65536)
  | .prodWrite src value subs => decide (src < 8) && decide (value < 65536) && subs.all (fun d => decide (64 ≤ d.rplCap ∧ d.rplCap ≤ 65536))
  | .heldPacketTimeout src seq => decide (8 ≤ src ∧ src < 12) && decide (seq < 4294967296)
  | .fragmentTimeout src ident _ => decide (8 ≤ src ∧ src < 12) && decide (ident < 65536)
  | .timedRelease src seq | .timedFire src seq => decide (src < 16) && decide (seq < 4294967296)
  | .slotStart d | .bankCopyDone d | .frameBoundary d | .rasterStart d | .refWtrExpiry d _ | .dpllAbsorbDone d |
    .dpllLocked d | .dpllLockLost d => decide (d < 4)
  | .suspectExpiry tile => decide (tile < 33554432)
  | .poolWindowRead w _ n => decide (w < 16) && decide (0 < n)
  | .poolWindowWrite w _ data => decide (w < 16) && !data.isEmpty
  | .flush w _ => decide (w < 16)
  | .macFrameReceive mac frame => decide (mac < 32) && decide (frame.len < 65536)
  | .mergeHoldExpiry flow _ | .frameOpenTimeout flow _ | .inputLossTimeout flow | .packetSendTime flow => decide (flow < 65536)
  | .pathIdleTimeout flow path => decide (flow < 2048) && decide (path < 2)
  | .sdiFrameReceive link port _ => (match link with | some l => decide (l < 16) | none => decide (port < 68))
  | .slaneLos lane => decide (lane < 68)
  | .slaneRateChange lane code | .slaneLock lane code => decide (lane < 68) && decide (code < 16)
  | .sprueBlockReceive link _ _ _ _ | .laneWtrExpiry link => decide (link < 16)
  | .linkMarkerReceive lane _ | .laneCdrLoss lane => decide (lane < 144)
  | .marginMeasure lane h v => (decide (lane < 144) || (decide (0x100 ≤ lane) && decide (lane < 0x144))) && !h.isEmpty && h.length == v.length
  | .laneTxTrained isS lane => decide (lane < if isS then 68 else 144)
  | .akestimFrameReceive seq _ => decide (seq < 4294967296)
  | .akestimLinkUp mode _ _ => decide (mode < 6)
  | .castRecordReceive rec _ => decide (rec.1 < 4294967296)
  | .loopSignatureReceive sig => decide (sig.1 < 4294967296) && decide (sig.2 < 4294967296)
  | .faultRaise n _ => decide (n < 48)
  | .substComplete _ u _ => decide (u < 68)
  | .status mask => decide (mask < 281474976710656)
  | .tempSample sensor _ => decide (sensor < 20)
  | .railSample rail _ _ => decide (rail < 9)
  | .tamperOnset src | .tamperInactive src => decide (src < 4)
  | .imageCheckDone image => decide (image.1 < 64)
  | .eyeMapDone lane _ => decide (lane < 144) || (decide (0x100 ≤ lane) && decide (lane < 0x144))
  | .ptpSyncTx port | .ptpAnnounceTx port | .ptpDelayReqTx port | .announceReceiptTimeout port => decide (port < 32)
  | .macFrameTransmit mac | .macLinkUp mac | .macVerifyTimer mac | .macLinkDown mac | .snap mac | .clr mac => decide (mac < 32)
  | .txqRead master mac => decide (master < 8) && decide (mac < 32)
  | .igmpReportSend mac group => decide (mac < 32) && decide (group < 4294967296)
  | .refFreqGate input _ | .refInputLoss input | .refQualified input | .refPhaseOutlier input => decide (input < 9)
  | .audioStreamLoss stream => decide (0x1000 ≤ stream ∧ stream < 0x2000)
  | .tdmFrameSync frames => frames.all (fun f => decide (f.port < 16))
  | .aes3BlockEnd port _ _ | .aes3BlockSyncLoss port _ | .restart port | .aes3ZPreambleReceive port _ |
    .aes3TxBlockStart port _ => decide (port < 16)
  | .nwtTrap c code => decide (c < 68) && decide (1 ≤ code ∧ code ≤ 8)
  | .nwtInterrupt c | .nwtTimerExpiry c | .nop c _ | .br c _ | .brz c _ | .brnz c _ | .brn c _ | .call c _ | .ret c _ |
    .rep c _ | .break c _ | .swi c _ | .reti c _ | .tend c _ | .tmr c _ | .sld c _ | .sst c _ | .vld c _ | .vst c _ |
    .vldb c _ | .vlds c _ | .ast c _ | .ald c _ | .movi c _ | .mov c _ | .padd c _ | .add c _ | .sub c _ | .and c _ |
    .or c _ | .xor c _ | .shl c _ | .shr c _ | .abs c _ | .min c _ | .max c _ | .cmplt c _ | .vsel c _ | .vmul c _ |
    .vmac c _ | .vmsb c _ | .vmacm c _ | .ftap c _ | .aclr c _ | .rnd c _ | .ashf c _ | .exp c _ | .norm c _ => decide (c < 68)
  | .measDatagramSend dest => decide (dest < 4)
  | .gpioEvent pin _ | .quarantine pin => decide (pin < 64)
  | .chmFenceWrite master fence value => decide (master < 8) && decide (fence < 256) && decide (value < 4294967296)
  | .vec master value => decide (master < 8) && decide (value < 4294967296)
  | .epochLoRead master | .tickLoRead master | .nowNsRead master => decide (master < 8)
  | .rasPosRead master d => decide (master < 8) && decide (d < 4)
  | .latchedLowRead a | .peakRead a | .busAccessTimeout a _ => a.wellFormed
  | .registerWrite a value => a.wellFormed && decide (value < 4294967296)
  | .tribRateGate link trib _ => decide (link < 16) && decide (trib < 3840)
  | .mgmtDatagramReceive port udpPort _ _ _ off _ data => decide (port < 2) && decide (udpPort < 65536) && decide (off + data.length ≤ 65507)
  | .patternWindowWrite master off value => decide (master < 8) && decide (off < 0x400000 ∧ off % 4 = 0) && decide (value < 4294967296)
  | .nwtMemWindowWrite master off value => decide (master < 8) && decide (off < 0x10000 ∧ off % 4 = 0) && decide (value < 4294967296)

end Sys2Proof
end

