-- ==== Sys2Proof/Safety.lean ====
section
/-! DEFINITION. What the statements speak of: bounded stores, canonical memories, the packet a command row carries, and a row's
exact effect. -/

namespace Sys2Proof.Machine

/-- The opcode of chapter 17 that a command row stands for, and the packet it carries (R474, R475). -/
def commandOf : Instr → Option (Nat × Cmd)
  | .sessionOpen p => some (opSessionOpen, p)
  | .ping p => some (opPing, p)
  | .ident p => some (opIdent, p)
  | .modeSet p => some (opModeSet, p)
  | .debugChallenge p => some (opDebugChallenge, p)
  | .debugUnlock p => some (opDebugUnlock, p)
  | .vinDefine p => some (opVinDefine, p)
  | .flowDelete p => some (opFlowDelete, p)
  | .vinDepth p => some (opVinDepth, p)
  | .ancInDefine p => some (opAncInDefine, p)
  | .voutDefine p => some (opVoutDefine, p)
  | .ancOutDefine p => some (opAncOutDefine, p)
  | .ancOutRoute p => some (opAncOutRoute, p)
  | .testDefine p => some (opTestDefine, p)
  | .take p => some (opTake, p)
  | .macroStore p => some (opMacroStore, p)
  | .macroArm p => some (opMacroArm, p)
  | .macroDelete p => some (opMacroDelete, p)
  | .patWrite p => some (opPatWrite, p)
  | .patClear p => some (opPatClear, p)
  | .patShare p => some (opPatShare, p)
  | .schedCancel p => some (opSchedCancel, p)
  | .astreamIn p => some (opAstreamIn, p)
  | .astreamOut p => some (opAstreamOut, p)
  | .astreamDelete p => some (opAstreamDelete, p)
  | .xpSet p => some (opXpSet, p)
  | .deembedMap p => some (opDeembedMap, p)
  | .embedMap p => some (opEmbedMap, p)
  | .delayDefine p => some (opDelayDefine, p)
  | .delayDelete p => some (opDelayDelete, p)
  | .aptPort p => some (opAptPort, p)
  | .aptMask p => some (opAptMask, p)
  | .aptTdm p => some (opAptTdm, p)
  | .aptCsTx p => some (opAptCsTx, p)
  | .aptRestart p => some (opAptRestart, p)
  | .audCfg p => some (opAudCfg, p)
  | .imageLoad p => some (opImageLoad, p)
  | .imageDelete p => some (opImageDelete, p)
  | .taskDefine p => some (opTaskDefine, p)
  | .taskRemove p => some (opTaskRemove, p)
  | .taskParam p => some (opTaskParam, p)
  | .taskEnable p => some (opTaskEnable, p)
  | .pipeDefine p => some (opPipeDefine, p)
  | .pipeDelete p => some (opPipeDelete, p)
  | .layerSet p => some (opLayerSet, p)
  | .surfaceDefine p => some (opSurfaceDefine, p)
  | .surfaceDelete p => some (opSurfaceDelete, p)
  | .surfaceFlip p => some (opSurfaceFlip, p)
  | .flipCancel p => some (opFlipCancel, p)
  | .measCfg p => some (opMeasCfg, p)
  | .measDest p => some (opMeasDest, p)
  | .allowStep p => some (opAllowStep, p)
  | .timSet p => some (opTimSet, p)
  | .stepThr p => some (opStepThr, p)
  | .ptpCfg p => some (opPtpCfg, p)
  | .ptpPort p => some (opPtpPort, p)
  | .refInput p => some (opRefInput, p)
  | .dpllCfg p => some (opDpllCfg, p)
  | .raster p => some (opRaster, p)
  | .clkout p => some (opClkout, p)
  | .oscSel p => some (opOscSel, p)
  | .macCfg p => some (opMacCfg, p)
  | .macGate p => some (opMacGate, p)
  | .hlaneCfg p => some (opHlaneCfg, p)
  | .slaneCfg p => some (opSlaneCfg, p)
  | .linkCfg p => some (opLinkCfg, p)
  | .tribSet p => some (opTribSet, p)
  | .marginCfg p => some (opMarginCfg, p)
  | .eyeMap p => some (opEyeMap, p)
  | .poolCfg p => some (opPoolCfg, p)
  | .pprRun p => some (opPprRun, p)
  | .poolWindow p => some (opPoolWindow, p)
  | .spareSubst p => some (opSpareSubst, p)
  | .twinCfg p => some (opTwinCfg, p)
  | .promote p => some (opPromote, p)
  | .resync p => some (opResync, p)
  | .roleSwap p => some (opRoleSwap, p)
  | .egressLoop p => some (opEgressLoop, p)
  | .keyWrite p => some (opKeyWrite, p)
  | .keyErase p => some (opKeyErase, p)
  | .attest p => some (opAttest, p)
  | .reset p => some (opReset, p)
  | .fltClear p => some (opFltClear, p)
  | .quench p => some (opQuench, p)
  | .causeClear p => some (opCauseClear, p)
  | .rstcntClear p => some (opRstcntClear, p)
  | .optProgram p => some (opOptProgram, p)
  | .read p => some (opRead, p)
  | .snapshot p => some (opSnapshot, p)
  | _ => none

/-- The pool's canonical form: tile bytes by rising address, none equal to the byte of an initialised tile (R215). -/
def Memory.wf (m : List Host.Cell) : Bool := swf initByte m

/-- Whether a window access begins at once (R204): none waits, and no transaction of an earlier class waits on its channels. -/
def State.winFree (s : State) (op : WinOp) : Prop := s.pool.winWait = [] ∧ s.winBlocked op = false

/-- The journal keeps its last 16,384 entries (R470), each source its last 256 replies (R465), in the store's order by source. -/
def State.Bounded (s : State) : Prop := s.jnl.length ≤ 16384 ∧ boundStored s.cmd.stored = s.cmd.stored

/-- What every row leaves of the two stores: the last 16,384 journal entries, the last 256 replies of each source. -/
def State.kept (s : State) : State :=
  { s with jnl := lastN 16384 s.jnl, cmd := { s.cmd with stored := boundStored s.cmd.stored } }

/-- A row's effect, whole: it answers the next state `e` but for what the step hands to the outside, and in every part that `e`
does not change it leaves what stood there. The queue of commands is the step's alone. -/
def Does (i : Instr) (s e : State) : Prop := ∃ o, exec i s = .next { e.kept with out := o, pending := s.pending }

/-- A row's effect with what it hands to the outside: the outputs `o` and, where an enabled interrupt line rises, the vector of
R591. -/
def Hands (i : Instr) (s e : State) (o : List Output) : Prop :=
  exec i s = .next { e.kept with out := o, pending := s.pending } ∨
    exec i s = .next { e.kept with out := o ++ [.msix (e.word0 F.SYS_INT_VEC_VEC.off).toNat], pending := s.pending }

/-- `n` steps; a step that stops ends the run. -/
def runFor : Nat → State → State
  | 0, s => s
  | n + 1, s => match step s with
    | .next t => runFor n t
    | .fault _ => s
    | .refused _ => s

/-- A row's next state, the state itself where the row stops. -/
def after (i : Instr) (s : State) : State :=
  match exec i s with
  | .next t => t
  | .fault _ => s
  | .refused _ => s

/-- Steps 0 to 5 of R453 pass for a packet: its source is served and has room (R454, R473), its bytes and, on a network source,
its tag are right. The source holds no later packet. -/
structure State.Served (s : State) (op : Nat) (c : Cmd) : Prop where
  shape : c.params.length = c.paramLen.toNat
  bytes : packetCheck c.src.val (cmdBytes op c) = none
  source : c.src.val ≠ 12 ∧ c.src.val ≠ 13 ∧ s.flag F.CMD_SRC_CFG_EN c.src.val = true
  host : c.src.val < 8 → s.rst.hUp = true
  net : isNet c.src.val = true → s.flag F.CMD_NET_EP_EN (c.src.val - 8) = true ∧
    ∃ key, s.netKey { c with key := [] } = some key ∧ tagOk key (cmdBytes op c) = true
  awake : s.sys.mode ≠ .cold ∧ s.rst.aUp = true ∧ s.fwServes = true
  room : s.outstanding c.src.val < 256
  held : s.cmd.held.all (fun h => h.cmd.src.val != c.src.val) = true

/-- The session a packet of a source must name (R461): the one that earlier accepted commands leave. -/
def State.sessionOf (s : State) (k : Nat) : Nat := s.view.fld F.CMD_SRC_SEQ_SESSION k

/-- Steps 0 to 7 of R453 pass. -/
structure State.Takes (s : State) (op : Nat) (c : Cmd) : Prop extends State.Served s op c where
  session : op ≠ opSessionOpen ∧ s.sessionOf c.src.val ≠ 0 ∧ c.session.toNat = s.sessionOf c.src.val
  seq : c.seq.toNat = s.fld F.CMD_SRC_SEQ_NEXT_SEQ c.src.val

/-- No register word but those at the offsets `l` differs. -/
def State.onlyWords (s t : State) (l : List Nat) : Prop := ∀ a, a ∉ l → t.reg a = s.reg a

/-! ## Newt rows -/

/-- The instruction rows of a core (R399). -/
def NewtRow (c : Nat) (i : NwtIns) (row : Instr) : Prop :=
  row ∈
  [.nop c i, .br c i, .brz c i, .brnz c i, .brn c i, .call c i, .ret c i, .rep c i, .break c i, .swi c i, .reti c i,
   .tend c i, .tmr c i, .sld c i, .sst c i, .vld c i, .vst c i, .vldb c i, .vlds c i, .ast c i, .ald c i, .movi c i,
   .mov c i, .padd c i, .add c i, .sub c i, .and c i, .or c i, .xor c i, .shl c i, .shr c i, .abs c i, .min c i,
   .max c i, .cmplt c i, .vsel c i, .vmul c i, .vmac c i, .vmsb c i, .vmacm c i, .ftap c i, .aclr c i, .rnd c i,
   .ashf c i, .exp c i, .norm c i]

/-- Core `c` runs task `t`; `x` and `r` are its core and its run once the results two instructions old have landed (R401). -/
def State.RunsAt (s : State) (c : Nat) (x : NwtCore) (r : NwtRun) (t : NwtTask) : Prop :=
  ∃ r0, (s.core c).run = some r0 ∧ (s.core c).task r0.task = some t ∧ agePend (s.core c) r0 = (x, r)

/-- The bank of the level a run is at (R405). -/
def NwtRun.bank (r : NwtRun) : NwtBank := r.banks.getD r.level NwtBank.zero

/-- Whether a result sets SAT of a lane (R392). -/
def NwtWrite.saturates : NwtWrite → Bool
  | .flags _ (some l) => l.any id
  | _ => false

/-- A run after an instruction: the bank `b` stands at once, the results `w` land two instructions later (R401), `n` cycles are
counted, and the run goes on at the branch that waited, the next turn of a loop, or the next index. -/
def NwtRun.moved (r : NwtRun) (b : NwtBank) (w : List NwtWrite) (n : Nat) : NwtRun :=
  let f := match r.branch with
    | some k => (k, b.loops)
    | none => loopNext b.loops r.pc
  { r with
      banks := r.banks.set r.level { b with loops := f.2 }
      pc := f.1
      branch := none
      cycles := r.cycles + n
      pend := r.pend ++ w.map (fun w => ⟨r.level, 2, w⟩)
      satSeen := r.satSeen || w.any NwtWrite.saturates }

/-- What a result does for a destination code (R394, R401): lanes for V, a scalar for S, and P, M, B and L at once. -/
def NwtBank.landing (b : NwtBank) (d : BitVec 6) (lanes : List (BitVec 32 × Bool)) (v : BitVec 32) : NwtBank × List NwtWrite :=
  if d.toNat < 16 then (b, [.vec d.toNat (lanes.map (·.1)), .flags none (some (lanes.map (·.2)))])
  else if d.toNat < 32 then (b, [.scalar (d.toNat - 16) v])
  else (b.setAddr d v, [])

/-- The accumulator that a multiply-accumulate reads: the result of one an instruction earlier is forwarded (R401). -/
def NwtRun.forwarded (r : NwtRun) (k : Nat) : List (BitVec 80) :=
  (r.pend.filterMap (fun w => if w.bank == r.level then
    (match w.w with
     | .acc n l true => if n == k then some l else none
     | _ => none) else none)).getLastD (r.bank.accOf k)

/-- A row within its task's budget: the core goes on with the run `u`, and `k` corrected errors are counted. -/
def Goes (k : Nat) (i : Instr) (s : State) (c : Nat) (x : NwtCore) (t : NwtTask) (u : NwtRun) : Prop :=
  u.cycles < t.budget → Does i s (State.corrected { s.setCore c { x with run := some u } with free := s.free + 16 } c k)

/-- A row that traps with a code of R408, with `k` corrected errors counted. -/
def Traps (k : Nat) (i : Instr) (s : State) (c : Nat) (x : NwtCore) (r : NwtRun) (code : Nat) : Prop :=
  Does i s (State.trapTask (State.corrected { s.begin.setCore c x with free := s.free + 16 } c k) c { r with cycles := r.cycles + 1 } code)

end Sys2Proof.Machine
end

