-- ==== Sys2Proof/Certificates/Slice0/Obligations.lean ====
section
/-! DEFINITION. The statements about the block, for the provers. -/

open Sys2Proof
open Sys2Proof.Machine

/-- A step runs the command at the front of the queue (the block's own rule of the model). -/
def Obligations.StepRunsFrontCommand : Prop :=
  ∀ (c : Instr) (rest : List Instr) (s : State), s.pending = c :: rest → step s = exec c { s with pending := rest }

/-- The step on an empty queue: a model choice (log entry 1, DESIGN CHOICE); the tick counter counts only while domain P is out of reset (R42, R43). -/
def Obligations.IdleStepIsOneTick : Prop :=
  ∀ s : State, s.pending = [] → (s.rst.pUp = true → s.lane.links = [] ∧ s.twn.aksHeld = []) → s.gpio.vddAge = [] →
    step s = .next
      { s with
        out := []
        tick := if s.rst.pUp then (s.tick + 1) % 2 ^ 64 else s.tick
        sys := { s.sys with castAge := if s.chipHeld then s.sys.castAge else s.sys.castAge + 1 } }

/-- No command stops the block; the stores that the specification bounds are bounded after each. -/
def Obligations.EveryCommandAnswersNextState : Prop :=
  ∀ (i : Instr) (s : State), ∃ t, exec i s = .next t ∧ t.pending = s.pending ∧ t.jnl.length ≤ 16384 ∧
    ∀ k, (t.cmd.stored.filter (fun x => x.src == k)).length ≤ 256

/-- The bounds of R465 and R470 are an invariant of the step. -/
def Obligations.BoundedStoresKept : Prop :=
  ∀ s t : State, s.Bounded → step s = .next t → t.Bounded

/-- The reset state; registers whose reset value the specification does not give take the value of their own log entry. -/
def Obligations.ResetIsBoundedAndEmpty : Prop :=
  State.reset.Bounded ∧ Memory.wf State.reset.pool.mem = true ∧ (∀ a, State.reset.reg a = resetWord a) ∧ State.reset.jnl = [] ∧
    State.reset.sys.epoch = 0 ∧ State.reset.sys.mode = .melt ∧ State.reset.rst.asserted = [.powerOn] ∧
    State.reset.rst.aUp = false ∧ State.reset.rst.cUp = false ∧ State.reset.rst.pUp = false ∧ State.reset.rst.hUp = false

/-- The queue is first in, first out. -/
def Obligations.QueueRunsFirstInFirstOut : Prop :=
  ∀ (cs more : List Instr) (s : State), s.pending = cs ++ more →
    runFor cs.length s = cs.foldl (fun t c => after c { t with pending := t.pending.drop 1 }) s ∧
      (runFor cs.length s).pending = more

/-- The register store behind every meaning (R575, R578). -/
def Obligations.FieldReadsAsWritten : Prop :=
  ∀ (s : State) (f g : Fld) (v i j k l : Nat), f.hi < 32 → g.hi < 32 →
    (s.setFld f v i j).fld f i j = v % 2 ^ (f.hi + 1 - f.lo) ∧
    (g.addr k l ≠ f.addr i j → (s.setFld f v i j).fld g k l = s.fld g k l) ∧
    (g.addr k l = f.addr i j → (g.hi < f.lo ∨ f.hi < g.lo) → (s.setFld f v i j).fld g k l = s.fld g k l)

/-- Rows and opcodes (R474), and a source that is not served (R473, R455). -/
def Obligations.CommandRowsNameTheirOpcode : Prop :=
  ∀ (i : Instr) (op : Nat) (c : Cmd) (s : State), commandOf i = some (op, c) →
    (opInfo op).isSome = true ∧
    (c.src.val ≠ 12 → c.params.length = c.paramLen.toNat →
      (s.sys.mode = .cold ∨ s.rst.aUp = false ∨ s.flag F.CMD_SRC_CFG_EN c.src.val = false) → Does i s s)

/-- Admission (R31, R453, R464): one statement for the 88 packet rows other than SESSION_OPEN. -/
def Obligations.AdmittedCommandConsumesSeq : Prop :=
  ∀ (i : Instr) (op : Nat) (c : Cmd) (s : State), commandOf i = some (op, c) → s.begin.Takes op c →
    ∃ t key, exec i s = .next t ∧ (isNet c.src.val = false → key = []) ∧
      t.fld F.CMD_SRC_SEQ_NEXT_SEQ c.src.val = (c.seq.toNat + 1) % 4294967296 ∧
      t.cmd.admitted = s.cmd.admitted ++ [⟨op, { c with key := key }, s.begin.judge op { c with key := key }, c.isTimed, s.modeTarget.getD s.sys.mode⟩] ∧
      t.cmd.unreleased = s.cmd.unreleased ∧ t.jnl = lastN 16384 s.jnl ∧ t.events = s.events ∧
      (∃ x ∈ t.cmd.stored, x.src = c.src.val ∧ x.seq = c.seq.toNat ∧ x.reply = none ∧ x.lost = false) ∧
      s.onlyWords t [F.CMD_SRC_SEQ_NEXT_SEQ.addr c.src.val 0, F.PAT_SCHED_STAT_FULL_SEEN.addr 0 0] ∧
      t.sys.mode = s.sys.mode ∧ t.sys.epoch = s.sys.epoch

/-- Admission of SESSION_OPEN (R461, R462). -/
def Obligations.SessionOpenIsAdmitted : Prop :=
  ∀ (c : Cmd) (s : State), s.begin.Served opSessionOpen c →
    (isNet c.src.val = true → c.params.length = 8 →
      s.begin.view.pair F.CMD_NET_EP_OPEN_CTR_LO F.CMD_NET_EP_OPEN_CTR_HI (c.src.val - 8) < u64 c.params 0) →
    ∃ key, (isNet c.src.val = false → key = []) ∧
      (s.begin.judge opSessionOpen { c with key := key } = .accept →
        ∃ t, exec (.sessionOpen c) s = .next t ∧
          t.fld F.CMD_SRC_SEQ_NEXT_SEQ c.src.val = (c.seq.toNat + 1) % 4294967296 ∧
          t.cmd.admitted = s.cmd.admitted ++ [⟨opSessionOpen, { c with key := key }, .accept, c.isTimed, s.modeTarget.getD s.sys.mode⟩] ∧
          t.jnl = lastN 16384 s.jnl ∧ s.onlyWords t [F.CMD_SRC_SEQ_NEXT_SEQ.addr c.src.val 0])

/-- Step 6 of R453 with R461: such a failure leaves SEQ unconsumed and is not journalled. -/
def Obligations.WrongSessionConsumesNoSeq : Prop :=
  ∀ (i : Instr) (op : Nat) (c : Cmd) (s : State), commandOf i = some (op, c) → op ≠ opSessionOpen → s.begin.Served op c →
    (s.begin.sessionOf c.src.val = 0 ∨ c.session.toNat ≠ s.begin.sessionOf c.src.val) →
    ∃ t, exec i s = .next t ∧ t.fld F.CMD_SRC_SEQ_NEXT_SEQ c.src.val = s.fld F.CMD_SRC_SEQ_NEXT_SEQ c.src.val ∧
      t.cmd.admitted = s.cmd.admitted ∧ t.jnl = lastN 16384 s.jnl ∧ t.sys = s.sys

/-- CS12 (R287, R463). -/
def Obligations.MacroCommandsAreNumberedByTheDevice : Prop :=
  ∀ (i : Instr) (op : Nat) (c : Cmd) (s : State), commandOf i = some (op, c) → c.src.val = 12 → s.sys.mode ≠ .cold → s.sys.mode ≠ .hold →
    s.fwServes = true → s.outstanding 12 < 256 → s.flag F.CMD_SRC_CFG_EN 12 = true →
    ∃ t v d, exec i s = .next t ∧ t.cmd.admitted = s.cmd.admitted ++ [⟨op, d, v, false, s.modeTarget.getD s.sys.mode⟩] ∧
      d = { c with
        src := 12, seq := BitVec.ofNat 32 (s.fld F.CMD_SRC_SEQ_NEXT_SEQ 12)
        flags := c.flags &&& 0xFD#8, session := BitVec.ofNat 32 (s.fld F.CMD_SRC_SEQ_SESSION 12) } ∧
      t.fld F.CMD_SRC_SEQ_NEXT_SEQ 12 = (s.fld F.CMD_SRC_SEQ_NEXT_SEQ 12 + 1) % 4294967296

/-- The submission and completion rings (R457, R458). Held packets (R464) and datagrams of the network control endpoints (R459). -/
def Obligations.PacketsComeInAsChapter16Says : Prop :=
  ((∀ (k v : Nat) (s : State), s.ringOn k = true →
      ∃ o, exec (.cplConsWrite k v) s =
        .next { (s.begin.setFld F.CMD_RING_CFG_CPL_CONS (v % 65536) k).release.kept with out := o, pending := s.pending }) ∧
    (∀ (k v : Nat) (s : State), s.ringOn k = true → s.cmd.unreleased = [] →
      ∃ t, exec (.cplConsWrite k v) s = .next t ∧ t.fld F.CMD_RING_CFG_CPL_CONS k = v % 65536 ∧
        s.onlyWords t [F.CMD_RING_CFG_CPL_CONS.addr k 0] ∧ t.cmd.admitted = s.cmd.admitted ∧ t.sys = s.sys) ∧
    (∀ (k v : Nat) (s : State), s.ringOn k = false → Does (.cplConsWrite k v) s s) ∧
    (∀ (k v : Nat) (subs : List Submission) (s : State), k < 8 → s.rst.hUp = true →
      s.outstanding k + (v % 65536 + 65536 - s.fld F.CMD_RING_CFG_PROD k) % 65536 ≤ min 256 (s.ringSize k) →
      (s.ringServed k = true →
        ∃ o, exec (.prodWrite k v subs) s =
          .next { (subs.foldl (fun t d => t.readSub k d) (s.begin.setFld F.CMD_RING_CFG_PROD (v % 65536) k)).kept with
                  out := o, pending := s.pending }) ∧
      (s.ringServed k = true → subs = [] →
        ∃ t, exec (.prodWrite k v subs) s = .next t ∧ t.fld F.CMD_RING_CFG_PROD k = v % 65536 ∧
          s.onlyWords t [F.CMD_RING_CFG_PROD.addr k 0] ∧ t.sys = s.sys) ∧
      (s.ringServed k = false →
        ∃ t, exec (.prodWrite k v subs) s = .next t ∧ t.fld F.CMD_RING_CFG_PROD k = v % 65536 ∧
          s.onlyWords t [F.CMD_RING_CFG_PROD.addr k 0] ∧ t.sys = s.sys)) ∧
    (∀ (k v : Nat) (subs : List Submission) (s : State), k < 8 → s.rst.hUp = true →
      min 256 (s.ringSize k) < s.outstanding k + (v % 65536 + 65536 - s.fld F.CMD_RING_CFG_PROD k) % 65536 →
      Does (.prodWrite k v subs) s (s.setFlag F.CMD_SRC_STAT_PROD_REFUSED true k)) ∧
    (∀ (k v : Nat) (subs : List Submission) (s : State), s.rst.hUp = false → Does (.prodWrite k v subs) s s)) ∧
    ((∀ (k q : Nat) (h : HeldPacket) (s : State), s.cmd.held.find? (fun h => h.cmd.src.val == k && h.cmd.seq.toNat == q) = some h →
      (let held := s.cmd.held.filter (fun x => !(x.cmd.src.val == k && x.cmd.seq.toNat == q))
       (∃ t, exec (.heldPacketTimeout k q) s = .next t ∧ t.cmd.held = held ∧ t.cmd.admitted = s.cmd.admitted ∧ t.sys = s.sys ∧
         t.fld F.CMD_SRC_SEQ_NEXT_SEQ k = s.fld F.CMD_SRC_SEQ_NEXT_SEQ k) ∧
       (s.fwServes = true → s.cmd.unreleased = [] → isNet k = true →
         ∃ o, exec (.heldPacketTimeout k q) s =
             .next { (({ s with cmd := { s.cmd with held := held } } : State).kept) with out := o } ∧
           ∃ r tag late trunc, Output.reply r tag late trunc ∈ o ∧ r.status = 0x0107 ∧ r.seq = q ∧ r.src = k))) ∧
    (∀ (k q : Nat) (s : State), s.cmd.held.find? (fun h => h.cmd.src.val == k && h.cmd.seq.toNat == q) = none →
      Does (.heldPacketTimeout k q) s s) ∧
    (∀ (k n p : Nat) (s : State), ∃ o, exec (.fragmentTimeout k n p) s =
      .next { (({ s with cmd := { s.cmd with partials := s.cmd.partials.filter (fun x => !State.partialIs k n p x) } } : State).kept) with
              out := o }) ∧
    (∀ (port udp peer sp n off k : Nat) (data : Bytes) (s : State), s.mgmtUp port = true → s.rst.aUp = true → s.sys.mode ≠ .cold →
      s.endpointOf port udp = some k → s.cmd.partials.find? (State.partialIs k n peer) = none →
      (s.cmd.partials.filter (fun p => p.src == k)).length < 8 →
      (let l := s.cmd.partials.filter (fun p => !State.partialIs k n peer p) ++ [⟨k, n, peer, [(off, data)], none⟩]
       ∃ o, exec (.mgmtDatagramReceive port udp peer sp n off true data) s =
         .next { (({ s with cmd := { s.cmd with partials := l } } : State).kept) with out := o })) ∧
    (∀ (port udp peer sp n k : Nat) (data : Bytes) (s : State), s.mgmtUp port = true → s.rst.aUp = true → s.sys.mode ≠ .cold →
      s.endpointOf port udp = some k →
      ∃ o, exec (.mgmtDatagramReceive port udp peer sp n 0 false data) s =
        .next { (s.begin.datagram k peer sp data).kept with out := o, pending := s.pending }) ∧
    (∀ (port udp peer sp n off : Nat) (more : Bool) (data : Bytes) (s : State),
      s.mgmtUp port = false ∨ s.rst.aUp = false ∨ s.sys.mode = .cold ∨ s.endpointOf port udp = none →
      Does (.mgmtDatagramReceive port udp peer sp n off more data) s s))

/-- Release and firing of timed commands (R254, R255). -/
def Obligations.TimedCommandFiresOnce : Prop :=
  (∀ (k q : Nat) (s : State),
      let l := s.pat.sched.map (fun t => if State.isTimed k q t then { t with released := true } else t)
      Does (.timedRelease k q) s { s with pat := { s.pat with sched := l } }) ∧
    (∀ (k q : Nat) (s : State), s.pat.sched.find? (State.isTimed k q) = none → Does (.timedFire k q) s s) ∧
    (∀ (k q : Nat) (w : Timed) (x : OpInfo) (s u : State) (p : Bytes), s.pat.sched.find? (State.isTimed k q) = some w →
      s.rst.pUp = true → opInfo w.op = some x → x.acceptedIn s.sys.mode = true →
      (let l := s.pat.sched.filter (fun x => !State.isTimed k q x)
       let t := State.schedCount { s.begin with pat := { s.pat with sched := l } }
       applyOp w.op w.cmd (if w.cmd.whenEpoch = false ∧ x.cls = .frame then t.nameLine (some w.cmd.whenF.toNat) else t) = .ok u p none none) →
      Does (.timedFire k q) s
        (let u' := u.nameLine none
         let n := u'.fld F.CMD_SRC_SEQ_NEXT_SEQ 13
         let v := u'.journal ⟨s.sys.epoch, 13, 4, 0, n, w.op, 0, w.cmd.tag.toNat, k, q⟩
         let v := (v.setFld F.CMD_SRC_SEQ_NEXT_SEQ ((n + 1) % 4294967296) 13).setFld F.CMD_SRC_SEQ_LAST_APPLIED n 13
         (State.secondReply { v with twn := { v.twn with firedNow := v.twn.firedNow ++ [(k, q)] } } w 0 p (some s.sys.epoch) u.appliedTime).release))

/-- EPOCH counts every cast cycle boundary (R23, R24, R25, R28), whatever else the boundary does. That LAST_LEN of a D0 cycle is the age in steps is the model's choice (log entry 7). -/
def Obligations.BoundaryAdvancesEpoch : Prop :=
  ∀ (order : List Nat) (s : State), s.rst.aUp = true → s.rst.rstPend = none → s.cmd.admitted = [] → s.cmd.trigQ = [] →
    s.cmd.trigLost = [] →
    (s.chipHeld = false → s.running 0 = false →
      ∃ t, exec (.castTimerExpiry order) s = .next t ∧ t.sys.epoch = (s.sys.epoch + 1) % 2 ^ 64 ∧ t.sys.castAge = 0 ∧
        t.sys.castSrc = false ∧ t.fld F.SYS_CAST_LAST_LEN = 64000) ∧
    (s.onLines = true → (s.sys.castSrc = false → 2000 ≤ s.sys.castAge) →
      ∃ t, exec (.castBoundary order) s = .next t ∧ t.sys.epoch = (s.sys.epoch + 1) % 2 ^ 64 ∧ t.sys.castAge = 0 ∧
        t.sys.castSrc = true ∧ t.fld F.SYS_CAST_LAST_LEN = min 128000 s.sys.castAge)

/-- The order of a boundary (R19, R20, R31, R32). Where the spec gives no order between two phases it is the model's (log entry 3). -/
def Obligations.BoundaryRunsItsPhasesInOrder : Prop :=
  ∀ (order : List Nat) (s : State),
    (let body (d0 : Bool) (len : Nat) (s : State) : State :=
       let t := if s.rst.pUp then [0, 1, 2, 3].foldl (fun t d => t.patBoundary d) s else s
       let t := t.twinBoundary.logSeqs.sendRecord.castCount d0 len
       (t.wakeNow.roleNow.failoverNow.boundaryCommands order false).castAfter s.sys.mode
     (s.rst.aUp = true → s.rst.rstPend = none → s.twn.promote = none → s.twn.leave = false → s.twn.swapAt = none →
        (s.chipHeld = false → s.running 0 = false → Does (.castTimerExpiry order) s (body false 64000 s.begin)) ∧
        (s.onLines = true → (s.sys.castSrc = false → 2000 ≤ s.sys.castAge) →
          Does (.castBoundary order) s (body true s.sys.castAge s.begin)))) ∧
    (s.chipHeld = true ∨ s.running 0 = true → Does (.castTimerExpiry order) s s) ∧
    (s.rst.aUp = false ∨ s.onLines = false → Does (.castBoundary order) s s)

/-- What a boundary does with one command (R31, R466, R470). The EPOCH that a refusal or a dry run carries is the model's reading (log entry 2). -/
def Obligations.CommandIsAppliedAtItsBoundary : Prop :=
  ∀ (a : Admitted) (s : State),
    (let refused (r : RefRec) : State :=
       ((s.noteCommand a 1 r.status []).incFld F.CMD_SRC_CNT_REFUSED a.cmd.src.val).replyLater a r.status (some s.sys.epoch) none r.bytes
     (s.fwServes = true → s.sys.mode ≠ .cold → s.cmd.admitted = [a] → s.recordFull a = false →
       ∀ order, s.boundaryCommands order false = State.applyAt { s with cmd := { s.cmd with admitted := [] } } a) ∧
     (a.cmd.src.val ≠ 12 → a.op ≠ opDebugUnlock →
       (∀ r, a.verdict = .refuse r → s.applyAt a = refused r) ∧
       (∀ r, a.verdict = .accept → s.modeRefuses a = some r → s.applyAt a = refused r) ∧
       (∀ r, a.verdict = .accept → s.modeRefuses a = none → a.timed = false → a.op ≠ opModeSet →
         applyOp a.op a.cmd s = .bad r → s.applyAt a = refused (s.lateRefusal a r)) ∧
       (∀ r, s.sys.mode = a.seen → r.status ≠ 0x0302 → a.op ≠ opModeSet → s.lateRefusal a r = r) ∧
       (∀ r, r.status = 0x0302 → s.lateRefusal a r = rejAll 0x0305)) ∧
     (∀ st p, a.verdict = .dry st p →
       s.applyAt a = (s.noteCommand a 2 st []).replyLater a st (some s.sys.epoch) none p) ∧
     (a.verdict = .accept → s.modeRefuses a = none → a.timed = true →
       ∃ ep tm p, s.applyAt a =
         (let t := (s.noteCommand a 3 1 []).replyLater a 1 ep tm p
          State.schedCount { t with pat := { t.pat with sched := s.pat.sched ++ [⟨a.op, a.cmd, s.sys.epoch, false, true⟩] } })) ∧
     (∀ t p, a.verdict = .accept → s.modeRefuses a = none → a.timed = false → a.cmd.src.val ≠ 12 →
       applyOp a.op a.cmd s = .ok t p none none →
       s.applyAt a = (t.noteCommand a (if a.op = opSessionOpen then 5 else 0) 0 p).replyLater a 0 (some s.sys.epoch) t.appliedTime p)) ∧
    (∀ (t : State) (kind st : Nat) (p : Bytes),
      (t.noteCommand a kind st p).fld F.CMD_SRC_SEQ_LAST_APPLIED a.cmd.src.val = a.cmd.seq.toNat ∧
      (t.noteCommand a kind st p).jnl = t.jnl ++ [⟨t.sys.epoch, a.cmd.src.val, kind, (t.jnl.filter (fun x => x.epoch == t.sys.epoch)).length,
        a.cmd.seq.toNat, a.op, st, a.cmd.tag.toNat, 0xFF, 0⟩])

/-- Acknowledgement of cast records (R35, R467, R501, R502). Rows of the twin link (R117, R118, R497, R509, R512, R547, R548). -/
def Obligations.TwinRecordsAndLink : Prop :=
  ((∀ (q e : Nat) (s : State), s.aksOpen = true → s.flag F.TWN_STAT_PARTNER_UP = true → s.lane.aksRx = q → s.twn.aksHeld = [] →
      s.sys.mode ≠ .hold → s.twn.swapAt = none →
      Does (.mirrorAckReceive (q, e)) s
        (let t : State :=
           { s.begin.emit (.akestim aksBlockAck q 0 []) with
             lane := { s.lane with aksRx := (q + 1) % 4294967296 }
             twn := { s.twn with retained := s.twn.retained.filter (fun r => decide (e < r.epoch)) } }
         let t := ((t.setFlag F.TWN_STAT_SYNC true).setFlag F.TWN_STAT_SYNC_EVER true).setFld F.TWN_STAT_UNSYNC_CAUSE 0
         (t.setPair F.TWN_REC_EPOCH_LO_REC_EPOCH F.TWN_REC_EPOCH_HI_REC_EPOCH e).ackReplies e)) ∧
    (∀ (q e : Nat) (s : State), s.aksOpen = false → Does (.mirrorAckReceive (q, e)) s s) ∧
    (∀ (q e : Nat) (s : State), s.aksOpen = true → s.flag F.TWN_STAT_PARTNER_UP = true → s.lane.aksRx = q → s.twn.aksHeld = [] →
      s.sys.mode = .hold → Does (.mirrorAckReceive (q, e)) s { s with lane := { s.lane with aksRx := (q + 1) % 4294967296 } }) ∧
    (∀ (e : Nat) (s : State), s.sys.epoch < e + 9 → Does (.noMirrorAckTimeout e) s s) ∧
    (∀ (e : Nat) (r : CastRec) (s : State), e + 9 ≤ s.sys.epoch → r ∈ s.twn.retained → r.first ≤ e → e ≤ r.epoch →
      Does (.noMirrorAckTimeout e) s ((s.begin.incFld F.TWN_CNT_NO_ACK).noAckReplies e)) ∧
    (∀ (q : Nat) (r : CastRec) (ok : Bool) (s : State), s.aksOpen = false → Does (.castRecordReceive (q, r) ok) s s) ∧
    (∀ (q : Nat) (r : CastRec) (s : State), s.aksOpen = true → s.lane.aksRx = q → s.twn.aksHeld = [] → s.sys.mode = .hold →
      s.flag F.TWN_STAT_PARTNER_UP = true →
      s.flag F.TWN_STAT_SYNC = true → s.flag F.TWN_STAT_RESYNC_BUSY = false → r.full = none → r.epoch = s.recNext → r.first ≤ r.epoch →
      Does (.castRecordReceive (q, r) true) s
        (let t := State.recordApply
           { s.begin.emit (.akestim aksBlockAck q 0 []) with lane := { s.lane with aksRx := (q + 1) % 4294967296 } } r
         if t.flag F.TWN_STAT_SYNC then t.aksSend aksRecAck r.epoch [] else t))) ∧
    ((∀ (q : Nat) (b : AksBody) (s : State), s.twinOn = false ∨ s.rst.pUp = false ∨ s.sys.mode = .quench ∨ s.sys.mode = .cold →
      Does (.akestimFrameReceive q b) s s) ∧
    (∀ (q k : Nat) (s : State),
      (s.aksOpen = true → s.flag F.TWN_STAT_PARTNER_UP = true → Does (.akestimFrameReceive q (.ack k)) s (s.aksAck k)) ∧
      (s.flag F.TWN_STAT_PARTNER_UP = false → Does (.akestimFrameReceive q (.ack k)) s s)) ∧
    (∀ (q m e : Nat) (s : State), s.aksOpen = true → s.flag F.TWN_STAT_PARTNER_UP = true → s.twn.aksHeld = [] → s.lane.aksRx = q →
      Does (.akestimFrameReceive q (.report m e)) s
        { s with lane := { s.lane with aksRx := (q + 1) % 4294967296 }, twn := { s.twn with partner := some (m, e) } }) ∧
    (∀ (q m e : Nat) (s : State), s.aksOpen = true → s.flag F.TWN_STAT_PARTNER_UP = true → s.lane.aksRx < q →
      q < s.lane.aksRx + 2147483648 → q < 4294967296 →
      Does (.akestimFrameReceive q (.report m e)) s
        { s with twn := { s.twn with aksHeld := upsert (fun x => x.1 == q) (q, s.tick, .body (.report m e)) s.twn.aksHeld } }) ∧
    (∀ (q m e : Nat) (s : State), s.aksOpen = true → s.flag F.TWN_STAT_PARTNER_UP = true → q < s.lane.aksRx →
      s.lane.aksRx ≤ q + 2147483648 → s.lane.aksRx < 4294967296 → Does (.akestimFrameReceive q (.report m e)) s s) ∧
    (∀ (q : Nat) (s : State), s.aksOpen = false ∨ s.lane.aksPend.find? (fun p => p.seq == q) = none →
      Does (.akestimRetryTimeout q) s s) ∧
    (∀ (q : Nat) (p : AksPending) (s : State), s.aksOpen = true → s.lane.aksPend.find? (fun p => p.seq == q) = some p →
      (p.attempts < 3 → Hands (.akestimRetryTimeout q) s
        { s with lane := { s.lane with
            aksPend := s.lane.aksPend.map (fun x => if x.seq == q then { x with attempts := x.attempts + 1 } else x) } }
        [.akestim p.kind p.seq p.epoch p.body]) ∧
      (3 ≤ p.attempts → Does (.akestimRetryTimeout q) s
        (((s.aksAck q).incFld F.SPR_AKS_DROP_DROP (s.fld F.TWN_CFG_LINK)).event blkTwn 1 0x0001 [q, p.kind, p.epoch]))) ∧
    (∀ (m e l : Nat) (s : State), s.twinOn = false → Does (.akestimLinkUp m e l) s s) ∧
    (∀ (m e l : Nat) (s : State), s.twinOn = true → s.sys.mode ≠ .pour →
      ∃ t, exec (.akestimLinkUp m e l) s = .next t ∧ t.twn.partner = some (m, e) ∧ t.flag F.TWN_STAT_PARTNER_UP = true) ∧
    (∀ (s : State), s.twinOn = false ∨ s.flag F.TWN_STAT_PARTNER_UP = false → Does .partnerUnresponsive s s) ∧
    (∀ (s : State), s.twinOn = true → s.flag F.TWN_STAT_PARTNER_UP = true → s.flag F.TWN_STAT_SYNC = false → s.twn.croakLost = false →
      Does .partnerUnresponsive s
        (let t := (s.begin.setFlag F.TWN_STAT_PARTNER_UP false).setFlag F.TWN_STAT_RESYNC_BUSY false
         let t : State := { t with lane := { t.lane with aksPend := [] }, twn := { t.twn with partner := none, fullReq := false, retained := [], aksHeld := [] } }
         (t.setFlag F.TWN_STAT_LINK_ONLY_SEEN true).raise fltTwinSplit [1])) ∧
    (∀ (s : State), s.flag F.TWN_CFG_EN = true →
      Does .croakInEdge s (State.setFlag { s with twn := { s.twn with croakLost := false } } F.TWN_STAT_CROAK_OK true)) ∧
    (∀ (s : State), s.flag F.TWN_CFG_EN = true → s.twn.croakLost = false → s.sys.mode ≠ .proof → s.flag F.TWN_STAT_PARTNER_UP = true →
      Does .croakInLost s
        (let t := s.begin.setFlag F.TWN_STAT_CROAK_OK false
         (State.setFlag { t with twn := { t.twn with croakLost := true } } F.TWN_STAT_CROAK_ONLY_SEEN true).raise fltTwinSplit [0])) ∧
    (∀ (s : State), s.flag F.TWN_CFG_EN = false → Does .croakInEdge s s ∧ Does .croakInLost s s) ∧
    (∀ (s : State), s.twn.croakOutOn = true → s.sys.mode ≠ .quench → s.sys.mode ≠ .cold →
      Hands .croakOutToggle s { s with twn := { s.twn with croakOut := !s.twn.croakOut } } [.pin "CROAK_OUT" (b2n (!s.twn.croakOut))]) ∧
    (∀ (s : State), s.twn.croakOutOn = false ∨ s.sys.mode = .quench ∨ s.sys.mode = .cold → Does .croakOutToggle s s) ∧
    (∀ (s : State), s.sys.mode = .hold → bitOf (optBoot s.otp.applied) 2 = true → s.partnerMode = some Mode.pour.code →
      Does .partnerResetRequest s (s.begin.assertSrc .partner)) ∧
    (∀ (s : State), s.sys.mode ≠ .hold → Does .partnerResetRequest s s))

/-- Changes of role (R508, R510, R513, R515, R518, R29). -/
def Obligations.RolesChangeAsPlanned : Prop :=
  (∀ (s : State), s.twn.promote = none → Does .promotion s s) ∧
    (∀ (c : Nat) (s : State), s.twn.promote = some c → s.sys.mode ≠ .hold ∨ s.flag F.TWN_STAT_SYNC_EVER = false →
      Does .promotion s { s with twn := { s.twn with promote := none } }) ∧
    (∀ (c : Nat) (s : State), s.twn.promote = some c → s.sys.mode = .hold → s.flag F.TWN_STAT_SYNC_EVER = true →
      ∃ t, exec .promotion s = .next t ∧ t.sys.mode = .pour ∧ t.sys.lastCause = c ∧ t.sys.role = .solo ∧ t.sys.epoch = s.sys.epoch ∧
        t.twn.promote = none ∧ t.twn.full = none ∧ t.twn.buffered = [] ∧ t.twn.retained = []) ∧
    (∀ (s : State), s.twn.swapAt = none → Does .roleSwapExecute s s) ∧
    (∀ (x : Nat × Nat × Nat × Nat) (s : State), s.twn.swapAt = some x → s.sys.epoch + 1 < x.1 → Does .roleSwapExecute s s) ∧
    (∀ (src q c : Nat) (s : State), s.twn.swapAt = some (s.sys.epoch + 1, src, q, c) → s.twn.swapAck = true →
      s.flag F.TWN_STAT_SYNC = true → s.sys.mode = .hold →
      ∃ t, exec .roleSwapExecute s = .next t ∧ t.sys.mode = .pour ∧ t.sys.role = .active ∧ t.sys.lastCause = c ∧
        t.twn.swapAt = none) ∧
    (∀ (src q c : Nat) (s : State), s.twn.swapAt = some (s.sys.epoch + 1, src, q, c) → s.twn.swapAck = true →
      s.flag F.TWN_STAT_SYNC = true → s.sys.mode = .pour →
      ∃ t, exec .roleSwapExecute s = .next t ∧ t.sys.mode = .hold ∧ t.sys.role = .standby ∧ t.sys.lastCause = c ∧
        t.twn.swapAt = none) ∧
    (∀ (e : Nat) (s : State), s.flag F.TWN_STAT_RESYNC_BUSY = false ∨ s.sys.mode ≠ .hold → Does (.resyncComplete e) s s) ∧
    (∀ (e : Nat) (r : CastRec) (m : Mirror) (s : State), s.flag F.TWN_STAT_RESYNC_BUSY = true → s.sys.mode = .hold →
      s.twn.full = some r → r.full = some m → s.twn.buffered = [] →
      ∃ t, exec (.resyncComplete e) s = .next t ∧ t.sys.epoch = e ∧ t.twn.full = none ∧ t.twn.buffered = []) ∧
    (∀ (q g : Nat) (s : State), s.aksOpen = true → s.flag F.TWN_STAT_PARTNER_UP = true → s.lane.aksRx = q → s.twn.aksHeld = [] →
      Does (.loopSignatureReceive (q, g)) s
      (State.aksSend { s.begin.emit (.akestim aksBlockAck q 0 []) with lane := { s.lane with aksRx := (q + 1) % 4294967296 } } aksMatch s.sys.epoch [BitVec.ofNat 8 (b2n (s.lad.flows.any (fun x => !x.anc && (lastN 3 x.held).any (fun y =>
        y.lost.isEmpty && (crc32c (s.inputPicture x y)).toNat == g))))])) ∧
    (∀ (s : State), s.twn.loop = none → Does .egressLoopDone s s) ∧
    (∀ (x : EgressLoop) (s : State), s.twn.loop = some x →
      s.loopOuts.all (fun o => decide (s.fld F.TWN_CFG_LOOP_FRAMES ≤ ((x.sent.find? (fun p => p.1 == o.flow)).map (·.2)).getD 0)) = true →
      Does .egressLoopDone s
        (let t := (s.setFlag F.TWN_LOOP_STAT_DONE true).setFlag F.TWN_LOOP_STAT_PASS (s.fld F.TWN_LOOP_STAT_MISMATCH == 0)
         { t with twn := { t.twn with loop := none } }))

/-- Rasters (R65, R66, R67, R69, R70) and the copy after a flip (R243). That FRAME_BOUNDARY leaves line 0, slot 255 is the model's choice (log entry 8). -/
def Obligations.RastersCountSlotsLinesAndFrames : Prop :=
  (∀ (d : Nat) (f : Fmt) (s : State), d < 4 → s.running d = true → s.domFmt d = some f → s.sequencing d = false →
      ((s.rasOf d).slot ≠ 255 → Does (.slotStart d) s (s.setRas d { s.rasOf d with slot := (s.rasOf d).slot + 1 })) ∧
      ((s.rasOf d).slot = 255 → (s.rasOf d).line < f.lines →
        Does (.slotStart d) s ((s.begin.setRas d ⟨(s.rasOf d).frameN, (s.rasOf d).line + 1, 0, s.tick⟩).lateDrops.tribOpen d)) ∧
      ((s.rasOf d).slot = 255 → f.lines ≤ (s.rasOf d).line → Does (.slotStart d) s s)) ∧
    (∀ (d : Nat) (f : Fmt) (s : State), d < 4 → s.running d = true → s.domFmt d = some f → s.sequencing d = true →
      (s.rasOf d).slot ≠ 255 → Does (.slotStart d) s ((s.begin.setRas d { s.rasOf d with slot := (s.rasOf d).slot + 1 }).runSlot d)) ∧
    (∀ (d : Nat) (s : State), s.running d = false → Does (.slotStart d) s s ∧ Does (.frameBoundary d) s s) ∧
    (∀ (d : Nat) (f : Fmt) (s : State), d < 4 → s.running d = true → s.domFmt d = some f →
      ((s.rasOf d).line ≠ f.lines ∨ (s.rasOf d).slot ≠ 255 → Does (.frameBoundary d) s s) ∧
      ((s.rasOf d).line = f.lines → (s.rasOf d).slot = 255 → s.flag F.REF_RAS_CFG_EN d = false →
        Does (.frameBoundary d) s (s.begin.rasterStop d)) ∧
      ((s.rasOf d).line = f.lines → (s.rasOf d).slot = 255 → s.flag F.REF_RAS_CFG_EN d = true → s.fld F.REF_RAS_CFG_FORMAT d = f.code →
        Does (.frameBoundary d) s ((s.begin.setRas d ⟨(s.rasOf d).frameN + 1, 0, 255, s.tick⟩).frameEffects d))) ∧
    (∀ (d : Nat) (s : State), d < 4 → s.rst.pUp = true → s.sys.mode ≠ .cold → s.flag F.REF_RAS_CFG_EN d = true → s.running d = false →
      (s.alignsPtp d = true → s.flag F.TIM_STATUS_TIME_VALID = false →
        Does (.rasterStart d) s ((s.begin.dpllStart d).setFlag F.REF_RAS_STAT_WAIT_TIME true d)) ∧
      (∀ f, s.alignsPtp d = false ∨ s.flag F.TIM_STATUS_TIME_VALID = true → fmtOf (s.fld F.REF_RAS_CFG_FORMAT d) = some f →
        Does (.rasterStart d) s
          (let t := s.begin.dpllStart d
           let t := t.setRas d ⟨State.nearestFrame f (t.sfld F.REF_RAS_OFS_OFS d) (t.alignedNow d), 0, 255, t.tick⟩
           let t := ((t.setFlag F.REF_RAS_STAT_RUN true d).setFld F.REF_RAS_STAT_FORMAT_ACTIVE f.code d).setFlag F.REF_RAS_STAT_WAIT_TIME false d
           ((t.setFlag F.REF_RAS_STAT_ALIGNED true d).formatBegin d f.code).frameEffects d))) ∧
    (∀ (d : Nat) (s : State), s.flag F.REF_RAS_CFG_EN d = false ∨ s.running d = true → Does (.rasterStart d) s s) ∧
    (∀ (d : Nat) (s : State), s.flag F.PAT_BANK_COPY_BUSY d = false → Does (.bankCopyDone d) s s) ∧
    (∀ (d : Nat) (s : State), d < 4 → s.flag F.PAT_BANK_COPY_BUSY d = true → (s.activeBank d).dirtyT = [] → (s.activeBank d).dirtyR = [] →
      Does (.bankCopyDone d) s
        (let a := s.activeBank d
         let k := 1 - s.activeNo d
         let t := s.begin.setBank d k { s.bank d k with fwTmpl := a.fwTmpl, fwRuns := a.fwRuns, dirtyT := [], dirtyR := [], routes := a.routes }
         ((t.setBank d (t.activeNo d) { a with dirtyT := [], dirtyR := [] }).setFlag F.PAT_BANK_COPY_BUSY false d).patWaiting d))

/-- Reads, retries and concealment (R200 to R206), suspects (R207) and repairs (R209 to R212). -/
def Obligations.PoolReadsReturnOrAreConcealed : Prop :=
  (∀ (n w c : Nat) (ecc : Bool) (s : State), s.pool.reads.find? (fun r => r.ident == n) = none →
      Does (.poolReadReturn n w (c, ecc)) s s.begin.serve) ∧
    (∀ (n w c : Nat) (ecc : Bool) (r : PoolRead) (s : State), s.pool.reads.find? (fun r => r.ident == n) = some r → r.inFlight ≠ 0 →
      (let b := s.begin.readCorrected n w c
       (r.late = true → 1 < r.inFlight → w = 0 →
         Does (.poolReadReturn n w (c, ecc)) s
           ((b.incFld F.POOL_CH_CNT_LATE_DISC (tileChannel (r.tile.getD 0))).setRead
             { r with inFlight := r.inFlight - 1, noRetry := true }).serve) ∧
       (∀ t, r.late = false → w = 0 → r.good = false → r.retryWait = false → r.concOut = false → r.tile = some t →
         (ecc = false → s.tileCrcOk t = true → s.tileFlow t = r.flow → s.tileFlags t &&& flagLost = 0 → r.tries = 0 →
           Does (.poolReadReturn n w (c, ecc)) s (b.setRead { r with good := true, inFlight := r.inFlight - 1 }).serve) ∧
         (ecc = false → s.tileCrcOk t = true → s.tileFlow t ≠ r.flow →
           Does (.poolReadReturn n w (c, ecc)) s
             (let u := b.incFld F.POOL_CH_CNT_FLOW_MISM (tileChannel t)
              (u.setRead (u.concealStart { r with inFlight := r.inFlight - 1, noRetry := true, lost := true })).serve)) ∧
         (ecc = true → 2 ≤ r.tries →
           Does (.poolReadReturn n w (c, ecc)) s
             (let v := { r with inFlight := r.inFlight - 1, noRetry := true }
              (((b.suspectAdd t).setRead v).setRead v).serve))))) ∧
    (∀ (n : Nat) (r : PoolRead) (s : State), s.pool.reads.find? (fun r => r.ident == n) = some r →
      Does (.retryBudgetExpiry n) s
        (s.begin.setRead { r with budgetOver := true, noRetry := r.noRetry || r.retryWait, retryWait := false }).serve) ∧
    (∀ (x : Nat) (s : State), s.pool.reads.filter (fun r => r.exec == x && !r.late) = [] →
      Does (.readDeadline x) s s.begin.serve) ∧
    (∀ (x : Nat) (r : PoolRead) (s : State), s.pool.reads = [r] → r.exec = x → r.late = false → r.inFlight = 0 → State.readOutcome r = 0 →
      Does (.readDeadline x) s
        (let t := State.deliverRead s.begin r
         let l := t.pool.reads.filterMap (fun r =>
           if r.exec == x && !r.late then (if r.inFlight = 0 then none
             else some { r with late := true, noRetry := r.noRetry || r.retryWait, retryWait := false, concWait := false }) else some r)
         State.serve { t with pool := { t.pool with reads := l } })) ∧
    (∀ (t : Nat) (s : State), Does (.suspectExpiry t) s
      { s with pool := { s.pool with suspect := s.pool.suspect.filter (fun x => x.tile != t) } }) ∧
    (∀ (ok : Bool) (s : State), s.pool.pprRun = false → Does (.pprRowDone ok) s s) ∧
    (∀ (r : PprRow) (s : State), s.pool.pprRun = true → s.pprNext = some r →
      ∃ t, exec (.pprRowDone true) s = .next t ∧ t.pool.ppr = s.pool.ppr.erase r ∧ t.pool.resBack = s.pool.resBack ++ r.tiles ∧
        t.fld F.POOL_CH_CNT_RESERVE_FREE r.channel =
          State.reserveLeft { s with pool := { s.pool with resBack := s.pool.resBack ++ r.tiles } } r.channel % 2 ^ 16)

/-- Pool windows (R220 to R223, R576, R587). -/
def Obligations.PoolWindowsReadAndWriteTiles : Prop :=
  (∀ (w b n : Nat) (s : State), s.winFree (.read (winMaster w) w b n) →
      (s.masterUp (winMaster w) = false → Does (.poolWindowRead w b n) s s) ∧
      (s.masterUp (winMaster w) = true →
        (s.flag F.POOL_WIN_CFG_EN w = false ∨ s.winSize w ≤ b → 0 < n →
          let x := s.begin.winAccess (winMaster w) w b
          ∃ o, exec (.poolWindowRead w b n) s = .next { (x.2.defaultMark x.1 false).kept with out := o, pending := s.pending } ∧
            (w < 12 → s.flag F.BUS_CFG_HOST_CA = false → Output.busData 4 [0xFFFFFFFF#32] false ∈ o) ∧
            (w < 12 → s.flag F.BUS_CFG_HOST_CA = true → Output.busData 4 [] true ∈ o)) ∧
        (n ≠ 0 → n ≤ s.winRoom w b →
          ∃ o, exec (.poolWindowRead w b n) s =
              .next { (s.begin.winCheck w (b - b % 4096) ((b % 4096 + n + 4095) / 4096)).kept with out := o, pending := s.pending } ∧
            ((s.winTile w (b + n - 1)).isSome = true →
              (let data : Bytes := (List.range n).map (fun k =>
                 ((s.winTile w (b + k)).map (fun t => (s.tileBytes t ((b + k) % 4096) 1).headD 0)).getD 0)
               Output.busData (winMaster w)
                 ((List.range (ceilDiv n 4)).map (fun k => BitVec.ofNat 32 (u32 data (4 * k)))) false ∈ o)) ∧
            ((s.winTile w (b + n - 1)).isSome = false → Output.busData (winMaster w) [] true ∈ o)))) ∧
    (∀ (w b n : Nat) (s : State), ¬ s.winFree (.read (winMaster w) w b n) →
      Does (.poolWindowRead w b n) s
        { s with pool := { s.pool with winWait := s.pool.winWait ++ [.read (winMaster w) w b n] } }) ∧
    (∀ (w b : Nat) (data : Bytes) (s : State), s.winFree (.write (winMaster w) w b data) →
      (s.masterUp (winMaster w) = false → Does (.poolWindowWrite w b data) s s) ∧
      (s.masterUp (winMaster w) = true →
        (s.flag F.POOL_WIN_CFG_EN w = false ∨ s.winSize w ≤ b → data ≠ [] →
          let x := s.begin.winAccess (winMaster w) w b
          ∃ o, exec (.poolWindowWrite w b data) s = .next { (x.2.defaultMark x.1 true).kept with out := o, pending := s.pending }) ∧
        (data ≠ [] → data.length ≤ s.winRoom w b →
          (s.winWritable w = false →
            Does (.poolWindowWrite w b data) s
              ((s.setFlag F.POOL_WIN_CFG_WR_REFUSED true w).incFld F.POOL_WIN_CFG_WR_REFUSED_CNT w)) ∧
          (s.winWritable w = true →
            ∃ o, exec (.poolWindowWrite w b data) s =
                .next { (s.begin.winPuts w b data (data.length / 4096 + 2)).kept with out := o, pending := s.pending } ∧
              ((s.winTile w (b + data.length - 1)).isSome = false → Output.busData (winMaster w) [] true ∈ o)) ∧
          (∀ t, s.winWritable w = true → s.flag F.POOL_WIN_CFG_AUTO_TRAILER w = false →
            b % 4096 + data.length ≤ 4096 → s.winTile w b = some t →
            ∃ u, exec (.poolWindowWrite w b data) s = .next u ∧
              u.pool = { s.pool with mem := ssetMany initByte s.pool.mem (t * 4096 + b % 4096) data })))) ∧
    (∀ (w b : Nat) (data : Bytes) (s : State), ¬ s.winFree (.write (winMaster w) w b data) →
      Does (.poolWindowWrite w b data) s
        { s with pool := { s.pool with winWait := s.pool.winWait ++ [.write (winMaster w) w b data] } }) ∧
    (∀ (w p : Nat) (s : State), s.winFree (.flush w p) →
      (s.flag F.POOL_WIN_CFG_EN w = false ∨ s.flag F.POOL_WIN_CFG_AUTO_TRAILER w = false → Does (.flush w p) s s) ∧
      (s.flag F.POOL_WIN_CFG_EN w = true → s.flag F.POOL_WIN_CFG_AUTO_TRAILER w = true →
        (s.winWritable w = false →
          Does (.flush w p) s ((s.setFlag F.POOL_WIN_CFG_WR_REFUSED true w).incFld F.POOL_WIN_CFG_WR_REFUSED_CNT w)) ∧
        (∀ t, s.winWritable w = true → s.winTile w (p * 4096) = some t →
          ∃ o, exec (.flush w p) s = .next { (s.begin.winTrailer w t).kept with out := o, pending := s.pending }))) ∧
    (∀ (w p : Nat) (s : State), ¬ s.winFree (.flush w p) →
      Does (.flush w p) s { s with pool := { s.pool with winWait := s.pool.winWait ++ [.flush w p] } })

/-- Ingest (R155, R158, R181 to R199). -/
def Obligations.InputFramesAndLossAreTracked : Prop :=
  (∀ (m : Nat) (f : NetFrame) (s : State), s.rst.pUp = false ∨ s.sys.mode = .cold ∨ s.flag F.MAC_CFG_EN m = false ∨
      s.flag F.MAC_LINK_STAT_LINK_UP m = false → Does (.macFrameReceive m f) s s) ∧
    (∀ (m : Nat) (f : NetFrame) (s : State), m < 32 → s.rst.pUp = true → s.sys.mode ≠ .cold → s.flag F.MAC_CFG_EN m = true →
      s.flag F.MAC_LINK_STAT_LINK_UP m = true → f.smd = .whole →
      (((s.macFec m).map (·.2)).getD 0 < f.symErrs → Does (.macFrameReceive m f) s (s.begin.macCount m 18 1))) ∧
    (∀ (m : Nat) (f : NetFrame) (s : State), m < 32 → s.rst.pUp = true → s.sys.mode ≠ .cold → s.flag F.MAC_CFG_EN m = true →
      s.flag F.MAC_LINK_STAT_LINK_UP m = true → f.smd = .whole → f.symErrs ≤ ((s.macFec m).map (·.2)).getD 0 →
      (f.jabber = true → Does (.macFrameReceive m f) s (s.begin.macCount m 17 1)) ∧
      (f.jabber = false → s.fld F.MAC_CFG_MAX_FRAME m < f.len → Does (.macFrameReceive m f) s (s.begin.macCount m 16 1)) ∧
      (f.jabber = false → f.len ≤ s.fld F.MAC_CFG_MAX_FRAME m → f.len < 64 → Does (.macFrameReceive m f) s (s.begin.macCount m 15 1)) ∧
      (f.jabber = false → f.len ≤ s.fld F.MAC_CFG_MAX_FRAME m → 64 ≤ f.len → f.fcsOk = false →
        Does (.macFrameReceive m f) s (s.begin.macCount m 14 1)) ∧
      (f.jabber = false → f.len ≤ s.fld F.MAC_CFG_MAX_FRAME m → 64 ≤ f.len → f.fcsOk = true →
        Does (.macFrameReceive m f) s
          (let t := (s.begin.macCount m 0 f.len).macCount m 1 1
           let t := t.macCount m (if f.dst = 2 ^ 48 - 1 then 4 else if macGroup f.dst then 3 else 2) 1
           (t.macCount m (5 + sizeBin f.len) 1).classify m { f with stamp := s.rxStamp m f.stamp }))) ∧
    (∀ (f ix : Nat) (x : InFlow) (o : OpenFrame) (s : State), s.inFlow f = some x → x.opens.find? (fun o => o.s == ix) = some o →
      s.lad.writesStopped = false →
      (let done := if x.src = 3 then s.begin.rawFrame x o else s.begin.completeFrame f o
       Does (.frameOpenTimeout f ix) s done ∧ (o.mSeen = true → Does (.mergeHoldExpiry f ix) s done))) ∧
    (∀ (f ix : Nat) (s : State), (s.inFlow f).bind (fun x => x.opens.find? (fun o => o.s == ix)) = none →
      Does (.frameOpenTimeout f ix) s s ∧ Does (.mergeHoldExpiry f ix) s s) ∧
    (∀ (f p : Nat) (s : State), p < 2 → s.flowBit f (State.bitCopeUp - p) = true →
      Does (.pathIdleTimeout f p) s ((s.begin.setFlowBit f (State.bitCopeUp - p) false).raise fltLadInput [f, 1 + p])) ∧
    (∀ (f p : Nat) (s : State), 2 ≤ p → Does (.pathIdleTimeout f p) s s) ∧
    (∀ (f : Nat) (s : State), s.inFlow f = none → Does (.inputLossTimeout f) s s) ∧
    (∀ (f : Nat) (x : InFlow) (s : State), s.inFlow f = some x → s.flowBit f State.bitLoss = true → Does (.inputLossTimeout f) s s) ∧
    (∀ (f : Nat) (x : InFlow) (s : State), s.inFlow f = some x → s.flowBit f State.bitLoss = false →
      s.refsOf f = [] →
      ∃ t, exec (.inputLossTimeout f) s = .next t ∧ t.flowBit f State.bitLoss = true ∧ t.flowBit f State.bitLossSeen = true) ∧
    (∀ (k : Option Nat) (p : Nat) (f : SdiFrame) (s : State), s.rst.pUp = false ∨ s.sys.mode = .cold →
      Does (.sdiFrameReceive k p f) s s) ∧
    (∀ (k : Option Nat) (p : Nat) (f : SdiFrame) (s : State), (∀ x, s.sdiFlow k p = some x → s.sdiUp x = false) →
      Does (.sdiFrameReceive k p f) s s) ∧
    (∀ (k : Option Nat) (p : Nat) (x : InFlow) (f : SdiFrame) (s : State), s.rst.pUp = true → s.sys.mode ≠ .cold →
      s.sdiFlow k p = some x → s.sdiUp x = true →
      Does (.sdiFrameReceive k p f) s
        ((s.begin.sdiVideo x.flow { f with missing := f.missing ++ s.tribMissing x }).tribTaken x))

/-- Lanes and Sprue links (R97 to R130, R180). -/
def Obligations.LanesLockFailAndTrain : Prop :=
  (∀ (l c : Nat) (s : State), s.fld F.SLN_LANE_CFG_USE l ≠ 1 ∨ s.flag F.SLN_LANE_CFG_RX_EN l = false →
      Does (.slaneLos l) s s ∧ Does (.slaneRateChange l c) s s ∧ Does (.slaneLock l c) s s) ∧
    (∀ (l c : Nat) (s : State), l < 68 → s.fld F.SLN_LANE_CFG_USE l = 1 → s.flag F.SLN_LANE_CFG_RX_EN l = true → c < 8 →
      (let down (t : State) : State := (t.setFlag F.SLN_LANE_STAT_TRS_LOCK false l).setFld F.SLN_LANE_STAT_DET_RATE 15 l
       let los := down ((s.begin.setFlag F.SLN_LANE_STAT_LOS_SEEN true l).setFlag F.SLN_LANE_STAT_CDR_LOCK false l)
       let losAll := ((slaneIns los l).map InFlow.flow).foldl (fun t f => t.inputLoss f) los
       Does (.slaneLos l) s losAll ∧
       (s.fld F.SLN_LANE_CFG_RX_RATE l ≠ 14 → Does (.slaneRateChange l c) s losAll) ∧
       (s.fld F.SLN_LANE_CFG_RX_RATE l = 14 → Does (.slaneRateChange l c) s
         (let t := down ((s.begin.setFlag F.SLN_LANE_STAT_RATE_CHG true l).setFlag F.SLN_LANE_STAT_CDR_LOCK false l)
          ((slaneIns t l).map InFlow.flow).foldl (fun t f =>
            t.clockChange f (rate1001 (s.fld F.SLN_LANE_STAT_DET_RATE l) == rate1001 c)) t)) ∧
       (s.fld F.SLN_LANE_CFG_RX_RATE l = 14 ∨ s.fld F.SLN_LANE_CFG_RX_RATE l = c → Does (.slaneLock l c) s
         (((s.setFlag F.SLN_LANE_STAT_CDR_LOCK true l).setFlag F.SLN_LANE_STAT_TRS_LOCK true l).setFld F.SLN_LANE_STAT_DET_RATE c l)))) ∧
    (∀ (l : Nat) (s : State), 144 ≤ l ∨ s.flag F.HLN_LANE_CFG_EN l = false → Does (.laneCdrLoss l) s s) ∧
    (∀ (l : Nat) (s : State), l < 144 → s.flag F.HLN_LANE_CFG_EN l = true → s.fld F.HLN_LANE_CFG_USE l ≠ 2 →
      s.fld F.HLN_LANE_CFG_USE l ≠ 3 →
      Does (.laneCdrLoss l) s
        ((((s.setFlag F.HLN_LANE_STAT_CDR_LOCK false l).setFlag F.HLN_LANE_STAT_BLOCK_LOCK false l).setFlag
          F.HLN_LANE_STAT_FAIL_SEEN true l).setFlag F.HLN_LANE_STAT_DESKEWED false l)) ∧
    (∀ (l : Nat) (h v : List (Nat × Nat)) (s : State), l < 144 → s.flag F.HLN_LANE_CFG_EN l = false →
      Does (.marginMeasure l h v) s
        ((s.setFld F.HLN_LANE_STAT_H_MARGIN (min 255 (State.eyeMargin h)) l).setFld F.HLN_LANE_STAT_V_MARGIN
          (min 255 (State.eyeMargin v)) l)) ∧
    (∀ (l : Nat) (h v : List (Nat × Nat)) (s : State), l < 68 →
      Does (.marginMeasure (0x100 + l) h v) s
        { s with lane := { s.lane with
            sMargins := upsert (fun x => x.1 == l) (l, State.eyeMargin h, State.eyeMargin v) s.lane.sMargins } }) ∧
    (∀ (eyes : List (Nat × Nat)) (a b : Nat), (a, b) ∈ eyes → State.eyeMargin eyes ≤ min a b) ∧
    (∀ (l : Nat) (s : State), l < 68 → s.flag F.SLN_LANE_CFG_TX_EN l = true →
      Does (.laneTxTrained true l) s (s.setFlag F.SLN_LANE_STAT_TX_TRAINED true l)) ∧
    (∀ (l : Nat) (s : State), l < 144 → s.flag F.HLN_LANE_CFG_EN l = true →
      Does (.laneTxTrained false l) s (s.setFlag F.HLN_LANE_STAT_TX_TRAINED true l)) ∧
    (∀ (k : Nat) (s : State), s.flag F.SPR_LINK_CFG_REVERT k = false → Does (.laneWtrExpiry k) s s) ∧
    (∀ (k l : Nat) (s : State), s.flag F.SPR_LINK_CFG_REVERT k = true → s.laneAt k (s.fld F.SPR_LINK_STAT_RX_SEL k) = some l →
      (s.laneRec l).clean = true → (s.laneRec l).failed = false →
      Does (.laneWtrExpiry k) s
        (let t := s.begin.selectSpare k 31
         (t.setLink { t.linkRec k with reqLane := 31 }).linkRefresh k)) ∧
    (∀ (l : Nat) (b : Bytes) (s : State), s.lane.eyeRun.contains l = true → Does (.eyeMapDone l b) s
      { s with lane := { s.lane with
          eyeRun := s.lane.eyeRun.filter (· != l), eyeMaps := upsert (fun m => m.1 == l) (l, b) s.lane.eyeMaps } }) ∧
    (∀ (l : Nat) (b : Bytes) (s : State), s.lane.eyeRun.contains l = false → Does (.eyeMapDone l b) s s) ∧
    (∀ (k c : Nat) (h : BitVec 16) (x y : BitVec 120) (b : BitVec 256) (s : State), b = h ++ x ++ y → k < 16 → s.flag F.SPR_LINK_CFG_EN k = true →
      blockType b = 3 ∨ 24 < blockCount b ∨ (blockType b = 1 ∧ blockCount b = 0) →
      Does (.sprueBlockReceive k c h x y) s
        { s with lane := { s.lane with
            badBlocks := sset (fun _ => 0) s.lane.badBlocks k (sget (fun _ => 0) s.lane.badBlocks k + 1) } }) ∧
    (∀ (k c : Nat) (h : BitVec 16) (x y : BitVec 120) (b : BitVec 256) (s : State), b = h ++ x ++ y → k < 16 →
      s.flag F.SPR_LINK_CFG_EN k = true → blockType b ≠ 3 → blockCount b ≤ 24 →
      (blockType b = 1 → blockCount b ≠ 0) →
      (∃ t, exec (.sprueBlockReceive k c h x y) s = .next t ∧ t.lane.contSeq = sins s.lane.contSeq (k * 2048 + c) (blockSeq b) ∧
        t.lane.badBlocks = s.lane.badBlocks) ∧
      (s.tribOf k c = none →
        Does (.sprueBlockReceive k c h x y) s { s with lane := { s.lane with contSeq := sins s.lane.contSeq (k * 2048 + c) (blockSeq b) } }) ∧
      (∀ t, s.tribOf k c = some t → blockType b = 1 → sfind s.lane.contSeq (k * 2048 + c) = none →
        ∃ u, exec (.sprueBlockReceive k c h x y) s = .next u ∧
          (u.tribRx k t).words = (s.tribRx k t).words ++ blockWords b (blockCount b) ∧ (u.tribRx k t).gaps = (s.tribRx k t).gaps)) ∧
    (∀ (l : Nat) (m : Marker) (s : State), s.rst.pUp = false ∨ s.sys.mode = .cold → Does (.linkMarkerReceive l m) s s) ∧
    (∀ (l : Nat) (m : Marker) (s : State), s.rst.pUp = true → s.sys.mode ≠ .cold →
      Does (.linkMarkerReceive l m) s
        (let t := s.begin.markerRx l m
         let k := s.fld F.HLN_LANE_CFG_OWNER l
         if l < 144 ∧ t.flag F.HLN_LANE_CFG_EN l = true ∧ m.crcOk = true ∧ t.aksUp = true ∧ t.fld F.TWN_CFG_LINK = k ∧
           m.linkId = t.fld F.SPR_LINK_CFG_LINK_ID k then t.twinMarker m.stby m.quench m.timeNs m.rtt else t)) ∧
    (∀ (k t : Nat) (g : Int) (s : State), s.lane.rates.find? (fun x => x.link == k && x.trib == t) = none →
      Does (.tribRateGate k t g) s
        { s with lane := { s.lane with
            rates := upsert (fun x => x.link == k && x.trib == t) ⟨k, t, g, 0⟩ s.lane.rates } }) ∧
    (∀ (k t : Nat) (g : Int) (o : TribRate) (s : State), s.lane.rates.find? (fun x => x.link == k && x.trib == t) = some o →
      (o.ppb - g).natAbs ≤ 50000 → Does (.tribRateGate k t g) s
        { s with lane := { s.lane with
            rates := upsert (fun x => x.link == k && x.trib == t) ⟨k, t, g, 0⟩ s.lane.rates } })

/-- Reset sources and reaches (R521, R522, R550). -/
def Obligations.ResetSourcesHoldAndRelease : Prop :=
  (∀ (s : State), s.rst.asserted.contains .powerOn = true → Does .powerGood s ((s.begin.resetCount .powerOn).releaseSrc .powerOn)) ∧
    (∀ (s : State), s.rst.asserted.contains .powerOn = false → Does .powerGood s s) ∧
    (∀ (s : State), Does .powerSag s (s.begin.assertSrc .powerOn)) ∧
    (∀ (s : State), Does (.resetNChange true) s (s.begin.assertSrc .resetN) ∧ Does (.resetNChange false) s (s.begin.releaseSrc .resetN)) ∧
    (∀ (s : State), Does (.perstNChange true) s (s.begin.assertSrc .perst) ∧ Does (.perstNChange false) s (s.begin.releaseSrc .perst)) ∧
    (∀ (x : ResetSrc) (s : State), (x = .chipCmd ∨ x = .optReload ∨ x = .data ∨ x = .watchdog ∨ x = .control ∨ x = .partner) →
      Does (.resetPulseEnd x) s (s.begin.releaseSrc x)) ∧
    (∀ (x : ResetSrc) (s : State), s.rst.asserted.contains x = false → Does (.resetPulseEnd x) s s) ∧
    (∀ (s : State), s.rst.aUp = true → s.sys.mode = .quench ∨ s.sys.mode = .melt → Does .chip s (s.begin.assertSrc .chipCmd)) ∧
    (∀ (s : State), s.rst.aUp = false ∨ (s.sys.mode ≠ .quench ∧ s.sys.mode ≠ .melt) → Does .chip s s) ∧
    (∀ (s : State), s.rst.aUp = true → s.sys.mode = .quench →
      Does .quenchExit s ((s.begin.setFlag F.RST_CAUSE_QUENCH_EXIT true).assertSrc .data)) ∧
    (∀ (s : State), s.rst.aUp = false ∨ s.sys.mode ≠ .quench → Does .quenchExit s s) ∧
    (∀ (s : State), s.chipHeld = true → s.settle.rst.aUp = false ∧ s.settle.rst.cUp = false ∧ s.settle.rst.pUp = false ∧ s.settle.rst.hUp = false) ∧
    (∀ (s : State), s.rst.asserted.contains .data = true → s.settle.rst.pUp = false) ∧
    (∀ (s : State), s.rst.asserted.contains .perst = true → s.settle.rst.hUp = false) ∧
    (∀ (s : State), s.rst.asserted.contains .watchdog = true ∨ s.rst.asserted.contains .control = true → s.settle.rst.cUp = false)

/-- Backup domain (R539) and the option load (R533 to R536). The Chip-reach sequence (R526, R527). -/
def Obligations.StartUpRunsFromBackupReset : Prop :=
  ((∀ (s : State), s.rst.asserted.filter (fun x => x == .resetN || x == .perst) = [] →
      Does .backupSupplyRise s { State.reset with free := s.free, otp := ⟨s.otp.copies, []⟩ }) ∧
    (∀ (s : State), s.chipHeld = true ∨ s.rst.aStep = true → Does .optionLoadDone s s) ∧
    (∀ (s : State), s.chipHeld = false → s.rst.aStep = false →
      ∃ t, exec .optionLoadDone s = .next t ∧ t.rst.aStep = true ∧ t.rst.aUp = true ∧
        t.otp.applied = (match copyChosen s.otp.copies with
          | some c => (s.otp.copies.getD c []).take 512
          | none => factoryOptions) ∧
        t.flag F.OTP_STAT_LOAD_DONE = true ∧ t.flag F.OTP_STAT_FALLBACK = (copyChosen s.otp.copies).isNone ∧
        t.fld F.RST_STAT_STEP = 2)) ∧
    ((∀ (s : State), s.rst.aUp = false ∨ s.fld F.RST_STAT_STEP ≠ 2 → Does .clocksLocked s s) ∧
    (∀ (s : State), s.rst.aUp = true → s.fld F.RST_STAT_STEP = 2 →
      Does .clocksLocked s
        ((State.settle { s with rst := { s.rst with hStep := true, pStep := true } }).setStep 3)) ∧
    (∀ (ok : Bool) (s : State), s.rst.aUp = false ∨ s.fld F.RST_STAT_STEP ≠ 3 → Does (.poolTrainingDone ok) s s) ∧
    (∀ (s : State), s.rst.aUp = true → s.fld F.RST_STAT_STEP = 3 →
      Does (.poolTrainingDone false) s ((s.begin.setPresent 5 true).raise fltPoolTrain [])) ∧
    (∀ (s : State), s.rst.aUp = true → s.fld F.RST_STAT_STEP = 3 → s.rst.waking = false →
      ∃ t, exec (.poolTrainingDone true) s = .next t ∧ t.rst.cStep = true ∧ t.pool.mem = [] ∧ t.fld F.RST_STAT_STEP = 4 ∧
        t.flag F.POOL_STAT_INIT_DONE = true) ∧
    (∀ (a b : Bool) (s : State), s.rst.cUp = false ∨ s.fld F.RST_STAT_STEP ≠ 4 → Does (.firmwareVerified a b) s s) ∧
    (∀ (s : State), s.rst.cUp = true → s.fld F.RST_STAT_STEP = 4 →
      Does (.firmwareVerified false false) s ((s.setFld F.RST_STAT_BOOT 3).setStep 5)) ∧
    (∀ (a b : Bool) (s : State), s.rst.cUp = true → s.fld F.RST_STAT_STEP = 4 →
      let first := b2n (bitOf (optBoot s.otp.applied) 0)
      ((if first = 0 then a else b) = true → Does (.firmwareVerified a b) s
        (let t : State := { s with key := { s.key with bootEpoch := s.sys.epoch } }
         (t.setFld F.RST_STAT_BOOT first).setStep 6)) ∧
      ((if first = 0 then a else b) = false → (if first = 0 then b else a) = true → Does (.firmwareVerified a b) s
        (let t : State := { s.begin with key := { s.key with bootEpoch := s.sys.epoch } }
         ((t.setFld F.RST_STAT_BOOT (1 - first)).setStep 6).raise fltFwImageB []))) ∧
    (∀ (s : State), s.rst.waking = false → s.rst.cUp = false ∨ s.fld F.RST_STAT_STEP ≠ 6 → Does .meltReady s s) ∧
    (∀ (s : State), s.rst.waking = false → s.rst.cUp = true → s.fld F.RST_STAT_STEP = 6 →
      Does .meltReady s
        (let t := s.setStep 7
         { t with
            rst := { s.rst with fwUp := true, restarting := false, waking := false, wdtStart := s.tick }
            sys := { s.sys with meltReady := true }
            twn := { s.twn with croakOutOn := s.sys.mode != .quench } })))

/-- Cold and the wake (R22, R590). -/
def Obligations.ColdAndWake : Prop :=
  (∀ (s : State), s.sys.mode = .cold → Does .go s { s with sys := { s.sys with wakePend := true } }) ∧
    (∀ (s : State), s.sys.mode ≠ .cold → Does .go s s) ∧
    (∀ (order : List Nat) (s : State), s.sys.mode = .cold → s.sys.wakePend = true → s.rst.pUp = false → s.rst.aUp = true →
      s.rst.rstPend = none → s.chipHeld = false → s.running 0 = false → s.twn.promote = none → s.twn.swapAt = none → s.twn.leave = false →
      s.axl.failover = false → s.rst.fwUp = false →
      ∃ t, exec (.castTimerExpiry order) s = .next t ∧ t.sys.mode = .melt ∧ t.sys.lastCause = 0x5 ∧ t.rst.waking = true ∧
        t.sys.wakePend = false ∧ t.fld F.RST_STAT_STEP = 2) ∧
    (∀ (s : State), s.sys.mode ≠ .cold ∨ s.rst.pUp = false → Does .coldEntry s s) ∧
    (∀ (s : State), s.sys.mode = .cold → s.rst.pUp = true → s.sys.targetDramOff = true →
      Does .coldEntry s
        ((((s.begin.setFlag F.SYS_RESUME_VALID false).setFld F.SYS_RESUME_FIRST_TILE 0).setFld F.SYS_RESUME_LEN_TILES 0).powerOff false)) ∧
    (∀ (s : State), (s.powerOff false).rst.pUp = false ∧ (s.powerOff false).rst.cUp = false ∧ (s.powerOff false).rst.hUp = false ∧
      (s.powerOff false).pool.mem = []) ∧
    (∀ (s : State), s.rst.waking = false ∨ s.rst.cUp = false ∨ s.fld F.RST_STAT_STEP ≠ 6 → Does .wakeComplete s s) ∧
    (∀ (s : State), s.rst.waking = true → s.rst.cUp = true → s.fld F.RST_STAT_STEP = 6 → s.rst.resume = none →
      Does .wakeComplete s
        (let t := (((s.setFlag F.SYS_RESUME_VALID false).setFld F.SYS_RESUME_FIRST_TILE 0).setFld F.SYS_RESUME_LEN_TILES 0).setStep 7
         { t with
            rst := { s.rst with fwUp := true, restarting := false, waking := false, wdtStart := s.tick }
            sys := { s.sys with meltReady := true }
            twn := { s.twn with croakOutOn := s.sys.mode != .quench } })) ∧
    (∀ (r : Resume) (s : State), s.rst.waking = true → s.rst.cUp = true → s.fld F.RST_STAT_STEP = 6 → s.rst.resume = some r →
      ∃ t, exec .wakeComplete s = .next t ∧ t.rst.resume = none ∧ t.sys.meltReady = true ∧ t.rst.fwUp = true)

/-- The firmware watchdog (R529 to R531). -/
def Obligations.WatchdogAndFirmware : Prop :=
  (∀ (s : State), s.flag F.RST_WDT_EN = false ∨ s.rst.cUp = false ∨ s.rst.fwUp = false ∨ s.sys.mode = .cold →
      Does .watchdogExpiry s s) ∧
    (∀ (s : State), s.flag F.RST_WDT_EN = true → s.rst.cUp = true → s.rst.fwUp = true → s.sys.mode ≠ .cold →
      (let t := (s.begin.raise fltCtlWdt []).assertSrc .watchdog
       let t : State := { t with rst := { t.rst with wdtLast := some (t.tick + 10000000000) } }
       (s.rst.wdtLast.any (fun n => decide (s.tick ≤ n)) = false → Does .watchdogExpiry s t) ∧
       (s.rst.wdtLast.any (fun n => decide (s.tick ≤ n)) = true → Does .watchdogExpiry s t.ctlFaulty))) ∧
    (∀ (s : State), s.rst.aUp = true → Does .kick s { s with rst := { s.rst with wdtStart := s.tick } }) ∧
    (∀ (s : State), s.rst.aUp = false → Does .kick s s) ∧
    (∀ (s : State), s.rst.cUp = false ∨ s.rst.restarting = false ∨ s.sys.meltReady = false → Does .firmwareReturn s s) ∧
    (∀ (s : State), s.rst.cUp = true → s.rst.restarting = true → s.sys.meltReady = true →
      Does .firmwareReturn s
        (State.release (State.drainTriggers (State.txqRead
          { s.begin with rst := { s.rst with fwUp := true, restarting := false, wdtStart := s.tick } }))))

/-- Fault reactions (R540 to R546, R549). -/
def Obligations.FaultsAreRecordedAndReact : Prop :=
  (∀ (n : Nat) (u : Option (UnitKind × Nat)) (s : State), 47 < n ∨ s.rst.aUp = false → Does (.faultRaise n u) s s) ∧
    (∀ (n : Nat) (s : State), n < 48 → s.rst.aUp = true → n ≠ 9 → n ≠ 3 → n ≠ 5 →
      (let t := ((s.begin.setFltStatus n).incFld F.FLT_CNT_COUNT n).event blkFlt (faultClass n) n []
       let t := t.fltFirst n
       (∀ u, faultClass n = 1 ∨ faultClass n = 2 → Does (.faultRaise n u) s t) ∧
       (∀ u, faultClass n = 4 → Does (.faultRaise n u) s (t.enterQuench n)) ∧
       (∀ k u, faultClass n = 3 → Does (.faultRaise n (some (k, u))) s (t.degradeUnit k u)) ∧
       (faultClass n = 3 → Does (.faultRaise n none) s (if n = 44 then t else t.failoverRequest)))) ∧
    (∀ (u : Option (UnitKind × Nat)) (s : State), s.rst.aUp = true →
      Does (.faultRaise 9 u) s ((s.begin.assertSrc .control).ctlFaulty)) ∧
    (∀ (n : Nat) (u : Option (UnitKind × Nat)) (s : State), n = 3 ∨ n = 5 → s.rst.aUp = true →
      Does (.faultRaise n u) s ((s.begin.setPresent n true).raiseFault n u [])) ∧
    (∀ (s : State), s.rst.aUp = true → s.rst.xtalLost = false →
      Does .xtalLoss s
        (let t : State := { s.begin with rst := { s.rst with xtalLost := true } }
         (t.setFlag F.TIM_STATUS_TICK_BACKUP true).raise fltXtalLoss [])) ∧
    (∀ (s : State), s.rst.aUp = false ∨ s.rst.xtalLost = true → Does .xtalLoss s s) ∧
    (∀ (b : Bool) (s : State), s.rst.aUp = true → Does (.pllUnlock b) s ((s.begin.setPresent 3 b).raise fltPllUnlock [])) ∧
    (∀ (b : Bool) (s : State), s.rst.aUp = false → Does (.pllUnlock b) s s) ∧
    (∀ (k : UnitKind) (u : Nat) (l : List (Nat × Nat)) (s : State), s.axl.running.find? (fun x => x.kind == k && x.unit == u) = none →
      Does (.substComplete k u l) s s) ∧
    (∀ (k : UnitKind) (u : Nat) (l : List (Nat × Nat)) (x : Subst) (s : State),
      s.axl.running.find? (fun x => x.kind == k && x.unit == u) = some x →
      Does (.substComplete k u l) s
        (let t := (s.begin.countMism k x.spare l).setShadow k x.spare false
         let t := match k with
           | .ladle => t.moveLadle u x.spare
           | .shakeout => t.moveShakeout u x.spare
           | .newt => t.moveCore u x.spare
           | .pipe => t.movePipe u x.spare
         let t := ((t.setFld (axlState k) 3 u).setFld (axlRepl k) x.spare u).setFld (axlState k) 0 x.spare
         let t := ((t.incFld (axlCnt k) u).incFld (axlCnt k) x.spare).setSpareBit k x.spare false
         let t : State := { t with axl := { t.axl with running := t.axl.running.erase x } }
         ((t.axlEvent 0x0002 k.num u x.spare).raise fltAxlSubst [k.num, u, x.spare]).axlRefresh k |>.substNext k))

/-- Monitors (R440, R441), VDD_CORE (R597) and the OCXO (R91). -/
def Obligations.SensorsAndSuppliesAreMonitored : Prop :=
  (∀ (i : Nat) (r : Option Int) (s : State), 20 ≤ i → Does (.tempSample i r) s s) ∧
    (∀ (i : Nat) (s : State), i < 20 → s.flag F.MEAS_STAT_SENSOR_FAIL = true → Does (.tempSample i none) s s) ∧
    (∀ (i : Nat) (s : State), i < 20 → s.flag F.MEAS_STAT_SENSOR_FAIL = false →
      Does (.tempSample i none) s ((s.begin.setFlag F.MEAS_STAT_SENSOR_FAIL true).raise fltSensorFail [i])) ∧
    (∀ (i : Nat) (v : Int) (s : State), i < 20 → -32768 ≤ v → v < 32768 →
      ∃ t, exec (.tempSample i (some v)) s = .next t ∧ t.sfld F.MEAS_ENV_TEMP_CUR i = v ∧
        t.sfld F.MEAS_ENV_TEMP_MAX i = max v (s.sfld F.MEAS_ENV_TEMP_MAX i)) ∧
    (∀ (i mv : Nat) (a : Option Nat) (s : State), 9 ≤ i → Does (.railSample i mv a) s s) ∧
    (∀ (i mv : Nat) (a : Option Nat) (s : State), i < 9 → mv < 65536 →
      ∃ t, exec (.railSample i mv a) s = .next t ∧ t.fld F.MEAS_ENV_RAIL_CUR i = mv ∧
        t.fld F.MEAS_ENV_RAIL_MIN i = min mv (s.fld F.MEAS_ENV_RAIL_MIN i)) ∧
    (∀ (up ack : Bool) (s : State), 2 ≤ s.gpio.vddAge.length → Does (.vddCoreSetpointStep up ack) s s) ∧
    (∀ (up ack : Bool) (s : State), s.rst.aStep = true → s.gpio.vddRetry = none → s.gpio.vddAge.length < 2 →
      let mv := if up then s.gpio.vddSet + 5 else s.gpio.vddSet - 5
      (mv < 700 ∨ 800 < mv → Does (.vddCoreSetpointStep up ack) s s) ∧
      (700 ≤ mv → mv ≤ 800 → Hands (.vddCoreSetpointStep up ack) s
        (let age := 0 :: s.gpio.vddAge
         if ack then { s with gpio := { s.gpio with vddSet := mv, vddAge := age } }
         else { s with gpio := { s.gpio with vddRetry := some mv, vddAge := age } })
        [.pin "I2C3.VOUT_COMMAND" (State.voutCode mv)])) ∧
    (∀ (ack : Bool) (s : State), s.gpio.vddRetry = none → Does (.pmbusRetryExpiry ack) s s) ∧
    (∀ (mv : Nat) (s : State), s.gpio.vddRetry = some mv →
      Hands (.pmbusRetryExpiry true) s { s with gpio := { s.gpio with vddRetry := none, vddSet := mv } }
        [.pin "I2C3.VOUT_COMMAND" (State.voutCode mv)] ∧
      Does (.pmbusRetryExpiry false) s
        (State.event { s with gpio := { s.gpio with vddRetry := none } } blkMeas 0 0x0200 [mv, s.gpio.vddSet])) ∧
    (∀ (s : State), s.rst.pUp = true → s.fld F.REF_OSC_OSC ≠ 0 →
      Does .ocxoFail s ((s.setFlag F.REF_OSC_OSC_FAIL true).setFlag F.REF_OSC_OSC_OK false)) ∧
    (∀ (s : State), s.rst.pUp = false ∨ s.fld F.REF_OSC_OSC = 0 → Does .ocxoFail s s)

/-- Keys and tamper (R557, R558, R564, R568), snapshots (R413) and image checks (R486). The signature is a free value. -/
def Obligations.KeysTamperAndJobsComplete : Prop :=
  (∀ (s : State), s.key.ops = [] → Does .keyCommitDone s s) ∧
    (∀ (o : KeyOp) (rest : List KeyOp) (s : State), s.key.ops = o :: rest →
      Does .keyCommitDone s
        (let x := s.keySlot o.slot
         let y : KeySlot := { x with commit := s.sys.epoch }
         let w : KeySlot × Bytes := match o.write with
           | some (bits, key) => (y.put (x.target o.slot) (mkCopy o.slot bits (x.newGen o.slot) key), leBytes 4 (x.newGen o.slot))
           | none => ((y.put (x.target o.slot) (mkCopy o.slot 0 (x.newGen o.slot) [])).put (!(x.target o.slot)) [], [])
         let t : State := { s.begin with key := { s.key with ops := rest } }
         ((t.setKeySlot o.slot w.1).keyStep1).finishReply o.src o.seq 0 w.2 none)) ∧
    (∀ (s : State), s.key.attest = none → Does .attestSigned s s) ∧
    (∀ (st : Bytes) (k q : Nat) (s : State), s.key.attest = some (st, k, q) →
      ∃ sig t, exec .attestSigned s = .next t ∧ t.key.attest = none ∧
        t = after .attestSigned s ∧ sig.length = 96 ∧
        (∃ o, t = { (State.finishReply { (s.begin.freshBytes 96).2 with key := { s.key with attest := none } } k q 0 (st ++ sig) none).kept with
          out := o, pending := s.pending })) ∧
    (∀ (s : State), s.snapDone = none → Does .snapshotCopyDone s s) ∧
    (∀ (x : State × Snapshot) (s : State), s.begin.snapDone = some x →
      Does .snapshotCopyDone s (x.1.finishReply x.2.src x.2.seq 0 [BitVec.ofNat 8 x.2.ident, 0, 0, 0] none)) ∧
    (∀ (k c : Nat) (s : State), s.cmd.staging.find? (fun x => x.slot == k && x.last.isSome) = none → Does (.imageCheckDone (k, c)) s s) ∧
    (∀ (k c src q : Nat) (raw : Bytes) (s : State),
      s.cmd.staging.find? (fun x => x.slot == k && x.last.isSome) = some ⟨k, raw, some (src, q)⟩ →
      (let t : State := { s.begin with cmd := { s.cmd with staging := s.cmd.staging.erase ⟨k, raw, some (src, q)⟩ } }
       let n := imageBytes raw
       (raw.length ≤ n + 3 → (raw.drop n).all (· == 0) = true → imageOk (raw.take n) = true →
         Does (.imageCheckDone (k, c)) s
           (let im : NwtImage := ⟨k, raw.take n, sha384 (raw.take n), s.sys.epoch⟩
            let t : State := { t with nwt := { s.nwt with images := upsert (fun x => x.slot == k) im s.nwt.images } }
            (if c = 0 then t else t.addFld F.BUS_CNT_SRAM_CORR c).finishReply src q 0 (sha384 (raw.take n)) (some s.sys.epoch))) ∧
       (n + 3 < raw.length → Does (.imageCheckDone (k, c)) s
         ((if c = 0 then t else t.addFld F.BUS_CNT_SRAM_CORR c).finishReply src q 0x0108 (rej 0x0108 8).bytes (some s.sys.epoch))))) ∧
    (∀ (i : Nat) (s : State), 3 < i → Does (.tamperOnset i) s s ∧ Does (.tamperInactive i) s s) ∧
    (∀ (i : Nat) (s : State), i ≤ 3 → (s.fld F.KEY_TAMPER_ACTIVE).testBit i = true → Does (.tamperOnset i) s s) ∧
    (∀ (i : Nat) (s : State), i ≤ 3 →
      Does (.tamperInactive i) s (s.setFld F.KEY_TAMPER_ACTIVE (s.fld F.KEY_TAMPER_ACTIVE &&& (15 - 2 ^ i)))) ∧
    (∀ (i : Nat) (s : State), i ≤ 3 → (s.fld F.KEY_TAMPER_ACTIVE).testBit i = false → (s.fld F.KEY_TAMPER_CFG_EN).testBit i = true →
      ∃ t, exec (.tamperOnset i) s = .next t ∧ t.flag F.KEY_TAMPER_LATCH = true ∧ t.sys.unlock = false ∧ t.key.ops = [] ∧
        t.key.slots.all (fun x => copyBlank x.a && copyBlank x.b) = true)

/-- R46: the two reads give one count. -/
def Obligations.TickReadLatchesItsHighWord : Prop :=
  ∀ (m : Nat) (s : State), s.masterUp m = true → s.accessOk { master := m, addr := regBase + 0x500000 } false = true →
    ∃ t, exec (.tickLoRead m) s = .next t ∧ Output.busData m [BitVec.ofNat 32 s.tick] false ∈ t.out ∧
      ∀ u : State, u.latches = t.latches → u.masterUp m = true → u.accessOk { master := m, addr := regBase + 0x500004 } false = true →
        Hands (.latchedLowRead { master := m, addr := regBase + 0x500004 }) u u
          [.busData m [BitVec.ofNat 32 (s.tick / 4294967296)] false]

/-- R49: one read of TIM_NOW_NS gives one time. -/
def Obligations.NowReadLatchesTheTime : Prop :=
  ∀ (m : Nat) (s : State), s.masterUp m = true → s.accessOk { master := m, addr := regBase + 0x500010 } false = true →
    ∃ t, exec (.nowNsRead m) s = .next t ∧
      Output.busData m [BitVec.ofNat 32 (s.ptpNow / 65536 % 1000000000)] false ∈ t.out ∧
      t.latchOf m 0x500014 = BitVec.ofNat 32 (s.ptpNow / secUnits % 4294967296) ∧
      t.latchOf m 0x500018 = BitVec.ofNat 32 (s.ptpNow / secUnits / 4294967296 % 65536) ∧
      t.latchOf m 0x50001C = BitVec.ofNat 32 (s.ptpNow % 65536) ∧
      t.latchOf m 0x500020 = BitVec.ofNat 32 (s.tick % 4294967296) ∧
      t.latchOf m 0x500024 = BitVec.ofNat 32 (s.tick / 4294967296)

/-- Register reads (R575 to R585). -/
def Obligations.RegisterReadsAnswerTheirMaster : Prop :=
  (∀ (m : Nat) (s : State), s.masterUp m = true → s.accessOk { master := m, addr := regBase + 0x10 } false = true →
      Hands (.epochLoRead m) s (s.setLatch m 0x14 (BitVec.ofNat 32 (s.sys.epoch / 4294967296)))
        [.busData m [BitVec.ofNat 32 s.sys.epoch] false]) ∧
    (∀ (m d : Nat) (s : State), d < 4 → s.masterUp m = true →
      s.accessOk { master := m, addr := regBase + (0x680010 + 0x100 * d) } false = true →
      Hands (.rasPosRead m d) s
        (((s.setLatch m (0x680014 + 0x100 * d) (s.rasPosWord d 1)).setLatch m (0x680018 + 0x100 * d) (s.rasPosWord d 2)).setLatch m
          (0x68001C + 0x100 * d) (s.rasPosWord d 3))
        [.busData m [BitVec.ofNat 32 (if s.running d = true ∧ (s.rasOf d).line = 0 then 65536 else
          (s.rasOf d).line * 65536 + (s.rasOf d).slot)] false]) ∧
    (∀ (a : BusAccess) (off : Nat) (s : State), s.masterUp a.master = true → s.accessOk a false = true → targetOf a.addr = .reg off →
      isNwtWin off = false → ¬ (0x501000 ≤ off ∧ off < 0x501400) →
      (let e := ((latchesOf off).foldl (fun t h => t.setLatch a.master h (s.liveWord h)) s).restartPeak off
       let w := if isLatched off then s.latchOf a.master off else s.liveWord off
       Hands (.latchedLowRead a) s e [.busData a.master [w] false] ∧ Hands (.peakRead a) s e [.busData a.master [w] false])) ∧
    (∀ (i : Nat) (s : State), i < 20 → (s.restartPeak (0x1320000 + 4 * i)).fld F.MEAS_ENV_TEMP_MAX i = 0x8000) ∧
    (∀ (a : BusAccess) (s : State), s.masterUp a.master = true → s.accessOk a false = false →
      Does (.latchedLowRead a) s (s.begin.defaultHit a false) ∧ Does (.peakRead a) s (s.begin.defaultHit a false)) ∧
    (∀ (a : BusAccess) (s : State), s.masterUp a.master = false → Does (.latchedLowRead a) s s ∧ Does (.peakRead a) s s) ∧
    (∀ (a : BusAccess) (w : Bool) (s : State), s.masterUp a.master = true → s.rst.cUp = true →
      Does (.busAccessTimeout a w) s
        ((((((s.begin.setFlag F.BUS_STAT_TIMEOUT true).incFld F.BUS_CNT_TIMEOUTS).busLog a w 1).raise fltBusTimeout [a.master])).badAnswer a w)) ∧
    (∀ (a : BusAccess) (w : Bool) (s : State), s.masterUp a.master = false ∨ s.rst.cUp = false → Does (.busAccessTimeout a w) s s)

/-- Access codes and ownership (R6, R7, R9, R575, R589). -/
def Obligations.RegisterWritesFollowTheirAccessCode : Prop :=
  (∀ (a : BusAccess) (off v : Nat) (r : RegRow) (s : State), s.masterUp a.master = true → s.accessOk a true = true →
      targetOf a.addr = .reg off → isNwtWin off = false → s.begin.ownWrite off v = none → regRow off = some r →
      off ≠ 0x1200000 ∨ tdmClock v ≤ 49152 →
      (s.ownedNow a.master off = false ∨ r.fields.any (fun f => f.acc == .rw || f.acc == .rws) = false →
        Does (.registerWrite a v) s
          (let t := r.fields.foldl (State.writeField a off v (s.ownedNow a.master off)) s.begin
           s.begin.afterWrite t off v)) ∧
      (s.ownedNow a.master off = true → r.fields.all (fun f => f.acc == .rw || f.acc == .rws || f.acc == .ro) = true →
        r.fields.any (fun f => f.acc == .rw || f.acc == .rws) = true →
        Does (.registerWrite a v) s
          (if s.rst.cUp ∧ (a.master = 4 ∨ a.master = 5) then
            ((s.setFlag F.BUS_STAT_WR_OWNED true).incFld F.BUS_CNT_WR_OWNED).busLog a true 2 else s))) ∧
    (∀ (a : BusAccess) (v : Nat) (s : State), s.masterUp a.master = true → s.accessOk a true = true →
      targetOf a.addr = .reg 0x1200000 → 49152 < tdmClock v → s.ownedNow a.master 0x1200000 = false → s.rst.cUp = true →
      ∃ t, exec (.registerWrite a v) s = .next t ∧ t.reg 0x1200000 = s.reg 0x1200000 ∧ t.flag F.BUS_STAT_BAD_VALUE = true) ∧
    (∀ (a : BusAccess) (off v : Nat) (f : FieldRow) (s : State),
      (let x := (v >>> f.lo) % 2 ^ (f.hi + 1 - f.lo)
       let w := s.reg off
       let old := getBits w f.hi f.lo
       (f.acc = .ro ∨ f.acc = .wo → State.writeField a off v false s f = s) ∧
       (f.acc = .w1c → State.writeField a off v false s f = s.setReg off (putBits w f.hi f.lo (old - (old &&& x)))) ∧
       (f.acc = .w1s → State.writeField a off v false s f = s.setReg off (putBits w f.hi f.lo (old ||| x))) ∧
       (f.acc = .rw ∨ f.acc = .rws → f.legal = [] ∨ inRanges f.legal x = true →
         State.writeField a off v false s f = s.setReg off (putBits w f.hi f.lo x)) ∧
       (f.acc = .rw ∨ f.acc = .rws → f.legal ≠ [] → inRanges f.legal x = false → s.rst.cUp = true →
         State.writeField a off v false s f = (s.setFlag F.BUS_STAT_BAD_VALUE true).busLog a true 3))) ∧
    (∀ (a : BusAccess) (v : Nat) (s : State), s.masterUp a.master = true → s.accessOk a true = false →
      Does (.registerWrite a v) s (s.begin.defaultHit a true)) ∧
    (∀ (a : BusAccess) (v : Nat) (s : State), s.masterUp a.master = false → Does (.registerWrite a v) s s)

/-- Register rows of their own (R241, R414, R591). -/
def Obligations.WindowWritesReachTheirStore : Prop :=
  (∀ (m off v : Nat) (s : State), off < 0x400000 → s.masterUp m = true → s.accessOk { master := m, addr := patBase + off } true = true →
      off % 0x80000 < 0x50000 → s.directOk m = true →
      (off / 0x80000 % 2 = s.activeNo (off / 0x100000) →
        Does (.patternWindowWrite m off v) s (s.setFlag F.PAT_STAT_WR_ACTIVE true)) ∧
      (off / 0x80000 % 2 ≠ s.activeNo (off / 0x100000) → off % 0x80000 < 0x40000 →
        Does (.patternWindowWrite m off v) s
          (let d := off / 0x100000
           let b := off / 0x80000 % 2
           let k := s.bank d b
           let i := off % 0x80000 / 16
           let sh := 8 * (off % 16 / 4 * 4)
           let e := BitVec.ofNat 128 ((k.ent i).toNat - (((k.ent i).toNat >>> sh) % 4294967296) <<< sh + (v % 4294967296) <<< sh)
           s.begin.setBank d b { k with tmpl := sset emptyEntry k.tmpl i e, dirtyT := State.ascending (k.dirtyT ++ [i]) }))) ∧
    (∀ (m off v : Nat) (s : State), off < 0x10000 → s.masterUp m = true →
      s.accessOk { master := m, addr := regBase + 0x1190000 + off } true = true →
      (s.directOk m = false ∨ (s.core (s.fld F.NWT_MEM_WIN_SEL_CORE)).tasks ≠ [] →
        Does (.nwtMemWindowWrite m off v) s (s.setFlag F.NWT_MEM_WIN_SEL_WR_REFUSED true)) ∧
      (s.directOk m = true → s.fld F.NWT_MEM_WIN_SEL_CORE < 68 → (s.core (s.fld F.NWT_MEM_WIN_SEL_CORE)).tasks = [] →
        s.flag F.NWT_MEM_WIN_SEL_SPACE = false →
        Does (.nwtMemWindowWrite m off v) s
          (let c := s.fld F.NWT_MEM_WIN_SEL_CORE
           let x := s.core c
           s.begin.setCore c { x with dmem := ssetMany zeroByte x.dmem (s.nwtWinAddr off / 4 * 4) (leBytes 4 (v % 4294967296)) }))) ∧
    (∀ (m v : Nat) (s : State), s.masterUp m = false →
      Does (.vec m v) s s ∧ Does (.patternWindowWrite m 0 v) s s ∧ Does (.nwtMemWindowWrite m 0 v) s s) ∧
    (∀ (m v : Nat) (s : State), m < 4 ∨ s.sys.mode = .melt → s.masterUp m = true →
      s.accessOk { master := m, addr := regBase + 0x48 } true = true →
      ∃ t, exec (.vec m v) s = .next t ∧ t.fld F.SYS_INT_VEC_VEC = v % 2 ^ 11)

/-- Register rows with an effect of their own (R157, R329, R421, R542, R543, R567, R609). -/
def Obligations.CommandRegistersAct : Prop :=
  (∀ (mask : Nat) (s : State), s.rst.aUp = true → (∀ n, mask.testBit n = true → s.condPresent n = false) →
      ∃ t, exec (.status mask) s = .next t ∧
        t.fld F.FLT_STATUS_LO_STATUS = s.fld F.FLT_STATUS_LO_STATUS - (s.fld F.FLT_STATUS_LO_STATUS &&& (mask % 4294967296)) ∧
        t.fld F.FLT_STATUS_HI_STATUS = s.fld F.FLT_STATUS_HI_STATUS - (s.fld F.FLT_STATUS_HI_STATUS &&& (mask / 4294967296 % 65536)) ∧
        s.onlyWords t [F.FLT_STATUS_LO_STATUS.addr 0 0, F.FLT_STATUS_HI_STATUS.addr 0 0]) ∧
    (∀ (mask : Nat) (s : State), s.rst.aUp = false → Does (.status mask) s s ∧ Does .valid s s) ∧
    (∀ (s : State), s.rst.aUp = true →
      ∃ t, exec .valid s = .next t ∧ t.flag F.FLT_FIRST_VALID = false ∧ t.flag F.FLT_FIRST_OVERFLOW = false ∧
        t.fld F.FLT_FIRST_SOURCE = 0 ∧ t.fld F.FLT_FIRST_CLASS = 0) ∧
    (∀ (s : State), s.sys.mode = .melt → s.tamperNow = false →
      Does .latch s ((s.setFlag F.KEY_TAMPER_LATCH false).setFld F.KEY_TAMPER_SEEN 0)) ∧
    (∀ (s : State), s.sys.mode ≠ .melt ∨ s.tamperNow = true → Does .latch s s) ∧
    (∀ (m i : Nat) (s : State), m < 32 → i < 64 →
      ∃ t, exec (.snap m) s = .next t ∧ t.mac = s.mac ∧
        t.fld F.MAC_STAT_CNT_CNT_LO m i = sget (fun _ => 0) s.mac.live (m * 64 + i) % 4294967296 ∧
        t.fld F.MAC_STAT_CNT_CNT_HI m i = sget (fun _ => 0) s.mac.live (m * 64 + i) / 4294967296 % 65536) ∧
    (∀ (m : Nat) (s : State), Does (.clr m) s { s with mac := { s.mac with live := s.mac.live.filter (fun e => e.1 / 64 != m) } }) ∧
    (∀ (p : Nat) (s : State), p < 16 → s.sys.mode ≠ .cold → s.sys.mode ≠ .quench →
      Does (.restart p) s (s.setAptPort p { s.aptPort p with restart := true })) ∧
    (∀ (p : Nat) (s : State), 16 ≤ p ∨ s.sys.mode = .cold ∨ s.sys.mode = .quench → Does (.restart p) s s) ∧
    (∀ (p : Nat) (s : State), p < 64 → s.rst.aUp = true →
      Does (.quarantine p) s (s.setFlag F.GPIO_PIN_STAT_QUARANTINE false p)) ∧
    (∀ (p : Nat) (s : State), 64 ≤ p ∨ s.rst.aUp = false → Does (.quarantine p) s s) ∧
    (∀ (m n v : Nat) (s : State), n < 256 → s.masterUp m = true → s.accessOk { master := m, addr := regBase + 0xFE0000 + 8 * n } true = true →
      (let diff := (v % 4294967296 + 4294967296 - s.fld F.CHM_FENCE_VALUE n) % 4294967296
       (s.sys.mode = .cold ∨ s.sys.mode = .quench → Does (.chmFenceWrite m n v) s s) ∧
       (s.sys.mode ≠ .cold → s.sys.mode ≠ .quench → 1 ≤ diff → diff < 2147483648 →
         Does (.chmFenceWrite m n v) s (s.setFld F.CHM_FENCE_VALUE (v % 4294967296) n)) ∧
       (s.sys.mode ≠ .cold → s.sys.mode ≠ .quench → diff = 0 ∨ 2147483648 ≤ diff →
         Does (.chmFenceWrite m n v) s (s.incFld F.CHM_FENCE_STALE_CNT n)))) ∧
    (∀ (m n v : Nat) (s : State), 256 ≤ n → Does (.chmFenceWrite m n v) s s)

/-- The servo (R50, R51, R53, R611). Every update is counted in the measurements of its port. -/
def Obligations.ServoStepsSlewsOrRefuses : Prop :=
  (∀ (o f d : Int) (s : State), s.slavePort = none → Does (.servoUpdate o f d) s s) ∧
    (∀ (o f d : Int) (s : State), s.tim.ptpEn = false ∨ s.rst.pUp = false ∨ s.sys.mode = .quench ∨ s.sys.mode = .cold →
      Does (.servoUpdate o f d) s s) ∧
    (∀ (o f d : Int) (p : PtpPort) (s : State), s.slavePort = some p → s.lastReqLost p = true → Does (.servoUpdate o f d) s s) ∧
    (∀ (o f d : Int) (p : PtpPort) (s : State), s.slavePort = some p → s.lastReqLost p = false → s.tim.ptpEn = true → s.rst.pUp = true →
      s.sys.mode ≠ .quench → s.sys.mode ≠ .cold →
      (let m := ((s.begin.measBoth 6 p.port 4 5 o).measMean 6 p.port 20 21 o).measMean 6 p.port 22 23 d
       let m : State := { m with tim := { m.tim with recent := m.recentUpdates ++ [(m.tick, o, rateClamp f)] } }
       let slewed := ((m.ptpSet (rateClamp f) (if o < 0 then -slewMax else slewMax) (m.tick + slewTicks o.natAbs) 0).ptpAbsorb (o - m.slewLeft)).setFlag
         F.TIM_STATUS_STEP_PEND false
       let refused := (((((((m.ptpSet (rateClamp f) 0 0 0).ptpAbsorb (-m.slewLeft))).setPair F.TIM_STEP_PEND_LO_PEND F.TIM_STEP_PEND_HI_PEND (toField 64 o)).setFlag
         F.TIM_STATUS_STEP_PEND true).setFlag F.TIM_STATUS_STEP_REFUSED true).raise fltTimStep [toField 64 o])
       let first := (m.ptpSet (rateClamp f) 0 0 o).setFlag F.TIM_STATUS_TIME_VALID true
       (s.tim.corrected = false →
         Does (.servoUpdate o f d) s
           (State.stepEffects { first with tim := { first.tim with corrected := true } } (o - m.slewLeft))) ∧
       (s.tim.corrected = true → o.natAbs ≤ m.fld F.TIM_STEP_THR_THR →
         (slewed.fld F.TIM_STATUS_SERVO = servoLocked → slewed.flag F.TIM_STATUS_STEP_PEND = false → o.natAbs ≤ 1000 →
           Does (.servoUpdate o f d) s slewed) ∧
         (slewed.fld F.TIM_STATUS_SERVO = servoAcq → slewed.servoMayLock = true →
           Does (.servoUpdate o f d) s (slewed.setServo servoLocked)) ∧
         (slewed.fld F.TIM_STATUS_SERVO = servoAcq → slewed.servoMayLock = false → Does (.servoUpdate o f d) s slewed)) ∧
       (s.tim.corrected = true → m.fld F.TIM_STEP_THR_THR < o.natAbs →
         (refused.fld F.TIM_STATUS_SERVO = servoAcq → refused.servoMayLock = false → Does (.servoUpdate o f d) s refused) ∧
         (refused.fld F.TIM_STATUS_SERVO = servoLocked → refused.flag F.TIM_STATUS_STEP_PEND = true →
           Does (.servoUpdate o f d) s
             (State.setServo { refused with tim := { refused.tim with recent := [] } } servoAcq)))))

/-- PTP messages (R55, R58, R59, R60) and the selection of a master (R611). -/
def Obligations.PtpPortsSendAndLoseTheirMaster : Prop :=
  (∀ (n : Nat) (s : State), s.tim.ports.find? (fun p => p.port == n && p.en && p.st == .master) = none →
      Does (.ptpSyncTx n) s s ∧ Does (.ptpAnnounceTx n) s s) ∧
    (∀ (n : Nat) (s : State), s.tim.ptpEn = false ∨ s.sys.mode = .quench ∨ s.sys.mode = .cold →
      Does (.ptpSyncTx n) s s ∧ Does (.ptpAnnounceTx n) s s ∧ Does (.ptpDelayReqTx n) s s) ∧
    (∀ (n : Nat) (s : State), s.sys.mode = .hold → Does (.ptpSyncTx n) s s ∧ Does (.ptpAnnounceTx n) s s) ∧
    (∀ (n : Nat) (p : PtpPort) (s : State), s.tim.ports.find? (fun p => p.port == n && p.en && p.st == .master) = some p →
      s.tim.ptpEn = true → s.sys.mode ≠ .quench → s.sys.mode ≠ .cold → s.sys.mode ≠ .hold →
      Does (.ptpSyncTx n) s
        ((s.begin.ptpOffer p 0x40 (some (p.seqSync % 0x4000))
            (s.ptpHeader p 0 44 p.seqSync true p.logSync ++ List.replicate 10 0)).modPort n
          (fun p => { p with seqSync := (p.seqSync + 1) % 65536 })) ∧
      (let body := s.ptpHeader p 11 64 p.seqAnnounce false p.logAnnounce ++ List.replicate 10 0 ++ be 2 37 ++ [0] ++
         be 1 s.announced.priority1 ++ be 1 s.announced.clockClass ++ be 1 s.announced.accuracy ++ be 2 s.announced.variance ++
         be 1 s.announced.priority2 ++ be 8 s.announced.identity ++ be 2 s.announced.steps ++ [0xA0]
       let t := (s.begin.ptpOffer p 0x42 none body).modPort n (fun p => { p with seqAnnounce := (p.seqAnnounce + 1) % 65536 })
       (t.tim.profile ≠ 0 ∨ t.metaFmt = none → Does (.ptpAnnounceTx n) s t) ∧
       (∀ g, t.tim.profile = 0 → t.metaFmt = some g →
         Does (.ptpAnnounceTx n) s (t.ptpOffer p 0x45 none (be 4 g.num ++ be 4 g.den))))) ∧
    (∀ (n : Nat) (s : State), s.tim.ports.find? (fun p => p.port == n && p.en && p.st == .slave) = none → Does (.ptpDelayReqTx n) s s) ∧
    (∀ (n : Nat) (p : PtpPort) (s : State), s.tim.ports.find? (fun p => p.port == n && p.en && p.st == .slave) = some p →
      s.tim.ptpEn = true → s.sys.mode ≠ .quench → s.sys.mode ≠ .cold →
      Does (.ptpDelayReqTx n) s
        ((s.begin.ptpOffer p 0x43 (some (0x4000 + p.seqDelay % 0x4000))
            (s.ptpHeader p 1 44 p.seqDelay false p.logDelayReq ++ List.replicate 10 0)
            (if p.hybrid = true ∧ p.peerIp ≠ 0 then ethDst p.peerIp else 0x01005E000181)).modPort n
          (fun p => { p with seqDelay := (p.seqDelay + 1) % 65536 }))) ∧
    (∀ (n : Nat) (s : State), s.tim.ports.any (fun p => p.port == n && p.en && p.st != .master) = false ∨ s.sys.mode = .quench ∨
      s.sys.mode = .cold →
      Does (.announceReceiptTimeout n) s s) ∧
    (∀ (n : Nat) (s : State), s.tim.ports.any (fun p => p.port == n && p.en && p.st != .master) = true →
      s.sys.mode ≠ .quench → s.sys.mode ≠ .cold →
      Does (.announceReceiptTimeout n) s
        (State.bmca { s.begin with tim := { s.tim with
          ports := s.tim.ports.map (fun p => if p.port == n then { p with foreign := none } else p) } } (some n)))

/-- Frame MACs (R136 to R142, R150), stamps (R60, R61) and egress packets (R306). -/
def Obligations.MacLinksAndTransmitQueues : Prop :=
  (∀ (m : Nat) (s : State), 32 ≤ m ∨ s.flag F.MAC_CFG_EN m = false → Does (.macLinkUp m) s s) ∧
    (∀ (m : Nat) (s : State), m < 32 → s.flag F.MAC_CFG_EN m = true →
      s.flag F.MAC_CFG_PREEMPT_EN m = false ∨ s.flag F.MAC_CFG_VERIFY_DIS m = true →
      (let t := s.begin.setFlag F.MAC_LINK_STAT_LINK_UP true m
       let t : State := { t with mac := { t.mac with verify := sdel t.mac.verify m } }
       Does (.macLinkUp m) s
         ((t.setFld F.MAC_LINK_STAT_VERIFY 0 m).setFlag F.MAC_LINK_STAT_MERGE_ACTIVE (s.flag F.MAC_CFG_PREEMPT_EN m) m))) ∧
    (∀ (m : Nat) (s : State), m < 32 → s.flag F.MAC_CFG_EN m = true → s.flag F.MAC_CFG_PREEMPT_EN m = true →
      s.flag F.MAC_CFG_VERIFY_DIS m = false →
      (let t := s.begin.setFlag F.MAC_LINK_STAT_LINK_UP true m
       let t : State := { t with mac := { t.mac with verify := sdel t.mac.verify m } }
       Does (.macLinkUp m) s
         (((t.setFld F.MAC_LINK_STAT_VERIFY 1 m).setFlag F.MAC_LINK_STAT_MERGE_ACTIVE false m).sendVerify m))) ∧
    (∀ (m : Nat) (s : State), s.fld F.MAC_LINK_STAT_VERIFY m ≠ 1 → Does (.macVerifyTimer m) s s) ∧
    (∀ (m : Nat) (s : State), s.fld F.MAC_LINK_STAT_VERIFY m = 1 →
      (sget (fun _ => 0) s.mac.verify m < 3 → Does (.macVerifyTimer m) s (s.begin.sendVerify m)) ∧
      (3 ≤ sget (fun _ => 0) s.mac.verify m → Does (.macVerifyTimer m) s (s.setFld F.MAC_LINK_STAT_VERIFY 3 m))) ∧
    (∀ (m : Nat) (s : State), 32 ≤ m ∨ s.flag F.MAC_LINK_STAT_LINK_UP m = false → Does (.macLinkDown m) s s) ∧
    (∀ (m : Nat) (s : State), m < 32 → s.flag F.MAC_LINK_STAT_LINK_UP m = true →
      (let t := (((s.begin.setFlag F.MAC_LINK_STAT_LINK_UP false m).setFlag F.MAC_LINK_STAT_LINK_DOWN_SEEN true m).setFlag
         F.MAC_LINK_STAT_MERGE_ACTIVE false m).setFld F.MAC_LINK_STAT_VERIFY 0 m
       let t : State := { t with mac := { t.mac with
         held := t.mac.held.filter (fun f => f.mac != m), queue := t.mac.queue.filter (fun f => f.mac != m) } }
       Does (.macLinkDown m) s (if t.macCarries m then t.raise fltMacLinkDown [m] else t))) ∧
    (∀ (m : Nat) (s : State), 32 ≤ m ∨ s.rst.pUp = false ∨ s.flag F.MAC_CFG_EN m = false ∨
      s.flag F.MAC_LINK_STAT_LINK_UP m = false → Does (.macFrameTransmit m) s s) ∧
    (∀ (m : Nat) (s : State), m < 32 → s.rst.pUp = true → s.flag F.MAC_CFG_EN m = true → s.flag F.MAC_LINK_STAT_LINK_UP m = true →
      (let t := s.begin.lateDrop m
       (t.nextFrame m = none → Does (.macFrameTransmit m) s t) ∧
       (∀ f, t.nextFrame m = some f →
         (t.maySend f = true → f.done = 0 → Does (.macFrameTransmit m) s ((t.startFrame f).txStamp f)) ∧
         (t.maySend f = true → f.done ≠ 0 → Does (.macFrameTransmit m) s (t.startFrame f)) ∧
         (t.maySend f = false →
           Does (.macFrameTransmit m) s (if f.kind = 1 then (t.unqueue f).macCount m 48 1 else t.unqueue f))))) ∧
    (∀ (f : Nat) (s : State), s.rst.pUp = false ∨ s.sys.mode = .cold ∨ s.sys.mode = .quench → Does (.packetSendTime f) s s) ∧
    (∀ (f : Nat) (s : State), s.rst.pUp = true → s.sys.mode ≠ .cold → s.sys.mode ≠ .quench →
      Does (.packetSendTime f) s (if (s.vout f).isSome then s.begin.videoPacket f else s.begin.ancPacket f)) ∧
    (∀ (m g : Nat) (s : State), s.mac.igmpDue.contains (m, g) = true → s.igmpReady m = true →
      Does (.igmpReportSend m g) s
        (State.igmpState { s.begin with mac := { s.mac with igmpDue := s.mac.igmpDue.filter (· != (m, g)) } } m g)) ∧
    (∀ (m g : Nat) (s : State), s.mac.igmpDue.contains (m, g) = false ∨ s.igmpReady m = false → Does (.igmpReportSend m g) s s) ∧
    (∀ (k m : Nat) (s : State), m < 32 → s.masterUp k = true →
      s.accessOk { master := k, addr := regBase + 0x501000 + 0x20 * m } false = true →
      (s.tim.txq.find? (fun x => x.mac == m) = none → Hands (.txqRead k m) s s [.busData k [0] false]) ∧
      (∀ x, s.tim.txq.find? (fun x => x.mac == m) = some x →
        ∃ t, exec (.txqRead k m) s = .next t ∧ t.tim.txq = s.tim.txq.erase x ∧
          Output.busData k [BitVec.ofNat 32 (2147483648 + x.ident % 65536)] false ∈ t.out ∧
          t.latchOf k (0x501004 + 0x20 * m) = BitVec.ofNat 32 (x.ns % 1000000000)))

/-- R62, over the frame that MAC_FRAME_TRANSMIT sends next. -/
def Obligations.TxqOverflowDropsTheStamp : Prop :=
  ∀ (m k : Nat) (f : TxFrame) (s : State), m < 32 → s.rst.pUp = true → s.flag F.MAC_CFG_EN m = true →
      s.flag F.MAC_LINK_STAT_LINK_UP m = true → (s.begin.lateDrop m).nextFrame m = some f → f.mac = m →
      (s.begin.lateDrop m).maySend f = true → f.done = 0 → f.stamp = some k → 64 ≤ (s.txqOf m).length →
      ∃ t, exec (.macFrameTransmit m) s = .next t ∧ t.tim.txq = s.tim.txq ∧
        t.fld F.TIM_TXQ_OVF_OVF = s.fld F.TIM_TXQ_OVF_OVF ||| 2 ^ m ∧
        t.fld F.TIM_TXQ_DROP_CNT m = min (2 ^ (F.TIM_TXQ_DROP_CNT.hi + 1 - F.TIM_TXQ_DROP_CNT.lo) - 1) (s.fld F.TIM_TXQ_DROP_CNT m + 1) ∧
        t.intLines.testBit 5 = true ∧
        (f.order ≠ 4 ∨ s.flag F.MAC_LINK_STAT_MERGE_ACTIVE m = false → Output.frame m f.kind f.body ∈ t.out)

/-- R156, over the one operation that counts. -/
def Obligations.CounterHalfFullIsSignalled : Prop :=
  ∀ (m i n : Nat) (s : State), m < 32 → i < 64 →
      (let old := sget (fun _ => 0) s.mac.live (m * 64 + i)
       let v := (old + n) % 2 ^ 48
       let f := if i < 32 then F.MAC_STAT_HALF_LO_HALF else F.MAC_STAT_HALF_HI_HALF
       (old.testBit 47 = false → v.testBit 47 = true →
         (s.macCount m i n).fld f m = s.fld f m ||| 2 ^ (i % 32) ∧ (s.macCount m i n).intLines.testBit 10 = true ∧
         s.onlyWords (s.macCount m i n) [f.addr m 0]) ∧
       (old.testBit 47 = true ∨ v.testBit 47 = false → (s.macCount m i n).regs = s.regs))

/-- Reference inputs and DPLLs (R74 to R76, R82, R85, R88, R89). -/
def Obligations.ReferencesQualifyAndDplls : Prop :=
  (∀ (i d : Nat) (f : Int) (s : State), s.rst.pUp = false → Does (.refFreqGate i f) s s ∧ Does (.refInputLoss i) s s ∧
      Does (.refQualified i) s s ∧ Does (.refWtrExpiry d i) s s ∧ Does (.dpllAbsorbDone d) s s ∧ Does (.dpllLocked d) s s ∧
      Does (.dpllLockLost d) s s ∧ Does (.refPhaseOutlier i) s s) ∧
    (∀ (i : Nat) (f : Int) (s : State), s.flag F.REF_IN_CFG_EN i = false ∨ 9 ≤ i → Does (.refFreqGate i f) s s) ∧
    (∀ (f : Int) (s : State), s.rst.pUp = true → s.flag F.REF_IN_CFG_EN 3 = true → -32768 ≤ f → f < 32768 →
      ∃ t, exec (.refFreqGate 3 f) s = .next t ∧ t.sfld F.REF_IN_STAT_FREQ 3 = f ∧
        t.flag F.REF_IN_STAT_PRESENT 3 = s.flag F.REF_IN_STAT_PRESENT 3 ∧
        t.flag F.REF_IN_STAT_IN_WIN 3 = s.flag F.REF_IN_STAT_IN_WIN 3 ∧
        t.flag F.REF_IN_STAT_QUALIFIED 3 = s.flag F.REF_IN_STAT_QUALIFIED 3) ∧
    (∀ (i : Nat) (f : Int) (s : State), s.rst.pUp = true → s.flag F.REF_IN_CFG_EN i = true → i ≠ 3 → i < 9 → -32768 ≤ f → f < 32768 →
      (f.natAbs ≤ s.fld F.REF_IN_CFG_WIN i * 100 →
        ∃ t, exec (.refFreqGate i f) s = .next t ∧ t.flag F.REF_IN_STAT_PRESENT i = true ∧ t.sfld F.REF_IN_STAT_FREQ i = f ∧
          t.flag F.REF_IN_STAT_IN_WIN i = true ∧ t.flag F.REF_IN_STAT_QUALIFIED i = s.flag F.REF_IN_STAT_QUALIFIED i) ∧
      (s.fld F.REF_IN_CFG_WIN i * 100 < f.natAbs → 1 ≤ s.ref.outGates.getD i 0 →
        ∃ t, exec (.refFreqGate i f) s = .next t ∧ t.flag F.REF_IN_STAT_IN_WIN i = false ∧
          t.flag F.REF_IN_STAT_QUALIFIED i = false)) ∧
    (∀ (i : Nat) (s : State), s.rst.pUp = true → i < 9 → s.flag F.REF_IN_CFG_EN i = true →
      ∃ t, exec (.refInputLoss i) s = .next t ∧ t.flag F.REF_IN_STAT_PRESENT i = false ∧ t.flag F.REF_IN_STAT_LOS_SEEN i = true ∧
        t.flag F.REF_IN_STAT_QUALIFIED i = false) ∧
    (∀ (i : Nat) (s : State), s.rst.pUp = true → i < 9 → s.flag F.REF_IN_CFG_EN i = true → s.flag F.REF_IN_STAT_PRESENT i = true →
      s.flag F.REF_IN_STAT_IN_WIN i = true →
      ∃ t, exec (.refQualified i) s = .next t ∧ t.flag F.REF_IN_STAT_QUALIFIED i = true) ∧
    (∀ (i : Nat) (s : State), s.flag F.REF_IN_CFG_EN i = false ∨ s.flag F.REF_IN_STAT_PRESENT i = false ∨
      s.flag F.REF_IN_STAT_IN_WIN i = false → Does (.refQualified i) s s) ∧
    (∀ (d i : Nat) (s : State), s.flag F.REF_DPLL_CFG_REVERTIVE d = false ∨ s.flag F.REF_DPLL_CFG_FORCE_EN d = true ∨
      s.candidate d i = false ∨ s.fld F.REF_DPLL_STAT_STATE d = dpllOff ∨ s.fld F.REF_DPLL_STAT_CUR_IN d = i →
      Does (.refWtrExpiry d i) s s) ∧
    (∀ (d i : Nat) (s : State), s.rst.pUp = true → d < 4 → i < 9 → s.flag F.REF_DPLL_CFG_REVERTIVE d = true →
      s.flag F.REF_DPLL_CFG_FORCE_EN d = false → s.candidate d i = true → s.fld F.REF_DPLL_STAT_STATE d ≠ dpllOff →
      s.fld F.REF_DPLL_STAT_CUR_IN d ≠ i →
      s.fld F.REF_DPLL_STAT_CUR_IN d = noInput ∨ s.rankOf d i < s.rankOf d (s.fld F.REF_DPLL_STAT_CUR_IN d) →
      Does (.refWtrExpiry d i) s
        (if s.fld F.REF_DPLL_STAT_STATE d = dpllAbs then s.begin.setDpll d { s.dpllOf d with wtrMet := (s.dpllOf d).wtrMet ++ [i] }
         else s.begin.followInput d i)) ∧
    (∀ (d : Nat) (s : State), s.fld F.REF_DPLL_STAT_STATE d ≠ dpllAbs → s.flag F.REF_RAS_STAT_ALIGNED d = true →
      Does (.dpllAbsorbDone d) s s) ∧
    (∀ (d : Nat) (s : State), s.rst.pUp = true → d < 4 → s.fld F.REF_DPLL_STAT_STATE d = dpllAbs → s.running d = false →
      (s.dpllOf d).wtrMet = [] →
      Does (.dpllAbsorbDone d) s
        ((((s.begin.setFld F.REF_DPLL_STAT_ABS_REM 0 d).setFld F.REF_DPLL_STAT_STATE dpllLocked d).setFlag F.REF_HIST_ABS_DONE true
          d).review d)) ∧
    (∀ (d : Nat) (s : State), s.rst.pUp = true → d < 4 →
      Does (.dpllLocked d) s (if s.fld F.REF_DPLL_STAT_STATE d = dpllAcq then s.setFld F.REF_DPLL_STAT_STATE dpllLocked d else s) ∧
      Does (.dpllLockLost d) s (if s.fld F.REF_DPLL_STAT_STATE d = dpllLocked then
        (s.setFld F.REF_DPLL_STAT_STATE dpllAcq d).setFlag F.REF_HIST_LOCK_LOST true d else s)) ∧
    (∀ (i : Nat) (s : State), s.flag F.REF_IN_CFG_EN i = false → Does (.refPhaseOutlier i) s s) ∧
    (∀ (i : Nat) (s : State), s.rst.pUp = true → i < 9 → s.flag F.REF_IN_CFG_EN i = true →
      ∃ t, exec (.refPhaseOutlier i) s = .next t ∧
        t.fld F.REF_IN_STAT_OUTLIER i = (s.incFld F.REF_IN_STAT_OUTLIER i).fld F.REF_IN_STAT_OUTLIER i ∧
        ∀ d, d < 4 → s.fld F.REF_DPLL_STAT_CUR_IN d = i → t.flag F.REF_HIST_OUTLIER d = true)

/-- R91: a selected OCXO that fails. -/
def Obligations.OcxoFailureChangesNoMode : Prop :=
  ∀ s : State, s.rst.pUp = true → s.fld F.REF_OSC_OSC ≠ 0 →
      ∃ t, exec .ocxoFail s = .next t ∧ t.flag F.REF_OSC_OSC_FAIL = true ∧ t.sys.mode = s.sys.mode ∧ t.tim = s.tim ∧ t.ref = s.ref ∧
        t.meas = s.meas ∧ t.tick = s.tick ∧ s.onlyWords t [F.REF_OSC_OSC_FAIL.addr 0 0]

/-- The audio plane (R359, R365, R380, R384). The order inside a boundary is a model choice (log entry 96, DESIGN CHOICE). -/
def Obligations.AudioBlocksStreamsAndMeters : Prop :=
  (∀ (s : State), s.sys.mode = .cold ∨ s.sys.mode = .quench ∨ s.rst.pUp = false → Does .blockBoundary s s) ∧
    (∀ (s : State), s.sys.mode ≠ .cold → s.sys.mode ≠ .quench → s.rst.pUp = true →
      (let stepped := s.tim.stepped.isSome
       let n := if stepped then s.gridNow else max s.gridNow (s.aud.block + 1)
       let a := (List.range 68).foldl State.coreEnd (s.begin.setFlag F.AUD_STAT_TIME_WAIT (!s.flag F.TIM_STATUS_TIME_VALID), [])
       let b := a.1.deliverAll (a.1.lineReturns n)
       let c := b.1.realign n
       let c : State := { c with aud := { c.aud with
         intl := a.2.filter (fun (k : ChanBlock) => decide (0x8000 ≤ k.ref)) ++ b.2, block := n, delays := c.aud.delays.map (State.lineTrim n) } }
       let c := if stepped then c else c.runXp n
       let c := ((((c.lineSend b.1.aud.block).embedCollect b.1.aud.block).meterBlock b.1.aud.block).sendStreams n).readInputs n
       let c : State := { c with aud := { c.aud with read := c.aud.read ++ a.2.filter (fun (k : ChanBlock) => decide (k.ref < 0x8000)) } }
       let c := c.snapCapture.newtInstall n
       let c := (List.range 68).foldl (fun (t : State) k => t.coreTable k) c
       Does .blockBoundary s ((List.range 68).foldl (fun (t : State) k => t.coreStart k) c))) ∧
    (∀ (n : Nat) (s : State), s.astream n = none → Does (.audioStreamLoss n) s s) ∧
    (∀ (n : Nat) (x : AStream) (s : State), s.astream n = some x → x.isIn = false ∨ x.loss = true → Does (.audioStreamLoss n) s s) ∧
    (∀ (n : Nat) (x : AStream) (s : State), s.astream n = some x → x.isIn = true → x.loss = false →
      Does (.audioStreamLoss n) s ((s.begin.setAstream { x with loss := true }).raise fltAudStreamLoss [n])) ∧
    (∀ (s : State), s.aud.meters.filter (fun m => decide (0 < m.n)) = [] → Does .meterWindowEnd s s) ∧
    (∀ (m : MeterAcc) (s : State), s.aud.meters.filter (fun m => decide (0 < m.n)) = [m] →
      Does .meterWindowEnd s (s.begin.meterPublish m))

/-- Audio ports (R417 to R429). -/
def Obligations.AudioPortsFollowTheirFrames : Prop :=
  (∀ (s : State), Does (.tdmFrameSync []) s s) ∧
    (∀ (f : TdmPort) (s : State), 16 ≤ f.port ∨ s.fld F.APT_PORT_STAT_FORMAT f.port ≠ 2 ∨ s.sys.mode = .quench ∨ s.sys.mode = .cold →
      Does (.tdmFrameSync [f]) s s) ∧
    (∀ (f : TdmPort) (s : State), f.port < 16 → s.fld F.APT_PORT_STAT_FORMAT f.port = 2 → s.sys.mode ≠ .quench → s.sys.mode ≠ .cold →
      (let p := f.port
       let t := (((s.begin.setAptPort p { s.aptPort p with waitIn := false, waitOut := false }).setFlag F.APT_PORT_STAT_LOCK true
         p).portRestart p).portMasks p true true
       (t.flag F.APT_PORT_CFG_IN_EN p = false → t.flag F.APT_PORT_CFG_OUT_EN p = false → Does (.tdmFrameSync [f]) s t) ∧
       (let r := t.portNext (t.portMul p) (t.aptPort p).inNext
        let en := maskSlots false (t.fld F.APT_TDM_CFG_SLOTS + 1) (t.fld F.APT_MASK_ACTIVE_IN_MASK p)
        let u := (t.setAptPort p { t.aptPort p with inNext := some (r.1 + 1) }).portFrameIn p r.1 (t.portMul p)
          (en.map (fun i => (slotSample (tdmWidth (t.fld F.APT_TDM_CFG_WIDTH)) (f.words.getD i 0), f.lost.contains i)))
        t.flag F.APT_PORT_CFG_IN_EN p = true → r.2 = false → u.flag F.APT_PORT_CFG_OUT_EN p = false →
          Does (.tdmFrameSync [f]) s u))) ∧
    (∀ (p : Nat) (rx : AesRx) (s : State), s.isAes p = false ∨ s.flag F.APT_PORT_STAT_BLOCK_LOCK p = true →
      Does (.aes3ZPreambleReceive p rx) s s) ∧
    (∀ (p : Nat) (rx : AesRx) (s : State), s.isAes p = true → s.flag F.APT_PORT_STAT_BLOCK_LOCK p = false →
      Does (.aes3ZPreambleReceive p rx) s
        ((((((s.begin.setAptPort p { s.aptPort p with waitIn := false }).setFlag F.APT_PORT_STAT_LOCK true p).setFlag
          F.APT_PORT_STAT_BLOCK_LOCK true p).portRestart p).portMasks p true false).aesFrames p rx)) ∧
    (∀ (p : Nat) (b : AesBlock) (rx : AesRx) (s : State), s.isAes p = false ∨ s.flag F.APT_PORT_STAT_BLOCK_LOCK p = false →
      Does (.aes3BlockEnd p b rx) s s ∧ Does (.aes3BlockSyncLoss p rx) s s) ∧
    (∀ (p : Nat) (b : AesBlock) (rx : AesRx) (s : State), s.isAes p = true → s.flag F.APT_PORT_STAT_BLOCK_LOCK p = true →
      (let t := (s.begin.csRx p 0 b.csA).csRx p 1 b.csB
       let t := t.setAptPort p { t.aptPort p with userRx := [(0, b.userA), (1, b.userB)] }
       Does (.aes3BlockEnd p b rx) s (((t.portRestart p).portMasks p true false).aesFrames p rx)) ∧
      Does (.aes3BlockSyncLoss p rx) s
        (((s.begin.incFld F.APT_PORT_CNT_BLOCK_ERR p).setFlag F.APT_PORT_STAT_BLOCK_LOCK false p).aesFrames p rx)) ∧
    (∀ (p : Nat) (l : List Nat) (s : State), s.isAes p = false ∨ s.flag F.APT_PORT_CFG_OUT_EN p = false →
      Does (.aes3TxBlockStart p l) s s) ∧
    (∀ (p : Nat) (l : List Nat) (s : State), s.isAes p = true → s.flag F.APT_PORT_CFG_OUT_EN p = true → (s.aptPort p).waitOut = true →
      Does (.aes3TxBlockStart p l) s
        (let t := (s.aptPort p).csPend.foldl (fun (t : State) c => t.csStore F.APT_CS_TX_BYTES_W0 p c.1 c.2) s.begin
         let t := t.setAptPort p { t.aptPort p with csPend := [], waitOut := false }
         let t := (List.range 2).foldl (fun (t : State) k =>
           let b := t.csLoad F.APT_CS_TX_BYTES_W0 p k
           t.csStore F.APT_CS_TX_BYTES_W0 p k (b.take 23 ++ [BitVec.ofNat 8 (crcc b)])) t
         (t.portRestart p).portMasks p false true))

/-- The measurement engine (R433, R436, R446, R447) and GPIO (R608, R609). -/
def Obligations.IntervalsDatagramsAndGpio : Prop :=
  (∀ (s : State), s.sys.mode = .cold ∨ s.rst.pUp = false → Does .reportIntervalEnd s s) ∧
    (∀ (s : State), s.sys.mode ≠ .cold → s.rst.pUp = true →
      ∃ t, exec .reportIntervalEnd s = .next t ∧ t.meas.stats = [] ∧ t.meas.deleted = [] ∧ t.meas.cfgPend = [] ∧
        t.meas.k = t.mediaNs / (100000000 * max 1 (t.fld F.MEAS_CFG_RPT_INT))) ∧
    (∀ (d : Nat) (s : State), 4 ≤ d ∨ s.measSends d = false ∨ s.nextDgram d = none → Does (.measDatagramSend d) s s) ∧
    (∀ (d : Nat) (alarm : Bool) (b : Bytes) (s : State), d < 4 → s.measSends d = true → s.nextDgram d = some (alarm, b) →
      (let p := s.fld F.MEAS_STREAM_CFG_PORT d
       let seq := s.fld F.MEAS_STREAM_CFG_SEQ d
       let ip := s.fld F.MEAS_STREAM_CFG_DST_IP d
       let t : State := { s.begin with meas := { s.meas with
         alarmQ := if alarm then State.popDgram d s.meas.alarmQ else s.meas.alarmQ,
         queues := if alarm then s.meas.queues else State.popDgram d s.meas.queues } }
       let body := be 4 ip ++ be 2 (s.fld F.MEAS_STREAM_CFG_SRC_PORT d) ++ be 2 (s.fld F.MEAS_STREAM_CFG_DST_PORT d) ++
         b.take 4 ++ leBytes 4 seq ++ b.drop 8
       (32 ≤ p → Hands (.measDatagramSend d) s (t.setFld F.MEAS_STREAM_CFG_SEQ ((seq + 1) % 4294967296) d) [.frame p 0x30 body]) ∧
       (p < 32 → s.flag F.MAC_LINK_STAT_LINK_UP p = false → Does (.measDatagramSend d) s (t.dgramDrop d)) ∧
       (p < 32 → s.flag F.MAC_LINK_STAT_LINK_UP p = true →
         Does (.measDatagramSend d) s ((t.setFld F.MEAS_STREAM_CFG_SEQ ((seq + 1) % 4294967296) d).offer
           ⟨p, 3, 0x30, 0, 0, none, b.length + 46, ethDst ip, body, 0⟩ false)))) ∧
    (∀ (p : Nat) (l : Bool) (s : State), 64 ≤ p ∨ s.rst.aUp = false ∨ s.flag F.GPIO_PIN_STAT_IN p = l → Does (.gpioEvent p l) s s) ∧
    (∀ (p : Nat) (l : Bool) (s : State), p < 64 → s.rst.aUp = true → s.flag F.GPIO_PIN_STAT_IN p ≠ l →
      (let q := s.begin.setFlag F.GPIO_PIN_STAT_IN l p
       (q.flag F.GPIO_PIN_STAT_QUARANTINE p = true → Does (.gpioEvent p l) s q) ∧
       (q.flag F.GPIO_PIN_STAT_QUARANTINE p = false →
         (let t := q.incFld F.GPIO_PIN_STAT_EVT_CNT p
          let n := sget (fun _ => 0) s.gpio.window p + 1
          let t : State := { t with gpio := { t.gpio with window := sset (fun _ => 0) t.gpio.window p n } }
          (t.fld F.GPIO_PIN_LIM_EVT_LIMIT p < n → Does (.gpioEvent p l) s (t.setFlag F.GPIO_PIN_STAT_QUARANTINE true p)) ∧
          (n ≤ t.fld F.GPIO_PIN_LIM_EVT_LIMIT p → s.sys.mode = .cold → t.wakeMask p = true →
            Does (.gpioEvent p l) s { t with sys := { t.sys with wakePend := true } }) ∧
          (n ≤ t.fld F.GPIO_PIN_LIM_EVT_LIMIT p → s.sys.mode = .cold → t.wakeMask p = false → Does (.gpioEvent p l) s t) ∧
          (n ≤ t.fld F.GPIO_PIN_LIM_EVT_LIMIT p → s.sys.mode ≠ .cold → Does (.gpioEvent p l) s (t.trigger p l)))))) ∧
    (∀ (s : State), Does .gpioWindowEnd s { s with gpio := { s.gpio with window := [] } })

/-- Control instructions (R399, R401, R404, R405, R408). -/
def Obligations.NewtControlFlow : Prop :=
  (∀ (c : Nat) (i : NwtIns) (s : State), (s.core c).run = none → ∀ row, NewtRow c i row → Does row s s) ∧
    (∀ (c : Nat) (i : NwtIns) (s : State) (x : NwtCore) (r : NwtRun) (t : NwtTask), s.RunsAt c x r t →
      (let b := r.bank
       let img := s.image t.image
       let k := bitsOf i.imm.toNat 12 0
       let m := r.moved b [] 1
       Goes i.corr (.nop c i) s c x t m ∧ Goes i.corr (.br c i) s c x t { m with branch := some k } ∧
       (16 ≤ i.sa.toNat →
         (let v := b.scalar i.sa 0
          Goes i.corr (.brz c i) s c x t { m with branch := if v = 0 then some k else none } ∧
          Goes i.corr (.brnz c i) s c x t { m with branch := if v = 0 then none else some k } ∧
          Goes i.corr (.brn c i) s c x t { m with branch := if v.toInt < 0 then some k else none })) ∧
       Goes i.corr (.call c i) s c x t { r.moved b [.scalar 15 (BitVec.ofNat 32 (r.pc + 2))] 1 with branch := some k } ∧
       ((b.sc.getD 15 0).toNat < imageLen img → Goes i.corr (.ret c i) s c x t { m with branch := some (b.sc.getD 15 0).toNat }) ∧
       (imageLen img ≤ (b.sc.getD 15 0).toNat → Traps i.corr (.ret c i) s c x r trapProgBounds) ∧
       Goes i.corr (.swi c i) s c x t (if irqLevel img 2 = 0 then m else { m with irqs := r.irqs ++ [(2, irqLevel img 2)] }) ∧
       (r.ret = [] → Traps i.corr (.reti c i) s c x r trapBadReti) ∧
       (∀ lvl pc rest, r.ret = (lvl, pc) :: rest →
         (imageLen img ≤ pc → Traps i.corr (.reti c i) s c x r trapProgBounds) ∧
         (pc < imageLen img →
           Goes i.corr (.reti c i) s c x t { r with level := lvl, pc := pc, ret := rest, branch := none, cycles := r.cycles + 2 })) ∧
       Does (.tend c i) s (State.endTask (State.corrected { s.begin.setCore c x with free := s.free + 16 } c i.corr) c m) ∧
       (i.alt = false → Goes i.corr (.tmr c i) s c x t { m with timer := some i.imm.toNat }) ∧
       (i.alt = true → 16 ≤ i.sa.toNat → Goes i.corr (.tmr c i) s c x t { m with timer := some (b.scalar i.sa 0).toNat })))

/-- Block repeats (R402, R403), for an index that is not a delay slot. -/
def Obligations.NewtBlockRepeats : Prop :=
  (∀ (c : Nat) (i : NwtIns) (s : State) (x : NwtCore) (r : NwtRun) (t : NwtTask), s.RunsAt c x r t → r.branch = none →
      i.alt = false ∨ 16 ≤ i.sa.toNat →
      (let b := r.bank
       let n := if i.alt then (b.scalar i.sa 0).toNat % 65536 else bitsOf i.imm.toNat 31 16
       let e := bitsOf i.imm.toNat 12 0
       let m := r.moved b [] 1
       let at_ (l : List (Nat × Nat × Nat)) (pc : Nat) : NwtRun := { m with banks := r.banks.set r.level { b with loops := l }, pc := pc }
       (n = 0 → Goes i.corr (.rep c i) s c x t (at_ b.loops (e + 1))) ∧
       (n ≠ 0 → b.loops.length < 4 → Goes i.corr (.rep c i) s c x t (at_ ((r.pc + 1, e, n) :: b.loops) (r.pc + 1))) ∧
       (n ≠ 0 → 4 ≤ b.loops.length → Traps i.corr (.rep c i) s c x r trapRepOvf) ∧
       (∀ a z k rest, b.loops = (a, z, k) :: rest → Goes i.corr (.break c i) s c x t (at_ rest (z + 1))) ∧
       (b.loops = [] → Goes i.corr (.break c i) s c x t m))) ∧
    (∀ (a z k pc : Nat) (rest : List (Nat × Nat × Nat)),
      (pc ≠ z → loopNext ((a, z, k) :: rest) pc = (pc + 1, (a, z, k) :: rest)) ∧
      (pc = z → 1 < k → loopNext ((a, z, k) :: rest) pc = (a, (a, z, k - 1) :: rest)) ∧
      (pc = z → k ≤ 1 → loopNext ((a, z, k) :: rest) pc = loopNext rest pc) ∧ loopNext [] pc = (pc + 1, []))

/-- Memory instructions (R395, R396, R399). -/
def Obligations.NewtMemoryRows : Prop :=
  ∀ (c : Nat) (i : NwtIns) (s : State) (x : NwtCore) (r : NwtRun) (t : NwtTask), s.RunsAt c x r t →
      (let b := r.bank
       let p := i.sa.toNat % 8
       let a := (b.p.getD p 0).toNat
       let d : Int := if i.alt then (b.m.getD (i.sb.toNat % 8) 0).toInt else i.imm.toInt
       let bp := b.bump p d
       let v := memWord x.dmem a
       let load (row : Instr) (n : Nat) (lanes : List (BitVec 32)) : Prop :=
         (∀ code, t.access false a n = some code → Traps i.corr row s c x r code) ∧
         (t.access false a n = none →
           (let l := bp.landing i.dst (lanes.map (fun w => (w, false))) v
            Goes i.corr row s c x t (r.moved l.1 l.2 1)))
       let store (row : Instr) (l : List (BitVec 32)) : Prop :=
         (∀ code, t.access true a l.length = some code → Traps i.corr row s c x r code) ∧
         (t.access true a l.length = none → Goes i.corr row s c x t (r.moved bp [.mem a (wordBytes l)] 1))
       load (.sld c i) 1 (List.replicate 8 v) ∧ load (.vldb c i) 1 (List.replicate 8 v) ∧ load (.vld c i) 8 (memWords x.dmem a 8) ∧
       (16 ≤ i.dst.toNat → store (.sst c i) [b.scalar i.dst 0]) ∧ store (.vst c i) (b.lanes i.dst) ∧
       (let ads := (List.range 8).map (fun k =>
          (BitVec.ofInt 18 ((a : Int) + (k : Nat) * (b.m.getD (i.sb.toNat % 8) 0).toInt)).toNat)
        (∀ code, ads.findSome? (fun q => t.access false q 1) = some code → Traps i.corr (.vlds c i) s c x r code) ∧
        (ads.findSome? (fun q => t.access false q 1) = none →
          (let l := b.landing i.dst (ads.map (fun q => (memWord x.dmem q, false))) v
           Goes i.corr (.vlds c i) s c x t (r.moved l.1 l.2 ((bankLoad ads + 1) / 2))))) ∧
       (∀ code, t.access true a 24 = some code → Traps i.corr (.ast c i) s c x r code) ∧
       (t.access true a 24 = none → Goes i.corr (.ast c i) s c x t
         (r.moved b [.mem a ((b.accOf i.ak.toNat).flatMap (fun q => leBytes 12 (q.signExtend 96).toNat))] 1)) ∧
       (∀ code, t.access false a 24 = some code → Traps i.corr (.ald c i) s c x r code) ∧
       (t.access false a 24 = none → Goes i.corr (.ald c i) s c x t
         (r.moved b [.acc i.ak.toNat ((List.range 8).map (fun k =>
           BitVec.ofNat 80 (u64 (sgetMany zeroByte x.dmem (a + 12 * k) 10) 0 +
             18446744073709551616 * u16 (sgetMany zeroByte x.dmem (a + 12 * k) 10) 8))) false] 1)))

/-- Register instructions (R392, R395, R399). A V register read as a scalar has no stated value; the statement leaves such forms out of the destinations that would take it; there the value is free (log entry 68). -/
def Obligations.NewtRegisterRows : Prop :=
  ∀ (c : Nat) (i : NwtIns) (s : State) (x : NwtCore) (r : NwtRun) (t : NwtTask), s.RunsAt c x r t →
      (let b := r.bank
       let va := b.lanes i.sa
       let vb := b.lanes i.sb
       let sa := b.scalar i.sa 0
       let sb := b.scalar i.sb 0
       let puts (row : Instr) (lanes : List (BitVec 32 × Bool)) (v : BitVec 32) : Prop :=
         let l := b.landing i.dst lanes v
         Goes i.corr row s c x t (r.moved l.1 l.2 1)
       let plain (l : List (BitVec 32)) : List (BitVec 32 × Bool) := l.map (fun v => (v, false))
       puts (.movi c i) (plain (List.replicate 8 i.imm)) i.imm ∧
       Goes i.corr (.padd c i) s c x t
         (r.moved (({ b with p := b.p.set (i.dst.toNat % 8) (b.p.getD (i.sa.toNat % 8) 0) } : NwtBank).bump (i.dst.toNat % 8) i.imm.toInt)
           [] 1) ∧
       Goes i.corr (.cmplt c i) s c x t
         (r.moved b [.flags (some (List.zipWith (fun a b => decide (a.toInt < b.toInt)) va vb)) none] 1) ∧
       (i.dst.toNat < 16 → puts (.vsel c i)
         (plain (List.zipWith (fun (f : Bool) (p : BitVec 32 × BitVec 32) => if f then p.1 else p.2) b.cmp (List.zip va vb))) 0) ∧
       (i.dst.toNat < 16 ∨ 16 ≤ i.sa.toNat →
         puts (.mov c i) (plain va) sa ∧
         puts (.shl c i) (va.map (fun a => satQ31 (a.toInt * 2 ^ min i.imm.toNat 32))) (sa <<< min i.imm.toNat 32) ∧
         puts (.shr c i) (plain (va.map (fun a => a.sshiftRight (min i.imm.toNat 32)))) (sa.sshiftRight (min i.imm.toNat 32)) ∧
         puts (.abs c i) (va.map (fun a => satQ31 (a.toInt.natAbs : Int))) (if sa.getLsbD 31 then 0 - sa else sa) ∧
         (i.dst.toNat < 16 ∨ 16 ≤ i.sb.toNat →
           puts (.add c i) (List.zipWith (fun a b => satQ31 (a.toInt + b.toInt)) va vb) (sa + sb) ∧
           puts (.sub c i) (List.zipWith (fun a b => satQ31 (a.toInt - b.toInt)) va vb) (sa - sb) ∧
           puts (.and c i) (plain (List.zipWith (· &&& ·) va vb)) (sa &&& sb) ∧
           puts (.or c i) (plain (List.zipWith (· ||| ·) va vb)) (sa ||| sb) ∧
           puts (.xor c i) (plain (List.zipWith (· ^^^ ·) va vb)) (sa ^^^ sb) ∧
           puts (.min c i) (plain (List.zipWith (fun a b => if b.toInt < a.toInt then b else a) va vb))
             (if sb.toInt < sa.toInt then sb else sa) ∧
           puts (.max c i) (plain (List.zipWith (fun a b => if a.toInt < b.toInt then b else a) va vb))
             (if sa.toInt < sb.toInt then sb else sa))))

/-- R391, with the rows that accumulate. -/
def Obligations.NewtProductsAreExact : Prop :=
  (∀ (c : Nat) (i : NwtIns) (s : State) (x : NwtCore) (r : NwtRun) (t : NwtTask), s.RunsAt c x r t →
      (let k := i.ak.toNat
       let old := r.forwarded k
       let pr := List.zipWith mulQ31 (r.bank.lanes i.sa) (r.bank.lanes i.sb)
       Goes i.corr (.vmul c i) s c x t (r.moved r.bank [.acc k (List.zipWith (fun _ p => p) old pr) true] 1) ∧
       Goes i.corr (.vmac c i) s c x t (r.moved r.bank [.acc k (List.zipWith (· + ·) old pr) true] 1) ∧
       Goes i.corr (.vmsb c i) s c x t (r.moved r.bank [.acc k (List.zipWith (· - ·) old pr) true] 1) ∧
       (-32 ≤ i.imm.toInt → i.imm.toInt ≤ 32 →
         (let l := (r.bank.accOf k).map (fun a => ashfLane a i.imm.toInt)
          Goes i.corr (.ashf c i) s c x t (r.moved r.bank [.acc k (l.map (·.1)) false, .flags none (some (l.map (·.2)))] 1))))) ∧
    (∀ a b : BitVec 32, (mulQ31 a b).toInt = a.toInt * b.toInt) ∧
    (∀ (o : BitVec 80) (a b : BitVec 32), (o + mulQ31 a b).toInt = (o.toInt + a.toInt * b.toInt).bmod (2 ^ 80) ∧
      (o - mulQ31 a b).toInt = (o.toInt - a.toInt * b.toInt).bmod (2 ^ 80)) ∧
    (∀ (a : BitVec 80) (n : Nat), (ashfLane a n).1.toInt = max (-(2 ^ 79)) (min (2 ^ 79 - 1) (a.toInt * 2 ^ n)) ∧
      ((ashfLane a n).2 = true ↔ a.toInt * 2 ^ n < -(2 ^ 79) ∨ 2 ^ 79 - 1 < a.toInt * 2 ^ n))

/-- R400, and the other accumulator rows (R392, R393, R399). -/
def Obligations.NewtFilterTap : Prop :=
  ∀ (c : Nat) (i : NwtIns) (s : State) (x : NwtCore) (r : NwtRun) (t : NwtTask), s.RunsAt c x r t →
      (let b := r.bank
       let k := i.ak.toNat
       let pa := i.sa.toNat % 8
       let pb := i.sb.toNat % 8
       let a := (b.p.getD pa 0).toNat
       let q := (b.p.getD pb 0).toNat
       let w := memWord x.dmem q
       let l := memWords x.dmem a 8
       let puts (row : Instr) (lanes : List (BitVec 32 × Bool)) (v : BitVec 32) : Prop :=
         let l := b.landing i.dst lanes v
         Goes i.corr row s c x t (r.moved l.1 l.2 1)
       (t.access false a 8 = none → t.access false q 1 = none → t.access true (a + 32) 8 = none →
         Goes i.corr (.ftap c i) s c x t (r.moved ((b.bump pa (-32)).bump pb 4)
           [.acc k (List.zipWith (fun o v => o + mulQ31 v w) (r.forwarded k) l) true, .mem (a + 32) (wordBytes l)] 1)) ∧
       (∀ code, ((t.access false a 8).orElse fun _ => t.access false q 1).orElse (fun _ => t.access true (a + 32) 8) = some code →
         Traps i.corr (.ftap c i) s c x r code) ∧
       (t.access false q 1 = none → Goes i.corr (.vmacm c i) s c x t (r.moved (b.bump pb 4)
         [.acc k (List.zipWith (fun o v => o + mulQ31 v w) (r.forwarded k) (b.lanes i.sa)) true] 1)) ∧
       (∀ code, t.access false q 1 = some code → Traps i.corr (.vmacm c i) s c x r code) ∧
       Goes i.corr (.aclr c i) s c x t (r.moved b [.acc k (List.replicate 8 0) false] 1) ∧
       (i.dst.toNat < 16 → puts (.rnd c i) ((b.accOf k).map (fun v => satQ31 ((v.toInt + 1073741824) / 2147483648))) 0) ∧
       (i.dst.toNat < 16 → i.alt = true →
         puts (.exp c i) ((b.accOf k).map (fun v => (BitVec.ofInt 32 (expAcc v), false))) 0 ∧
         (let m := b.landing i.dst ((b.accOf k).map (fun v => (BitVec.ofInt 32 (expAcc v), false))) 0
          Goes i.corr (.norm c i) s c x t (r.moved m.1 (m.2 ++ [.acc k ((b.accOf k).map normAcc) false]) 1))) ∧
       (i.dst.toNat < 16 → i.alt = false →
         puts (.exp c i) ((b.lanes i.sa).map (fun v => (BitVec.ofNat 32 (expWord v), false))) 0 ∧
         puts (.norm c i) ((b.lanes i.sa).map (fun v => (v <<< expWord v, false))) 0))

/-- R395, over the one operation that moves a pointer; Ln and Bn are the buffer's length and base. -/
def Obligations.NewtPointersWrapInTheirBuffer : Prop :=
  ∀ (b : NwtBank) (n : Nat) (d : Int), n < b.p.length →
      (let len := (b.l.getD n 0).toNat
       let base := (b.b.getD n 0).toNat
       let a := (b.p.getD n 0).toNat
       let a' := ((b.bump n d).p.getD n 0).toNat
       (len = 0 → (a' : Int) = ((a : Int) + d) % 2 ^ 18) ∧
       (len ≠ 0 → base + len ≤ 2 ^ 18 →
         (base ≤ a' ∧ a' < base + len ∧ ∃ k : Int, (a' : Int) = a + d + k * len) ∧
         ((base : Int) ≤ a + d → (a : Int) + d < base + len → (a' : Int) = a + d)) ∧
       (∀ j, j ≠ n → (b.bump n d).p.getD j 0 = b.p.getD j 0))

/-- Traps, interrupts and the timer (R397, R404, R405, R407, R408). -/
def Obligations.NewtTrapsInterruptsAndTimer : Prop :=
  (∀ (c code : Nat) (s : State), (s.core c).run = none → Does (.nwtTrap c code) s s ∧ Does (.nwtInterrupt c) s s ∧ Does (.nwtTimerExpiry c) s s) ∧
    (∀ (c code : Nat) (s : State), code = 0 ∨ 8 < code → Does (.nwtTrap c code) s s) ∧
    (∀ (c code : Nat) (r : NwtRun) (s : State), (s.core c).run = some r → 1 ≤ code → code ≤ 8 →
      Does (.nwtTrap c code) s (s.begin.trapTask c r code)) ∧
    (∀ (c : Nat) (r : NwtRun) (s : State), (s.core c).run = some r → r.branch ≠ none ∨ r.eligible = none → Does (.nwtInterrupt c) s s) ∧
    (∀ (c : Nat) (r : NwtRun) (q : Nat × Nat) (t : NwtTask) (s : State), (s.core c).run = some r → r.branch = none →
      r.eligible = some q → (drain (s.core c) r).1.task (drain (s.core c) r).2.task = some t →
      (let x := (drain (s.core c) r).1
       let u := (drain (s.core c) r).2
       let v : NwtRun := { u with irqs := u.irqs.erase q, ret := (u.level, u.pc) :: u.ret, level := q.2,
                                  pc := irqEntry (s.image t.image) q.2, cycles := u.cycles + 2 }
       (v.cycles < t.budget → Does (.nwtInterrupt c) s (s.setCore c { x with run := some v })) ∧
       (t.budget ≤ v.cycles → Does (.nwtInterrupt c) s ((s.begin.setCore c x).trapTask c v trapOverrun)))) ∧
    (∀ (c : Nat) (r : NwtRun) (s : State), (s.core c).run = some r → r.timer = none → Does (.nwtTimerExpiry c) s s) ∧
    (∀ (c n : Nat) (r : NwtRun) (t : NwtTask) (s : State), (s.core c).run = some r → r.timer = some n → (s.core c).task r.task = some t →
      Does (.nwtTimerExpiry c) s
        (s.setCore c { s.core c with run := some (({ r with timer := none } : NwtRun).raiseIrq (s.image t.image) 1) }))

/-- R17, through the register read. -/
def Obligations.ModeReadsByItsCode : Prop :=
  ∀ (m : Nat) (s : State), s.masterUp m = true → s.accessOk { master := m, addr := regBase + 0x8 } false = true →
      ∃ w : Word, Hands (.latchedLowRead { master := m, addr := regBase + 0x8 }) s s [.busData m [w] false] ∧
        (let k := getBits w F.SYS_MODE_MODE.hi F.SYS_MODE_MODE.lo
         k = (match s.sys.mode with
           | .cold => 0 | .melt => 1 | .pour => 2 | .hold => 3 | .proof => 4 | .quench => 7) ∧ k ≠ 5 ∧ k ≠ 6)

/-- R52, as the command is applied at its boundary. The further consequences of a step are those of its own rules (R54, R434). -/
def Obligations.AllowStepAuthorisesOneStep : Prop :=
  ∀ (c : Cmd) (s : State), c.params = [] →
      (s.flag F.TIM_STATUS_STEP_PEND = true →
        (let v := s.pair F.TIM_STEP_PEND_LO_PEND F.TIM_STEP_PEND_HI_PEND
         ∃ t : State, applyOp opAllowStep c s = .ok (t.stepEffects (sext 64 v - s.slewLeft)) (leBytes 8 v) ∧
           t.flag F.TIM_STATUS_STEP_PEND = false ∧ t.tim.slew = 0 ∧ t.tim.freq = s.tim.freq ∧ t.tick = s.tick ∧
           (0 ≤ (s.ptpNow : Int) + sext 64 v * 65536 → (t.ptpNow : Int) = (s.ptpNow : Int) + sext 64 v * 65536))) ∧
      (s.flag F.TIM_STATUS_STEP_PEND = false → applyOp opAllowStep c s = .ok s (leBytes 8 0))

/-- Families 0x00, 0x0C, 0x0D and 0x0E (R18, R478, R494, R513, R537, R542, R543, R557, R564). -/
def Obligations.DeviceCommandsTakeEffect : Prop :=
  ∀ (c : Cmd) (s : State),
    (c.params = [] →
      applyOp opPing c s = .ok s [] ∧ applyOp opQuench c s = .ok (s.raise fltQuenchCmd []) [] ∧
      applyOp opCauseClear c s = .ok (s.setReg F.RST_CAUSE_CAUSE.off 0) [] ∧
      (s.partnerOk = false → applyOp opPromote c s = .bad (rejAll 0x0603) ∧ applyOp opRoleSwap c s = .bad (rejAll 0x0603) ∧
        applyOp opResync c s = .bad (rejAll 0x0603)) ∧
      (s.partnerOk = true → s.flag F.TWN_STAT_SYNC = false →
        applyOp opPromote c s = .bad (rejAll 0x0604) ∧ applyOp opRoleSwap c s = .bad (rejAll 0x0604)) ∧
      (s.partnerOk = true → s.flag F.TWN_STAT_SYNC = true → s.sys.mode ≠ .hold →
        applyOp opPromote c s = .ok
          { s with twn := { s.twn with
              swapAt := some (s.sys.epoch + 3, c.src.val, c.seq.toNat, 1), swapAck := false, swapRec := s.sys.mode == .pour } } [])) ∧
    (∀ m, c.params.length = 4 → Mode.ofCode (byteAt c.params 0) = some m →
      (m = .quench → applyOp opModeSet c s = .bad (rej 0x0108 0)) ∧
      (m ≠ .quench → (s.sys.mode, m) ∉ [(.melt, .cold), (.melt, .pour), (.melt, .hold), (.proof, .hold), (.melt, .proof), (.pour, .hold),
          (.pour, .melt), (.hold, .melt), (.hold, .proof), (.proof, .melt)] → applyOp opModeSet c s = .bad (rejAll 0x0302)) ∧
      ((s.sys.mode, m) ∈ [(.melt, .proof), (.pour, .melt), (.hold, .melt), (.hold, .proof), (.proof, .melt)] →
        ∃ t, applyOp opModeSet c s = .ok t [] ∧ t.sys.mode = m ∧ t.sys.lastCause = 1 ∧ t.sys.modeEpoch = s.sys.epoch)) ∧
    (c.params.length = 4 → Mode.ofCode (byteAt c.params 0) = none → applyOp opModeSet c s = .bad (rej 0x0108 0)) ∧
    (c.params.length = 4 →
      (1 ≤ byteAt c.params 0 → byteAt c.params 0 ≤ 4 →
        applyOp opReset c s = .ok { s with rst := { s.rst with rstPend := some (byteAt c.params 0) } } []) ∧
      (byteAt c.params 0 = 0 ∨ 4 < byteAt c.params 0 → applyOp opReset c s = .bad (rej 0x0108 0)) ∧
      (byteAt c.params 0 ≤ 63 → applyOp opKeyErase c s = .ok (s.keyQueue ⟨byteAt c.params 0, none, c.src.val, c.seq.toNat⟩) []) ∧
      (63 < byteAt c.params 0 → applyOp opKeyErase c s = .bad (rej 0x0108 0)) ∧
      (byteAt c.params 0 ≤ 15 →
        applyOp opTwinCfg c s = .ok ((s.setFld F.TWN_CFG_LINK (byteAt c.params 0)).setFlag F.TWN_CFG_EN (bitOf (byteAt c.params 1) 0)) []) ∧
      (byteAt c.params 0 ≤ 2 → u16 c.params 2 ≤ [67, 15, 31].getD (byteAt c.params 0) 0 → s.partnerOk = true → s.twn.loop = none →
        ∃ t, applyOp opEgressLoop c s = .ok t [] ∧ t.twn.loop = some ⟨byteAt c.params 0, u16 c.params 2, []⟩ ∧
          t.flag F.TWN_LOOP_STAT_DONE = false ∧ t.fld F.TWN_LOOP_STAT_MISMATCH = 0)) ∧
    (c.params.length = 12 →
      applyOp opFltClear c s = .ok (if bitOf (byteAt c.params 8) 0 then (s.fltClear (u64 c.params 0)).fltFirstClear
        else s.fltClear (u64 c.params 0)) []) ∧
    (c.params.length = 48 →
      (s.key.attest = none → applyOp opAttest c s = .ok
        { s with key := { s.key with attest := some (s.statement c.params, c.src.val, c.seq.toNat) } } []) ∧
      (s.key.attest ≠ none → applyOp opAttest c s = .bad (rejAll 0x0306))) ∧
    (∀ bits, u16 c.params 2 = bits → 1 ≤ bits → bits ≤ 512 → bits % 8 = 0 → c.params.length = 4 + pad4 (bits / 8) →
      byteAt c.params 0 ≤ 63 →
      (s.tamperNow = true → applyOp opKeyWrite c s = .bad (rejAll 0x0410)) ∧
      (s.tamperNow = false → applyOp opKeyWrite c s =
        .ok (s.keyQueue ⟨byteAt c.params 0, some (bits, slice c.params 4 (bits / 8)), c.src.val, c.seq.toNat⟩) [])) ∧
    (c.params.length = 516 → byteAt c.params 0 ≤ 3 →
      (let k := byteAt c.params 0
       let crc := leBytes 4 (crc32 (slice c.params 4 512)).toNat
       ((s.otp.copies.getD k []).any (· != 0) = true → applyOp opOptProgram c s = .bad (rejAll 0x0305)) ∧
       ((s.otp.copies.getD k []).any (· != 0) = false → applyOp opOptProgram c s =
         .ok { s with otp := { s.otp with copies := s.otp.copies.set k (slice c.params 4 512 ++ crc) } } crc)))

/-- Families 0x02 to 0x06 (R257, R287, R370, R412, R422, R429, R481 to R486). -/
def Obligations.RouteAudioAndNewtCommandsTakeEffect : Prop :=
  ∀ (c : Cmd) (s : State), (c.params.length = 4 →
      (let d := byteAt c.params 0
       (d ≤ 3 → holdsCompiled s d = false → applyOp opPatClear c s = .ok (s.patClear d) []) ∧
       (d ≤ 3 → holdsCompiled s d = true → applyOp opPatClear c s = .bad (rejAll 0x0318)) ∧
       (3 < d → applyOp opPatClear c s = .bad (rej 0x0108 0)) ∧
       (macroBody s d = none → applyOp opMacroDelete c s = .bad (rej 0x030F 0)) ∧
       (∀ b, macroBody s d = some b → byteAt c.params 1 ≤ 1 → byteAt c.params 2 ≤ 2 → byteAt c.params 3 ≤ 63 →
         applyOp opMacroArm c s = .ok (((s.setFld F.CMD_MACRO_ARMED (byteAt c.params 1) d).setFld F.CMD_MACRO_EDGE
           (byteAt c.params 2) d).setFld F.CMD_MACRO_PIN (byteAt c.params 3) d) [] ∧
         ∃ t, applyOp opMacroDelete c s = .ok t [] ∧ t.cmd.macros = s.cmd.macros.filter (fun m => m.index != d)) ∧
       (d ≤ 15 → applyOp opAptRestart c s = .ok (s.restartAsk d) []) ∧
       (67 < d → applyOp opTaskEnable c s = .bad (rej 0x0108 0) ∧ applyOp opTaskRemove c s = .bad (rej 0x0108 0)) ∧
       (d ≤ 67 → 31 < byteAt c.params 1 → applyOp opTaskEnable c s = .bad (rej 0x0108 1) ∧
         applyOp opTaskRemove c s = .bad (rej 0x0108 1)) ∧
       (d ≤ 67 → byteAt c.params 1 ≤ 31 → s.unitFault .newt d = true →
         applyOp opTaskEnable c s = .bad { rej 0x0501 0 with unit := some d } ∧
         applyOp opTaskRemove c s = .bad { rej 0x0501 0 with unit := some d }) ∧
       (d ≤ 67 → byteAt c.params 1 ≤ 31 → s.unitFault .newt d = false → taskNamed s d (byteAt c.params 1) = false →
         applyOp opTaskEnable c s = .bad (rej 0x030F 0) ∧
         applyOp opTaskRemove c s = .bad (rej 0x030F 0)) ∧
       (d ≤ 67 → byteAt c.params 1 ≤ 31 → s.unitFault .newt d = false → taskNamed s d (byteAt c.params 1) = true →
         applyOp opTaskRemove c s = .ok (s.dropTask d (byteAt c.params 1)).audUse [] ∧
         applyOp opTaskEnable c s = .ok
           (let x := s.core d
            let t := s.setCore d { x with tasks := x.tasks.map (fun (t : NwtTask) =>
              if t.index == byteAt c.params 1 && t.dis && !t.removeDue then { t with enableDue := true } else t) }
            { t with twn := { t.twn with newtNow := t.twn.newtNow ++ [(d, byteAt c.params 1, false)] } }) []) ∧
       (8 ≤ d → d ≤ 63 →
         (s.imageUsed d = true → applyOp opImageDelete c s = .bad (rej 0x0317 0)) ∧
         (s.imageUsed d = false → (s.image d).isEmpty = true → applyOp opImageDelete c s = .bad (rej 0x030F 0)) ∧
         (s.imageUsed d = false → (s.image d).isEmpty = false → applyOp opImageDelete c s = .ok
           { s with nwt := { s.nwt with images := s.nwt.images.filter (fun x => x.slot != d) } } []))) ∧
      (∀ x, s.surfEn (u16 c.params 0) = true → 0x4000 ≤ u16 c.params 0 → u16 c.params 0 ≤ 0x40FF →
        s.chm.flips.find? (fun x => x.surfaces.any (fun p => p.1 == u16 c.params 0)) = some x →
        (x.reached = true → applyOp opFlipCancel c s = .bad (rejAll 0x0316)) ∧
        (x.reached = false → applyOp opFlipCancel c s = .ok (s.dropFlip x) []))) ∧
    (c.params.length = 8 → byteAt c.params 0 ≤ 15 →
      (let it (t : Timed) : Bool := t.cmd.src.val == byteAt c.params 0 && t.cmd.seq.toNat == u32 c.params 4
       (s.pat.sched.find? it = none → applyOp opSchedCancel c s = .bad (rejAll 0x0316)) ∧
       (∀ t, s.pat.sched.find? it = some t →
         (t.released = true → applyOp opSchedCancel c s = .bad (rejAll 0x0315)) ∧
         (t.released = false →
           (let u : State := { s with
              pat := { s.pat with sched := s.pat.sched.filter (fun x => !it x) }
              twn := { s.twn with cancelledNow := s.twn.cancelledNow ++ [(byteAt c.params 0, u32 c.params 4)] } }
            applyOp opSchedCancel c s =
              .ok (u.schedCount.secondReply t 0x031A (rejAll 0x031A).bytes (some s.sys.epoch) none) []))))) ∧
    (c.params.length = 12 → u16 c.params 0 = 1 → u16 c.params 4 ≤ 32767 → srcRefOk (u16 c.params 6) = true → u16 c.params 8 ≤ 480 →
      (let x : XpChange := ⟨u16 c.params 4, u16 c.params 6, u16 c.params 8, none, 0, none⟩
       let t := (s.setFld F.AUD_XP_XFADE x.xfade x.ch).xpWait x
       t.amMisuse = false → applyOp opXpSet c s = .ok t [])) ∧
    (c.params.length = 28 → byteAt c.params 0 ≤ 15 → byteAt c.params 1 ≤ 1 →
      (let x := s.aptPort (byteAt c.params 0)
       applyOp opAptCsTx c s =
         .ok (s.setAptPort (byteAt c.params 0) { x with csPend := x.csPend ++ [(byteAt c.params 1, slice c.params 4 24)] }) [])) ∧
    (∀ (n : Nat) (t : NwtTask), u16 c.params 4 = n → c.params.length = 8 + pad4 n → u16 c.params 2 % 4 = 0 → byteAt c.params 0 < 68 →
      s.unitFault .newt (byteAt c.params 0) = false →
      (nextTasks (s.core (byteAt c.params 0))).find? (fun t => t.index == byteAt c.params 1) = some t →
      u16 c.params 2 + n ≤ t.parLen → t.startDue = false →
      (let x := s.core (byteAt c.params 0)
       let u : State := { s with twn := { s.twn with
         pagesNow := s.twn.pagesNow ++ [(byteAt c.params 0, byteAt c.params 1, u16 c.params 2, slice c.params 8 n)] } }
       applyOp opTaskParam c s = .ok (u.setCore (byteAt c.params 0) (NwtCore.setTask
         { x with dmem := ssetMany zeroByte x.dmem (t.pendingPage + u16 c.params 2) (slice c.params 8 n) }
         { t with swapDue := true })) []))

/-- Families 0x07 to 0x0B (R53, R91, R123, R147, R221, R436, R492). -/
def Obligations.TimeNetPoolAndMeasureCommandsTakeEffect : Prop :=
  ∀ (c : Cmd) (s : State),
    (c.params.length = 12 → u32 c.params 8 ≤ 999999999 →
      (s.tim.ptpEn = true → applyOp opTimSet c s = .bad (rejAll 0x0305)) ∧
      (s.tim.ptpEn = false →
        ∃ t : State, applyOp opTimSet c s =
            .ok (t.stepEffects (((u48 c.params 0 * 1000000000 + u32 c.params 8 : Nat) : Int) - s.ptpNs)) [] ∧
          t.ptpNow = (u48 c.params 0 * 1000000000 + u32 c.params 8) * 65536 ∧ t.flag F.TIM_STATUS_TIME_VALID = true)) ∧
    (c.params.length = 4 →
      (let v := bitsOf (u32 c.params 0) 29 0
       (100 ≤ v → v ≤ 1000000000 → applyOp opStepThr c s = .ok (s.setFld F.TIM_STEP_THR_THR v) []) ∧
       (v < 100 ∨ 1000000000 < v → applyOp opStepThr c s = .bad (rej 0x0108 0))) ∧
      (byteAt c.params 0 ≤ 2 → applyOp opOscSel c s = .ok (s.setFld F.REF_OSC_OSC (byteAt c.params 0)).oscChosen []) ∧
      (2 < byteAt c.params 0 → applyOp opOscSel c s = .bad (rej 0x0108 0)) ∧
      (bitsOf (u32 c.params 0) 11 8 ≠ 0 → bitsOf (u32 c.params 0) 7 0 ≠ 0 →
        applyOp opMarginCfg c s = .ok (storeFields s marginFields (u32 c.params 0) 0) []) ∧
      (eyeLane (u16 c.params 0) = true → s.rst.pUp = true →
        (s.lane.eyeRun.contains (u16 c.params 0) = true → applyOp opEyeMap c s = .bad (rejAll 0x0306)) ∧
        (s.lane.eyeRun.contains (u16 c.params 0) = false → applyOp opEyeMap c s = .ok
          { s with lane := { s.lane with
              eyeRun := s.lane.eyeRun ++ [u16 c.params 0], eyeMaps := s.lane.eyeMaps.filter (fun m => m.1 != u16 c.params 0) } } [])) ∧
      (4 ≤ byteAt c.params 0 → applyOp opSpareSubst c s = .bad (rej 0x0108 0))) ∧
    (c.params = [] →
      (let n := (s.pool.ppr.filter (fun r => !r.noSpare)).length
       applyOp opPprRun c s = .ok { s with pool := { s.pool with pprRun := decide (0 < n) } } (leBytes 2 n))) ∧
    (c.params.length = 16 → byteAt c.params 0 ≤ 11 → 12 ≤ bitsOf (u32 c.params 4) 21 16 → bitsOf (u32 c.params 4) 21 16 ≤ 34 →
      bitsOf (u32 c.params 4) 30 30 = 0 ∨ inRanges ringIds (bitsOf (u32 c.params 4) 15 0) = true →
      ∃ t, applyOp opPoolWindow c s = .ok t [] ∧
        (let w := byteAt c.params 0
         t.fld F.POOL_WIN_CFG_SIZE w = bitsOf (u32 c.params 4) 21 16 ∧ t.fld F.POOL_WIN_CFG_FLOW w = bitsOf (u32 c.params 4) 15 0 ∧
         t.fld F.POOL_WIN_CFG_BASE w = u32 c.params 12 % 2 ^ 25 ∧ t.fld F.POOL_WIN_CFG_EN w = bitsOf (u32 c.params 4) 31 31 ∧
         t.pool = s.pool)) ∧
    (c.params.length = 16 → byteAt c.params 0 ≤ 11 → bitsOf (u32 c.params 4) 30 30 = 1 →
      inRanges ringIds (bitsOf (u32 c.params 4) 15 0) = false → applyOp opPoolWindow c s = .bad (rej 0x0108 4)) ∧
    (c.params.length = 16 → 11 < byteAt c.params 0 → applyOp opPoolWindow c s = .bad (rej 0x0108 0)) ∧
    (c.params.length = 8 → byteAt c.params 0 ≤ 31 → byteAt c.params 1 = 0 →
      ∃ e n, applyOp opMacGate c s = .ok
        { s with mac := { s.mac with gatePend := s.mac.gatePend.filter (fun p => p.1 != byteAt c.params 0) ++
            [(byteAt c.params 0, BitVec.ofNat 32 (u32 c.params 4) :: (List.range 16).flatMap (fun _ => [0, 0xFF#32]))] } } [] e n) ∧
    (c.params.length = 24 → applyOp opMeasCfg c s = .bad (rej 0x0108 0) ∨ (∃ i, 1 ≤ i ∧ i ≤ 5 ∧ applyOp opMeasCfg c s = .bad (rej 0x0108 (4 * i))) ∨
      ∃ t, applyOp opMeasCfg c s = .ok t [] ∧ t.regs = s.regs)
end

