-- ==== Sys2Proof/Laws/Sparse.lean ====
section
/-! SUPPORT. Laws of the sparse stores: reads after writes, and that every operation keeps the canonical form. -/

namespace Sys2Proof.Machine

theorem sfind_sins_same {β : Type} (m : List (Nat × β)) (a : Nat) (v : β) : sfind (sins m a v) a = some v := by
  induction m with
  | nil => simp [sins, sfind]
  | cons e m ih =>
    obtain ⟨k, w⟩ := e
    simp only [sins]
    split
    · simp [sfind]
    · split
      · simp [sfind]
      · rename_i h1 h2
        simp [sfind, Ne.symm h2, ih]

theorem sfind_sins_other {β : Type} (m : List (Nat × β)) (a b : Nat) (v : β) (h : b ≠ a) :
    sfind (sins m a v) b = sfind m b := by
  induction m with
  | nil => simp [sins, sfind, Ne.symm h]
  | cons e m ih =>
    obtain ⟨k, w⟩ := e
    simp only [sins]
    split
    · simp [sfind, Ne.symm h]
    · split
      · rename_i h2
        simp [sfind, Ne.symm h, ← h2]
      · simp only [sfind, ih]

theorem sfind_sdel_other {β : Type} (m : List (Nat × β)) (a b : Nat) (h : b ≠ a) : sfind (sdel m a) b = sfind m b := by
  induction m with
  | nil => rfl
  | cons e m ih =>
    obtain ⟨k, w⟩ := e
    simp only [sdel]
    split
    · rename_i h2
      simp [sfind, h2, Ne.symm h, ih]
    · simp only [sfind, ih]

theorem swfFrom_mono {β : Type} [DecidableEq β] (d : Nat → β) (m : List (Nat × β)) (x y : Nat) (hxy : x ≤ y)
    (h : swfFrom d y m = true) : swfFrom d x m = true := by
  cases m with
  | nil => rfl
  | cons e m =>
    obtain ⟨k, w⟩ := e
    simp only [swfFrom, Bool.and_eq_true, decide_eq_true_eq] at h ⊢
    exact ⟨⟨by omega, h.1.2⟩, h.2⟩

theorem sfind_sdel_same {β : Type} (m : List (Nat × β)) (a : Nat) : sfind (sdel m a) a = none := by
  induction m with
  | nil => rfl
  | cons e m ih =>
    obtain ⟨k, w⟩ := e
    simp only [sdel]
    split
    · exact ih
    · rename_i h2
      simp only [sfind, h2, if_false]
      exact ih

theorem swfFrom_sins {β : Type} [DecidableEq β] (d : Nat → β) (m : List (Nat × β)) (x a : Nat) (v : β)
    (h : swfFrom d x m = true) (hx : x ≤ a) (hv : v ≠ d a) : swfFrom d x (sins m a v) = true := by
  induction m generalizing x with
  | nil => simp [sins, swfFrom, hx, hv]
  | cons e m ih =>
    obtain ⟨k, w⟩ := e
    simp only [swfFrom, Bool.and_eq_true, decide_eq_true_eq] at h
    simp only [sins]
    split
    · simp only [swfFrom, Bool.and_eq_true, decide_eq_true_eq]
      exact ⟨⟨hx, hv⟩, ⟨by omega, h.1.2⟩, h.2⟩
    · split
      · rename_i h2
        subst h2
        simp only [swfFrom, Bool.and_eq_true, decide_eq_true_eq]
        exact ⟨⟨hx, hv⟩, h.2⟩
      · simp only [swfFrom, Bool.and_eq_true, decide_eq_true_eq]
        exact ⟨h.1, ih (k + 1) h.2 (by omega)⟩

theorem swfFrom_sdel {β : Type} [DecidableEq β] (d : Nat → β) (m : List (Nat × β)) (x a : Nat)
    (h : swfFrom d x m = true) : swfFrom d x (sdel m a) = true := by
  induction m generalizing x with
  | nil => rfl
  | cons e m ih =>
    obtain ⟨k, w⟩ := e
    simp only [swfFrom, Bool.and_eq_true, decide_eq_true_eq] at h
    simp only [sdel]
    split
    · exact swfFrom_mono d _ x (k + 1) (by omega) (ih (k + 1) h.2)
    · simp only [swfFrom, Bool.and_eq_true, decide_eq_true_eq]
      exact ⟨h.1, ih (k + 1) h.2⟩

/-- A write keeps the canonical form. -/
theorem swf_sset {β : Type} [DecidableEq β] (d : Nat → β) (m : List (Nat × β)) (a : Nat) (v : β) (h : swf d m = true) :
    swf d (sset d m a v) = true := by
  unfold sset
  split
  · exact swfFrom_sdel d m 0 a h
  · rename_i hv
    exact swfFrom_sins d m 0 a v h (Nat.zero_le a) hv

/-- Writes of consecutive values keep the canonical form. -/
theorem swf_ssetMany {β : Type} [DecidableEq β] (d : Nat → β) (m : List (Nat × β)) (a : Nat) (l : List β) (h : swf d m = true) :
    swf d (ssetMany d m a l) = true := by
  induction l generalizing m a with
  | nil => exact h
  | cons v l ih => exact ih _ _ (swf_sset d m a v h)

/-- Removing entries by address keeps the canonical form. -/
theorem swfFrom_filter {β : Type} [DecidableEq β] (d : Nat → β) (m : List (Nat × β)) (x : Nat) (p : Nat × β → Bool)
    (h : swfFrom d x m = true) : swfFrom d x (m.filter p) = true := by
  induction m generalizing x with
  | nil => rfl
  | cons e m ih =>
    obtain ⟨k, w⟩ := e
    simp only [swfFrom, Bool.and_eq_true, decide_eq_true_eq] at h
    simp only [List.filter_cons]
    split
    · simp only [swfFrom, Bool.and_eq_true, decide_eq_true_eq]
      exact ⟨h.1, ih (k + 1) h.2⟩
    · exact swfFrom_mono d _ x (k + 1) (by omega) (ih (k + 1) h.2)

theorem swf_filter {β : Type} [DecidableEq β] (d : Nat → β) (m : List (Nat × β)) (p : Nat × β → Bool) (h : swf d m = true) :
    swf d (m.filter p) = true := swfFrom_filter d m 0 p h

/-- A read at the address written gives the value written. -/
theorem sget_sset_same {β : Type} [DecidableEq β] (d : Nat → β) (m : List (Nat × β)) (a : Nat) (v : β) :
    sget d (sset d m a v) a = v := by
  unfold sset
  split
  · rename_i hv
    simp [sget, sfind_sdel_same m a, hv]
  · simp [sget, sfind_sins_same]

/-- A read elsewhere gives what it gave. -/
theorem sget_sset_other {β : Type} [DecidableEq β] (d : Nat → β) (m : List (Nat × β)) (a b : Nat) (v : β) (h : b ≠ a) :
    sget d (sset d m a v) b = sget d m b := by
  unfold sset
  split
  · simp [sget, sfind_sdel_other m a b h]
  · simp [sget, sfind_sins_other m a b v h]

/-- A read outside the bytes that a write of several covers gives what it gave. -/
theorem sget_ssetMany_other {β : Type} [DecidableEq β] (d : Nat → β) (m : List (Nat × β)) (a b : Nat) (l : List β)
    (h : b < a ∨ a + l.length ≤ b) : sget d (ssetMany d m a l) b = sget d m b := by
  induction l generalizing m a with
  | nil => rfl
  | cons v l ih =>
    simp only [List.length_cons] at h
    simp only [ssetMany]
    rw [ih _ _ (by omega), sget_sset_other d m a b v (by omega)]

theorem sgetMany_ssetMany_same {β : Type} [DecidableEq β] (d : Nat → β) (m : List (Nat × β)) (a : Nat) (l : List β) :
    sgetMany d (ssetMany d m a l) a l.length = l := by
  induction l generalizing m a with
  | nil => rfl
  | cons v l ih =>
    simp only [List.length_cons, sgetMany, ssetMany]
    rw [ih, sget_ssetMany_other d _ (a + 1) a l (by omega), sget_sset_same d m a v]

end Sys2Proof.Machine
end

