-- ==== Sys2Proof/Laws/State.lean ====
section
/-! SUPPORT. What each named operation leaves of each field of the state, one lemma per field and operation, so that no proof
unfolds a record update; and the fields an operation does write. -/

namespace Sys2Proof.Machine.State

/-! ## `setReg` -/

@[simp] theorem setReg_pending (s : State) (a : Nat) (w : Word) : (s.setReg a w).pending = s.pending := rfl
@[simp] theorem setReg_out (s : State) (a : Nat) (w : Word) : (s.setReg a w).out = s.out := rfl
@[simp] theorem setReg_free (s : State) (a : Nat) (w : Word) : (s.setReg a w).free = s.free := rfl
@[simp] theorem setReg_latches (s : State) (a : Nat) (w : Word) : (s.setReg a w).latches = s.latches := rfl
@[simp] theorem setReg_tick (s : State) (a : Nat) (w : Word) : (s.setReg a w).tick = s.tick := rfl
@[simp] theorem setReg_sys (s : State) (a : Nat) (w : Word) : (s.setReg a w).sys = s.sys := rfl
@[simp] theorem setReg_rst (s : State) (a : Nat) (w : Word) : (s.setReg a w).rst = s.rst := rfl
@[simp] theorem setReg_jnl (s : State) (a : Nat) (w : Word) : (s.setReg a w).jnl = s.jnl := rfl
@[simp] theorem setReg_jnlHead (s : State) (a : Nat) (w : Word) : (s.setReg a w).jnlHead = s.jnlHead := rfl
@[simp] theorem setReg_events (s : State) (a : Nat) (w : Word) : (s.setReg a w).events = s.events := rfl
@[simp] theorem setReg_cmd (s : State) (a : Nat) (w : Word) : (s.setReg a w).cmd = s.cmd := rfl
@[simp] theorem setReg_axl (s : State) (a : Nat) (w : Word) : (s.setReg a w).axl = s.axl := rfl
@[simp] theorem setReg_otp (s : State) (a : Nat) (w : Word) : (s.setReg a w).otp = s.otp := rfl
@[simp] theorem setReg_tim (s : State) (a : Nat) (w : Word) : (s.setReg a w).tim = s.tim := rfl
@[simp] theorem setReg_ref (s : State) (a : Nat) (w : Word) : (s.setReg a w).ref = s.ref := rfl
@[simp] theorem setReg_lane (s : State) (a : Nat) (w : Word) : (s.setReg a w).lane = s.lane := rfl
@[simp] theorem setReg_mac (s : State) (a : Nat) (w : Word) : (s.setReg a w).mac = s.mac := rfl
@[simp] theorem setReg_lad (s : State) (a : Nat) (w : Word) : (s.setReg a w).lad = s.lad := rfl
@[simp] theorem setReg_pool (s : State) (a : Nat) (w : Word) : (s.setReg a w).pool = s.pool := rfl
@[simp] theorem setReg_pat (s : State) (a : Nat) (w : Word) : (s.setReg a w).pat = s.pat := rfl
@[simp] theorem setReg_shk (s : State) (a : Nat) (w : Word) : (s.setReg a w).shk = s.shk := rfl
@[simp] theorem setReg_chm (s : State) (a : Nat) (w : Word) : (s.setReg a w).chm = s.chm := rfl
@[simp] theorem setReg_aud (s : State) (a : Nat) (w : Word) : (s.setReg a w).aud = s.aud := rfl
@[simp] theorem setReg_nwt (s : State) (a : Nat) (w : Word) : (s.setReg a w).nwt = s.nwt := rfl
@[simp] theorem setReg_apt (s : State) (a : Nat) (w : Word) : (s.setReg a w).apt = s.apt := rfl
@[simp] theorem setReg_meas (s : State) (a : Nat) (w : Word) : (s.setReg a w).meas = s.meas := rfl
@[simp] theorem setReg_twn (s : State) (a : Nat) (w : Word) : (s.setReg a w).twn = s.twn := rfl
@[simp] theorem setReg_key (s : State) (a : Nat) (w : Word) : (s.setReg a w).key = s.key := rfl
@[simp] theorem setReg_gpio (s : State) (a : Nat) (w : Word) : (s.setReg a w).gpio = s.gpio := rfl
@[simp] theorem setReg_bus (s : State) (a : Nat) (w : Word) : (s.setReg a w).bus = s.bus := rfl

/-! ## `setFld` -/

@[simp] theorem setFld_pending (s : State) (f : Fld) (v i j : Nat) : (s.setFld f v i j).pending = s.pending := rfl
@[simp] theorem setFld_out (s : State) (f : Fld) (v i j : Nat) : (s.setFld f v i j).out = s.out := rfl
@[simp] theorem setFld_free (s : State) (f : Fld) (v i j : Nat) : (s.setFld f v i j).free = s.free := rfl
@[simp] theorem setFld_latches (s : State) (f : Fld) (v i j : Nat) : (s.setFld f v i j).latches = s.latches := rfl
@[simp] theorem setFld_tick (s : State) (f : Fld) (v i j : Nat) : (s.setFld f v i j).tick = s.tick := rfl
@[simp] theorem setFld_sys (s : State) (f : Fld) (v i j : Nat) : (s.setFld f v i j).sys = s.sys := rfl
@[simp] theorem setFld_rst (s : State) (f : Fld) (v i j : Nat) : (s.setFld f v i j).rst = s.rst := rfl
@[simp] theorem setFld_jnl (s : State) (f : Fld) (v i j : Nat) : (s.setFld f v i j).jnl = s.jnl := rfl
@[simp] theorem setFld_jnlHead (s : State) (f : Fld) (v i j : Nat) : (s.setFld f v i j).jnlHead = s.jnlHead := rfl
@[simp] theorem setFld_events (s : State) (f : Fld) (v i j : Nat) : (s.setFld f v i j).events = s.events := rfl
@[simp] theorem setFld_cmd (s : State) (f : Fld) (v i j : Nat) : (s.setFld f v i j).cmd = s.cmd := rfl
@[simp] theorem setFld_axl (s : State) (f : Fld) (v i j : Nat) : (s.setFld f v i j).axl = s.axl := rfl
@[simp] theorem setFld_otp (s : State) (f : Fld) (v i j : Nat) : (s.setFld f v i j).otp = s.otp := rfl
@[simp] theorem setFld_tim (s : State) (f : Fld) (v i j : Nat) : (s.setFld f v i j).tim = s.tim := rfl
@[simp] theorem setFld_ref (s : State) (f : Fld) (v i j : Nat) : (s.setFld f v i j).ref = s.ref := rfl
@[simp] theorem setFld_lane (s : State) (f : Fld) (v i j : Nat) : (s.setFld f v i j).lane = s.lane := rfl
@[simp] theorem setFld_mac (s : State) (f : Fld) (v i j : Nat) : (s.setFld f v i j).mac = s.mac := rfl
@[simp] theorem setFld_lad (s : State) (f : Fld) (v i j : Nat) : (s.setFld f v i j).lad = s.lad := rfl
@[simp] theorem setFld_pool (s : State) (f : Fld) (v i j : Nat) : (s.setFld f v i j).pool = s.pool := rfl
@[simp] theorem setFld_pat (s : State) (f : Fld) (v i j : Nat) : (s.setFld f v i j).pat = s.pat := rfl
@[simp] theorem setFld_shk (s : State) (f : Fld) (v i j : Nat) : (s.setFld f v i j).shk = s.shk := rfl
@[simp] theorem setFld_chm (s : State) (f : Fld) (v i j : Nat) : (s.setFld f v i j).chm = s.chm := rfl
@[simp] theorem setFld_aud (s : State) (f : Fld) (v i j : Nat) : (s.setFld f v i j).aud = s.aud := rfl
@[simp] theorem setFld_nwt (s : State) (f : Fld) (v i j : Nat) : (s.setFld f v i j).nwt = s.nwt := rfl
@[simp] theorem setFld_apt (s : State) (f : Fld) (v i j : Nat) : (s.setFld f v i j).apt = s.apt := rfl
@[simp] theorem setFld_meas (s : State) (f : Fld) (v i j : Nat) : (s.setFld f v i j).meas = s.meas := rfl
@[simp] theorem setFld_twn (s : State) (f : Fld) (v i j : Nat) : (s.setFld f v i j).twn = s.twn := rfl
@[simp] theorem setFld_key (s : State) (f : Fld) (v i j : Nat) : (s.setFld f v i j).key = s.key := rfl
@[simp] theorem setFld_gpio (s : State) (f : Fld) (v i j : Nat) : (s.setFld f v i j).gpio = s.gpio := rfl
@[simp] theorem setFld_bus (s : State) (f : Fld) (v i j : Nat) : (s.setFld f v i j).bus = s.bus := rfl

/-! ## `setFlag` -/

@[simp] theorem setFlag_pending (s : State) (f : Fld) (b : Bool) (i j : Nat) : (s.setFlag f b i j).pending = s.pending := rfl
@[simp] theorem setFlag_out (s : State) (f : Fld) (b : Bool) (i j : Nat) : (s.setFlag f b i j).out = s.out := rfl
@[simp] theorem setFlag_free (s : State) (f : Fld) (b : Bool) (i j : Nat) : (s.setFlag f b i j).free = s.free := rfl
@[simp] theorem setFlag_latches (s : State) (f : Fld) (b : Bool) (i j : Nat) : (s.setFlag f b i j).latches = s.latches := rfl
@[simp] theorem setFlag_tick (s : State) (f : Fld) (b : Bool) (i j : Nat) : (s.setFlag f b i j).tick = s.tick := rfl
@[simp] theorem setFlag_sys (s : State) (f : Fld) (b : Bool) (i j : Nat) : (s.setFlag f b i j).sys = s.sys := rfl
@[simp] theorem setFlag_rst (s : State) (f : Fld) (b : Bool) (i j : Nat) : (s.setFlag f b i j).rst = s.rst := rfl
@[simp] theorem setFlag_jnl (s : State) (f : Fld) (b : Bool) (i j : Nat) : (s.setFlag f b i j).jnl = s.jnl := rfl
@[simp] theorem setFlag_jnlHead (s : State) (f : Fld) (b : Bool) (i j : Nat) : (s.setFlag f b i j).jnlHead = s.jnlHead := rfl
@[simp] theorem setFlag_events (s : State) (f : Fld) (b : Bool) (i j : Nat) : (s.setFlag f b i j).events = s.events := rfl
@[simp] theorem setFlag_cmd (s : State) (f : Fld) (b : Bool) (i j : Nat) : (s.setFlag f b i j).cmd = s.cmd := rfl
@[simp] theorem setFlag_axl (s : State) (f : Fld) (b : Bool) (i j : Nat) : (s.setFlag f b i j).axl = s.axl := rfl
@[simp] theorem setFlag_otp (s : State) (f : Fld) (b : Bool) (i j : Nat) : (s.setFlag f b i j).otp = s.otp := rfl
@[simp] theorem setFlag_tim (s : State) (f : Fld) (b : Bool) (i j : Nat) : (s.setFlag f b i j).tim = s.tim := rfl
@[simp] theorem setFlag_ref (s : State) (f : Fld) (b : Bool) (i j : Nat) : (s.setFlag f b i j).ref = s.ref := rfl
@[simp] theorem setFlag_lane (s : State) (f : Fld) (b : Bool) (i j : Nat) : (s.setFlag f b i j).lane = s.lane := rfl
@[simp] theorem setFlag_mac (s : State) (f : Fld) (b : Bool) (i j : Nat) : (s.setFlag f b i j).mac = s.mac := rfl
@[simp] theorem setFlag_lad (s : State) (f : Fld) (b : Bool) (i j : Nat) : (s.setFlag f b i j).lad = s.lad := rfl
@[simp] theorem setFlag_pool (s : State) (f : Fld) (b : Bool) (i j : Nat) : (s.setFlag f b i j).pool = s.pool := rfl
@[simp] theorem setFlag_pat (s : State) (f : Fld) (b : Bool) (i j : Nat) : (s.setFlag f b i j).pat = s.pat := rfl
@[simp] theorem setFlag_shk (s : State) (f : Fld) (b : Bool) (i j : Nat) : (s.setFlag f b i j).shk = s.shk := rfl
@[simp] theorem setFlag_chm (s : State) (f : Fld) (b : Bool) (i j : Nat) : (s.setFlag f b i j).chm = s.chm := rfl
@[simp] theorem setFlag_aud (s : State) (f : Fld) (b : Bool) (i j : Nat) : (s.setFlag f b i j).aud = s.aud := rfl
@[simp] theorem setFlag_nwt (s : State) (f : Fld) (b : Bool) (i j : Nat) : (s.setFlag f b i j).nwt = s.nwt := rfl
@[simp] theorem setFlag_apt (s : State) (f : Fld) (b : Bool) (i j : Nat) : (s.setFlag f b i j).apt = s.apt := rfl
@[simp] theorem setFlag_meas (s : State) (f : Fld) (b : Bool) (i j : Nat) : (s.setFlag f b i j).meas = s.meas := rfl
@[simp] theorem setFlag_twn (s : State) (f : Fld) (b : Bool) (i j : Nat) : (s.setFlag f b i j).twn = s.twn := rfl
@[simp] theorem setFlag_key (s : State) (f : Fld) (b : Bool) (i j : Nat) : (s.setFlag f b i j).key = s.key := rfl
@[simp] theorem setFlag_gpio (s : State) (f : Fld) (b : Bool) (i j : Nat) : (s.setFlag f b i j).gpio = s.gpio := rfl
@[simp] theorem setFlag_bus (s : State) (f : Fld) (b : Bool) (i j : Nat) : (s.setFlag f b i j).bus = s.bus := rfl

/-! ## `addFld` -/

@[simp] theorem addFld_pending (s : State) (f : Fld) (n i j : Nat) : (s.addFld f n i j).pending = s.pending := rfl
@[simp] theorem addFld_out (s : State) (f : Fld) (n i j : Nat) : (s.addFld f n i j).out = s.out := rfl
@[simp] theorem addFld_free (s : State) (f : Fld) (n i j : Nat) : (s.addFld f n i j).free = s.free := rfl
@[simp] theorem addFld_latches (s : State) (f : Fld) (n i j : Nat) : (s.addFld f n i j).latches = s.latches := rfl
@[simp] theorem addFld_tick (s : State) (f : Fld) (n i j : Nat) : (s.addFld f n i j).tick = s.tick := rfl
@[simp] theorem addFld_sys (s : State) (f : Fld) (n i j : Nat) : (s.addFld f n i j).sys = s.sys := rfl
@[simp] theorem addFld_rst (s : State) (f : Fld) (n i j : Nat) : (s.addFld f n i j).rst = s.rst := rfl
@[simp] theorem addFld_jnl (s : State) (f : Fld) (n i j : Nat) : (s.addFld f n i j).jnl = s.jnl := rfl
@[simp] theorem addFld_jnlHead (s : State) (f : Fld) (n i j : Nat) : (s.addFld f n i j).jnlHead = s.jnlHead := rfl
@[simp] theorem addFld_events (s : State) (f : Fld) (n i j : Nat) : (s.addFld f n i j).events = s.events := rfl
@[simp] theorem addFld_cmd (s : State) (f : Fld) (n i j : Nat) : (s.addFld f n i j).cmd = s.cmd := rfl
@[simp] theorem addFld_axl (s : State) (f : Fld) (n i j : Nat) : (s.addFld f n i j).axl = s.axl := rfl
@[simp] theorem addFld_otp (s : State) (f : Fld) (n i j : Nat) : (s.addFld f n i j).otp = s.otp := rfl
@[simp] theorem addFld_tim (s : State) (f : Fld) (n i j : Nat) : (s.addFld f n i j).tim = s.tim := rfl
@[simp] theorem addFld_ref (s : State) (f : Fld) (n i j : Nat) : (s.addFld f n i j).ref = s.ref := rfl
@[simp] theorem addFld_lane (s : State) (f : Fld) (n i j : Nat) : (s.addFld f n i j).lane = s.lane := rfl
@[simp] theorem addFld_mac (s : State) (f : Fld) (n i j : Nat) : (s.addFld f n i j).mac = s.mac := rfl
@[simp] theorem addFld_lad (s : State) (f : Fld) (n i j : Nat) : (s.addFld f n i j).lad = s.lad := rfl
@[simp] theorem addFld_pool (s : State) (f : Fld) (n i j : Nat) : (s.addFld f n i j).pool = s.pool := rfl
@[simp] theorem addFld_pat (s : State) (f : Fld) (n i j : Nat) : (s.addFld f n i j).pat = s.pat := rfl
@[simp] theorem addFld_shk (s : State) (f : Fld) (n i j : Nat) : (s.addFld f n i j).shk = s.shk := rfl
@[simp] theorem addFld_chm (s : State) (f : Fld) (n i j : Nat) : (s.addFld f n i j).chm = s.chm := rfl
@[simp] theorem addFld_aud (s : State) (f : Fld) (n i j : Nat) : (s.addFld f n i j).aud = s.aud := rfl
@[simp] theorem addFld_nwt (s : State) (f : Fld) (n i j : Nat) : (s.addFld f n i j).nwt = s.nwt := rfl
@[simp] theorem addFld_apt (s : State) (f : Fld) (n i j : Nat) : (s.addFld f n i j).apt = s.apt := rfl
@[simp] theorem addFld_meas (s : State) (f : Fld) (n i j : Nat) : (s.addFld f n i j).meas = s.meas := rfl
@[simp] theorem addFld_twn (s : State) (f : Fld) (n i j : Nat) : (s.addFld f n i j).twn = s.twn := rfl
@[simp] theorem addFld_key (s : State) (f : Fld) (n i j : Nat) : (s.addFld f n i j).key = s.key := rfl
@[simp] theorem addFld_gpio (s : State) (f : Fld) (n i j : Nat) : (s.addFld f n i j).gpio = s.gpio := rfl
@[simp] theorem addFld_bus (s : State) (f : Fld) (n i j : Nat) : (s.addFld f n i j).bus = s.bus := rfl

/-! ## `incFld` -/

@[simp] theorem incFld_pending (s : State) (f : Fld) (i j : Nat) : (s.incFld f i j).pending = s.pending := rfl
@[simp] theorem incFld_out (s : State) (f : Fld) (i j : Nat) : (s.incFld f i j).out = s.out := rfl
@[simp] theorem incFld_free (s : State) (f : Fld) (i j : Nat) : (s.incFld f i j).free = s.free := rfl
@[simp] theorem incFld_latches (s : State) (f : Fld) (i j : Nat) : (s.incFld f i j).latches = s.latches := rfl
@[simp] theorem incFld_tick (s : State) (f : Fld) (i j : Nat) : (s.incFld f i j).tick = s.tick := rfl
@[simp] theorem incFld_sys (s : State) (f : Fld) (i j : Nat) : (s.incFld f i j).sys = s.sys := rfl
@[simp] theorem incFld_rst (s : State) (f : Fld) (i j : Nat) : (s.incFld f i j).rst = s.rst := rfl
@[simp] theorem incFld_jnl (s : State) (f : Fld) (i j : Nat) : (s.incFld f i j).jnl = s.jnl := rfl
@[simp] theorem incFld_jnlHead (s : State) (f : Fld) (i j : Nat) : (s.incFld f i j).jnlHead = s.jnlHead := rfl
@[simp] theorem incFld_events (s : State) (f : Fld) (i j : Nat) : (s.incFld f i j).events = s.events := rfl
@[simp] theorem incFld_cmd (s : State) (f : Fld) (i j : Nat) : (s.incFld f i j).cmd = s.cmd := rfl
@[simp] theorem incFld_axl (s : State) (f : Fld) (i j : Nat) : (s.incFld f i j).axl = s.axl := rfl
@[simp] theorem incFld_otp (s : State) (f : Fld) (i j : Nat) : (s.incFld f i j).otp = s.otp := rfl
@[simp] theorem incFld_tim (s : State) (f : Fld) (i j : Nat) : (s.incFld f i j).tim = s.tim := rfl
@[simp] theorem incFld_ref (s : State) (f : Fld) (i j : Nat) : (s.incFld f i j).ref = s.ref := rfl
@[simp] theorem incFld_lane (s : State) (f : Fld) (i j : Nat) : (s.incFld f i j).lane = s.lane := rfl
@[simp] theorem incFld_mac (s : State) (f : Fld) (i j : Nat) : (s.incFld f i j).mac = s.mac := rfl
@[simp] theorem incFld_lad (s : State) (f : Fld) (i j : Nat) : (s.incFld f i j).lad = s.lad := rfl
@[simp] theorem incFld_pool (s : State) (f : Fld) (i j : Nat) : (s.incFld f i j).pool = s.pool := rfl
@[simp] theorem incFld_pat (s : State) (f : Fld) (i j : Nat) : (s.incFld f i j).pat = s.pat := rfl
@[simp] theorem incFld_shk (s : State) (f : Fld) (i j : Nat) : (s.incFld f i j).shk = s.shk := rfl
@[simp] theorem incFld_chm (s : State) (f : Fld) (i j : Nat) : (s.incFld f i j).chm = s.chm := rfl
@[simp] theorem incFld_aud (s : State) (f : Fld) (i j : Nat) : (s.incFld f i j).aud = s.aud := rfl
@[simp] theorem incFld_nwt (s : State) (f : Fld) (i j : Nat) : (s.incFld f i j).nwt = s.nwt := rfl
@[simp] theorem incFld_apt (s : State) (f : Fld) (i j : Nat) : (s.incFld f i j).apt = s.apt := rfl
@[simp] theorem incFld_meas (s : State) (f : Fld) (i j : Nat) : (s.incFld f i j).meas = s.meas := rfl
@[simp] theorem incFld_twn (s : State) (f : Fld) (i j : Nat) : (s.incFld f i j).twn = s.twn := rfl
@[simp] theorem incFld_key (s : State) (f : Fld) (i j : Nat) : (s.incFld f i j).key = s.key := rfl
@[simp] theorem incFld_gpio (s : State) (f : Fld) (i j : Nat) : (s.incFld f i j).gpio = s.gpio := rfl
@[simp] theorem incFld_bus (s : State) (f : Fld) (i j : Nat) : (s.incFld f i j).bus = s.bus := rfl

/-! ## `setPair` -/

@[simp] theorem setPair_pending (s : State) (lo hi : Fld) (v i : Nat) : (s.setPair lo hi v i).pending = s.pending := rfl
@[simp] theorem setPair_out (s : State) (lo hi : Fld) (v i : Nat) : (s.setPair lo hi v i).out = s.out := rfl
@[simp] theorem setPair_free (s : State) (lo hi : Fld) (v i : Nat) : (s.setPair lo hi v i).free = s.free := rfl
@[simp] theorem setPair_latches (s : State) (lo hi : Fld) (v i : Nat) : (s.setPair lo hi v i).latches = s.latches := rfl
@[simp] theorem setPair_tick (s : State) (lo hi : Fld) (v i : Nat) : (s.setPair lo hi v i).tick = s.tick := rfl
@[simp] theorem setPair_sys (s : State) (lo hi : Fld) (v i : Nat) : (s.setPair lo hi v i).sys = s.sys := rfl
@[simp] theorem setPair_rst (s : State) (lo hi : Fld) (v i : Nat) : (s.setPair lo hi v i).rst = s.rst := rfl
@[simp] theorem setPair_jnl (s : State) (lo hi : Fld) (v i : Nat) : (s.setPair lo hi v i).jnl = s.jnl := rfl
@[simp] theorem setPair_jnlHead (s : State) (lo hi : Fld) (v i : Nat) : (s.setPair lo hi v i).jnlHead = s.jnlHead := rfl
@[simp] theorem setPair_events (s : State) (lo hi : Fld) (v i : Nat) : (s.setPair lo hi v i).events = s.events := rfl
@[simp] theorem setPair_cmd (s : State) (lo hi : Fld) (v i : Nat) : (s.setPair lo hi v i).cmd = s.cmd := rfl
@[simp] theorem setPair_axl (s : State) (lo hi : Fld) (v i : Nat) : (s.setPair lo hi v i).axl = s.axl := rfl
@[simp] theorem setPair_otp (s : State) (lo hi : Fld) (v i : Nat) : (s.setPair lo hi v i).otp = s.otp := rfl
@[simp] theorem setPair_tim (s : State) (lo hi : Fld) (v i : Nat) : (s.setPair lo hi v i).tim = s.tim := rfl
@[simp] theorem setPair_ref (s : State) (lo hi : Fld) (v i : Nat) : (s.setPair lo hi v i).ref = s.ref := rfl
@[simp] theorem setPair_lane (s : State) (lo hi : Fld) (v i : Nat) : (s.setPair lo hi v i).lane = s.lane := rfl
@[simp] theorem setPair_mac (s : State) (lo hi : Fld) (v i : Nat) : (s.setPair lo hi v i).mac = s.mac := rfl
@[simp] theorem setPair_lad (s : State) (lo hi : Fld) (v i : Nat) : (s.setPair lo hi v i).lad = s.lad := rfl
@[simp] theorem setPair_pool (s : State) (lo hi : Fld) (v i : Nat) : (s.setPair lo hi v i).pool = s.pool := rfl
@[simp] theorem setPair_pat (s : State) (lo hi : Fld) (v i : Nat) : (s.setPair lo hi v i).pat = s.pat := rfl
@[simp] theorem setPair_shk (s : State) (lo hi : Fld) (v i : Nat) : (s.setPair lo hi v i).shk = s.shk := rfl
@[simp] theorem setPair_chm (s : State) (lo hi : Fld) (v i : Nat) : (s.setPair lo hi v i).chm = s.chm := rfl
@[simp] theorem setPair_aud (s : State) (lo hi : Fld) (v i : Nat) : (s.setPair lo hi v i).aud = s.aud := rfl
@[simp] theorem setPair_nwt (s : State) (lo hi : Fld) (v i : Nat) : (s.setPair lo hi v i).nwt = s.nwt := rfl
@[simp] theorem setPair_apt (s : State) (lo hi : Fld) (v i : Nat) : (s.setPair lo hi v i).apt = s.apt := rfl
@[simp] theorem setPair_meas (s : State) (lo hi : Fld) (v i : Nat) : (s.setPair lo hi v i).meas = s.meas := rfl
@[simp] theorem setPair_twn (s : State) (lo hi : Fld) (v i : Nat) : (s.setPair lo hi v i).twn = s.twn := rfl
@[simp] theorem setPair_key (s : State) (lo hi : Fld) (v i : Nat) : (s.setPair lo hi v i).key = s.key := rfl
@[simp] theorem setPair_gpio (s : State) (lo hi : Fld) (v i : Nat) : (s.setPair lo hi v i).gpio = s.gpio := rfl
@[simp] theorem setPair_bus (s : State) (lo hi : Fld) (v i : Nat) : (s.setPair lo hi v i).bus = s.bus := rfl

/-! ## `clearRegs` -/

@[simp] theorem clearRegs_pending (s : State) (p : Nat → Bool) : (s.clearRegs p).pending = s.pending := rfl
@[simp] theorem clearRegs_out (s : State) (p : Nat → Bool) : (s.clearRegs p).out = s.out := rfl
@[simp] theorem clearRegs_free (s : State) (p : Nat → Bool) : (s.clearRegs p).free = s.free := rfl
@[simp] theorem clearRegs_latches (s : State) (p : Nat → Bool) : (s.clearRegs p).latches = s.latches := rfl
@[simp] theorem clearRegs_tick (s : State) (p : Nat → Bool) : (s.clearRegs p).tick = s.tick := rfl
@[simp] theorem clearRegs_sys (s : State) (p : Nat → Bool) : (s.clearRegs p).sys = s.sys := rfl
@[simp] theorem clearRegs_rst (s : State) (p : Nat → Bool) : (s.clearRegs p).rst = s.rst := rfl
@[simp] theorem clearRegs_jnl (s : State) (p : Nat → Bool) : (s.clearRegs p).jnl = s.jnl := rfl
@[simp] theorem clearRegs_jnlHead (s : State) (p : Nat → Bool) : (s.clearRegs p).jnlHead = s.jnlHead := rfl
@[simp] theorem clearRegs_events (s : State) (p : Nat → Bool) : (s.clearRegs p).events = s.events := rfl
@[simp] theorem clearRegs_cmd (s : State) (p : Nat → Bool) : (s.clearRegs p).cmd = s.cmd := rfl
@[simp] theorem clearRegs_axl (s : State) (p : Nat → Bool) : (s.clearRegs p).axl = s.axl := rfl
@[simp] theorem clearRegs_otp (s : State) (p : Nat → Bool) : (s.clearRegs p).otp = s.otp := rfl
@[simp] theorem clearRegs_tim (s : State) (p : Nat → Bool) : (s.clearRegs p).tim = s.tim := rfl
@[simp] theorem clearRegs_ref (s : State) (p : Nat → Bool) : (s.clearRegs p).ref = s.ref := rfl
@[simp] theorem clearRegs_lane (s : State) (p : Nat → Bool) : (s.clearRegs p).lane = s.lane := rfl
@[simp] theorem clearRegs_mac (s : State) (p : Nat → Bool) : (s.clearRegs p).mac = s.mac := rfl
@[simp] theorem clearRegs_lad (s : State) (p : Nat → Bool) : (s.clearRegs p).lad = s.lad := rfl
@[simp] theorem clearRegs_pool (s : State) (p : Nat → Bool) : (s.clearRegs p).pool = s.pool := rfl
@[simp] theorem clearRegs_pat (s : State) (p : Nat → Bool) : (s.clearRegs p).pat = s.pat := rfl
@[simp] theorem clearRegs_shk (s : State) (p : Nat → Bool) : (s.clearRegs p).shk = s.shk := rfl
@[simp] theorem clearRegs_chm (s : State) (p : Nat → Bool) : (s.clearRegs p).chm = s.chm := rfl
@[simp] theorem clearRegs_aud (s : State) (p : Nat → Bool) : (s.clearRegs p).aud = s.aud := rfl
@[simp] theorem clearRegs_nwt (s : State) (p : Nat → Bool) : (s.clearRegs p).nwt = s.nwt := rfl
@[simp] theorem clearRegs_apt (s : State) (p : Nat → Bool) : (s.clearRegs p).apt = s.apt := rfl
@[simp] theorem clearRegs_meas (s : State) (p : Nat → Bool) : (s.clearRegs p).meas = s.meas := rfl
@[simp] theorem clearRegs_twn (s : State) (p : Nat → Bool) : (s.clearRegs p).twn = s.twn := rfl
@[simp] theorem clearRegs_key (s : State) (p : Nat → Bool) : (s.clearRegs p).key = s.key := rfl
@[simp] theorem clearRegs_gpio (s : State) (p : Nat → Bool) : (s.clearRegs p).gpio = s.gpio := rfl
@[simp] theorem clearRegs_bus (s : State) (p : Nat → Bool) : (s.clearRegs p).bus = s.bus := rfl

/-! ## `emit` -/

@[simp] theorem emit_pending (s : State) (o : Output) : (s.emit o).pending = s.pending := rfl
@[simp] theorem emit_free (s : State) (o : Output) : (s.emit o).free = s.free := rfl
@[simp] theorem emit_regs (s : State) (o : Output) : (s.emit o).regs = s.regs := rfl
@[simp] theorem emit_latches (s : State) (o : Output) : (s.emit o).latches = s.latches := rfl
@[simp] theorem emit_tick (s : State) (o : Output) : (s.emit o).tick = s.tick := rfl
@[simp] theorem emit_sys (s : State) (o : Output) : (s.emit o).sys = s.sys := rfl
@[simp] theorem emit_rst (s : State) (o : Output) : (s.emit o).rst = s.rst := rfl
@[simp] theorem emit_jnl (s : State) (o : Output) : (s.emit o).jnl = s.jnl := rfl
@[simp] theorem emit_jnlHead (s : State) (o : Output) : (s.emit o).jnlHead = s.jnlHead := rfl
@[simp] theorem emit_events (s : State) (o : Output) : (s.emit o).events = s.events := rfl
@[simp] theorem emit_cmd (s : State) (o : Output) : (s.emit o).cmd = s.cmd := rfl
@[simp] theorem emit_axl (s : State) (o : Output) : (s.emit o).axl = s.axl := rfl
@[simp] theorem emit_otp (s : State) (o : Output) : (s.emit o).otp = s.otp := rfl
@[simp] theorem emit_tim (s : State) (o : Output) : (s.emit o).tim = s.tim := rfl
@[simp] theorem emit_ref (s : State) (o : Output) : (s.emit o).ref = s.ref := rfl
@[simp] theorem emit_lane (s : State) (o : Output) : (s.emit o).lane = s.lane := rfl
@[simp] theorem emit_mac (s : State) (o : Output) : (s.emit o).mac = s.mac := rfl
@[simp] theorem emit_lad (s : State) (o : Output) : (s.emit o).lad = s.lad := rfl
@[simp] theorem emit_pool (s : State) (o : Output) : (s.emit o).pool = s.pool := rfl
@[simp] theorem emit_pat (s : State) (o : Output) : (s.emit o).pat = s.pat := rfl
@[simp] theorem emit_shk (s : State) (o : Output) : (s.emit o).shk = s.shk := rfl
@[simp] theorem emit_chm (s : State) (o : Output) : (s.emit o).chm = s.chm := rfl
@[simp] theorem emit_aud (s : State) (o : Output) : (s.emit o).aud = s.aud := rfl
@[simp] theorem emit_nwt (s : State) (o : Output) : (s.emit o).nwt = s.nwt := rfl
@[simp] theorem emit_apt (s : State) (o : Output) : (s.emit o).apt = s.apt := rfl
@[simp] theorem emit_meas (s : State) (o : Output) : (s.emit o).meas = s.meas := rfl
@[simp] theorem emit_twn (s : State) (o : Output) : (s.emit o).twn = s.twn := rfl
@[simp] theorem emit_key (s : State) (o : Output) : (s.emit o).key = s.key := rfl
@[simp] theorem emit_gpio (s : State) (o : Output) : (s.emit o).gpio = s.gpio := rfl
@[simp] theorem emit_bus (s : State) (o : Output) : (s.emit o).bus = s.bus := rfl

/-! ## `fresh` -/

@[simp] theorem fresh_pending (s : State) (w : Nat) : ((s.fresh w).2).pending = s.pending := rfl
@[simp] theorem fresh_out (s : State) (w : Nat) : ((s.fresh w).2).out = s.out := rfl
@[simp] theorem fresh_regs (s : State) (w : Nat) : ((s.fresh w).2).regs = s.regs := rfl
@[simp] theorem fresh_latches (s : State) (w : Nat) : ((s.fresh w).2).latches = s.latches := rfl
@[simp] theorem fresh_tick (s : State) (w : Nat) : ((s.fresh w).2).tick = s.tick := rfl
@[simp] theorem fresh_sys (s : State) (w : Nat) : ((s.fresh w).2).sys = s.sys := rfl
@[simp] theorem fresh_rst (s : State) (w : Nat) : ((s.fresh w).2).rst = s.rst := rfl
@[simp] theorem fresh_jnl (s : State) (w : Nat) : ((s.fresh w).2).jnl = s.jnl := rfl
@[simp] theorem fresh_jnlHead (s : State) (w : Nat) : ((s.fresh w).2).jnlHead = s.jnlHead := rfl
@[simp] theorem fresh_events (s : State) (w : Nat) : ((s.fresh w).2).events = s.events := rfl
@[simp] theorem fresh_cmd (s : State) (w : Nat) : ((s.fresh w).2).cmd = s.cmd := rfl
@[simp] theorem fresh_axl (s : State) (w : Nat) : ((s.fresh w).2).axl = s.axl := rfl
@[simp] theorem fresh_otp (s : State) (w : Nat) : ((s.fresh w).2).otp = s.otp := rfl
@[simp] theorem fresh_tim (s : State) (w : Nat) : ((s.fresh w).2).tim = s.tim := rfl
@[simp] theorem fresh_ref (s : State) (w : Nat) : ((s.fresh w).2).ref = s.ref := rfl
@[simp] theorem fresh_lane (s : State) (w : Nat) : ((s.fresh w).2).lane = s.lane := rfl
@[simp] theorem fresh_mac (s : State) (w : Nat) : ((s.fresh w).2).mac = s.mac := rfl
@[simp] theorem fresh_lad (s : State) (w : Nat) : ((s.fresh w).2).lad = s.lad := rfl
@[simp] theorem fresh_pool (s : State) (w : Nat) : ((s.fresh w).2).pool = s.pool := rfl
@[simp] theorem fresh_pat (s : State) (w : Nat) : ((s.fresh w).2).pat = s.pat := rfl
@[simp] theorem fresh_shk (s : State) (w : Nat) : ((s.fresh w).2).shk = s.shk := rfl
@[simp] theorem fresh_chm (s : State) (w : Nat) : ((s.fresh w).2).chm = s.chm := rfl
@[simp] theorem fresh_aud (s : State) (w : Nat) : ((s.fresh w).2).aud = s.aud := rfl
@[simp] theorem fresh_nwt (s : State) (w : Nat) : ((s.fresh w).2).nwt = s.nwt := rfl
@[simp] theorem fresh_apt (s : State) (w : Nat) : ((s.fresh w).2).apt = s.apt := rfl
@[simp] theorem fresh_meas (s : State) (w : Nat) : ((s.fresh w).2).meas = s.meas := rfl
@[simp] theorem fresh_twn (s : State) (w : Nat) : ((s.fresh w).2).twn = s.twn := rfl
@[simp] theorem fresh_key (s : State) (w : Nat) : ((s.fresh w).2).key = s.key := rfl
@[simp] theorem fresh_gpio (s : State) (w : Nat) : ((s.fresh w).2).gpio = s.gpio := rfl
@[simp] theorem fresh_bus (s : State) (w : Nat) : ((s.fresh w).2).bus = s.bus := rfl

/-! ## `freshBytes` -/

@[simp] theorem freshBytes_pending (s : State) (n : Nat) : ((s.freshBytes n).2).pending = s.pending := rfl
@[simp] theorem freshBytes_out (s : State) (n : Nat) : ((s.freshBytes n).2).out = s.out := rfl
@[simp] theorem freshBytes_regs (s : State) (n : Nat) : ((s.freshBytes n).2).regs = s.regs := rfl
@[simp] theorem freshBytes_latches (s : State) (n : Nat) : ((s.freshBytes n).2).latches = s.latches := rfl
@[simp] theorem freshBytes_tick (s : State) (n : Nat) : ((s.freshBytes n).2).tick = s.tick := rfl
@[simp] theorem freshBytes_sys (s : State) (n : Nat) : ((s.freshBytes n).2).sys = s.sys := rfl
@[simp] theorem freshBytes_rst (s : State) (n : Nat) : ((s.freshBytes n).2).rst = s.rst := rfl
@[simp] theorem freshBytes_jnl (s : State) (n : Nat) : ((s.freshBytes n).2).jnl = s.jnl := rfl
@[simp] theorem freshBytes_jnlHead (s : State) (n : Nat) : ((s.freshBytes n).2).jnlHead = s.jnlHead := rfl
@[simp] theorem freshBytes_events (s : State) (n : Nat) : ((s.freshBytes n).2).events = s.events := rfl
@[simp] theorem freshBytes_cmd (s : State) (n : Nat) : ((s.freshBytes n).2).cmd = s.cmd := rfl
@[simp] theorem freshBytes_axl (s : State) (n : Nat) : ((s.freshBytes n).2).axl = s.axl := rfl
@[simp] theorem freshBytes_otp (s : State) (n : Nat) : ((s.freshBytes n).2).otp = s.otp := rfl
@[simp] theorem freshBytes_tim (s : State) (n : Nat) : ((s.freshBytes n).2).tim = s.tim := rfl
@[simp] theorem freshBytes_ref (s : State) (n : Nat) : ((s.freshBytes n).2).ref = s.ref := rfl
@[simp] theorem freshBytes_lane (s : State) (n : Nat) : ((s.freshBytes n).2).lane = s.lane := rfl
@[simp] theorem freshBytes_mac (s : State) (n : Nat) : ((s.freshBytes n).2).mac = s.mac := rfl
@[simp] theorem freshBytes_lad (s : State) (n : Nat) : ((s.freshBytes n).2).lad = s.lad := rfl
@[simp] theorem freshBytes_pool (s : State) (n : Nat) : ((s.freshBytes n).2).pool = s.pool := rfl
@[simp] theorem freshBytes_pat (s : State) (n : Nat) : ((s.freshBytes n).2).pat = s.pat := rfl
@[simp] theorem freshBytes_shk (s : State) (n : Nat) : ((s.freshBytes n).2).shk = s.shk := rfl
@[simp] theorem freshBytes_chm (s : State) (n : Nat) : ((s.freshBytes n).2).chm = s.chm := rfl
@[simp] theorem freshBytes_aud (s : State) (n : Nat) : ((s.freshBytes n).2).aud = s.aud := rfl
@[simp] theorem freshBytes_nwt (s : State) (n : Nat) : ((s.freshBytes n).2).nwt = s.nwt := rfl
@[simp] theorem freshBytes_apt (s : State) (n : Nat) : ((s.freshBytes n).2).apt = s.apt := rfl
@[simp] theorem freshBytes_meas (s : State) (n : Nat) : ((s.freshBytes n).2).meas = s.meas := rfl
@[simp] theorem freshBytes_twn (s : State) (n : Nat) : ((s.freshBytes n).2).twn = s.twn := rfl
@[simp] theorem freshBytes_key (s : State) (n : Nat) : ((s.freshBytes n).2).key = s.key := rfl
@[simp] theorem freshBytes_gpio (s : State) (n : Nat) : ((s.freshBytes n).2).gpio = s.gpio := rfl
@[simp] theorem freshBytes_bus (s : State) (n : Nat) : ((s.freshBytes n).2).bus = s.bus := rfl

/-! ## `event` -/

@[simp] theorem event_pending (s : State) (b v c : Nat) (l : List Nat) : (s.event b v c l).pending = s.pending := rfl
@[simp] theorem event_out (s : State) (b v c : Nat) (l : List Nat) : (s.event b v c l).out = s.out := rfl
@[simp] theorem event_free (s : State) (b v c : Nat) (l : List Nat) : (s.event b v c l).free = s.free := rfl
@[simp] theorem event_regs (s : State) (b v c : Nat) (l : List Nat) : (s.event b v c l).regs = s.regs := rfl
@[simp] theorem event_latches (s : State) (b v c : Nat) (l : List Nat) : (s.event b v c l).latches = s.latches := rfl
@[simp] theorem event_tick (s : State) (b v c : Nat) (l : List Nat) : (s.event b v c l).tick = s.tick := rfl
@[simp] theorem event_sys (s : State) (b v c : Nat) (l : List Nat) : (s.event b v c l).sys = s.sys := rfl
@[simp] theorem event_rst (s : State) (b v c : Nat) (l : List Nat) : (s.event b v c l).rst = s.rst := rfl
@[simp] theorem event_jnl (s : State) (b v c : Nat) (l : List Nat) : (s.event b v c l).jnl = s.jnl := rfl
@[simp] theorem event_jnlHead (s : State) (b v c : Nat) (l : List Nat) : (s.event b v c l).jnlHead = s.jnlHead := rfl
@[simp] theorem event_cmd (s : State) (b v c : Nat) (l : List Nat) : (s.event b v c l).cmd = s.cmd := rfl
@[simp] theorem event_axl (s : State) (b v c : Nat) (l : List Nat) : (s.event b v c l).axl = s.axl := rfl
@[simp] theorem event_otp (s : State) (b v c : Nat) (l : List Nat) : (s.event b v c l).otp = s.otp := rfl
@[simp] theorem event_tim (s : State) (b v c : Nat) (l : List Nat) : (s.event b v c l).tim = s.tim := rfl
@[simp] theorem event_ref (s : State) (b v c : Nat) (l : List Nat) : (s.event b v c l).ref = s.ref := rfl
@[simp] theorem event_lane (s : State) (b v c : Nat) (l : List Nat) : (s.event b v c l).lane = s.lane := rfl
@[simp] theorem event_mac (s : State) (b v c : Nat) (l : List Nat) : (s.event b v c l).mac = s.mac := rfl
@[simp] theorem event_lad (s : State) (b v c : Nat) (l : List Nat) : (s.event b v c l).lad = s.lad := rfl
@[simp] theorem event_pool (s : State) (b v c : Nat) (l : List Nat) : (s.event b v c l).pool = s.pool := rfl
@[simp] theorem event_pat (s : State) (b v c : Nat) (l : List Nat) : (s.event b v c l).pat = s.pat := rfl
@[simp] theorem event_shk (s : State) (b v c : Nat) (l : List Nat) : (s.event b v c l).shk = s.shk := rfl
@[simp] theorem event_chm (s : State) (b v c : Nat) (l : List Nat) : (s.event b v c l).chm = s.chm := rfl
@[simp] theorem event_aud (s : State) (b v c : Nat) (l : List Nat) : (s.event b v c l).aud = s.aud := rfl
@[simp] theorem event_nwt (s : State) (b v c : Nat) (l : List Nat) : (s.event b v c l).nwt = s.nwt := rfl
@[simp] theorem event_apt (s : State) (b v c : Nat) (l : List Nat) : (s.event b v c l).apt = s.apt := rfl
@[simp] theorem event_meas (s : State) (b v c : Nat) (l : List Nat) : (s.event b v c l).meas = s.meas := rfl
@[simp] theorem event_twn (s : State) (b v c : Nat) (l : List Nat) : (s.event b v c l).twn = s.twn := rfl
@[simp] theorem event_key (s : State) (b v c : Nat) (l : List Nat) : (s.event b v c l).key = s.key := rfl
@[simp] theorem event_gpio (s : State) (b v c : Nat) (l : List Nat) : (s.event b v c l).gpio = s.gpio := rfl
@[simp] theorem event_bus (s : State) (b v c : Nat) (l : List Nat) : (s.event b v c l).bus = s.bus := rfl

/-! ## `journal` -/

@[simp] theorem journal_pending (s : State) (e : JnlEntry) : (s.journal e).pending = s.pending := rfl
@[simp] theorem journal_out (s : State) (e : JnlEntry) : (s.journal e).out = s.out := rfl
@[simp] theorem journal_free (s : State) (e : JnlEntry) : (s.journal e).free = s.free := rfl
@[simp] theorem journal_regs (s : State) (e : JnlEntry) : (s.journal e).regs = s.regs := rfl
@[simp] theorem journal_latches (s : State) (e : JnlEntry) : (s.journal e).latches = s.latches := rfl
@[simp] theorem journal_tick (s : State) (e : JnlEntry) : (s.journal e).tick = s.tick := rfl
@[simp] theorem journal_sys (s : State) (e : JnlEntry) : (s.journal e).sys = s.sys := rfl
@[simp] theorem journal_rst (s : State) (e : JnlEntry) : (s.journal e).rst = s.rst := rfl
@[simp] theorem journal_events (s : State) (e : JnlEntry) : (s.journal e).events = s.events := rfl
@[simp] theorem journal_cmd (s : State) (e : JnlEntry) : (s.journal e).cmd = s.cmd := rfl
@[simp] theorem journal_axl (s : State) (e : JnlEntry) : (s.journal e).axl = s.axl := rfl
@[simp] theorem journal_otp (s : State) (e : JnlEntry) : (s.journal e).otp = s.otp := rfl
@[simp] theorem journal_tim (s : State) (e : JnlEntry) : (s.journal e).tim = s.tim := rfl
@[simp] theorem journal_ref (s : State) (e : JnlEntry) : (s.journal e).ref = s.ref := rfl
@[simp] theorem journal_lane (s : State) (e : JnlEntry) : (s.journal e).lane = s.lane := rfl
@[simp] theorem journal_mac (s : State) (e : JnlEntry) : (s.journal e).mac = s.mac := rfl
@[simp] theorem journal_lad (s : State) (e : JnlEntry) : (s.journal e).lad = s.lad := rfl
@[simp] theorem journal_pool (s : State) (e : JnlEntry) : (s.journal e).pool = s.pool := rfl
@[simp] theorem journal_pat (s : State) (e : JnlEntry) : (s.journal e).pat = s.pat := rfl
@[simp] theorem journal_shk (s : State) (e : JnlEntry) : (s.journal e).shk = s.shk := rfl
@[simp] theorem journal_chm (s : State) (e : JnlEntry) : (s.journal e).chm = s.chm := rfl
@[simp] theorem journal_aud (s : State) (e : JnlEntry) : (s.journal e).aud = s.aud := rfl
@[simp] theorem journal_nwt (s : State) (e : JnlEntry) : (s.journal e).nwt = s.nwt := rfl
@[simp] theorem journal_apt (s : State) (e : JnlEntry) : (s.journal e).apt = s.apt := rfl
@[simp] theorem journal_meas (s : State) (e : JnlEntry) : (s.journal e).meas = s.meas := rfl
@[simp] theorem journal_twn (s : State) (e : JnlEntry) : (s.journal e).twn = s.twn := rfl
@[simp] theorem journal_key (s : State) (e : JnlEntry) : (s.journal e).key = s.key := rfl
@[simp] theorem journal_gpio (s : State) (e : JnlEntry) : (s.journal e).gpio = s.gpio := rfl
@[simp] theorem journal_bus (s : State) (e : JnlEntry) : (s.journal e).bus = s.bus := rfl

/-! ## `journalOwn` -/

@[simp] theorem journalOwn_pending (s : State) (k o : Nat) : (s.journalOwn k o).pending = s.pending := rfl
@[simp] theorem journalOwn_out (s : State) (k o : Nat) : (s.journalOwn k o).out = s.out := rfl
@[simp] theorem journalOwn_free (s : State) (k o : Nat) : (s.journalOwn k o).free = s.free := rfl
@[simp] theorem journalOwn_regs (s : State) (k o : Nat) : (s.journalOwn k o).regs = s.regs := rfl
@[simp] theorem journalOwn_latches (s : State) (k o : Nat) : (s.journalOwn k o).latches = s.latches := rfl
@[simp] theorem journalOwn_tick (s : State) (k o : Nat) : (s.journalOwn k o).tick = s.tick := rfl
@[simp] theorem journalOwn_sys (s : State) (k o : Nat) : (s.journalOwn k o).sys = s.sys := rfl
@[simp] theorem journalOwn_rst (s : State) (k o : Nat) : (s.journalOwn k o).rst = s.rst := rfl
@[simp] theorem journalOwn_events (s : State) (k o : Nat) : (s.journalOwn k o).events = s.events := rfl
@[simp] theorem journalOwn_cmd (s : State) (k o : Nat) : (s.journalOwn k o).cmd = s.cmd := rfl
@[simp] theorem journalOwn_axl (s : State) (k o : Nat) : (s.journalOwn k o).axl = s.axl := rfl
@[simp] theorem journalOwn_otp (s : State) (k o : Nat) : (s.journalOwn k o).otp = s.otp := rfl
@[simp] theorem journalOwn_tim (s : State) (k o : Nat) : (s.journalOwn k o).tim = s.tim := rfl
@[simp] theorem journalOwn_ref (s : State) (k o : Nat) : (s.journalOwn k o).ref = s.ref := rfl
@[simp] theorem journalOwn_lane (s : State) (k o : Nat) : (s.journalOwn k o).lane = s.lane := rfl
@[simp] theorem journalOwn_mac (s : State) (k o : Nat) : (s.journalOwn k o).mac = s.mac := rfl
@[simp] theorem journalOwn_lad (s : State) (k o : Nat) : (s.journalOwn k o).lad = s.lad := rfl
@[simp] theorem journalOwn_pool (s : State) (k o : Nat) : (s.journalOwn k o).pool = s.pool := rfl
@[simp] theorem journalOwn_pat (s : State) (k o : Nat) : (s.journalOwn k o).pat = s.pat := rfl
@[simp] theorem journalOwn_shk (s : State) (k o : Nat) : (s.journalOwn k o).shk = s.shk := rfl
@[simp] theorem journalOwn_chm (s : State) (k o : Nat) : (s.journalOwn k o).chm = s.chm := rfl
@[simp] theorem journalOwn_aud (s : State) (k o : Nat) : (s.journalOwn k o).aud = s.aud := rfl
@[simp] theorem journalOwn_nwt (s : State) (k o : Nat) : (s.journalOwn k o).nwt = s.nwt := rfl
@[simp] theorem journalOwn_apt (s : State) (k o : Nat) : (s.journalOwn k o).apt = s.apt := rfl
@[simp] theorem journalOwn_meas (s : State) (k o : Nat) : (s.journalOwn k o).meas = s.meas := rfl
@[simp] theorem journalOwn_twn (s : State) (k o : Nat) : (s.journalOwn k o).twn = s.twn := rfl
@[simp] theorem journalOwn_key (s : State) (k o : Nat) : (s.journalOwn k o).key = s.key := rfl
@[simp] theorem journalOwn_gpio (s : State) (k o : Nat) : (s.journalOwn k o).gpio = s.gpio := rfl
@[simp] theorem journalOwn_bus (s : State) (k o : Nat) : (s.journalOwn k o).bus = s.bus := rfl

/-! ## `enterMode` -/

@[simp] theorem enterMode_pending (s : State) (m : Mode) (c : Nat) : (s.enterMode m c).pending = s.pending := rfl
@[simp] theorem enterMode_out (s : State) (m : Mode) (c : Nat) : (s.enterMode m c).out = s.out := rfl
@[simp] theorem enterMode_free (s : State) (m : Mode) (c : Nat) : (s.enterMode m c).free = s.free := rfl
@[simp] theorem enterMode_regs (s : State) (m : Mode) (c : Nat) : (s.enterMode m c).regs = s.regs := rfl
@[simp] theorem enterMode_latches (s : State) (m : Mode) (c : Nat) : (s.enterMode m c).latches = s.latches := rfl
@[simp] theorem enterMode_tick (s : State) (m : Mode) (c : Nat) : (s.enterMode m c).tick = s.tick := rfl
@[simp] theorem enterMode_rst (s : State) (m : Mode) (c : Nat) : (s.enterMode m c).rst = s.rst := rfl
@[simp] theorem enterMode_events (s : State) (m : Mode) (c : Nat) : (s.enterMode m c).events = s.events := rfl
@[simp] theorem enterMode_cmd (s : State) (m : Mode) (c : Nat) : (s.enterMode m c).cmd = s.cmd := rfl
@[simp] theorem enterMode_axl (s : State) (m : Mode) (c : Nat) : (s.enterMode m c).axl = s.axl := rfl
@[simp] theorem enterMode_otp (s : State) (m : Mode) (c : Nat) : (s.enterMode m c).otp = s.otp := rfl
@[simp] theorem enterMode_tim (s : State) (m : Mode) (c : Nat) : (s.enterMode m c).tim = s.tim := rfl
@[simp] theorem enterMode_ref (s : State) (m : Mode) (c : Nat) : (s.enterMode m c).ref = s.ref := rfl
@[simp] theorem enterMode_mac (s : State) (m : Mode) (c : Nat) : (s.enterMode m c).mac = s.mac := rfl
@[simp] theorem enterMode_lad (s : State) (m : Mode) (c : Nat) : (s.enterMode m c).lad = s.lad := rfl
@[simp] theorem enterMode_pool (s : State) (m : Mode) (c : Nat) : (s.enterMode m c).pool = s.pool := rfl
@[simp] theorem enterMode_pat (s : State) (m : Mode) (c : Nat) : (s.enterMode m c).pat = s.pat := rfl
@[simp] theorem enterMode_shk (s : State) (m : Mode) (c : Nat) : (s.enterMode m c).shk = s.shk := rfl
@[simp] theorem enterMode_chm (s : State) (m : Mode) (c : Nat) : (s.enterMode m c).chm = s.chm := rfl
@[simp] theorem enterMode_aud (s : State) (m : Mode) (c : Nat) : (s.enterMode m c).aud = s.aud := rfl
@[simp] theorem enterMode_nwt (s : State) (m : Mode) (c : Nat) : (s.enterMode m c).nwt = s.nwt := rfl
@[simp] theorem enterMode_apt (s : State) (m : Mode) (c : Nat) : (s.enterMode m c).apt = s.apt := rfl
@[simp] theorem enterMode_meas (s : State) (m : Mode) (c : Nat) : (s.enterMode m c).meas = s.meas := rfl
@[simp] theorem enterMode_twn (s : State) (m : Mode) (c : Nat) : (s.enterMode m c).twn = s.twn := rfl
@[simp] theorem enterMode_key (s : State) (m : Mode) (c : Nat) : (s.enterMode m c).key = s.key := rfl
@[simp] theorem enterMode_gpio (s : State) (m : Mode) (c : Nat) : (s.enterMode m c).gpio = s.gpio := rfl
@[simp] theorem enterMode_bus (s : State) (m : Mode) (c : Nat) : (s.enterMode m c).bus = s.bus := rfl

/-! ## `setRas` -/

@[simp] theorem setRas_pending (s : State) (d : Nat) (r : RasState) : (s.setRas d r).pending = s.pending := rfl
@[simp] theorem setRas_out (s : State) (d : Nat) (r : RasState) : (s.setRas d r).out = s.out := rfl
@[simp] theorem setRas_free (s : State) (d : Nat) (r : RasState) : (s.setRas d r).free = s.free := rfl
@[simp] theorem setRas_regs (s : State) (d : Nat) (r : RasState) : (s.setRas d r).regs = s.regs := rfl
@[simp] theorem setRas_latches (s : State) (d : Nat) (r : RasState) : (s.setRas d r).latches = s.latches := rfl
@[simp] theorem setRas_tick (s : State) (d : Nat) (r : RasState) : (s.setRas d r).tick = s.tick := rfl
@[simp] theorem setRas_sys (s : State) (d : Nat) (r : RasState) : (s.setRas d r).sys = s.sys := rfl
@[simp] theorem setRas_rst (s : State) (d : Nat) (r : RasState) : (s.setRas d r).rst = s.rst := rfl
@[simp] theorem setRas_jnl (s : State) (d : Nat) (r : RasState) : (s.setRas d r).jnl = s.jnl := rfl
@[simp] theorem setRas_jnlHead (s : State) (d : Nat) (r : RasState) : (s.setRas d r).jnlHead = s.jnlHead := rfl
@[simp] theorem setRas_events (s : State) (d : Nat) (r : RasState) : (s.setRas d r).events = s.events := rfl
@[simp] theorem setRas_cmd (s : State) (d : Nat) (r : RasState) : (s.setRas d r).cmd = s.cmd := rfl
@[simp] theorem setRas_axl (s : State) (d : Nat) (r : RasState) : (s.setRas d r).axl = s.axl := rfl
@[simp] theorem setRas_otp (s : State) (d : Nat) (r : RasState) : (s.setRas d r).otp = s.otp := rfl
@[simp] theorem setRas_tim (s : State) (d : Nat) (r : RasState) : (s.setRas d r).tim = s.tim := rfl
@[simp] theorem setRas_lane (s : State) (d : Nat) (r : RasState) : (s.setRas d r).lane = s.lane := rfl
@[simp] theorem setRas_mac (s : State) (d : Nat) (r : RasState) : (s.setRas d r).mac = s.mac := rfl
@[simp] theorem setRas_lad (s : State) (d : Nat) (r : RasState) : (s.setRas d r).lad = s.lad := rfl
@[simp] theorem setRas_pool (s : State) (d : Nat) (r : RasState) : (s.setRas d r).pool = s.pool := rfl
@[simp] theorem setRas_pat (s : State) (d : Nat) (r : RasState) : (s.setRas d r).pat = s.pat := rfl
@[simp] theorem setRas_shk (s : State) (d : Nat) (r : RasState) : (s.setRas d r).shk = s.shk := rfl
@[simp] theorem setRas_chm (s : State) (d : Nat) (r : RasState) : (s.setRas d r).chm = s.chm := rfl
@[simp] theorem setRas_aud (s : State) (d : Nat) (r : RasState) : (s.setRas d r).aud = s.aud := rfl
@[simp] theorem setRas_nwt (s : State) (d : Nat) (r : RasState) : (s.setRas d r).nwt = s.nwt := rfl
@[simp] theorem setRas_apt (s : State) (d : Nat) (r : RasState) : (s.setRas d r).apt = s.apt := rfl
@[simp] theorem setRas_meas (s : State) (d : Nat) (r : RasState) : (s.setRas d r).meas = s.meas := rfl
@[simp] theorem setRas_twn (s : State) (d : Nat) (r : RasState) : (s.setRas d r).twn = s.twn := rfl
@[simp] theorem setRas_key (s : State) (d : Nat) (r : RasState) : (s.setRas d r).key = s.key := rfl
@[simp] theorem setRas_gpio (s : State) (d : Nat) (r : RasState) : (s.setRas d r).gpio = s.gpio := rfl
@[simp] theorem setRas_bus (s : State) (d : Nat) (r : RasState) : (s.setRas d r).bus = s.bus := rfl

/-! ## `begin` -/

@[simp] theorem begin_pending (s : State) : (s.begin).pending = s.pending := rfl
@[simp] theorem begin_free (s : State) : (s.begin).free = s.free := rfl
@[simp] theorem begin_regs (s : State) : (s.begin).regs = s.regs := rfl
@[simp] theorem begin_latches (s : State) : (s.begin).latches = s.latches := rfl
@[simp] theorem begin_tick (s : State) : (s.begin).tick = s.tick := rfl
@[simp] theorem begin_sys (s : State) : (s.begin).sys = s.sys := rfl
@[simp] theorem begin_rst (s : State) : (s.begin).rst = s.rst := rfl
@[simp] theorem begin_jnl (s : State) : (s.begin).jnl = s.jnl := rfl
@[simp] theorem begin_jnlHead (s : State) : (s.begin).jnlHead = s.jnlHead := rfl
@[simp] theorem begin_events (s : State) : (s.begin).events = s.events := rfl
@[simp] theorem begin_cmd (s : State) : (s.begin).cmd = s.cmd := rfl
@[simp] theorem begin_axl (s : State) : (s.begin).axl = s.axl := rfl
@[simp] theorem begin_otp (s : State) : (s.begin).otp = s.otp := rfl
@[simp] theorem begin_tim (s : State) : (s.begin).tim = s.tim := rfl
@[simp] theorem begin_ref (s : State) : (s.begin).ref = s.ref := rfl
@[simp] theorem begin_lane (s : State) : (s.begin).lane = s.lane := rfl
@[simp] theorem begin_mac (s : State) : (s.begin).mac = s.mac := rfl
@[simp] theorem begin_lad (s : State) : (s.begin).lad = s.lad := rfl
@[simp] theorem begin_pool (s : State) : (s.begin).pool = s.pool := rfl
@[simp] theorem begin_pat (s : State) : (s.begin).pat = s.pat := rfl
@[simp] theorem begin_shk (s : State) : (s.begin).shk = s.shk := rfl
@[simp] theorem begin_chm (s : State) : (s.begin).chm = s.chm := rfl
@[simp] theorem begin_aud (s : State) : (s.begin).aud = s.aud := rfl
@[simp] theorem begin_nwt (s : State) : (s.begin).nwt = s.nwt := rfl
@[simp] theorem begin_apt (s : State) : (s.begin).apt = s.apt := rfl
@[simp] theorem begin_meas (s : State) : (s.begin).meas = s.meas := rfl
@[simp] theorem begin_twn (s : State) : (s.begin).twn = s.twn := rfl
@[simp] theorem begin_key (s : State) : (s.begin).key = s.key := rfl
@[simp] theorem begin_gpio (s : State) : (s.begin).gpio = s.gpio := rfl
@[simp] theorem begin_bus (s : State) : (s.begin).bus = s.bus := rfl

/-! ## `sendVec` -/

@[simp] theorem sendVec_pending (s : State) : (s.sendVec).pending = s.pending := rfl
@[simp] theorem sendVec_free (s : State) : (s.sendVec).free = s.free := rfl
@[simp] theorem sendVec_regs (s : State) : (s.sendVec).regs = s.regs := rfl
@[simp] theorem sendVec_latches (s : State) : (s.sendVec).latches = s.latches := rfl
@[simp] theorem sendVec_tick (s : State) : (s.sendVec).tick = s.tick := rfl
@[simp] theorem sendVec_sys (s : State) : (s.sendVec).sys = s.sys := rfl
@[simp] theorem sendVec_rst (s : State) : (s.sendVec).rst = s.rst := rfl
@[simp] theorem sendVec_jnl (s : State) : (s.sendVec).jnl = s.jnl := rfl
@[simp] theorem sendVec_jnlHead (s : State) : (s.sendVec).jnlHead = s.jnlHead := rfl
@[simp] theorem sendVec_events (s : State) : (s.sendVec).events = s.events := rfl
@[simp] theorem sendVec_cmd (s : State) : (s.sendVec).cmd = s.cmd := rfl
@[simp] theorem sendVec_axl (s : State) : (s.sendVec).axl = s.axl := rfl
@[simp] theorem sendVec_otp (s : State) : (s.sendVec).otp = s.otp := rfl
@[simp] theorem sendVec_tim (s : State) : (s.sendVec).tim = s.tim := rfl
@[simp] theorem sendVec_ref (s : State) : (s.sendVec).ref = s.ref := rfl
@[simp] theorem sendVec_lane (s : State) : (s.sendVec).lane = s.lane := rfl
@[simp] theorem sendVec_mac (s : State) : (s.sendVec).mac = s.mac := rfl
@[simp] theorem sendVec_lad (s : State) : (s.sendVec).lad = s.lad := rfl
@[simp] theorem sendVec_pool (s : State) : (s.sendVec).pool = s.pool := rfl
@[simp] theorem sendVec_pat (s : State) : (s.sendVec).pat = s.pat := rfl
@[simp] theorem sendVec_shk (s : State) : (s.sendVec).shk = s.shk := rfl
@[simp] theorem sendVec_chm (s : State) : (s.sendVec).chm = s.chm := rfl
@[simp] theorem sendVec_aud (s : State) : (s.sendVec).aud = s.aud := rfl
@[simp] theorem sendVec_nwt (s : State) : (s.sendVec).nwt = s.nwt := rfl
@[simp] theorem sendVec_apt (s : State) : (s.sendVec).apt = s.apt := rfl
@[simp] theorem sendVec_meas (s : State) : (s.sendVec).meas = s.meas := rfl
@[simp] theorem sendVec_twn (s : State) : (s.sendVec).twn = s.twn := rfl
@[simp] theorem sendVec_key (s : State) : (s.sendVec).key = s.key := rfl
@[simp] theorem sendVec_gpio (s : State) : (s.sendVec).gpio = s.gpio := rfl
@[simp] theorem sendVec_bus (s : State) : (s.sendVec).bus = s.bus := rfl

/-! ## Fields written -/

@[simp] theorem setReg_regs (s : State) (a : Nat) (w : Word) : (s.setReg a w).regs = sset resetWord s.regs a w := rfl
@[simp] theorem emit_out (s : State) (o : Output) : (s.emit o).out = s.out ++ [o] := rfl
@[simp] theorem fresh_free (s : State) (w : Nat) : (s.fresh w).2.free = s.free + 1 := rfl
@[simp] theorem freshBytes_free (s : State) (n : Nat) : (s.freshBytes n).2.free = s.free + 1 := rfl
@[simp] theorem event_events (s : State) (b v c : Nat) (l : List Nat) :
    (s.event b v c l).events = s.events ++ [⟨b, v, c, l, s.sys.epoch, s.tick⟩] := rfl
@[simp] theorem journal_jnlHead (s : State) (e : JnlEntry) : (s.journal e).jnlHead = s.jnlHead + 1 := rfl
@[simp] theorem enterMode_mode (s : State) (m : Mode) (c : Nat) : (s.enterMode m c).sys.mode = m := rfl
@[simp] theorem enterMode_lastCause (s : State) (m : Mode) (c : Nat) : (s.enterMode m c).sys.lastCause = c := rfl
@[simp] theorem enterMode_modeEpoch (s : State) (m : Mode) (c : Nat) : (s.enterMode m c).sys.modeEpoch = s.sys.epoch := rfl
@[simp] theorem enterMode_epoch (s : State) (m : Mode) (c : Nat) : (s.enterMode m c).sys.epoch = s.sys.epoch := rfl
@[simp] theorem enterMode_role (s : State) (m : Mode) (c : Nat) : (s.enterMode m c).sys.role = s.sys.role := rfl
@[simp] theorem begin_out (s : State) : s.begin.out = [] := rfl

/-- Register words are read from `regs` alone. -/
theorem reg_of_regs (s t : State) (h : s.regs = t.regs) (a : Nat) : s.reg a = t.reg a := by simp [reg, h]

/-- Fields are read from `regs` alone. -/
theorem fld_of_regs (s t : State) (h : s.regs = t.regs) (f : Fld) (i j : Nat) : s.fld f i j = t.fld f i j := by
  simp [fld, reg_of_regs s t h]

@[simp] theorem commit_free (s t : State) : (s.commit t).free = t.free := by
  unfold commit; split <;> rfl
@[simp] theorem commit_regs (s t : State) : (s.commit t).regs = t.regs := by
  unfold commit; split <;> rfl
@[simp] theorem commit_latches (s t : State) : (s.commit t).latches = t.latches := by
  unfold commit; split <;> rfl
@[simp] theorem commit_tick (s t : State) : (s.commit t).tick = t.tick := by
  unfold commit; split <;> rfl
@[simp] theorem commit_sys (s t : State) : (s.commit t).sys = t.sys := by
  unfold commit; split <;> rfl
@[simp] theorem commit_rst (s t : State) : (s.commit t).rst = t.rst := by
  unfold commit; split <;> rfl
@[simp] theorem commit_jnlHead (s t : State) : (s.commit t).jnlHead = t.jnlHead := by
  unfold commit; split <;> rfl
@[simp] theorem commit_events (s t : State) : (s.commit t).events = t.events := by
  unfold commit; split <;> rfl
@[simp] theorem commit_axl (s t : State) : (s.commit t).axl = t.axl := by
  unfold commit; split <;> rfl
@[simp] theorem commit_otp (s t : State) : (s.commit t).otp = t.otp := by
  unfold commit; split <;> rfl
@[simp] theorem commit_tim (s t : State) : (s.commit t).tim = t.tim := by
  unfold commit; split <;> rfl
@[simp] theorem commit_ref (s t : State) : (s.commit t).ref = t.ref := by
  unfold commit; split <;> rfl
@[simp] theorem commit_lane (s t : State) : (s.commit t).lane = t.lane := by
  unfold commit; split <;> rfl
@[simp] theorem commit_mac (s t : State) : (s.commit t).mac = t.mac := by
  unfold commit; split <;> rfl
@[simp] theorem commit_lad (s t : State) : (s.commit t).lad = t.lad := by
  unfold commit; split <;> rfl
@[simp] theorem commit_pool (s t : State) : (s.commit t).pool = t.pool := by
  unfold commit; split <;> rfl
@[simp] theorem commit_pat (s t : State) : (s.commit t).pat = t.pat := by
  unfold commit; split <;> rfl
@[simp] theorem commit_shk (s t : State) : (s.commit t).shk = t.shk := by
  unfold commit; split <;> rfl
@[simp] theorem commit_chm (s t : State) : (s.commit t).chm = t.chm := by
  unfold commit; split <;> rfl
@[simp] theorem commit_aud (s t : State) : (s.commit t).aud = t.aud := by
  unfold commit; split <;> rfl
@[simp] theorem commit_nwt (s t : State) : (s.commit t).nwt = t.nwt := by
  unfold commit; split <;> rfl
@[simp] theorem commit_apt (s t : State) : (s.commit t).apt = t.apt := by
  unfold commit; split <;> rfl
@[simp] theorem commit_meas (s t : State) : (s.commit t).meas = t.meas := by
  unfold commit; split <;> rfl
@[simp] theorem commit_twn (s t : State) : (s.commit t).twn = t.twn := by
  unfold commit; split <;> rfl
@[simp] theorem commit_key (s t : State) : (s.commit t).key = t.key := by
  unfold commit; split <;> rfl
@[simp] theorem commit_gpio (s t : State) : (s.commit t).gpio = t.gpio := by
  unfold commit; split <;> rfl
@[simp] theorem commit_bus (s t : State) : (s.commit t).bus = t.bus := by
  unfold commit; split <;> rfl
@[simp] theorem commit_pending (s t : State) : (s.commit t).pending = s.pending := rfl
@[simp] theorem commit_jnl (s t : State) : (s.commit t).jnl = lastN 16384 t.jnl := by
  simp only [commit]; split <;> simp only [sendVec, emit]
@[simp] theorem commit_stored (s t : State) : (s.commit t).cmd.stored = boundStored t.cmd.stored := by
  simp only [commit]; split <;> simp only [sendVec, emit]

/-- The command engine's other parts are as the effect left them. -/
theorem commit_cmd (s t : State) : (s.commit t).cmd = { t.cmd with stored := boundStored t.cmd.stored } := by
  simp only [commit]; split <;> simp only [sendVec, emit]

/-- The outputs are the effect's, with the interrupt vector where a line has risen. -/
theorem commit_out (s t : State) :
    (s.commit t).out = if s.lineRose t then t.out ++ [Output.msix (t.word0 F.SYS_INT_VEC_VEC.off).toNat] else t.out := by
  unfold commit; split <;> rfl

@[simp] theorem reg_commit (s t : State) (a : Nat) : (s.commit t).reg a = t.reg a := reg_of_regs _ _ (commit_regs s t) a
@[simp] theorem fld_commit (s t : State) (f : Fld) (i j : Nat) : (s.commit t).fld f i j = t.fld f i j :=
  fld_of_regs _ _ (commit_regs s t) f i j
@[simp] theorem fld_begin (s : State) (f : Fld) (i j : Nat) : s.begin.fld f i j = s.fld f i j := rfl
@[simp] theorem reg_begin (s : State) (a : Nat) : s.begin.reg a = s.reg a := rfl

end Sys2Proof.Machine.State
end

