-- ==== Sys2Proof/Laws/Commit.lean ====
section
/-! SUPPORT. What every row's frame says: the next state of a row from its effect, and the bounds on the stores. -/

namespace Sys2Proof.Machine

theorem sendVec_kept (t : State) :
    t.sendVec.kept = { t.kept with out := t.out ++ [.msix (t.word0 F.SYS_INT_VEC_VEC.off).toNat] } := by
  unfold State.kept
  rw [State.sendVec_jnl, State.sendVec_cmd]
  rfl

/-- A committed state is the effect's state with the stores bounded, the queue of before, and the outputs of the step. -/
theorem commit_eq (s t : State) (h : t.pending = s.pending) :
    s.commit t = { t.kept with out := t.out } ∨
      s.commit t = { t.kept with out := t.out ++ [.msix (t.word0 F.SYS_INT_VEC_VEC.off).toNat] } := by
  unfold State.commit
  split
  · right
    rw [← sendVec_kept, ← h, ← State.sendVec_pending t]
    rfl
  · left
    rw [← h]
    rfl

/-- A row whose effect is `e` up to outputs does `e`. -/
theorem does_of {i : Instr} {f : State → State} {s e : State} {o : List Output} (hx : exec i s = runEff f s)
    (hf : f s.begin = { e with out := o }) : Does i s e := by
  rw [Does, hx, runEff, hf, State.commit]
  split
  · refine ⟨o ++ [.msix (e.word0 F.SYS_INT_VEC_VEC.off).toNat], ?_⟩
    simp only [State.sendVec_jnl, State.sendVec_cmd]
    rfl
  · exact ⟨o, rfl⟩

/-- The same where the effect's own outputs are left unsaid. -/
theorem does_self {i : Instr} {f : State → State} {s e : State} (hx : exec i s = runEff f s) (hf : f s.begin = e) : Does i s e :=
  does_of (o := e.out) hx hf

/-- The same, with the outputs. -/
theorem hands_of {i : Instr} {f : State → State} {s e : State} {o : List Output} (hx : exec i s = runEff f s)
    (hf : f s.begin = { e with out := o }) : Hands i s e o := by
  rw [Hands, hx, runEff, hf, State.commit]
  split
  · right
    simp only [State.sendVec_jnl, State.sendVec_cmd]
    rfl
  · left
    rfl

/-- What a row does, it does whatever it hands out. -/
theorem Hands.does {i : Instr} {s e : State} {o : List Output} (h : Hands i s e o) : Does i s e :=
  h.elim (fun h => ⟨_, h⟩) (fun h => ⟨_, h⟩)

/-- A row's next state from its effect, for the fields that neither the stores' bounds nor the outputs touch. -/
theorem runEff_next (f : State → State) (s : State) : runEff f s = .next (s.commit (f s.begin)) := rfl

@[simp] theorem commit_regs (s t : State) : (s.commit t).regs = t.regs := by unfold State.commit; split <;> rfl
@[simp] theorem commit_sys (s t : State) : (s.commit t).sys = t.sys := by unfold State.commit; split <;> rfl
@[simp] theorem commit_pendingNext (s t : State) : (s.commit t).pending = s.pending := by unfold State.commit; split <;> rfl
@[simp] theorem commit_jnlNext (s t : State) : (s.commit t).jnl = lastN 16384 t.jnl := by
  unfold State.commit; split <;> simp only [State.sendVec_jnl]
@[simp] theorem commit_events (s t : State) : (s.commit t).events = t.events := by unfold State.commit; split <;> rfl
@[simp] theorem commit_admitted (s t : State) : (s.commit t).cmd.admitted = t.cmd.admitted := by
  unfold State.commit; split <;> rfl
@[simp] theorem commit_unreleased (s t : State) : (s.commit t).cmd.unreleased = t.cmd.unreleased := by
  unfold State.commit; split <;> rfl
@[simp] theorem commit_storedNext (s t : State) : (s.commit t).cmd.stored = boundStored t.cmd.stored := by
  unfold State.commit; split <;> simp only [State.sendVec_cmd]
@[simp] theorem commit_reg (s t : State) (a : Nat) : (s.commit t).reg a = t.reg a := by
  simp only [State.reg, commit_regs]
@[simp] theorem commit_fld (s t : State) (f : Fld) (i j : Nat) : (s.commit t).fld f i j = t.fld f i j := by
  simp only [State.fld, commit_reg]

theorem lastN_suffix {α : Type} (n : Nat) (l : List α) : lastN n l <:+ l := by
  induction l with
  | nil => exact List.suffix_refl _
  | cons x l ih =>
    simp only [lastN]
    split
    · exact List.suffix_refl _
    · exact ih.trans (List.suffix_cons x l)

theorem lastN_length {α : Type} (n : Nat) (l : List α) : (lastN n l).length ≤ n := by
  induction l with
  | nil => exact Nat.zero_le n
  | cons x l ih =>
    simp only [lastN]
    split
    · simp only [List.length_cons]; omega
    · exact ih

theorem lastN_of_le {α : Type} (n : Nat) (l : List α) (h : l.length ≤ n) : lastN n l = l := by
  cases l with
  | nil => rfl
  | cons x l =>
    simp only [List.length_cons] at h
    simp only [lastN, if_pos (show l.length < n by omega)]

/-- What one source keeps of the bounded store is the last of what it had. -/
theorem filter_boundStored (l : List StoredReply) (k : Nat) (hk : k < 16) :
    (boundStored l).filter (fun x => x.src == k) = lastN 256 (l.filter (fun x => x.src == k)) := by
  have one (a : Nat) : (lastN 256 (l.filter (fun x => x.src == a))).filter (fun x => x.src == k) =
      if a = k then lastN 256 (l.filter (fun x => x.src == k)) else [] := by
    split
    · rename_i h
      subst h
      rw [List.filter_eq_self]
      intro x hx
      exact (List.mem_filter.mp ((lastN_suffix _ _).mem hx)).2
    · rename_i h
      rw [List.filter_eq_nil_iff]
      intro x hx hxk
      have hx' := (List.mem_filter.mp ((lastN_suffix _ _).mem hx)).2
      simp only [beq_iff_eq] at hx' hxk
      omega
  have all (r : List Nat) (hr : r.Nodup) :
      (r.flatMap (fun a => lastN 256 (l.filter (fun x => x.src == a)))).filter (fun x => x.src == k) =
        if k ∈ r then lastN 256 (l.filter (fun x => x.src == k)) else [] := by
    induction r with
    | nil => rfl
    | cons a r ih =>
      rw [List.flatMap_cons, List.filter_append, one a, ih (List.nodup_cons.mp hr).2]
      by_cases ha : a = k
      · subst ha
        simp [(List.nodup_cons.mp hr).1]
      · simp [ha, Ne.symm ha]
  rw [boundStored, all _ List.nodup_range, if_pos (List.mem_range.mpr hk)]

theorem filter_boundStored_out (l : List StoredReply) (k : Nat) (hk : 16 ≤ k) :
    (boundStored l).filter (fun x => x.src == k) = [] := by
  rw [List.filter_eq_nil_iff]
  intro x hx hxk
  obtain ⟨a, ha, hxa⟩ := List.mem_flatMap.mp hx
  have hx' := (List.mem_filter.mp ((lastN_suffix _ _).mem hxa)).2
  simp only [beq_iff_eq] at hx' hxk
  have := List.mem_range.mp ha
  omega

/-- Each source keeps at most 256 replies. -/
theorem boundStored_length (l : List StoredReply) (k : Nat) :
    ((boundStored l).filter (fun x => x.src == k)).length ≤ 256 := by
  rcases Nat.lt_or_ge k 16 with h | h
  · rw [filter_boundStored l k h]; exact lastN_length _ _
  · rw [filter_boundStored_out l k h]; exact Nat.zero_le _

/-- Bounding a bounded store changes nothing. -/
theorem boundStored_idem (l : List StoredReply) : boundStored (boundStored l) = boundStored l := by
  have h (k : Nat) (hk : k ∈ List.range 16) : lastN 256 ((boundStored l).filter (fun x => x.src == k)) =
      lastN 256 (l.filter (fun x => x.src == k)) := by
    rw [filter_boundStored l k (List.mem_range.mp hk)]
    exact lastN_of_le _ _ (lastN_length _ _)
  show (List.range 16).flatMap _ = (List.range 16).flatMap _
  exact List.flatMap_congr h

end Sys2Proof.Machine
end

