-- ==== Sys2Proof/Laws/Exec.lean ====
section
/-! SUPPORT. Each row's arm, one lemma a row, and that every row is an effect inside the common frame. -/

namespace Sys2Proof.Machine

theorem exec_sessionOpen (p : Cmd) (s : State) : exec (.sessionOpen p) s = execSessionOpen p s := rfl
theorem exec_ping (p : Cmd) (s : State) : exec (.ping p) s = execPing p s := rfl
theorem exec_ident (p : Cmd) (s : State) : exec (.ident p) s = execIdent p s := rfl
theorem exec_modeSet (p : Cmd) (s : State) : exec (.modeSet p) s = execModeSet p s := rfl
theorem exec_debugChallenge (p : Cmd) (s : State) : exec (.debugChallenge p) s = execDebugChallenge p s := rfl
theorem exec_debugUnlock (p : Cmd) (s : State) : exec (.debugUnlock p) s = execDebugUnlock p s := rfl
theorem exec_vinDefine (p : Cmd) (s : State) : exec (.vinDefine p) s = execVinDefine p s := rfl
theorem exec_flowDelete (p : Cmd) (s : State) : exec (.flowDelete p) s = execFlowDelete p s := rfl
theorem exec_vinDepth (p : Cmd) (s : State) : exec (.vinDepth p) s = execVinDepth p s := rfl
theorem exec_ancInDefine (p : Cmd) (s : State) : exec (.ancInDefine p) s = execAncInDefine p s := rfl
theorem exec_voutDefine (p : Cmd) (s : State) : exec (.voutDefine p) s = execVoutDefine p s := rfl
theorem exec_ancOutDefine (p : Cmd) (s : State) : exec (.ancOutDefine p) s = execAncOutDefine p s := rfl
theorem exec_ancOutRoute (p : Cmd) (s : State) : exec (.ancOutRoute p) s = execAncOutRoute p s := rfl
theorem exec_testDefine (p : Cmd) (s : State) : exec (.testDefine p) s = execTestDefine p s := rfl
theorem exec_take (p : Cmd) (s : State) : exec (.take p) s = execTake p s := rfl
theorem exec_macroStore (p : Cmd) (s : State) : exec (.macroStore p) s = execMacroStore p s := rfl
theorem exec_macroArm (p : Cmd) (s : State) : exec (.macroArm p) s = execMacroArm p s := rfl
theorem exec_macroDelete (p : Cmd) (s : State) : exec (.macroDelete p) s = execMacroDelete p s := rfl
theorem exec_patWrite (p : Cmd) (s : State) : exec (.patWrite p) s = execPatWrite p s := rfl
theorem exec_patClear (p : Cmd) (s : State) : exec (.patClear p) s = execPatClear p s := rfl
theorem exec_patShare (p : Cmd) (s : State) : exec (.patShare p) s = execPatShare p s := rfl
theorem exec_schedCancel (p : Cmd) (s : State) : exec (.schedCancel p) s = execSchedCancel p s := rfl
theorem exec_astreamIn (p : Cmd) (s : State) : exec (.astreamIn p) s = execAstreamIn p s := rfl
theorem exec_astreamOut (p : Cmd) (s : State) : exec (.astreamOut p) s = execAstreamOut p s := rfl
theorem exec_astreamDelete (p : Cmd) (s : State) : exec (.astreamDelete p) s = execAstreamDelete p s := rfl
theorem exec_xpSet (p : Cmd) (s : State) : exec (.xpSet p) s = execXpSet p s := rfl
theorem exec_deembedMap (p : Cmd) (s : State) : exec (.deembedMap p) s = execDeembedMap p s := rfl
theorem exec_embedMap (p : Cmd) (s : State) : exec (.embedMap p) s = execEmbedMap p s := rfl
theorem exec_delayDefine (p : Cmd) (s : State) : exec (.delayDefine p) s = execDelayDefine p s := rfl
theorem exec_delayDelete (p : Cmd) (s : State) : exec (.delayDelete p) s = execDelayDelete p s := rfl
theorem exec_aptPort (p : Cmd) (s : State) : exec (.aptPort p) s = execAptPort p s := rfl
theorem exec_aptMask (p : Cmd) (s : State) : exec (.aptMask p) s = execAptMask p s := rfl
theorem exec_aptTdm (p : Cmd) (s : State) : exec (.aptTdm p) s = execAptTdm p s := rfl
theorem exec_aptCsTx (p : Cmd) (s : State) : exec (.aptCsTx p) s = execAptCsTx p s := rfl
theorem exec_aptRestart (p : Cmd) (s : State) : exec (.aptRestart p) s = execAptRestart p s := rfl
theorem exec_audCfg (p : Cmd) (s : State) : exec (.audCfg p) s = execAudCfg p s := rfl
theorem exec_imageLoad (p : Cmd) (s : State) : exec (.imageLoad p) s = execImageLoad p s := rfl
theorem exec_imageDelete (p : Cmd) (s : State) : exec (.imageDelete p) s = execImageDelete p s := rfl
theorem exec_taskDefine (p : Cmd) (s : State) : exec (.taskDefine p) s = execTaskDefine p s := rfl
theorem exec_taskRemove (p : Cmd) (s : State) : exec (.taskRemove p) s = execTaskRemove p s := rfl
theorem exec_taskParam (p : Cmd) (s : State) : exec (.taskParam p) s = execTaskParam p s := rfl
theorem exec_taskEnable (p : Cmd) (s : State) : exec (.taskEnable p) s = execTaskEnable p s := rfl
theorem exec_pipeDefine (p : Cmd) (s : State) : exec (.pipeDefine p) s = execPipeDefine p s := rfl
theorem exec_pipeDelete (p : Cmd) (s : State) : exec (.pipeDelete p) s = execPipeDelete p s := rfl
theorem exec_layerSet (p : Cmd) (s : State) : exec (.layerSet p) s = execLayerSet p s := rfl
theorem exec_surfaceDefine (p : Cmd) (s : State) : exec (.surfaceDefine p) s = execSurfaceDefine p s := rfl
theorem exec_surfaceDelete (p : Cmd) (s : State) : exec (.surfaceDelete p) s = execSurfaceDelete p s := rfl
theorem exec_surfaceFlip (p : Cmd) (s : State) : exec (.surfaceFlip p) s = execSurfaceFlip p s := rfl
theorem exec_flipCancel (p : Cmd) (s : State) : exec (.flipCancel p) s = execFlipCancel p s := rfl
theorem exec_measCfg (p : Cmd) (s : State) : exec (.measCfg p) s = execMeasCfg p s := rfl
theorem exec_measDest (p : Cmd) (s : State) : exec (.measDest p) s = execMeasDest p s := rfl
theorem exec_allowStep (p : Cmd) (s : State) : exec (.allowStep p) s = execAllowStep p s := rfl
theorem exec_timSet (p : Cmd) (s : State) : exec (.timSet p) s = execTimSet p s := rfl
theorem exec_stepThr (p : Cmd) (s : State) : exec (.stepThr p) s = execStepThr p s := rfl
theorem exec_ptpCfg (p : Cmd) (s : State) : exec (.ptpCfg p) s = execPtpCfg p s := rfl
theorem exec_ptpPort (p : Cmd) (s : State) : exec (.ptpPort p) s = execPtpPort p s := rfl
theorem exec_refInput (p : Cmd) (s : State) : exec (.refInput p) s = execRefInput p s := rfl
theorem exec_dpllCfg (p : Cmd) (s : State) : exec (.dpllCfg p) s = execDpllCfg p s := rfl
theorem exec_raster (p : Cmd) (s : State) : exec (.raster p) s = execRaster p s := rfl
theorem exec_clkout (p : Cmd) (s : State) : exec (.clkout p) s = execClkout p s := rfl
theorem exec_oscSel (p : Cmd) (s : State) : exec (.oscSel p) s = execOscSel p s := rfl
theorem exec_macCfg (p : Cmd) (s : State) : exec (.macCfg p) s = execMacCfg p s := rfl
theorem exec_macGate (p : Cmd) (s : State) : exec (.macGate p) s = execMacGate p s := rfl
theorem exec_hlaneCfg (p : Cmd) (s : State) : exec (.hlaneCfg p) s = execHlaneCfg p s := rfl
theorem exec_slaneCfg (p : Cmd) (s : State) : exec (.slaneCfg p) s = execSlaneCfg p s := rfl
theorem exec_linkCfg (p : Cmd) (s : State) : exec (.linkCfg p) s = execLinkCfg p s := rfl
theorem exec_tribSet (p : Cmd) (s : State) : exec (.tribSet p) s = execTribSet p s := rfl
theorem exec_marginCfg (p : Cmd) (s : State) : exec (.marginCfg p) s = execMarginCfg p s := rfl
theorem exec_eyeMap (p : Cmd) (s : State) : exec (.eyeMap p) s = execEyeMap p s := rfl
theorem exec_poolCfg (p : Cmd) (s : State) : exec (.poolCfg p) s = execPoolCfg p s := rfl
theorem exec_pprRun (p : Cmd) (s : State) : exec (.pprRun p) s = execPprRun p s := rfl
theorem exec_poolWindow (p : Cmd) (s : State) : exec (.poolWindow p) s = execPoolWindow p s := rfl
theorem exec_spareSubst (p : Cmd) (s : State) : exec (.spareSubst p) s = execSpareSubst p s := rfl
theorem exec_twinCfg (p : Cmd) (s : State) : exec (.twinCfg p) s = execTwinCfg p s := rfl
theorem exec_promote (p : Cmd) (s : State) : exec (.promote p) s = execPromote p s := rfl
theorem exec_resync (p : Cmd) (s : State) : exec (.resync p) s = execResync p s := rfl
theorem exec_roleSwap (p : Cmd) (s : State) : exec (.roleSwap p) s = execRoleSwap p s := rfl
theorem exec_egressLoop (p : Cmd) (s : State) : exec (.egressLoop p) s = execEgressLoop p s := rfl
theorem exec_keyWrite (p : Cmd) (s : State) : exec (.keyWrite p) s = execKeyWrite p s := rfl
theorem exec_keyErase (p : Cmd) (s : State) : exec (.keyErase p) s = execKeyErase p s := rfl
theorem exec_attest (p : Cmd) (s : State) : exec (.attest p) s = execAttest p s := rfl
theorem exec_reset (p : Cmd) (s : State) : exec (.reset p) s = execReset p s := rfl
theorem exec_fltClear (p : Cmd) (s : State) : exec (.fltClear p) s = execFltClear p s := rfl
theorem exec_quench (p : Cmd) (s : State) : exec (.quench p) s = execQuench p s := rfl
theorem exec_causeClear (p : Cmd) (s : State) : exec (.causeClear p) s = execCauseClear p s := rfl
theorem exec_rstcntClear (p : Cmd) (s : State) : exec (.rstcntClear p) s = execRstcntClear p s := rfl
theorem exec_optProgram (p : Cmd) (s : State) : exec (.optProgram p) s = execOptProgram p s := rfl
theorem exec_read (p : Cmd) (s : State) : exec (.read p) s = execRead p s := rfl
theorem exec_snapshot (p : Cmd) (s : State) : exec (.snapshot p) s = execSnapshot p s := rfl
theorem exec_castBoundary (x0 : List Nat) (s : State) : exec (.castBoundary x0) s = execCastBoundary x0 s := rfl
theorem exec_castTimerExpiry (x0 : List Nat) (s : State) : exec (.castTimerExpiry x0) s = execCastTimerExpiry x0 s := rfl
theorem exec_mirrorAckReceive (x0 : Nat × Nat) (s : State) : exec (.mirrorAckReceive x0) s = execMirrorAckReceive x0 s := rfl
theorem exec_noMirrorAckTimeout (x0 : Nat) (s : State) : exec (.noMirrorAckTimeout x0) s = execNoMirrorAckTimeout x0 s := rfl
theorem exec_cplConsWrite (x0 : Nat) (x1 : Nat) (s : State) : exec (.cplConsWrite x0 x1) s = execCplConsWrite x0 x1 s := rfl
theorem exec_prodWrite (x0 : Nat) (x1 : Nat) (x2 : List Submission) (s : State) : exec (.prodWrite x0 x1 x2) s = execProdWrite x0 x1 x2 s := rfl
theorem exec_heldPacketTimeout (x0 : Nat) (x1 : Nat) (s : State) : exec (.heldPacketTimeout x0 x1) s = execHeldPacketTimeout x0 x1 s := rfl
theorem exec_fragmentTimeout (x0 : Nat) (x1 : Nat) (x2 : Nat) (s : State) : exec (.fragmentTimeout x0 x1 x2) s = execFragmentTimeout x0 x1 x2 s := rfl
theorem exec_timedRelease (x0 : Nat) (x1 : Nat) (s : State) : exec (.timedRelease x0 x1) s = execTimedRelease x0 x1 s := rfl
theorem exec_timedFire (x0 : Nat) (x1 : Nat) (s : State) : exec (.timedFire x0 x1) s = execTimedFire x0 x1 s := rfl
theorem exec_slotStart (x0 : Nat) (s : State) : exec (.slotStart x0) s = execSlotStart x0 s := rfl
theorem exec_bankCopyDone (x0 : Nat) (s : State) : exec (.bankCopyDone x0) s = execBankCopyDone x0 s := rfl
theorem exec_frameBoundary (x0 : Nat) (s : State) : exec (.frameBoundary x0) s = execFrameBoundary x0 s := rfl
theorem exec_rasterStart (x0 : Nat) (s : State) : exec (.rasterStart x0) s = execRasterStart x0 s := rfl
theorem exec_poolReadReturn (x0 : Nat) (x1 : Nat) (x2 : Nat × Bool) (s : State) : exec (.poolReadReturn x0 x1 x2) s = execPoolReadReturn x0 x1 x2 s := rfl
theorem exec_readDeadline (x0 : Nat) (s : State) : exec (.readDeadline x0) s = execReadDeadline x0 s := rfl
theorem exec_retryBudgetExpiry (x0 : Nat) (s : State) : exec (.retryBudgetExpiry x0) s = execRetryBudgetExpiry x0 s := rfl
theorem exec_suspectExpiry (x0 : Nat) (s : State) : exec (.suspectExpiry x0) s = execSuspectExpiry x0 s := rfl
theorem exec_pprRowDone (x0 : Bool) (s : State) : exec (.pprRowDone x0) s = execPprRowDone x0 s := rfl
theorem exec_poolWindowRead (x0 : Nat) (x1 : Nat) (x2 : Nat) (s : State) : exec (.poolWindowRead x0 x1 x2) s = execPoolWindowRead x0 x1 x2 s := rfl
theorem exec_poolWindowWrite (x0 : Nat) (x1 : Nat) (x2 : Bytes) (s : State) : exec (.poolWindowWrite x0 x1 x2) s = execPoolWindowWrite x0 x1 x2 s := rfl
theorem exec_flush (x0 : Nat) (x1 : Nat) (s : State) : exec (.flush x0 x1) s = execFlush x0 x1 s := rfl
theorem exec_macFrameReceive (x0 : Nat) (x1 : NetFrame) (s : State) : exec (.macFrameReceive x0 x1) s = execMacFrameReceive x0 x1 s := rfl
theorem exec_mergeHoldExpiry (x0 : Nat) (x1 : Nat) (s : State) : exec (.mergeHoldExpiry x0 x1) s = execMergeHoldExpiry x0 x1 s := rfl
theorem exec_frameOpenTimeout (x0 : Nat) (x1 : Nat) (s : State) : exec (.frameOpenTimeout x0 x1) s = execFrameOpenTimeout x0 x1 s := rfl
theorem exec_pathIdleTimeout (x0 : Nat) (x1 : Nat) (s : State) : exec (.pathIdleTimeout x0 x1) s = execPathIdleTimeout x0 x1 s := rfl
theorem exec_inputLossTimeout (x0 : Nat) (s : State) : exec (.inputLossTimeout x0) s = execInputLossTimeout x0 s := rfl
theorem exec_sdiFrameReceive (x0 : Option Nat) (x1 : Nat) (x2 : SdiFrame) (s : State) : exec (.sdiFrameReceive x0 x1 x2) s = execSdiFrameReceive x0 x1 x2 s := rfl
theorem exec_slaneLos (x0 : Nat) (s : State) : exec (.slaneLos x0) s = execSlaneLos x0 s := rfl
theorem exec_slaneRateChange (x0 : Nat) (x1 : Nat) (s : State) : exec (.slaneRateChange x0 x1) s = execSlaneRateChange x0 x1 s := rfl
theorem exec_slaneLock (x0 : Nat) (x1 : Nat) (s : State) : exec (.slaneLock x0 x1) s = execSlaneLock x0 x1 s := rfl
theorem exec_sprueBlockReceive (x0 : Nat) (x1 : Nat) (x2 : BitVec 16) (x3 : BitVec 120) (x4 : BitVec 120) (s : State) : exec (.sprueBlockReceive x0 x1 x2 x3 x4) s = execSprueBlockReceive x0 x1 x2 x3 x4 s := rfl
theorem exec_linkMarkerReceive (x0 : Nat) (x1 : Marker) (s : State) : exec (.linkMarkerReceive x0 x1) s = execLinkMarkerReceive x0 x1 s := rfl
theorem exec_laneCdrLoss (x0 : Nat) (s : State) : exec (.laneCdrLoss x0) s = execLaneCdrLoss x0 s := rfl
theorem exec_laneWtrExpiry (x0 : Nat) (s : State) : exec (.laneWtrExpiry x0) s = execLaneWtrExpiry x0 s := rfl
theorem exec_marginMeasure (x0 : Nat) (x1 : List (Nat × Nat)) (x2 : List (Nat × Nat)) (s : State) : exec (.marginMeasure x0 x1 x2) s = execMarginMeasure x0 x1 x2 s := rfl
theorem exec_laneTxTrained (x0 : Bool) (x1 : Nat) (s : State) : exec (.laneTxTrained x0 x1) s = execLaneTxTrained x0 x1 s := rfl
theorem exec_akestimFrameReceive (x0 : Nat) (x1 : AksBody) (s : State) : exec (.akestimFrameReceive x0 x1) s = execAkestimFrameReceive x0 x1 s := rfl
theorem exec_akestimRetryTimeout (x0 : Nat) (s : State) : exec (.akestimRetryTimeout x0) s = execAkestimRetryTimeout x0 s := rfl
theorem exec_akestimLinkUp (x0 : Nat) (x1 : Nat) (x2 : Nat) (s : State) : exec (.akestimLinkUp x0 x1 x2) s = execAkestimLinkUp x0 x1 x2 s := rfl
theorem exec_castRecordReceive (x0 : Nat × CastRec) (x1 : Bool) (s : State) : exec (.castRecordReceive x0 x1) s = execCastRecordReceive x0 x1 s := rfl
theorem exec_partnerUnresponsive (s : State) : exec (.partnerUnresponsive) s = execPartnerUnresponsive s := rfl
theorem exec_croakInEdge (s : State) : exec (.croakInEdge) s = execCroakInEdge s := rfl
theorem exec_croakInLost (s : State) : exec (.croakInLost) s = execCroakInLost s := rfl
theorem exec_croakOutToggle (s : State) : exec (.croakOutToggle) s = execCroakOutToggle s := rfl
theorem exec_promotion (s : State) : exec (.promotion) s = execPromotion s := rfl
theorem exec_roleSwapExecute (s : State) : exec (.roleSwapExecute) s = execRoleSwapExecute s := rfl
theorem exec_resyncComplete (x0 : Nat) (s : State) : exec (.resyncComplete x0) s = execResyncComplete x0 s := rfl
theorem exec_loopSignatureReceive (x0 : Nat × Nat) (s : State) : exec (.loopSignatureReceive x0) s = execLoopSignatureReceive x0 s := rfl
theorem exec_egressLoopDone (s : State) : exec (.egressLoopDone) s = execEgressLoopDone s := rfl
theorem exec_partnerResetRequest (s : State) : exec (.partnerResetRequest) s = execPartnerResetRequest s := rfl
theorem exec_powerGood (s : State) : exec (.powerGood) s = execPowerGood s := rfl
theorem exec_powerSag (s : State) : exec (.powerSag) s = execPowerSag s := rfl
theorem exec_backupSupplyRise (s : State) : exec (.backupSupplyRise) s = execBackupSupplyRise s := rfl
theorem exec_resetNChange (x0 : Bool) (s : State) : exec (.resetNChange x0) s = execResetNChange x0 s := rfl
theorem exec_perstNChange (x0 : Bool) (s : State) : exec (.perstNChange x0) s = execPerstNChange x0 s := rfl
theorem exec_resetPulseEnd (x0 : ResetSrc) (s : State) : exec (.resetPulseEnd x0) s = execResetPulseEnd x0 s := rfl
theorem exec_optionLoadDone (s : State) : exec (.optionLoadDone) s = execOptionLoadDone s := rfl
theorem exec_clocksLocked (s : State) : exec (.clocksLocked) s = execClocksLocked s := rfl
theorem exec_poolTrainingDone (x0 : Bool) (s : State) : exec (.poolTrainingDone x0) s = execPoolTrainingDone x0 s := rfl
theorem exec_firmwareVerified (x0 : Bool) (x1 : Bool) (s : State) : exec (.firmwareVerified x0 x1) s = execFirmwareVerified x0 x1 s := rfl
theorem exec_meltReady (s : State) : exec (.meltReady) s = execMeltReady s := rfl
theorem exec_watchdogExpiry (s : State) : exec (.watchdogExpiry) s = execWatchdogExpiry s := rfl
theorem exec_kick (s : State) : exec (.kick) s = execKick s := rfl
theorem exec_firmwareReturn (s : State) : exec (.firmwareReturn) s = execFirmwareReturn s := rfl
theorem exec_chip (s : State) : exec (.chip) s = execChip s := rfl
theorem exec_quenchExit (s : State) : exec (.quenchExit) s = execQuenchExit s := rfl
theorem exec_go (s : State) : exec (.go) s = execGo s := rfl
theorem exec_coldEntry (s : State) : exec (.coldEntry) s = execColdEntry s := rfl
theorem exec_wakeComplete (s : State) : exec (.wakeComplete) s = execWakeComplete s := rfl
theorem exec_faultRaise (x0 : Nat) (x1 : Option (UnitKind × Nat)) (s : State) : exec (.faultRaise x0 x1) s = execFaultRaise x0 x1 s := rfl
theorem exec_substComplete (x0 : UnitKind) (x1 : Nat) (x2 : List (Nat × Nat)) (s : State) : exec (.substComplete x0 x1 x2) s = execSubstComplete x0 x1 x2 s := rfl
theorem exec_status (x0 : Nat) (s : State) : exec (.status x0) s = execStatus x0 s := rfl
theorem exec_valid (s : State) : exec (.valid) s = execValid s := rfl
theorem exec_xtalLoss (s : State) : exec (.xtalLoss) s = execXtalLoss s := rfl
theorem exec_pllUnlock (x0 : Bool) (s : State) : exec (.pllUnlock x0) s = execPllUnlock x0 s := rfl
theorem exec_tempSample (x0 : Nat) (x1 : Option Int) (s : State) : exec (.tempSample x0 x1) s = execTempSample x0 x1 s := rfl
theorem exec_railSample (x0 : Nat) (x1 : Nat) (x2 : Option Nat) (s : State) : exec (.railSample x0 x1 x2) s = execRailSample x0 x1 x2 s := rfl
theorem exec_tamperOnset (x0 : Nat) (s : State) : exec (.tamperOnset x0) s = execTamperOnset x0 s := rfl
theorem exec_latch (s : State) : exec (.latch) s = execLatch s := rfl
theorem exec_keyCommitDone (s : State) : exec (.keyCommitDone) s = execKeyCommitDone s := rfl
theorem exec_attestSigned (s : State) : exec (.attestSigned) s = execAttestSigned s := rfl
theorem exec_snapshotCopyDone (s : State) : exec (.snapshotCopyDone) s = execSnapshotCopyDone s := rfl
theorem exec_imageCheckDone (x0 : Nat × Nat) (s : State) : exec (.imageCheckDone x0) s = execImageCheckDone x0 s := rfl
theorem exec_eyeMapDone (x0 : Nat) (x1 : Bytes) (s : State) : exec (.eyeMapDone x0 x1) s = execEyeMapDone x0 x1 s := rfl
theorem exec_servoUpdate (x0 : Int) (x1 : Int) (x2 : Int) (s : State) : exec (.servoUpdate x0 x1 x2) s = execServoUpdate x0 x1 x2 s := rfl
theorem exec_ptpSyncTx (x0 : Nat) (s : State) : exec (.ptpSyncTx x0) s = execPtpSyncTx x0 s := rfl
theorem exec_ptpAnnounceTx (x0 : Nat) (s : State) : exec (.ptpAnnounceTx x0) s = execPtpAnnounceTx x0 s := rfl
theorem exec_ptpDelayReqTx (x0 : Nat) (s : State) : exec (.ptpDelayReqTx x0) s = execPtpDelayReqTx x0 s := rfl
theorem exec_announceReceiptTimeout (x0 : Nat) (s : State) : exec (.announceReceiptTimeout x0) s = execAnnounceReceiptTimeout x0 s := rfl
theorem exec_macFrameTransmit (x0 : Nat) (s : State) : exec (.macFrameTransmit x0) s = execMacFrameTransmit x0 s := rfl
theorem exec_packetSendTime (x0 : Nat) (s : State) : exec (.packetSendTime x0) s = execPacketSendTime x0 s := rfl
theorem exec_txqRead (x0 : Nat) (x1 : Nat) (s : State) : exec (.txqRead x0 x1) s = execTxqRead x0 x1 s := rfl
theorem exec_macLinkUp (x0 : Nat) (s : State) : exec (.macLinkUp x0) s = execMacLinkUp x0 s := rfl
theorem exec_macVerifyTimer (x0 : Nat) (s : State) : exec (.macVerifyTimer x0) s = execMacVerifyTimer x0 s := rfl
theorem exec_macLinkDown (x0 : Nat) (s : State) : exec (.macLinkDown x0) s = execMacLinkDown x0 s := rfl
theorem exec_igmpReportSend (x0 : Nat) (x1 : Nat) (s : State) : exec (.igmpReportSend x0 x1) s = execIgmpReportSend x0 x1 s := rfl
theorem exec_snap (x0 : Nat) (s : State) : exec (.snap x0) s = execSnap x0 s := rfl
theorem exec_clr (x0 : Nat) (s : State) : exec (.clr x0) s = execClr x0 s := rfl
theorem exec_refFreqGate (x0 : Nat) (x1 : Int) (s : State) : exec (.refFreqGate x0 x1) s = execRefFreqGate x0 x1 s := rfl
theorem exec_refInputLoss (x0 : Nat) (s : State) : exec (.refInputLoss x0) s = execRefInputLoss x0 s := rfl
theorem exec_refQualified (x0 : Nat) (s : State) : exec (.refQualified x0) s = execRefQualified x0 s := rfl
theorem exec_refWtrExpiry (x0 : Nat) (x1 : Nat) (s : State) : exec (.refWtrExpiry x0 x1) s = execRefWtrExpiry x0 x1 s := rfl
theorem exec_dpllAbsorbDone (x0 : Nat) (s : State) : exec (.dpllAbsorbDone x0) s = execDpllAbsorbDone x0 s := rfl
theorem exec_dpllLocked (x0 : Nat) (s : State) : exec (.dpllLocked x0) s = execDpllLocked x0 s := rfl
theorem exec_blockBoundary (s : State) : exec (.blockBoundary) s = execBlockBoundary s := rfl
theorem exec_audioStreamLoss (x0 : Nat) (s : State) : exec (.audioStreamLoss x0) s = execAudioStreamLoss x0 s := rfl
theorem exec_meterWindowEnd (s : State) : exec (.meterWindowEnd) s = execMeterWindowEnd s := rfl
theorem exec_tdmFrameSync (x0 : List TdmPort) (s : State) : exec (.tdmFrameSync x0) s = execTdmFrameSync x0 s := rfl
theorem exec_aes3BlockEnd (x0 : Nat) (x1 : AesBlock) (x2 : AesRx) (s : State) : exec (.aes3BlockEnd x0 x1 x2) s = execAes3BlockEnd x0 x1 x2 s := rfl
theorem exec_aes3BlockSyncLoss (x0 : Nat) (x1 : AesRx) (s : State) : exec (.aes3BlockSyncLoss x0 x1) s = execAes3BlockSyncLoss x0 x1 s := rfl
theorem exec_restart (x0 : Nat) (s : State) : exec (.restart x0) s = execRestart x0 s := rfl
theorem exec_nwtTrap (x0 : Nat) (x1 : Nat) (s : State) : exec (.nwtTrap x0 x1) s = execNwtTrap x0 x1 s := rfl
theorem exec_nwtInterrupt (x0 : Nat) (s : State) : exec (.nwtInterrupt x0) s = execNwtInterrupt x0 s := rfl
theorem exec_nwtTimerExpiry (x0 : Nat) (s : State) : exec (.nwtTimerExpiry x0) s = execNwtTimerExpiry x0 s := rfl
theorem exec_nop (x0 : Nat) (x1 : NwtIns) (s : State) : exec (.nop x0 x1) s = execNop x0 x1 s := rfl
theorem exec_br (x0 : Nat) (x1 : NwtIns) (s : State) : exec (.br x0 x1) s = execBr x0 x1 s := rfl
theorem exec_brz (x0 : Nat) (x1 : NwtIns) (s : State) : exec (.brz x0 x1) s = execBrz x0 x1 s := rfl
theorem exec_brnz (x0 : Nat) (x1 : NwtIns) (s : State) : exec (.brnz x0 x1) s = execBrnz x0 x1 s := rfl
theorem exec_brn (x0 : Nat) (x1 : NwtIns) (s : State) : exec (.brn x0 x1) s = execBrn x0 x1 s := rfl
theorem exec_call (x0 : Nat) (x1 : NwtIns) (s : State) : exec (.call x0 x1) s = execCall x0 x1 s := rfl
theorem exec_ret (x0 : Nat) (x1 : NwtIns) (s : State) : exec (.ret x0 x1) s = execRet x0 x1 s := rfl
theorem exec_rep (x0 : Nat) (x1 : NwtIns) (s : State) : exec (.rep x0 x1) s = execRep x0 x1 s := rfl
theorem exec_break (x0 : Nat) (x1 : NwtIns) (s : State) : exec (.break x0 x1) s = execBreak x0 x1 s := rfl
theorem exec_swi (x0 : Nat) (x1 : NwtIns) (s : State) : exec (.swi x0 x1) s = execSwi x0 x1 s := rfl
theorem exec_reti (x0 : Nat) (x1 : NwtIns) (s : State) : exec (.reti x0 x1) s = execReti x0 x1 s := rfl
theorem exec_tend (x0 : Nat) (x1 : NwtIns) (s : State) : exec (.tend x0 x1) s = execTend x0 x1 s := rfl
theorem exec_tmr (x0 : Nat) (x1 : NwtIns) (s : State) : exec (.tmr x0 x1) s = execTmr x0 x1 s := rfl
theorem exec_sld (x0 : Nat) (x1 : NwtIns) (s : State) : exec (.sld x0 x1) s = execSld x0 x1 s := rfl
theorem exec_sst (x0 : Nat) (x1 : NwtIns) (s : State) : exec (.sst x0 x1) s = execSst x0 x1 s := rfl
theorem exec_vld (x0 : Nat) (x1 : NwtIns) (s : State) : exec (.vld x0 x1) s = execVld x0 x1 s := rfl
theorem exec_vst (x0 : Nat) (x1 : NwtIns) (s : State) : exec (.vst x0 x1) s = execVst x0 x1 s := rfl
theorem exec_vldb (x0 : Nat) (x1 : NwtIns) (s : State) : exec (.vldb x0 x1) s = execVldb x0 x1 s := rfl
theorem exec_vlds (x0 : Nat) (x1 : NwtIns) (s : State) : exec (.vlds x0 x1) s = execVlds x0 x1 s := rfl
theorem exec_ast (x0 : Nat) (x1 : NwtIns) (s : State) : exec (.ast x0 x1) s = execAst x0 x1 s := rfl
theorem exec_ald (x0 : Nat) (x1 : NwtIns) (s : State) : exec (.ald x0 x1) s = execAld x0 x1 s := rfl
theorem exec_movi (x0 : Nat) (x1 : NwtIns) (s : State) : exec (.movi x0 x1) s = execMovi x0 x1 s := rfl
theorem exec_mov (x0 : Nat) (x1 : NwtIns) (s : State) : exec (.mov x0 x1) s = execMov x0 x1 s := rfl
theorem exec_padd (x0 : Nat) (x1 : NwtIns) (s : State) : exec (.padd x0 x1) s = execPadd x0 x1 s := rfl
theorem exec_add (x0 : Nat) (x1 : NwtIns) (s : State) : exec (.add x0 x1) s = execAdd x0 x1 s := rfl
theorem exec_sub (x0 : Nat) (x1 : NwtIns) (s : State) : exec (.sub x0 x1) s = execSub x0 x1 s := rfl
theorem exec_and (x0 : Nat) (x1 : NwtIns) (s : State) : exec (.and x0 x1) s = execAnd x0 x1 s := rfl
theorem exec_or (x0 : Nat) (x1 : NwtIns) (s : State) : exec (.or x0 x1) s = execOr x0 x1 s := rfl
theorem exec_xor (x0 : Nat) (x1 : NwtIns) (s : State) : exec (.xor x0 x1) s = execXor x0 x1 s := rfl
theorem exec_shl (x0 : Nat) (x1 : NwtIns) (s : State) : exec (.shl x0 x1) s = execShl x0 x1 s := rfl
theorem exec_shr (x0 : Nat) (x1 : NwtIns) (s : State) : exec (.shr x0 x1) s = execShr x0 x1 s := rfl
theorem exec_abs (x0 : Nat) (x1 : NwtIns) (s : State) : exec (.abs x0 x1) s = execAbs x0 x1 s := rfl
theorem exec_min (x0 : Nat) (x1 : NwtIns) (s : State) : exec (.min x0 x1) s = execMin x0 x1 s := rfl
theorem exec_max (x0 : Nat) (x1 : NwtIns) (s : State) : exec (.max x0 x1) s = execMax x0 x1 s := rfl
theorem exec_cmplt (x0 : Nat) (x1 : NwtIns) (s : State) : exec (.cmplt x0 x1) s = execCmplt x0 x1 s := rfl
theorem exec_vsel (x0 : Nat) (x1 : NwtIns) (s : State) : exec (.vsel x0 x1) s = execVsel x0 x1 s := rfl
theorem exec_vmul (x0 : Nat) (x1 : NwtIns) (s : State) : exec (.vmul x0 x1) s = execVmul x0 x1 s := rfl
theorem exec_vmac (x0 : Nat) (x1 : NwtIns) (s : State) : exec (.vmac x0 x1) s = execVmac x0 x1 s := rfl
theorem exec_vmsb (x0 : Nat) (x1 : NwtIns) (s : State) : exec (.vmsb x0 x1) s = execVmsb x0 x1 s := rfl
theorem exec_vmacm (x0 : Nat) (x1 : NwtIns) (s : State) : exec (.vmacm x0 x1) s = execVmacm x0 x1 s := rfl
theorem exec_ftap (x0 : Nat) (x1 : NwtIns) (s : State) : exec (.ftap x0 x1) s = execFtap x0 x1 s := rfl
theorem exec_aclr (x0 : Nat) (x1 : NwtIns) (s : State) : exec (.aclr x0 x1) s = execAclr x0 x1 s := rfl
theorem exec_rnd (x0 : Nat) (x1 : NwtIns) (s : State) : exec (.rnd x0 x1) s = execRnd x0 x1 s := rfl
theorem exec_ashf (x0 : Nat) (x1 : NwtIns) (s : State) : exec (.ashf x0 x1) s = execAshf x0 x1 s := rfl
theorem exec_exp (x0 : Nat) (x1 : NwtIns) (s : State) : exec (.exp x0 x1) s = execExp x0 x1 s := rfl
theorem exec_norm (x0 : Nat) (x1 : NwtIns) (s : State) : exec (.norm x0 x1) s = execNorm x0 x1 s := rfl
theorem exec_reportIntervalEnd (s : State) : exec (.reportIntervalEnd) s = execReportIntervalEnd s := rfl
theorem exec_measDatagramSend (x0 : Nat) (s : State) : exec (.measDatagramSend x0) s = execMeasDatagramSend x0 s := rfl
theorem exec_gpioEvent (x0 : Nat) (x1 : Bool) (s : State) : exec (.gpioEvent x0 x1) s = execGpioEvent x0 x1 s := rfl
theorem exec_gpioWindowEnd (s : State) : exec (.gpioWindowEnd) s = execGpioWindowEnd s := rfl
theorem exec_quarantine (x0 : Nat) (s : State) : exec (.quarantine x0) s = execQuarantine x0 s := rfl
theorem exec_chmFenceWrite (x0 : Nat) (x1 : Nat) (x2 : Nat) (s : State) : exec (.chmFenceWrite x0 x1 x2) s = execChmFenceWrite x0 x1 x2 s := rfl
theorem exec_vec (x0 : Nat) (x1 : Nat) (s : State) : exec (.vec x0 x1) s = execVec x0 x1 s := rfl
theorem exec_epochLoRead (x0 : Nat) (s : State) : exec (.epochLoRead x0) s = execEpochLoRead x0 s := rfl
theorem exec_tickLoRead (x0 : Nat) (s : State) : exec (.tickLoRead x0) s = execTickLoRead x0 s := rfl
theorem exec_nowNsRead (x0 : Nat) (s : State) : exec (.nowNsRead x0) s = execNowNsRead x0 s := rfl
theorem exec_rasPosRead (x0 : Nat) (x1 : Nat) (s : State) : exec (.rasPosRead x0 x1) s = execRasPosRead x0 x1 s := rfl
theorem exec_latchedLowRead (x0 : BusAccess) (s : State) : exec (.latchedLowRead x0) s = execLatchedLowRead x0 s := rfl
theorem exec_peakRead (x0 : BusAccess) (s : State) : exec (.peakRead x0) s = execPeakRead x0 s := rfl
theorem exec_busAccessTimeout (x0 : BusAccess) (x1 : Bool) (s : State) : exec (.busAccessTimeout x0 x1) s = execBusAccessTimeout x0 x1 s := rfl
theorem exec_registerWrite (x0 : BusAccess) (x1 : Nat) (s : State) : exec (.registerWrite x0 x1) s = execRegisterWrite x0 x1 s := rfl
theorem exec_dpllLockLost (x0 : Nat) (s : State) : exec (.dpllLockLost x0) s = execDpllLockLost x0 s := rfl
theorem exec_ocxoFail (s : State) : exec (.ocxoFail) s = execOcxoFail s := rfl
theorem exec_refPhaseOutlier (x0 : Nat) (s : State) : exec (.refPhaseOutlier x0) s = execRefPhaseOutlier x0 s := rfl
theorem exec_tribRateGate (x0 : Nat) (x1 : Nat) (x2 : Int) (s : State) : exec (.tribRateGate x0 x1 x2) s = execTribRateGate x0 x1 x2 s := rfl
theorem exec_aes3ZPreambleReceive (x0 : Nat) (x1 : AesRx) (s : State) : exec (.aes3ZPreambleReceive x0 x1) s = execAes3ZPreambleReceive x0 x1 s := rfl
theorem exec_aes3TxBlockStart (x0 : Nat) (x1 : List Nat) (s : State) : exec (.aes3TxBlockStart x0 x1) s = execAes3TxBlockStart x0 x1 s := rfl
theorem exec_mgmtDatagramReceive (x0 : Nat) (x1 : Nat) (x2 : Nat) (x3 : Nat) (x4 : Nat) (x5 : Nat) (x6 : Bool) (x7 : Bytes) (s : State) : exec (.mgmtDatagramReceive x0 x1 x2 x3 x4 x5 x6 x7) s = execMgmtDatagramReceive x0 x1 x2 x3 x4 x5 x6 x7 s := rfl
theorem exec_tamperInactive (x0 : Nat) (s : State) : exec (.tamperInactive x0) s = execTamperInactive x0 s := rfl
theorem exec_patternWindowWrite (x0 : Nat) (x1 : Nat) (x2 : Nat) (s : State) : exec (.patternWindowWrite x0 x1 x2) s = execPatternWindowWrite x0 x1 x2 s := rfl
theorem exec_nwtMemWindowWrite (x0 : Nat) (x1 : Nat) (x2 : Nat) (s : State) : exec (.nwtMemWindowWrite x0 x1 x2) s = execNwtMemWindowWrite x0 x1 x2 s := rfl
theorem exec_vddCoreSetpointStep (x0 : Bool) (x1 : Bool) (s : State) : exec (.vddCoreSetpointStep x0 x1) s = execVddCoreSetpointStep x0 x1 s := rfl
theorem exec_pmbusRetryExpiry (x0 : Bool) (s : State) : exec (.pmbusRetryExpiry x0) s = execPmbusRetryExpiry x0 s := rfl

/-- Every row is an effect inside the common frame: no row stops. -/
theorem exec_eff (i : Instr) (s : State) : ∃ f, exec i s = runEff f s := by
  cases i
  · exact ⟨_, exec_sessionOpen _ s⟩
  · exact ⟨_, exec_ping _ s⟩
  · exact ⟨_, exec_ident _ s⟩
  · exact ⟨_, exec_modeSet _ s⟩
  · exact ⟨_, exec_debugChallenge _ s⟩
  · exact ⟨_, exec_debugUnlock _ s⟩
  · exact ⟨_, exec_vinDefine _ s⟩
  · exact ⟨_, exec_flowDelete _ s⟩
  · exact ⟨_, exec_vinDepth _ s⟩
  · exact ⟨_, exec_ancInDefine _ s⟩
  · exact ⟨_, exec_voutDefine _ s⟩
  · exact ⟨_, exec_ancOutDefine _ s⟩
  · exact ⟨_, exec_ancOutRoute _ s⟩
  · exact ⟨_, exec_testDefine _ s⟩
  · exact ⟨_, exec_take _ s⟩
  · exact ⟨_, exec_macroStore _ s⟩
  · exact ⟨_, exec_macroArm _ s⟩
  · exact ⟨_, exec_macroDelete _ s⟩
  · exact ⟨_, exec_patWrite _ s⟩
  · exact ⟨_, exec_patClear _ s⟩
  · exact ⟨_, exec_patShare _ s⟩
  · exact ⟨_, exec_schedCancel _ s⟩
  · exact ⟨_, exec_astreamIn _ s⟩
  · exact ⟨_, exec_astreamOut _ s⟩
  · exact ⟨_, exec_astreamDelete _ s⟩
  · exact ⟨_, exec_xpSet _ s⟩
  · exact ⟨_, exec_deembedMap _ s⟩
  · exact ⟨_, exec_embedMap _ s⟩
  · exact ⟨_, exec_delayDefine _ s⟩
  · exact ⟨_, exec_delayDelete _ s⟩
  · exact ⟨_, exec_aptPort _ s⟩
  · exact ⟨_, exec_aptMask _ s⟩
  · exact ⟨_, exec_aptTdm _ s⟩
  · exact ⟨_, exec_aptCsTx _ s⟩
  · exact ⟨_, exec_aptRestart _ s⟩
  · exact ⟨_, exec_audCfg _ s⟩
  · exact ⟨_, exec_imageLoad _ s⟩
  · exact ⟨_, exec_imageDelete _ s⟩
  · exact ⟨_, exec_taskDefine _ s⟩
  · exact ⟨_, exec_taskRemove _ s⟩
  · exact ⟨_, exec_taskParam _ s⟩
  · exact ⟨_, exec_taskEnable _ s⟩
  · exact ⟨_, exec_pipeDefine _ s⟩
  · exact ⟨_, exec_pipeDelete _ s⟩
  · exact ⟨_, exec_layerSet _ s⟩
  · exact ⟨_, exec_surfaceDefine _ s⟩
  · exact ⟨_, exec_surfaceDelete _ s⟩
  · exact ⟨_, exec_surfaceFlip _ s⟩
  · exact ⟨_, exec_flipCancel _ s⟩
  · exact ⟨_, exec_measCfg _ s⟩
  · exact ⟨_, exec_measDest _ s⟩
  · exact ⟨_, exec_allowStep _ s⟩
  · exact ⟨_, exec_timSet _ s⟩
  · exact ⟨_, exec_stepThr _ s⟩
  · exact ⟨_, exec_ptpCfg _ s⟩
  · exact ⟨_, exec_ptpPort _ s⟩
  · exact ⟨_, exec_refInput _ s⟩
  · exact ⟨_, exec_dpllCfg _ s⟩
  · exact ⟨_, exec_raster _ s⟩
  · exact ⟨_, exec_clkout _ s⟩
  · exact ⟨_, exec_oscSel _ s⟩
  · exact ⟨_, exec_macCfg _ s⟩
  · exact ⟨_, exec_macGate _ s⟩
  · exact ⟨_, exec_hlaneCfg _ s⟩
  · exact ⟨_, exec_slaneCfg _ s⟩
  · exact ⟨_, exec_linkCfg _ s⟩
  · exact ⟨_, exec_tribSet _ s⟩
  · exact ⟨_, exec_marginCfg _ s⟩
  · exact ⟨_, exec_eyeMap _ s⟩
  · exact ⟨_, exec_poolCfg _ s⟩
  · exact ⟨_, exec_pprRun _ s⟩
  · exact ⟨_, exec_poolWindow _ s⟩
  · exact ⟨_, exec_spareSubst _ s⟩
  · exact ⟨_, exec_twinCfg _ s⟩
  · exact ⟨_, exec_promote _ s⟩
  · exact ⟨_, exec_resync _ s⟩
  · exact ⟨_, exec_roleSwap _ s⟩
  · exact ⟨_, exec_egressLoop _ s⟩
  · exact ⟨_, exec_keyWrite _ s⟩
  · exact ⟨_, exec_keyErase _ s⟩
  · exact ⟨_, exec_attest _ s⟩
  · exact ⟨_, exec_reset _ s⟩
  · exact ⟨_, exec_fltClear _ s⟩
  · exact ⟨_, exec_quench _ s⟩
  · exact ⟨_, exec_causeClear _ s⟩
  · exact ⟨_, exec_rstcntClear _ s⟩
  · exact ⟨_, exec_optProgram _ s⟩
  · exact ⟨_, exec_read _ s⟩
  · exact ⟨_, exec_snapshot _ s⟩
  · exact ⟨_, exec_castBoundary _ s⟩
  · exact ⟨_, exec_castTimerExpiry _ s⟩
  · exact ⟨_, exec_mirrorAckReceive _ s⟩
  · exact ⟨_, exec_noMirrorAckTimeout _ s⟩
  · exact ⟨_, exec_cplConsWrite _ _ s⟩
  · exact ⟨_, exec_prodWrite _ _ _ s⟩
  · exact ⟨_, exec_heldPacketTimeout _ _ s⟩
  · exact ⟨_, exec_fragmentTimeout _ _ _ s⟩
  · exact ⟨_, exec_timedRelease _ _ s⟩
  · exact ⟨_, exec_timedFire _ _ s⟩
  · exact ⟨_, exec_slotStart _ s⟩
  · exact ⟨_, exec_bankCopyDone _ s⟩
  · exact ⟨_, exec_frameBoundary _ s⟩
  · exact ⟨_, exec_rasterStart _ s⟩
  · exact ⟨_, exec_poolReadReturn _ _ _ s⟩
  · exact ⟨_, exec_readDeadline _ s⟩
  · exact ⟨_, exec_retryBudgetExpiry _ s⟩
  · exact ⟨_, exec_suspectExpiry _ s⟩
  · exact ⟨_, exec_pprRowDone _ s⟩
  · exact ⟨_, exec_poolWindowRead _ _ _ s⟩
  · exact ⟨_, exec_poolWindowWrite _ _ _ s⟩
  · exact ⟨_, exec_flush _ _ s⟩
  · exact ⟨_, exec_macFrameReceive _ _ s⟩
  · exact ⟨_, exec_mergeHoldExpiry _ _ s⟩
  · exact ⟨_, exec_frameOpenTimeout _ _ s⟩
  · exact ⟨_, exec_pathIdleTimeout _ _ s⟩
  · exact ⟨_, exec_inputLossTimeout _ s⟩
  · exact ⟨_, exec_sdiFrameReceive _ _ _ s⟩
  · exact ⟨_, exec_slaneLos _ s⟩
  · exact ⟨_, exec_slaneRateChange _ _ s⟩
  · exact ⟨_, exec_slaneLock _ _ s⟩
  · exact ⟨_, exec_sprueBlockReceive _ _ _ _ _ s⟩
  · exact ⟨_, exec_linkMarkerReceive _ _ s⟩
  · exact ⟨_, exec_laneCdrLoss _ s⟩
  · exact ⟨_, exec_laneWtrExpiry _ s⟩
  · exact ⟨_, exec_marginMeasure _ _ _ s⟩
  · exact ⟨_, exec_laneTxTrained _ _ s⟩
  · exact ⟨_, exec_akestimFrameReceive _ _ s⟩
  · exact ⟨_, exec_akestimRetryTimeout _ s⟩
  · exact ⟨_, exec_akestimLinkUp _ _ _ s⟩
  · exact ⟨_, exec_castRecordReceive _ _ s⟩
  · exact ⟨_, exec_partnerUnresponsive s⟩
  · exact ⟨_, exec_croakInEdge s⟩
  · exact ⟨_, exec_croakInLost s⟩
  · exact ⟨_, exec_croakOutToggle s⟩
  · exact ⟨_, exec_promotion s⟩
  · exact ⟨_, exec_roleSwapExecute s⟩
  · exact ⟨_, exec_resyncComplete _ s⟩
  · exact ⟨_, exec_loopSignatureReceive _ s⟩
  · exact ⟨_, exec_egressLoopDone s⟩
  · exact ⟨_, exec_partnerResetRequest s⟩
  · exact ⟨_, exec_powerGood s⟩
  · exact ⟨_, exec_powerSag s⟩
  · exact ⟨_, exec_backupSupplyRise s⟩
  · exact ⟨_, exec_resetNChange _ s⟩
  · exact ⟨_, exec_perstNChange _ s⟩
  · exact ⟨_, exec_resetPulseEnd _ s⟩
  · exact ⟨_, exec_optionLoadDone s⟩
  · exact ⟨_, exec_clocksLocked s⟩
  · exact ⟨_, exec_poolTrainingDone _ s⟩
  · exact ⟨_, exec_firmwareVerified _ _ s⟩
  · exact ⟨_, exec_meltReady s⟩
  · exact ⟨_, exec_watchdogExpiry s⟩
  · exact ⟨_, exec_kick s⟩
  · exact ⟨_, exec_firmwareReturn s⟩
  · exact ⟨_, exec_chip s⟩
  · exact ⟨_, exec_quenchExit s⟩
  · exact ⟨_, exec_go s⟩
  · exact ⟨_, exec_coldEntry s⟩
  · exact ⟨_, exec_wakeComplete s⟩
  · exact ⟨_, exec_faultRaise _ _ s⟩
  · exact ⟨_, exec_substComplete _ _ _ s⟩
  · exact ⟨_, exec_status _ s⟩
  · exact ⟨_, exec_valid s⟩
  · exact ⟨_, exec_xtalLoss s⟩
  · exact ⟨_, exec_pllUnlock _ s⟩
  · exact ⟨_, exec_tempSample _ _ s⟩
  · exact ⟨_, exec_railSample _ _ _ s⟩
  · exact ⟨_, exec_tamperOnset _ s⟩
  · exact ⟨_, exec_latch s⟩
  · exact ⟨_, exec_keyCommitDone s⟩
  · exact ⟨_, exec_attestSigned s⟩
  · exact ⟨_, exec_snapshotCopyDone s⟩
  · exact ⟨_, exec_imageCheckDone _ s⟩
  · exact ⟨_, exec_eyeMapDone _ _ s⟩
  · exact ⟨_, exec_servoUpdate _ _ _ s⟩
  · exact ⟨_, exec_ptpSyncTx _ s⟩
  · exact ⟨_, exec_ptpAnnounceTx _ s⟩
  · exact ⟨_, exec_ptpDelayReqTx _ s⟩
  · exact ⟨_, exec_announceReceiptTimeout _ s⟩
  · exact ⟨_, exec_macFrameTransmit _ s⟩
  · exact ⟨_, exec_packetSendTime _ s⟩
  · exact ⟨_, exec_txqRead _ _ s⟩
  · exact ⟨_, exec_macLinkUp _ s⟩
  · exact ⟨_, exec_macVerifyTimer _ s⟩
  · exact ⟨_, exec_macLinkDown _ s⟩
  · exact ⟨_, exec_igmpReportSend _ _ s⟩
  · exact ⟨_, exec_snap _ s⟩
  · exact ⟨_, exec_clr _ s⟩
  · exact ⟨_, exec_refFreqGate _ _ s⟩
  · exact ⟨_, exec_refInputLoss _ s⟩
  · exact ⟨_, exec_refQualified _ s⟩
  · exact ⟨_, exec_refWtrExpiry _ _ s⟩
  · exact ⟨_, exec_dpllAbsorbDone _ s⟩
  · exact ⟨_, exec_dpllLocked _ s⟩
  · exact ⟨_, exec_blockBoundary s⟩
  · exact ⟨_, exec_audioStreamLoss _ s⟩
  · exact ⟨_, exec_meterWindowEnd s⟩
  · exact ⟨_, exec_tdmFrameSync _ s⟩
  · exact ⟨_, exec_aes3BlockEnd _ _ _ s⟩
  · exact ⟨_, exec_aes3BlockSyncLoss _ _ s⟩
  · exact ⟨_, exec_restart _ s⟩
  · exact ⟨_, exec_nwtTrap _ _ s⟩
  · exact ⟨_, exec_nwtInterrupt _ s⟩
  · exact ⟨_, exec_nwtTimerExpiry _ s⟩
  · exact ⟨_, exec_nop _ _ s⟩
  · exact ⟨_, exec_br _ _ s⟩
  · exact ⟨_, exec_brz _ _ s⟩
  · exact ⟨_, exec_brnz _ _ s⟩
  · exact ⟨_, exec_brn _ _ s⟩
  · exact ⟨_, exec_call _ _ s⟩
  · exact ⟨_, exec_ret _ _ s⟩
  · exact ⟨_, exec_rep _ _ s⟩
  · exact ⟨_, exec_break _ _ s⟩
  · exact ⟨_, exec_swi _ _ s⟩
  · exact ⟨_, exec_reti _ _ s⟩
  · exact ⟨_, exec_tend _ _ s⟩
  · exact ⟨_, exec_tmr _ _ s⟩
  · exact ⟨_, exec_sld _ _ s⟩
  · exact ⟨_, exec_sst _ _ s⟩
  · exact ⟨_, exec_vld _ _ s⟩
  · exact ⟨_, exec_vst _ _ s⟩
  · exact ⟨_, exec_vldb _ _ s⟩
  · exact ⟨_, exec_vlds _ _ s⟩
  · exact ⟨_, exec_ast _ _ s⟩
  · exact ⟨_, exec_ald _ _ s⟩
  · exact ⟨_, exec_movi _ _ s⟩
  · exact ⟨_, exec_mov _ _ s⟩
  · exact ⟨_, exec_padd _ _ s⟩
  · exact ⟨_, exec_add _ _ s⟩
  · exact ⟨_, exec_sub _ _ s⟩
  · exact ⟨_, exec_and _ _ s⟩
  · exact ⟨_, exec_or _ _ s⟩
  · exact ⟨_, exec_xor _ _ s⟩
  · exact ⟨_, exec_shl _ _ s⟩
  · exact ⟨_, exec_shr _ _ s⟩
  · exact ⟨_, exec_abs _ _ s⟩
  · exact ⟨_, exec_min _ _ s⟩
  · exact ⟨_, exec_max _ _ s⟩
  · exact ⟨_, exec_cmplt _ _ s⟩
  · exact ⟨_, exec_vsel _ _ s⟩
  · exact ⟨_, exec_vmul _ _ s⟩
  · exact ⟨_, exec_vmac _ _ s⟩
  · exact ⟨_, exec_vmsb _ _ s⟩
  · exact ⟨_, exec_vmacm _ _ s⟩
  · exact ⟨_, exec_ftap _ _ s⟩
  · exact ⟨_, exec_aclr _ _ s⟩
  · exact ⟨_, exec_rnd _ _ s⟩
  · exact ⟨_, exec_ashf _ _ s⟩
  · exact ⟨_, exec_exp _ _ s⟩
  · exact ⟨_, exec_norm _ _ s⟩
  · exact ⟨_, exec_reportIntervalEnd s⟩
  · exact ⟨_, exec_measDatagramSend _ s⟩
  · exact ⟨_, exec_gpioEvent _ _ s⟩
  · exact ⟨_, exec_gpioWindowEnd s⟩
  · exact ⟨_, exec_quarantine _ s⟩
  · exact ⟨_, exec_chmFenceWrite _ _ _ s⟩
  · exact ⟨_, exec_vec _ _ s⟩
  · exact ⟨_, exec_epochLoRead _ s⟩
  · exact ⟨_, exec_tickLoRead _ s⟩
  · exact ⟨_, exec_nowNsRead _ s⟩
  · exact ⟨_, exec_rasPosRead _ _ s⟩
  · exact ⟨_, exec_latchedLowRead _ s⟩
  · exact ⟨_, exec_peakRead _ s⟩
  · exact ⟨_, exec_busAccessTimeout _ _ s⟩
  · exact ⟨_, exec_registerWrite _ _ s⟩
  · exact ⟨_, exec_dpllLockLost _ s⟩
  · exact ⟨_, exec_ocxoFail s⟩
  · exact ⟨_, exec_refPhaseOutlier _ s⟩
  · exact ⟨_, exec_tribRateGate _ _ _ s⟩
  · exact ⟨_, exec_aes3ZPreambleReceive _ _ s⟩
  · exact ⟨_, exec_aes3TxBlockStart _ _ s⟩
  · exact ⟨_, exec_mgmtDatagramReceive _ _ _ _ _ _ _ _ s⟩
  · exact ⟨_, exec_tamperInactive _ s⟩
  · exact ⟨_, exec_patternWindowWrite _ _ _ s⟩
  · exact ⟨_, exec_nwtMemWindowWrite _ _ _ s⟩
  · exact ⟨_, exec_vddCoreSetpointStep _ _ s⟩
  · exact ⟨_, exec_pmbusRetryExpiry _ s⟩

end Sys2Proof.Machine
end

