-- ==== Sys2Proof/Laws/Regs.lean ====
section
/-! SUPPORT. Laws of register words and fields: a field reads as written, other fields and other words stay. -/

namespace Sys2Proof.Machine

theorem testBit_getBits (w : Word) (hi lo i : Nat) :
    (getBits w hi lo).testBit i = (decide (i < hi + 1 - lo) && w.getLsbD (lo + i)) := by
  simp [getBits, Nat.testBit_mod_two_pow, Nat.testBit_shiftRight, BitVec.testBit_toNat]

theorem getLsbD_bitMask (hi lo i : Nat) :
    (bitMask hi lo).getLsbD i = (decide (i < 32) && decide (lo ≤ i) && decide (i < hi + 1)) := by
  simp only [bitMask, BitVec.getLsbD_ofNat, Nat.testBit_shiftLeft, Nat.testBit_two_pow_sub_one]
  by_cases h : lo ≤ i
  · have e : decide (i - lo < hi + 1 - lo) = decide (i < hi + 1) := by
      simp only [decide_eq_decide]; omega
    simp [h, e]
  · simp [h]

theorem getLsbD_placeBits (hi lo v i : Nat) :
    (placeBits hi lo v).getLsbD i = (decide (i < 32) && decide (lo ≤ i) && decide (i < hi + 1) && v.testBit (i - lo)) := by
  simp only [placeBits, BitVec.getLsbD_ofNat, Nat.testBit_shiftLeft, Nat.testBit_mod_two_pow]
  by_cases h : lo ≤ i
  · have e : decide (i - lo < hi + 1 - lo) = decide (i < hi + 1) := by
      simp only [decide_eq_decide]; omega
    simp [h, e, Bool.and_assoc]
  · simp [h]

/-- Bit `i` of a word with a field replaced. -/
theorem getLsbD_putBits (w : Word) (hi lo v i : Nat) (hi32 : i < 32) :
    (putBits w hi lo v).getLsbD i =
      if lo ≤ i ∧ i < hi + 1 then v.testBit (i - lo) else w.getLsbD i := by
  simp only [putBits, BitVec.getLsbD_or, BitVec.getLsbD_and, BitVec.getLsbD_not, getLsbD_bitMask, getLsbD_placeBits]
  by_cases h1 : lo ≤ i <;> by_cases h2 : i < hi + 1 <;> simp [h1, h2, hi32]

/-- A field reads as written. -/
theorem getBits_putBits_same (w : Word) (hi lo v : Nat) (h : hi < 32) :
    getBits (putBits w hi lo v) hi lo = v % 2 ^ (hi + 1 - lo) := by
  apply Nat.eq_of_testBit_eq
  intro i
  rw [testBit_getBits, Nat.testBit_mod_two_pow]
  by_cases hi' : i < hi + 1 - lo
  · rw [getLsbD_putBits w hi lo v (lo + i) (by omega)]
    have : lo ≤ lo + i ∧ lo + i < hi + 1 := by omega
    simp [hi', this]
  · simp [hi']

/-- Another field of the word stays. -/
theorem getBits_putBits_other (w : Word) (hi lo v hi' lo' : Nat) (h : hi' < 32) (hd : hi' < lo ∨ hi < lo') :
    getBits (putBits w hi lo v) hi' lo' = getBits w hi' lo' := by
  apply Nat.eq_of_testBit_eq
  intro i
  rw [testBit_getBits, testBit_getBits]
  by_cases hi2 : i < hi' + 1 - lo'
  · rw [getLsbD_putBits w hi lo v (lo' + i) (by omega)]
    rw [if_neg (by omega)]
  · simp [hi2]

namespace State

/-- The register store is in canonical form. -/
def regsOk (s : State) : Bool := swf resetWord s.regs

theorem reg_setReg_same (s : State) (a : Nat) (w : Word) : (s.setReg a w).reg a = w :=
  sget_sset_same resetWord s.regs a w

theorem reg_setReg_other (s : State) (a b : Nat) (w : Word) (h : b ≠ a) : (s.setReg a w).reg b = s.reg b :=
  sget_sset_other resetWord s.regs a b w h

theorem regsOk_setReg (s : State) (a : Nat) (w : Word) (h : s.regsOk = true) : (s.setReg a w).regsOk = true :=
  swf_sset resetWord s.regs a w h

theorem regsOk_setFld (s : State) (f : Fld) (v i j : Nat) (h : s.regsOk = true) : (s.setFld f v i j).regsOk = true :=
  regsOk_setReg s _ _ h

theorem regsOk_clearRegs (s : State) (p : Nat → Bool) (h : s.regsOk = true) : (s.clearRegs p).regsOk = true :=
  swf_filter resetWord s.regs _ h

/-- A field reads as written, cut to its width. -/
theorem fld_setFld_same (s : State) (f : Fld) (v i j : Nat) (hf : f.hi < 32) :
    (s.setFld f v i j).fld f i j = v % 2 ^ (f.hi + 1 - f.lo) := by
  simp only [fld, setFld, reg_setReg_same]
  exact getBits_putBits_same _ _ _ _ hf

/-- A field of another word stays. -/
theorem fld_setFld_word (s : State) (f g : Fld) (v i j k l : Nat) (h : g.addr k l ≠ f.addr i j) :
    (s.setFld f v i j).fld g k l = s.fld g k l := by
  simp only [fld, setFld, reg_setReg_other s _ _ _ h]

/-- A field of the same word that shares no bit stays. -/
theorem fld_setFld_bits (s : State) (f g : Fld) (v i j k l : Nat) (ha : g.addr k l = f.addr i j)
    (hg : g.hi < 32) (hd : g.hi < f.lo ∨ f.hi < g.lo) : (s.setFld f v i j).fld g k l = s.fld g k l := by
  simp only [fld, setFld, ha, reg_setReg_same]
  exact getBits_putBits_other _ _ _ _ _ _ hg hd

end State

end Sys2Proof.Machine
end

