-- ==== Sys2Proof/Laws/Arrival.lean ====
section
/-! SUPPORT. What a packet row does: its opcode, and a packet that passes the checks of R453 is consumed. -/

namespace Sys2Proof.Machine

/-- A packet row is the arrival of its packet, and its opcode one the device recognises. -/
theorem command_exec (i : Instr) (op : Nat) (c : Cmd) (s : State) (h : commandOf i = some (op, c)) :
    exec i s = runEff (fun s => s.commandRow op c) s ∧ (opInfo op).isSome = true := by
  cases i <;> first | (cases h; done) | (cases h; exact ⟨rfl, rfl⟩)
/-- A source that holds no later packet accepts none more. -/
theorem held_none (s : State) (k n : Nat) (h : s.cmd.held.all (fun h => h.cmd.src.val != k) = true) : s.acceptHeld k n = s := by
  cases n with
  | zero => rfl
  | succ n =>
    unfold State.acceptHeld
    have : s.cmd.held.find? (fun h => h.cmd.src.val == k && h.cmd.seq.toNat == s.fld F.CMD_SRC_SEQ_NEXT_SEQ k) = none := by
      rw [List.find?_eq_none]
      intro x hx
      have := List.all_eq_true.mp h x hx
      simp at this ⊢
      intro h'; exact absurd h' this
    simp only [this]

theorem consume_held (s : State) (op : Nat) (c : Cmd) (v : Verdict) : (s.consume op c v).cmd.held = s.cmd.held := by
  unfold State.consume; split
  · split <;> rfl
  · rfl
  · rfl

/-- A packet that passes steps 0 to 5 goes on to the session check, with the key its endpoint found. -/
theorem arrive_served (s : State) (op : Nat) (c : Cmd) (h : s.Served op c) : ∃ key, (isNet c.src.val = false → key = []) ∧
    s.commandRow op c = s.arriveSeq op { c with key := key } := by
  have hserved (key : Bytes) (hk : isNet c.src.val = true → tagOk key (cmdBytes op c) = true) :
      s.arriveServed op { c with key := key } (cmdBytes op c) = s.arriveSeq op { c with key := key } := by
    unfold State.arriveServed
    simp only
    rw [if_neg (by simp [h.awake.2.2]), if_neg (by have := h.room; omega)]
    unfold State.arriveChecks
    simp only [h.bytes]
    rw [if_neg (by rintro ⟨h1, h2⟩; simp [hk h1] at h2)]
  have hrow : s.commandRow op c = s.arrive op { c with key := [] } (cmdBytes op c) := by
    unfold State.commandRow
    rw [if_neg h.source.1]
    simp only [if_pos h.shape]
  rw [hrow]
  unfold State.arrive
  simp only
  rw [if_neg (by
    rintro (h1 | h1 | h1 | h1 | h1)
    · exact h.awake.1 h1
    · simp [h.awake.2.1] at h1
    · exact h.source.1 h1
    · exact h.source.2.1 h1
    · simp [h.source.2.2] at h1)]
  rw [if_neg (by rintro ⟨h1, h2⟩; simp [h.host h1] at h2)]
  by_cases hn : isNet c.src.val = true
  · obtain ⟨he, key, hkey, ht⟩ := h.net hn
    refine ⟨key, by simp [hn], ?_⟩
    rw [if_pos hn, if_neg (by simp [he])]
    simp only [hkey]
    exact hserved key (fun _ => ht)
  · refine ⟨[], fun _ => rfl, ?_⟩
    rw [if_neg hn]
    exact hserved [] (fun h' => absurd h' hn)

/-- A packet that passes steps 0 to 7 is consumed with its verdict. -/
theorem arrive_takes (s : State) (op : Nat) (c : Cmd) (h : s.Takes op c) : ∃ key, (isNet c.src.val = false → key = []) ∧
    s.commandRow op c = s.consume op { c with key := key } (s.judge op { c with key := key }) := by
  obtain ⟨key, hk, hr⟩ := arrive_served s op c h.toServed
  refine ⟨key, hk, hr.trans ?_⟩
  unfold State.arriveSeq
  rw [if_neg h.session.1]
  simp only
  have h2 := h.session.2
  simp only [State.sessionOf] at h2
  rw [if_neg (by rintro (h1 | h1); exacts [h2.1 h1, h1 h2.2])]
  have hb : (s.fld F.CMD_SRC_SEQ_NEXT_SEQ c.src.val + 4294967296 - c.seq.toNat) % 4294967296 = 0 := by
    rw [h.seq]; omega
  rw [if_pos hb]
  unfold State.acceptCmd
  apply held_none
  rw [consume_held]
  exact h.held

/-- What consuming a packet changes. -/
theorem consume_facts (s : State) (op : Nat) (c : Cmd) (v : Verdict) :
    (s.consume op c v).fld F.CMD_SRC_SEQ_NEXT_SEQ c.src.val = (c.seq.toNat + 1) % 4294967296 ∧
    (s.consume op c v).cmd.admitted = s.cmd.admitted ++ [⟨op, c, v, c.isTimed, s.modeTarget.getD s.sys.mode⟩] ∧
    (s.consume op c v).cmd.unreleased = s.cmd.unreleased ∧ (s.consume op c v).jnl = s.jnl ∧
    (s.consume op c v).events = s.events ∧
    (s.consume op c v).cmd.stored = s.cmd.stored.filter (fun x => !(x.src == c.src.val && x.seq == c.seq.toNat)) ++
      [⟨c.src.val, c.seq.toNat, c.hdrCrc.toNat, c.bodyCrc.toNat, none, false⟩] ∧
    (s.consume op c v).sys.mode = s.sys.mode ∧ (s.consume op c v).sys.epoch = s.sys.epoch ∧
    (∀ a, a ≠ F.CMD_SRC_SEQ_NEXT_SEQ.addr c.src.val 0 → a ≠ F.PAT_SCHED_STAT_FULL_SEEN.addr 0 0 →
      (s.consume op c v).reg a = s.reg a) := by
  have hn : (s.setFld F.CMD_SRC_SEQ_NEXT_SEQ ((c.seq.toNat + 1) % 4294967296) c.src.val).fld F.CMD_SRC_SEQ_NEXT_SEQ c.src.val =
      (c.seq.toNat + 1) % 4294967296 := by
    rw [State.fld_setFld_same _ _ _ _ _ (by decide)]
    simp [F.CMD_SRC_SEQ_NEXT_SEQ]
  have hw (a : Nat) (ha : a ≠ F.CMD_SRC_SEQ_NEXT_SEQ.addr c.src.val 0) :
      (s.setFld F.CMD_SRC_SEQ_NEXT_SEQ ((c.seq.toNat + 1) % 4294967296) c.src.val).reg a = s.reg a :=
    State.reg_setReg_other s _ a _ ha
  unfold State.consume
  split
  · split
    · refine ⟨?_, rfl, rfl, rfl, rfl, rfl, rfl, rfl, fun a h1 h2 => ?_⟩
      · unfold State.setFlag
        rw [State.fld_setFld_word]
        · exact hn
        · have := c.src.isLt
          simp only [Fld.addr, F.CMD_SRC_SEQ_NEXT_SEQ, F.PAT_SCHED_STAT_FULL_SEEN]; omega
      · unfold State.setFlag State.setFld
        rw [State.reg_setReg_other _ _ _ _ h2]
        exact hw a h1
    · exact ⟨hn, rfl, rfl, rfl, rfl, rfl, rfl, rfl, fun a h1 _ => hw a h1⟩
  · exact ⟨hn, rfl, rfl, rfl, rfl, rfl, rfl, rfl, fun a h1 _ => hw a h1⟩
  · exact ⟨hn, rfl, rfl, rfl, rfl, rfl, rfl, rfl, fun a h1 _ => hw a h1⟩

theorem lastN_append_mem {α : Type} (n : Nat) (l : List α) (x : α) (hn : 0 < n) : x ∈ lastN n (l ++ [x]) := by
  induction l with
  | nil => simp [lastN, hn]
  | cons a l ih =>
    simp only [List.cons_append, lastN]
    split
    · simp
    · exact ih

theorem mem_boundStored_last (l : List StoredReply) (x : StoredReply) (h : x.src < 16) : x ∈ boundStored (l ++ [x]) := by
  refine List.mem_flatMap.mpr ⟨x.src, List.mem_range.mpr h, ?_⟩
  rw [List.filter_append]
  simp only [List.filter_cons, beq_self_eq_true, if_true, List.filter_nil]
  exact lastN_append_mem _ _ _ (by decide)

end Sys2Proof.Machine
end

