-- ==== Sys2Proof/Laws/Begin.lean ====
section
/-! SUPPORT. What is read of a state is the same at the start of a step: only the outputs of the step before are gone. -/

namespace Sys2Proof.Machine

@[simp] theorem begin_onLines (s : State) : s.begin.onLines = s.onLines := rfl
@[simp] theorem begin_cycleNs (s : State) : s.begin.cycleNs = s.cycleNs := rfl
@[simp] theorem begin_boundaryNs (s : State) : s.begin.boundaryNs = s.boundaryNs := rfl
@[simp] theorem begin_whenNs (s : State) (c : Cmd) : s.begin.whenNs c = s.whenNs c := rfl
@[simp] theorem begin_whenCheck (s : State) (c : Cmd) : s.begin.whenCheck c = s.whenCheck c := rfl
@[simp] theorem begin_firesBefore (s : State) (a b : OpCmd) : s.begin.firesBefore a b = s.firesBefore a b := rfl
@[simp] theorem begin_cyclesNs (s : State) (k : Nat) : s.begin.cyclesNs k = s.cyclesNs k := rfl
@[simp] theorem begin_permitted (s : State) (op src : Nat) : s.begin.permitted op src = s.permitted op src := rfl
@[simp] theorem begin_formCheck (s : State) (op : Nat) (c : Cmd) : s.begin.formCheck op c = s.formCheck op c := rfl
@[simp] theorem begin_replyOf (s : State) (c : Cmd) (status : Nat) (epoch time : Option Nat) (payload : Bytes) :
    s.begin.replyOf c status epoch time payload = s.replyOf c status epoch time payload := rfl
@[simp] theorem begin_swapTarget (s : State) : s.begin.swapTarget = s.swapTarget := rfl
@[simp] theorem begin_modeTarget (s : State) : s.begin.modeTarget = s.modeTarget := rfl
@[simp] theorem begin_netKey (s : State) (c : Cmd) : s.begin.netKey c = s.netKey c := rfl
@[simp] theorem begin_macrosOn (s : State) (pin : Nat) (level : Bool) :
    s.begin.macrosOn pin level = s.macrosOn pin level := rfl
@[simp] theorem begin_gridNow (s : State) : s.begin.gridNow = s.gridNow := rfl
@[simp] theorem begin_astream (s : State) (id : Nat) : s.begin.astream id = s.astream id := rfl
@[simp] theorem begin_readList (s : State) : s.begin.readList = s.readList := rfl
@[simp] theorem begin_amRef (s : State) (ref : Nat) : s.begin.amRef ref = s.amRef ref := rfl
@[simp] theorem begin_meterValue (s : State) (ref : Nat) (v : BitVec 32) :
    s.begin.meterValue ref v = s.meterValue ref v := rfl
@[simp] theorem begin_pcmReaders (s : State) : s.begin.pcmReaders = s.pcmReaders := rfl
@[simp] theorem begin_amMisuse (s : State) : s.begin.amMisuse = s.amMisuse := rfl
@[simp] theorem begin_srcVals (s : State) (rd : List ChanBlock) (ref : Nat) :
    s.begin.srcVals rd ref = s.srcVals rd ref := rfl
@[simp] theorem begin_srcConc (s : State) (rd : List ChanBlock) (ref : Nat) :
    s.begin.srcConc rd ref = s.srcConc rd ref := rfl
@[simp] theorem begin_xpChans (s : State) : s.begin.xpChans = s.xpChans := rfl
@[simp] theorem begin_xpVals (s : State) (rd : List ChanBlock) (ch j : Nat) :
    s.begin.xpVals rd ch j = s.xpVals rd ch j := rfl
@[simp] theorem begin_outVals (s : State) (t ch : Nat) : s.begin.outVals t ch = s.outVals t ch := rfl
@[simp] theorem begin_outConc (s : State) (t ch : Nat) : s.begin.outConc t ch = s.outConc t ch := rfl
@[simp] theorem begin_lineReturns (s : State) (t : Nat) : s.begin.lineReturns t = s.lineReturns t := rfl
@[simp] theorem begin_lineDue (s : State) (x : DelayLine) : s.begin.lineDue x = s.lineDue x := rfl
@[simp] theorem begin_sampleOut (s : State) (rate enc ch c m : Nat) (v : BitVec 32) :
    s.begin.sampleOut rate enc ch c m v = s.sampleOut rate enc ch c m v := rfl
@[simp] theorem begin_programOf (s : State) (ts : List NwtTask) : s.begin.programOf ts = s.programOf ts := rfl
@[simp] theorem begin_taskIn (s : State) (ref : Nat) : s.begin.taskIn ref = s.taskIn ref := rfl
@[simp] theorem begin_streamCount (s : State) (isIn : Bool) : s.begin.streamCount isIn = s.streamCount isIn := rfl
@[simp] theorem begin_streamTaken (s : State) (id : Nat) : s.begin.streamTaken id = s.streamTaken id := rfl
@[simp] theorem begin_mapSlips (s : State) (flow : Nat) (emb : Bool) : s.begin.mapSlips flow emb = s.mapSlips flow emb := rfl
@[simp] theorem begin_portRefs (s : State) (p mask base : Nat) : s.begin.portRefs p mask base = s.portRefs p mask base := rfl
@[simp] theorem begin_portIns (s : State) (p : Nat) : s.begin.portIns p = s.portIns p := rfl
@[simp] theorem begin_portOuts (s : State) (p : Nat) : s.begin.portOuts p = s.portOuts p := rfl
@[simp] theorem begin_inWriters (s : State) : s.begin.inWriters = s.inWriters := rfl
@[simp] theorem begin_intWriters (s : State) : s.begin.intWriters = s.intWriters := rfl
@[simp] theorem begin_hasWriter (s : State) (b n : Nat) : s.begin.hasWriter b n = s.hasWriter b n := rfl
@[simp] theorem begin_outUsed (s : State) : s.begin.outUsed = s.outUsed := rfl
@[simp] theorem begin_freeBundle (s : State) : s.begin.freeBundle = s.freeBundle := rfl
@[simp] theorem begin_freeLabel (s : State) : s.begin.freeLabel = s.freeLabel := rfl
@[simp] theorem begin_freeSend (s : State) : s.begin.freeSend = s.freeSend := rfl
@[simp] theorem begin_freeReturn (s : State) : s.begin.freeReturn = s.freeReturn := rfl
@[simp] theorem begin_autoLines (s : State) : s.begin.autoLines = s.autoLines := rfl
@[simp] theorem begin_deembedAt (s : State) (src pos : Nat) : s.begin.deembedAt src pos = s.deembedAt src pos := rfl
@[simp] theorem begin_aptPort (s : State) (p : Nat) : s.begin.aptPort p = s.aptPort p := rfl
@[simp] theorem begin_portMul (s : State) (p : Nat) : s.begin.portMul p = s.portMul p := rfl
@[simp] theorem begin_portNext (s : State) (mul : Nat) (next : Option Nat) :
    s.begin.portNext mul next = s.portNext mul next := rfl
@[simp] theorem begin_portDrives (s : State) (p : Nat) : s.begin.portDrives p = s.portDrives p := rfl
@[simp] theorem begin_isAes (s : State) (p : Nat) : s.begin.isAes p = s.isAes p := rfl
@[simp] theorem begin_csLoad (s : State) (base : Fld) (p sub : Nat) : s.begin.csLoad base p sub = s.csLoad base p sub := rfl
@[simp] theorem begin_twoFrames (s : State) (p : Nat) : s.begin.twoFrames p = s.twoFrames p := rfl
@[simp] theorem begin_maskWait (s : State) (p : Nat) : s.begin.maskWait p = s.maskWait p := rfl
@[simp] theorem begin_sysModeWord (s : State) : s.begin.sysModeWord = s.sysModeWord := rfl
@[simp] theorem begin_sysCastWord (s : State) : s.begin.sysCastWord = s.sysCastWord := rfl
@[simp] theorem begin_rateNow (s : State) : s.begin.rateNow = s.rateNow := rfl
@[simp] theorem begin_nowWord (s : State) (i : Nat) : s.begin.nowWord i = s.nowWord i := rfl
@[simp] theorem begin_rasPosWord (s : State) (d i : Nat) : s.begin.rasPosWord d i = s.rasPosWord d i := rfl
@[simp] theorem begin_poolFreeWord (s : State) (i : Nat) : s.begin.poolFreeWord i = s.poolFreeWord i := rfl
@[simp] theorem begin_pprWord (s : State) (k i : Nat) : s.begin.pprWord k i = s.pprWord k i := rfl
@[simp] theorem begin_jnlWord (s : State) (i : Nat) : s.begin.jnlWord i = s.jnlWord i := rfl
@[simp] theorem begin_macIdle (s : State) (m : Nat) : s.begin.macIdle m = s.macIdle m := rfl
@[simp] theorem begin_laneIdle (s : State) (l : Nat) : s.begin.laneIdle l = s.laneIdle l := rfl
@[simp] theorem begin_domServes (s : State) (m : Nat) (t : Target) : s.begin.domServes m t = s.domServes m t := rfl
@[simp] theorem begin_reaches (s : State) (m : Nat) (t : Target) (write : Bool) :
    s.begin.reaches m t write = s.reaches m t write := rfl
@[simp] theorem begin_accessOk (s : State) (a : BusAccess) (write : Bool) :
    s.begin.accessOk a write = s.accessOk a write := rfl
@[simp] theorem begin_latchOf (s : State) (m a : Nat) : s.begin.latchOf m a = s.latchOf m a := rfl
@[simp] theorem begin_patWinRead (s : State) (off : Nat) : s.begin.patWinRead off = s.patWinRead off := rfl
@[simp] theorem begin_winAt (s : State) (off : Nat) : s.begin.winAt off = s.winAt off := rfl
@[simp] theorem begin_ownedNow (s : State) (m off : Nat) : s.begin.ownedNow m off = s.ownedNow m off := rfl
@[simp] theorem begin_directOk (s : State) (m : Nat) : s.begin.directOk m = s.directOk m := rfl
@[simp] theorem begin_enabledBytes (s : State) (enables w b v : Nat) :
    s.begin.enabledBytes enables w b v = s.enabledBytes enables w b v := rfl
@[simp] theorem begin_appliedTime (s : State) : s.begin.appliedTime = s.appliedTime := rfl
@[simp] theorem begin_modeRefuses (s : State) (a : Admitted) : s.begin.modeRefuses a = s.modeRefuses a := rfl
@[simp] theorem begin_recordFull (s : State) (a : Admitted) : s.begin.recordFull a = s.recordFull a := rfl
@[simp] theorem begin_resetDue (s : State) : s.begin.resetDue = s.resetDue := rfl
@[simp] theorem begin_word0 (s : State) (a : Nat) : s.begin.word0 a = s.word0 a := rfl
@[simp] theorem begin_intLines (s : State) : s.begin.intLines = s.intLines := rfl
@[simp] theorem begin_layerTiles (s : State) (n fr : Nat) : s.begin.layerTiles n fr = s.layerTiles n fr := rfl
@[simp] theorem begin_srcPix (s : State) (n fr : Nat) (pic : Picture) (bt2020 : Bool) (x y : Nat) :
    s.begin.srcPix n fr pic bt2020 x y = s.srcPix n fr pic bt2020 x y := rfl
@[simp] theorem begin_oneTap (s : State) (n : Nat) : s.begin.oneTap n = s.oneTap n := rfl
@[simp] theorem begin_layerPix (s : State) (n fr : Nat) (pic : Picture) (bt2020 : Bool) (i j : Nat) :
    s.begin.layerPix n fr pic bt2020 i j = s.layerPix n fr pic bt2020 i j := rfl
@[simp] theorem begin_layerAt (s : State) (n fr : Nat) (bt2020 : Bool) (x r : Nat) :
    s.begin.layerAt n fr bt2020 x r = s.layerAt n fr bt2020 x r := rfl
@[simp] theorem begin_keyOf (s : State) (n fr : Nat) (bt2020 : Bool) (x r : Nat) (p : Pix) :
    s.begin.keyOf n fr bt2020 x r p = s.keyOf n fr bt2020 x r p := rfl
@[simp] theorem begin_blendLayer (s : State) (fr : Nat) (bt2020 : Bool) (x r : Nat) (b : Pix) (n : Nat) :
    s.begin.blendLayer fr bt2020 x r b n = s.blendLayer fr bt2020 x r b n := rfl
@[simp] theorem begin_pipeLayers (s : State) (p : Nat) : s.begin.pipeLayers p = s.pipeLayers p := rfl
@[simp] theorem begin_pipePix (s : State) (p fr x r : Nat) : s.begin.pipePix p fr x r = s.pipePix p fr x r := rfl
@[simp] theorem begin_predictSurf (s : State) (d : Nat) : s.begin.predictSurf d = s.predictSurf d := rfl
@[simp] theorem begin_egressTrained (s : State) : s.begin.egressTrained = s.egressTrained := rfl
@[simp] theorem begin_holdChecks (s : State) : s.begin.holdChecks = s.holdChecks := rfl
@[simp] theorem begin_modeChecks (s : State) (m : Mode) : s.begin.modeChecks m = s.modeChecks m := rfl
@[simp] theorem begin_shkVideo (s : State) (u : Nat) : s.begin.shkVideo u = s.shkVideo u := rfl
@[simp] theorem begin_shkAnc (s : State) (u : Nat) : s.begin.shkAnc u = s.shkAnc u := rfl
@[simp] theorem begin_shkRate (s : State) (u : Nat) : s.begin.shkRate u = s.shkRate u := rfl
@[simp] theorem begin_shkPackets (s : State) (u path : Nat) : s.begin.shkPackets u path = s.shkPackets u path := rfl
@[simp] theorem begin_shkSdi (s : State) (u : Nat) : s.begin.shkSdi u = s.shkSdi u := rfl
@[simp] theorem begin_stageBytes (s : State) (o : VOut) : s.begin.stageBytes o = s.stageBytes o := rfl
@[simp] theorem begin_shkStage (s : State) (u : Nat) : s.begin.shkStage u = s.shkStage u := rfl
@[simp] theorem begin_shkCheck (s : State) (u : Nat) : s.begin.shkCheck u = s.shkCheck u := rfl
@[simp] theorem begin_activeRoute (s : State) (d out : Nat) : s.begin.activeRoute d out = s.activeRoute d out := rfl
@[simp] theorem begin_frameTs (s : State) (d frame rate ofs : Nat) :
    s.begin.frameTs d frame rate ofs = s.frameTs d frame rate ofs := rfl
@[simp] theorem begin_halfOut (s : State) (o : VOut) : s.begin.halfOut o = s.halfOut o := rfl
@[simp] theorem begin_looping (s : State) (kind unit : Nat) : s.begin.looping kind unit = s.looping kind unit := rfl
@[simp] theorem begin_sdiSends (s : State) (o : VOut) : s.begin.sdiSends o = s.sdiSends o := rfl
@[simp] theorem begin_ipSends (s : State) (f : Nat) : s.begin.ipSends f = s.ipSends f := rfl
@[simp] theorem begin_isTrib (s : State) (o : VOut) : s.begin.isTrib o = s.isTrib o := rfl
@[simp] theorem begin_isSdi (s : State) (o : VOut) : s.begin.isSdi o = s.isSdi o := rfl
@[simp] theorem begin_sdiFrom (s : State) (o : VOut) (fr : Nat) : s.begin.sdiFrom o fr = s.sdiFrom o fr := rfl
@[simp] theorem begin_outTiles (s : State) (f frame : Nat) (anc : Bool) :
    s.begin.outTiles f frame anc = s.outTiles f frame anc := rfl
@[simp] theorem begin_atcTime (s : State) (o : VOut) (fr : Nat) : s.begin.atcTime o fr = s.atcTime o fr := rfl
@[simp] theorem begin_ancBytes (s : State) (f frame : Nat) : s.begin.ancBytes f frame = s.ancBytes f frame := rfl
@[simp] theorem begin_framePos (s : State) (d frame : Nat) : s.begin.framePos d frame = s.framePos d frame := rfl
@[simp] theorem begin_embedMap (s : State) (f : Nat) : s.begin.embedMap f = s.embedMap f := rfl
@[simp] theorem begin_embAudio (s : State) (o : VOut) (fr : Nat) : s.begin.embAudio o fr = s.embAudio o fr := rfl
@[simp] theorem begin_loopDrives (s : State) (o : VOut) : s.begin.loopDrives o = s.loopDrives o := rfl
@[simp] theorem begin_lossBlack (s : State) (o : VOut) (src : Option Nat) (run : Nat) :
    s.begin.lossBlack o src run = s.lossBlack o src run := rfl
@[simp] theorem begin_descMode (s : State) : s.begin.descMode = s.descMode := rfl
@[simp] theorem begin_outSending (s : State) (f : Nat) : s.begin.outSending f = s.outSending f := rfl
@[simp] theorem begin_unitsIn (s : State) (k : UnitKind) (st : Nat) : s.begin.unitsIn k st = s.unitsIn k st := rfl
@[simp] theorem begin_eligible (s : State) (k : UnitKind) (u : Nat) : s.begin.eligible k u = s.eligible k u := rfl
@[simp] theorem begin_unitFault (s : State) (k : UnitKind) (u : Nat) : s.begin.unitFault k u = s.unitFault k u := rfl
@[simp] theorem begin_wakeMask (s : State) (pin : Nat) : s.begin.wakeMask pin = s.wakeMask pin := rfl
@[simp] theorem begin_flowBit (s : State) (f i : Nat) : s.begin.flowBit f i = s.flowBit f i := rfl
@[simp] theorem begin_refsOf (s : State) (f : Nat) : s.begin.refsOf f = s.refsOf f := rfl
@[simp] theorem begin_ringServed (s : State) (src : Nat) : s.begin.ringServed src = s.ringServed src := rfl
@[simp] theorem begin_mgmtUp (s : State) (port : Nat) : s.begin.mgmtUp port = s.mgmtUp port := rfl
@[simp] theorem begin_endpointOf (s : State) (port udpPort : Nat) :
    s.begin.endpointOf port udpPort = s.endpointOf port udpPort := rfl
@[simp] theorem begin_keySlot (s : State) (k : Nat) : s.begin.keySlot k = s.keySlot k := rfl
@[simp] theorem begin_slotKey (s : State) (k : Nat) : s.begin.slotKey k = s.slotKey k := rfl
@[simp] theorem begin_tamperNow (s : State) : s.begin.tamperNow = s.tamperNow := rfl
@[simp] theorem begin_slotEntry (s : State) (k : Nat) : s.begin.slotEntry k = s.slotEntry k := rfl
@[simp] theorem begin_slotEntries (s : State) : s.begin.slotEntries = s.slotEntries := rfl
@[simp] theorem begin_slotsIn (s : State) (st : Nat) : s.begin.slotsIn st = s.slotsIn st := rfl
@[simp] theorem begin_keyStat (s : State) : s.begin.keyStat = s.keyStat := rfl
@[simp] theorem begin_keySlotStat (s : State) (k w : Nat) : s.begin.keySlotStat k w = s.keySlotStat k w := rfl
@[simp] theorem begin_measEntries (s : State) : s.begin.measEntries = s.measEntries := rfl
@[simp] theorem begin_statement (s : State) (nonce : Bytes) : s.begin.statement nonce = s.statement nonce := rfl
@[simp] theorem begin_mainPower (s : State) : s.begin.mainPower = s.mainPower := rfl
@[simp] theorem begin_debugSlot (s : State) : s.begin.debugSlot = s.debugSlot := rfl
@[simp] theorem begin_frameTile (s : State) (x : InFlow) (gen ix k : Nat) :
    s.begin.frameTile x gen ix k = s.frameTile x gen ix k := rfl
@[simp] theorem begin_absSlot (s : State) (d : Nat) : s.begin.absSlot d = s.absSlot d := rfl
@[simp] theorem begin_ingestFlags (s : State) (lost : Bool) : s.begin.ingestFlags lost = s.ingestFlags lost := rfl
@[simp] theorem begin_tileTag (s : State) (x : InFlow) (o : OpenFrame) (k : Nat) :
    s.begin.tileTag x o k = s.tileTag x o k := rfl
@[simp] theorem begin_ownedLanes (s : State) (uses : List Nat) (owner : Nat) :
    s.begin.ownedLanes uses owner = s.ownedLanes uses owner := rfl
@[simp] theorem begin_linkLanes (s : State) (link : Nat) : s.begin.linkLanes link = s.linkLanes link := rfl
@[simp] theorem begin_laneAt (s : State) (link pos : Nat) : s.begin.laneAt link pos = s.laneAt link pos := rfl
@[simp] theorem begin_spareLane (s : State) (link : Nat) : s.begin.spareLane link = s.spareLane link := rfl
@[simp] theorem begin_laneRec (s : State) (l : Nat) : s.begin.laneRec l = s.laneRec l := rfl
@[simp] theorem begin_linkRec (s : State) (l : Nat) : s.begin.linkRec l = s.linkRec l := rfl
@[simp] theorem begin_linkCarries (s : State) (link : Nat) : s.begin.linkCarries link = s.linkCarries link := rfl
@[simp] theorem begin_macCarries (s : State) (m : Nat) : s.begin.macCarries m = s.macCarries m := rfl
@[simp] theorem begin_ownerHeld (s : State) (use owner : Nat) : s.begin.ownerHeld use owner = s.ownerHeld use owner := rfl
@[simp] theorem begin_sdiLanes (s : State) : s.begin.sdiLanes = s.sdiLanes := rfl
@[simp] theorem begin_portOk (s : State) (m : Nat) : s.begin.portOk m = s.portOk m := rfl
@[simp] theorem begin_linkRateOk (s : State) (link : Nat) : s.begin.linkRateOk link = s.linkRateOk link := rfl
@[simp] theorem begin_spareGood (s : State) (link : Nat) : s.begin.spareGood link = s.spareGood link := rfl
@[simp] theorem begin_laneAligned (s : State) (link l : Nat) : s.begin.laneAligned link l = s.laneAligned link l := rfl
@[simp] theorem begin_failedPos (s : State) (link : Nat) : s.begin.failedPos link = s.failedPos link := rfl
@[simp] theorem begin_lowPos (s : State) (link : Nat) : s.begin.lowPos link = s.lowPos link := rfl
@[simp] theorem begin_wantPos (s : State) (link : Nat) : s.begin.wantPos link = s.wantPos link := rfl
@[simp] theorem begin_tribRx (s : State) (link trib : Nat) : s.begin.tribRx link trib = s.tribRx link trib := rfl
@[simp] theorem begin_tribOf (s : State) (link cont : Nat) : s.begin.tribOf link cont = s.tribOf link cont := rfl
@[simp] theorem begin_linkRoom (s : State) (link : Nat) : s.begin.linkRoom link = s.linkRoom link := rfl
@[simp] theorem begin_twinOn (s : State) : s.begin.twinOn = s.twinOn := rfl
@[simp] theorem begin_aksUp (s : State) : s.begin.aksUp = s.aksUp := rfl
@[simp] theorem begin_aksOpen (s : State) : s.begin.aksOpen = s.aksOpen := rfl
@[simp] theorem begin_tribsOf (s : State) (link : Nat) : s.begin.tribsOf link = s.tribsOf link := rfl
@[simp] theorem begin_tribsFit (s : State) (link : Nat) : s.begin.tribsFit link = s.tribsFit link := rfl
@[simp] theorem begin_inService (s : State) : s.begin.inService = s.inService := rfl
@[simp] theorem begin_outLinks (s : State) (o : VOut) : s.begin.outLinks o = s.outLinks o := rfl
@[simp] theorem begin_inLinks (s : State) (x : InFlow) : s.begin.inLinks x = s.inLinks x := rfl
@[simp] theorem begin_linkRate (s : State) (link : Nat) : s.begin.linkRate link = s.linkRate link := rfl
@[simp] theorem begin_txLanes (s : State) (link : Nat) : s.begin.txLanes link = s.txLanes link := rfl
@[simp] theorem begin_markerOf (s : State) (link lane round : Nat) :
    s.begin.markerOf link lane round = s.markerOf link lane round := rfl
@[simp] theorem begin_tribOut (s : State) (link trib : Nat) : s.begin.tribOut link trib = s.tribOut link trib := rfl
@[simp] theorem begin_wordsDue (s : State) (x : TribTx) (d k : Nat) : s.begin.wordsDue x d k = s.wordsDue x d k := rfl
@[simp] theorem begin_roundWords (s : State) (link : Nat) : s.begin.roundWords link = s.roundWords link := rfl
@[simp] theorem begin_filterAdmit (s : State) (l : List RxFilter) (off : Nat) :
    s.begin.filterAdmit l off = s.filterAdmit l off := rfl
@[simp] theorem begin_templateAdmit (s : State) (l : List TxTemplate) : s.begin.templateAdmit l = s.templateAdmit l := rfl
@[simp] theorem begin_macFec (s : State) (m : Nat) : s.begin.macFec m = s.macFec m := rfl
@[simp] theorem begin_rtpFrame (s : State) (t : TxTemplate) (ts : Nat) (m : Bool) (payload : Bytes) :
    s.begin.rtpFrame t ts m payload = s.rtpFrame t ts m payload := rfl
@[simp] theorem begin_macSends (s : State) (m : Nat) (desc : Bool) : s.begin.macSends m desc = s.macSends m desc := rfl
@[simp] theorem begin_igmpOld (s : State) (m : Nat) : s.begin.igmpOld m = s.igmpOld m := rfl
@[simp] theorem begin_igmpReady (s : State) (m : Nat) : s.begin.igmpReady m = s.igmpReady m := rfl
@[simp] theorem begin_gateAt (s : State) (m line slot : Nat) : s.begin.gateAt m line slot = s.gateAt m line slot := rfl
@[simp] theorem begin_frameSlots (s : State) (m n : Nat) : s.begin.frameSlots m n = s.frameSlots m n := rfl
@[simp] theorem begin_gateStays (s : State) (m n : Nat) : s.begin.gateStays m n = s.gateStays m n := rfl
@[simp] theorem begin_nextFrame (s : State) (m : Nat) : s.begin.nextFrame m = s.nextFrame m := rfl
@[simp] theorem begin_gateOctets (s : State) (m n : Nat) : s.begin.gateOctets m n = s.gateOctets m n := rfl
@[simp] theorem begin_fragmentOf (s : State) (f : TxFrame) : s.begin.fragmentOf f = s.fragmentOf f := rfl
@[simp] theorem begin_frameRun (s : State) (f : Nat) : s.begin.frameRun f = s.frameRun f := rfl
@[simp] theorem begin_inputPicture (s : State) (x : InFlow) (g : DoneFrame) :
    s.begin.inputPicture x g = s.inputPicture x g := rfl
@[simp] theorem begin_measSubjects (s : State) : s.begin.measSubjects = s.measSubjects := rfl
@[simp] theorem begin_nextDgram (s : State) (d : Nat) : s.begin.nextDgram d = s.nextDgram d := rfl
@[simp] theorem begin_measSends (s : State) (d : Nat) : s.begin.measSends d = s.measSends d := rfl
@[simp] theorem begin_recBank (s : State) (d : Nat) : s.begin.recBank d = s.recBank d := rfl
@[simp] theorem begin_recSource (s : State) (k : Nat) : s.begin.recSource k = s.recSource k := rfl
@[simp] theorem begin_recServo (s : State) : s.begin.recServo = s.recServo := rfl
@[simp] theorem begin_outTsOfs (s : State) (f : Nat) : s.begin.outTsOfs f = s.outTsOfs f := rfl
@[simp] theorem begin_recRtp (s : State) : s.begin.recRtp = s.recRtp := rfl
@[simp] theorem begin_recFences (s : State) : s.begin.recFences = s.recFences := rfl
@[simp] theorem begin_castRec (s : State) (first : Nat) : s.begin.castRec first = s.castRec first := rfl
@[simp] theorem begin_mirror (s : State) : s.begin.mirror = s.mirror := rfl
@[simp] theorem begin_installFlow (s : State) (x : InFlow) : s.begin.installFlow x = s.installFlow x := rfl
@[simp] theorem begin_installVout (s : State) (o : VOut) : s.begin.installVout o = s.installVout o := rfl
@[simp] theorem begin_installStream (s : State) (x : AStream) : s.begin.installStream x = s.installStream x := rfl
@[simp] theorem begin_installDelay (s : State) (x : DelayLine) : s.begin.installDelay x = s.installDelay x := rfl
@[simp] theorem begin_installMap (s : State) (x : EmbMap) : s.begin.installMap x = s.installMap x := rfl
@[simp] theorem begin_recEpoch (s : State) : s.begin.recEpoch = s.recEpoch := rfl
@[simp] theorem begin_recNext (s : State) : s.begin.recNext = s.recNext := rfl
@[simp] theorem begin_swapTail (s : State) (r : CastRec) : s.begin.swapTail r = s.swapTail r := rfl
@[simp] theorem begin_rxStamp (s : State) (m stamp : Nat) : s.begin.rxStamp m stamp = s.rxStamp m stamp := rfl
@[simp] theorem begin_filterMatch (s : State) (m : Nat) (f : NetFrame) : s.begin.filterMatch m f = s.filterMatch m f := rfl
@[simp] theorem begin_macAddr (s : State) (m : Nat) : s.begin.macAddr m = s.macAddr m := rfl
@[simp] theorem begin_maySend (s : State) (f : TxFrame) : s.begin.maySend f = s.maySend f := rfl
@[simp] theorem begin_core (s : State) (c : Nat) : s.begin.core c = s.core c := rfl
@[simp] theorem begin_image (s : State) (slot : Nat) : s.begin.image slot = s.image slot := rfl
@[simp] theorem begin_imageUsed (s : State) (slot : Nat) : s.begin.imageUsed slot = s.imageUsed slot := rfl
@[simp] theorem begin_assembly (s : State) (slot : Nat) : s.begin.assembly slot = s.assembly slot := rfl
@[simp] theorem begin_codeBytes (s : State) (slot i o : Nat) : s.begin.codeBytes slot i o = s.codeBytes slot i o := rfl
@[simp] theorem begin_coreCheck (s : State) (c : Nat) (t : NwtTask) : s.begin.coreCheck c t = s.coreCheck c t := rfl
@[simp] theorem begin_newTask (s : State) (index image : Nat) (rate96 : Bool) (ins outs : List Nat) (par : Bytes) :
    s.begin.newTask index image rate96 ins outs par = s.newTask index image rate96 ins outs par := rfl
@[simp] theorem begin_nwtWinAddr (s : State) (off : Nat) : s.begin.nwtWinAddr off = s.nwtWinAddr off := rfl
@[simp] theorem begin_nwtWinRead (s : State) (off : Nat) : s.begin.nwtWinRead off = s.nwtWinRead off := rfl
@[simp] theorem begin_reg (s : State) (a : Nat) : s.begin.reg a = s.reg a := rfl
@[simp] theorem begin_fld (s : State) (f : Fld) (i : Nat := 0) (j : Nat := 0) : s.begin.fld f i j = s.fld f i j := rfl
@[simp] theorem begin_flag (s : State) (f : Fld) (i : Nat := 0) (j : Nat := 0) : s.begin.flag f i j = s.flag f i j := rfl
@[simp] theorem begin_sfld (s : State) (f : Fld) (i : Nat := 0) (j : Nat := 0) : s.begin.sfld f i j = s.sfld f i j := rfl
@[simp] theorem begin_pair (s : State) (lo hi : Fld) (i : Nat := 0) : s.begin.pair lo hi i = s.pair lo hi i := rfl
@[simp] theorem begin_fwServes (s : State) : s.begin.fwServes = s.fwServes := rfl
@[simp] theorem begin_inFlow (s : State) (f : Nat) : s.begin.inFlow f = s.inFlow f := rfl
@[simp] theorem begin_ptpNow (s : State) : s.begin.ptpNow = s.ptpNow := rfl
@[simp] theorem begin_ptpNs (s : State) : s.begin.ptpNs = s.ptpNs := rfl
@[simp] theorem begin_castTick (s : State) : s.begin.castTick = s.castTick := rfl
@[simp] theorem begin_dpllOf (s : State) (d : Nat) : s.begin.dpllOf d = s.dpllOf d := rfl
@[simp] theorem begin_alignedNow (s : State) (d : Nat) : s.begin.alignedNow d = s.alignedNow d := rfl
@[simp] theorem begin_rasOf (s : State) (d : Nat) : s.begin.rasOf d = s.rasOf d := rfl
@[simp] theorem begin_running (s : State) (d : Nat) : s.begin.running d = s.running d := rfl
@[simp] theorem begin_domFmt (s : State) (d : Nat) : s.begin.domFmt d = s.domFmt d := rfl
@[simp] theorem begin_absLine (s : State) (d : Nat) : s.begin.absLine d = s.absLine d := rfl
@[simp] theorem begin_frameOf (s : State) (d : Nat) : s.begin.frameOf d = s.frameOf d := rfl
@[simp] theorem begin_vout (s : State) (f : Nat) : s.begin.vout f = s.vout f := rfl
@[simp] theorem begin_testSrc (s : State) (f : Nat) : s.begin.testSrc f = s.testSrc f := rfl
@[simp] theorem begin_ancOut (s : State) (f : Nat) : s.begin.ancOut f = s.ancOut f := rfl
@[simp] theorem begin_surfEn (s : State) (f : Nat) : s.begin.surfEn f = s.surfEn f := rfl
@[simp] theorem begin_picture (s : State) (f : Nat) : s.begin.picture f = s.picture f := rfl
@[simp] theorem begin_ancTpf (s : State) (f : Nat) : s.begin.ancTpf f = s.ancTpf f := rfl
@[simp] theorem begin_companion (s : State) (f : Nat) : s.begin.companion f = s.companion f := rfl
@[simp] theorem begin_domIns (s : State) (d : Nat) (anc : Bool) : s.begin.domIns d anc = s.domIns d anc := rfl
@[simp] theorem begin_domOuts (s : State) (d : Nat) : s.begin.domOuts d = s.domOuts d := rfl
@[simp] theorem begin_compileFmt (s : State) (d : Nat) : s.begin.compileFmt d = s.compileFmt d := rfl
@[simp] theorem begin_anyHalf (s : State) (d : Nat) (f : Fmt) : s.begin.anyHalf d f = s.anyHalf d f := rfl
@[simp] theorem begin_outL0 (s : State) (f : Fmt) (o : VOut) (slot : Nat) : s.begin.outL0 f o slot = s.outL0 f o slot := rfl
@[simp] theorem begin_itemsIn (s : State) (d : Nat) (f : Fmt) : s.begin.itemsIn d f = s.itemsIn d f := rfl
@[simp] theorem begin_domRoutes (s : State) (d : Nat) : s.begin.domRoutes d = s.domRoutes d := rfl
@[simp] theorem begin_itemsOut (s : State) (d : Nat) (f : Fmt) : s.begin.itemsOut d f = s.itemsOut d f := rfl
@[simp] theorem begin_itemsAnc (s : State) (d : Nat) (f : Fmt) : s.begin.itemsAnc d f = s.itemsAnc d f := rfl
@[simp] theorem begin_layerWord (s : State) (n w : Nat) : s.begin.layerWord n w = s.layerWord n w := rfl
@[simp] theorem begin_layerFld (s : State) (n : Nat) (f : Fld) : s.begin.layerFld n f = s.layerFld n f := rfl
@[simp] theorem begin_domLayers (s : State) (d : Nat) : s.begin.domLayers d = s.domLayers d := rfl
@[simp] theorem begin_itemsLayers (s : State) (d : Nat) (f : Fmt) : s.begin.itemsLayers d f = s.itemsLayers d f := rfl
@[simp] theorem begin_itemsAudio (s : State) (d : Nat) (f : Fmt) : s.begin.itemsAudio d f = s.itemsAudio d f := rfl
@[simp] theorem begin_itemsMark (s : State) (d : Nat) (f : Fmt) : s.begin.itemsMark d f = s.itemsMark d f := rfl
@[simp] theorem begin_itemsFence (s : State) (d : Nat) (f : Fmt) : s.begin.itemsFence d f = s.itemsFence d f := rfl
@[simp] theorem begin_itemSwitch (s : State) (d : Nat) (f : Fmt) : s.begin.itemSwitch d f = s.itemSwitch d f := rfl
@[simp] theorem begin_compileItems (s : State) (d : Nat) (f : Fmt) : s.begin.compileItems d f = s.compileItems d f := rfl
@[simp] theorem begin_patDom (s : State) (d : Nat) : s.begin.patDom d = s.patDom d := rfl
@[simp] theorem begin_activeNo (s : State) (d : Nat) : s.begin.activeNo d = s.activeNo d := rfl
@[simp] theorem begin_bank (s : State) (d k : Nat) : s.begin.bank d k = s.bank d k := rfl
@[simp] theorem begin_activeBank (s : State) (d : Nat) : s.begin.activeBank d = s.activeBank d := rfl
@[simp] theorem begin_inactiveBank (s : State) (d : Nat) : s.begin.inactiveBank d = s.inactiveBank d := rfl
@[simp] theorem begin_delayBad (s : State) (b : PatBank) : s.begin.delayBad b = s.delayBad b := rfl
@[simp] theorem begin_bankCheck (s : State) (d k : Nat) (b : PatBank) (f : Fmt) :
    s.begin.bankCheck d k b f = s.bankCheck d k b f := rfl
@[simp] theorem begin_lineNow (s : State) (d : Nat) (f : Fmt) : s.begin.lineNow d f = s.lineNow d f := rfl
@[simp] theorem begin_nextSwitch (s : State) (d : Nat) (f : Fmt) : s.begin.nextSwitch d f = s.nextSwitch d f := rfl
@[simp] theorem begin_ticksAhead (s : State) (d : Nat) (f : Fmt) (lines : Nat) :
    s.begin.ticksAhead d f lines = s.ticksAhead d f lines := rfl
@[simp] theorem begin_formatFrame (s : State) (d : Nat) (old new : Fmt) (ns : Nat := 0) :
    s.begin.formatFrame d old new ns = s.formatFrame d old new ns := rfl
@[simp] theorem begin_afterNext (s : State) (d : Nat) (f : Fmt) (lines : Nat) :
    s.begin.afterNext d f lines = s.afterNext d f lines := rfl
@[simp] theorem begin_switchAfterNext (s : State) (d : Nat) : s.begin.switchAfterNext d = s.switchAfterNext d := rfl
@[simp] theorem begin_epochAhead (s : State) (d : Nat) (f : Fmt) (lines : Nat) :
    s.begin.epochAhead d f lines = s.epochAhead d f lines := rfl
@[simp] theorem begin_epochAfter (s : State) (wait : Nat) : s.begin.epochAfter wait = s.epochAfter wait := rfl
@[simp] theorem begin_nsAhead (s : State) (d : Nat) (f : Fmt) (lines : Nat) :
    s.begin.nsAhead d f lines = s.nsAhead d f lines := rfl
@[simp] theorem begin_tooEarly (s : State) (d : Nat) (f : Fmt) (lines : Nat) :
    s.begin.tooEarly d f lines = s.tooEarly d f lines := rfl
@[simp] theorem begin_switchTooEarly (s : State) (d : Nat) : s.begin.switchTooEarly d = s.switchTooEarly d := rfl
@[simp] theorem begin_flipLines (s : State) (d : Nat) : s.begin.flipLines d = s.flipLines d := rfl
@[simp] theorem begin_predictFlip (s : State) (d : Nat) : s.begin.predictFlip d = s.predictFlip d := rfl
@[simp] theorem begin_flipNs (s : State) (d : Nat) : s.begin.flipNs d = s.flipNs d := rfl
@[simp] theorem begin_frameLines (s : State) (d : Nat) : s.begin.frameLines d = s.frameLines d := rfl
@[simp] theorem begin_predictFrame (s : State) (d : Nat) : s.begin.predictFrame d = s.predictFrame d := rfl
@[simp] theorem begin_frameNs (s : State) (d : Nat) : s.begin.frameNs d = s.frameNs d := rfl
@[simp] theorem begin_formatWaits (s : State) (d : Nat) : s.begin.formatWaits d = s.formatWaits d := rfl
@[simp] theorem begin_slipList (s : State) (d : Nat) : s.begin.slipList d = s.slipList d := rfl
@[simp] theorem begin_slipsInWin (s : State) (d : Nat) : s.begin.slipsInWin d = s.slipsInWin d := rfl
@[simp] theorem begin_tileBytes (s : State) (t off n : Nat) : s.begin.tileBytes t off n = s.tileBytes t off n := rfl
@[simp] theorem begin_tileFlow (s : State) (t : Nat) : s.begin.tileFlow t = s.tileFlow t := rfl
@[simp] theorem begin_tileFlags (s : State) (t : Nat) : s.begin.tileFlags t = s.tileFlags t := rfl
@[simp] theorem begin_tileCrcOk (s : State) (t : Nat) : s.begin.tileCrcOk t = s.tileCrcOk t := rfl
@[simp] theorem begin_ring (s : State) (flow gen : Nat) : s.begin.ring flow gen = s.ring flow gen := rfl
@[simp] theorem begin_remapped (s : State) (t : Nat) : s.begin.remapped t = s.remapped t := rfl
@[simp] theorem begin_resolve (s : State) (flow gen pos : Nat) : s.begin.resolve flow gen pos = s.resolve flow gen pos := rfl
@[simp] theorem begin_extentsUsed (s : State) : s.begin.extentsUsed = s.extentsUsed := rfl
@[simp] theorem begin_allocTry (s : State) (tiles : Nat) : s.begin.allocTry tiles = s.allocTry tiles := rfl
@[simp] theorem begin_freeTiles (s : State) : s.begin.freeTiles = s.freeTiles := rfl
@[simp] theorem begin_reserveLeft (s : State) (ch : Nat) : s.begin.reserveLeft ch = s.reserveLeft ch := rfl
@[simp] theorem begin_ringOfTile (s : State) (t : Nat) : s.begin.ringOfTile t = s.ringOfTile t := rfl
@[simp] theorem begin_pprNext (s : State) : s.begin.pprNext = s.pprNext := rfl
@[simp] theorem begin_patternUse (s : State) (ch : Nat) : s.begin.patternUse ch = s.patternUse ch := rfl
@[simp] theorem begin_recoveryUse (s : State) (ch : Nat) : s.begin.recoveryUse ch = s.recoveryUse ch := rfl
@[simp] theorem begin_patternWaits (s : State) (ch : Nat) : s.begin.patternWaits ch = s.patternWaits ch := rfl
@[simp] theorem begin_patternFree (s : State) (ch : Nat) : s.begin.patternFree ch = s.patternFree ch := rfl
@[simp] theorem begin_earlyWaits (s : State) (ch : Nat) : s.begin.earlyWaits ch = s.earlyWaits ch := rfl
@[simp] theorem begin_repeats (s : State) (flow : Nat) : s.begin.repeats flow = s.repeats flow := rfl
@[simp] theorem begin_concealStart (s : State) (r : PoolRead) : s.begin.concealStart r = s.concealStart r := rfl
@[simp] theorem begin_masterUp (s : State) (m : Nat) : s.begin.masterUp m = s.masterUp m := rfl
@[simp] theorem begin_winSize (s : State) (w : Nat) : s.begin.winSize w = s.winSize w := rfl
@[simp] theorem begin_winRoom (s : State) (w b : Nat) : s.begin.winRoom w b = s.winRoom w b := rfl
@[simp] theorem begin_winTile (s : State) (w b : Nat) : s.begin.winTile w b = s.winTile w b := rfl
@[simp] theorem begin_winWritable (s : State) (w : Nat) : s.begin.winWritable w = s.winWritable w := rfl
@[simp] theorem begin_winWords (s : State) (w b n : Nat) : s.begin.winWords w b n = s.winWords w b n := rfl
@[simp] theorem begin_winBlocked (s : State) (op : WinOp) : s.begin.winBlocked op = s.winBlocked op := rfl
@[simp] theorem begin_bankTiles (s : State) (b : PatBank) (ops : List Nat) :
    s.begin.bankTiles b ops = s.bankTiles b ops := rfl
@[simp] theorem begin_rawBits (s : State) (ops : List Nat) : s.begin.rawBits ops = s.rawBits ops := rfl
@[simp] theorem begin_rateIn (s : State) : s.begin.rateIn = s.rateIn := rfl
@[simp] theorem begin_ancBits (s : State) (flow : Option Nat) : s.begin.ancBits flow = s.ancBits flow := rfl
@[simp] theorem begin_rateOut (s : State) : s.begin.rateOut = s.rateOut := rfl
@[simp] theorem begin_rateChm (s : State) : s.begin.rateChm = s.rateChm := rfl
@[simp] theorem begin_rateAudio (s : State) : s.begin.rateAudio = s.rateAudio := rfl
@[simp] theorem begin_bwCheck (s : State) : s.begin.bwCheck = s.bwCheck := rfl
@[simp] theorem begin_rxBlocks (s : State) (flow : Nat) : s.begin.rxBlocks flow = s.rxBlocks flow := rfl
@[simp] theorem begin_txBlocks (s : State) (flow : Nat) : s.begin.txBlocks flow = s.txBlocks flow := rfl
@[simp] theorem begin_readRoutes (s : State) : s.begin.readRoutes = s.readRoutes := rfl
@[simp] theorem begin_readFilters (s : State) : s.begin.readFilters = s.readFilters := rfl
@[simp] theorem begin_readStreams (s : State) : s.begin.readStreams = s.readStreams := rfl
@[simp] theorem begin_readAudio (s : State) : s.begin.readAudio = s.readAudio := rfl
@[simp] theorem begin_taskBlock (s : State) (c : Nat) (t : NwtTask) : s.begin.taskBlock c t = s.taskBlock c t := rfl
@[simp] theorem begin_readNewt (s : State) : s.begin.readNewt = s.readNewt := rfl
@[simp] theorem begin_readChm (s : State) : s.begin.readChm = s.readChm := rfl
@[simp] theorem begin_readTimed (s : State) : s.begin.readTimed = s.readTimed := rfl
@[simp] theorem begin_patPart (s : State) (subj : Nat) : s.begin.patPart subj = s.patPart subj := rfl
@[simp] theorem begin_recordView (s : State) (subj : Nat) : s.begin.recordView subj = s.recordView subj := rfl
@[simp] theorem begin_measView (s : State) (subj : Nat) : s.begin.measView subj = s.measView subj := rfl
@[simp] theorem begin_axlView (s : State) (subj : Nat) : s.begin.axlView subj = s.axlView subj := rfl
@[simp] theorem begin_readView (s : State) (cls subj : Nat) : s.begin.readView cls subj = s.readView cls subj := rfl
@[simp] theorem begin_readKey (s : State) (cls subj : Nat) : s.begin.readKey cls subj = s.readKey cls subj := rfl
@[simp] theorem begin_inputFamily (s : State) (i : Nat) : s.begin.inputFamily i = s.inputFamily i := rfl
@[simp] theorem begin_dpllFamily (s : State) (d : Nat) : s.begin.dpllFamily d = s.dpllFamily d := rfl
@[simp] theorem begin_familyBad (s : State) (d i : Nat) : s.begin.familyBad d i = s.familyBad d i := rfl
@[simp] theorem begin_candidate (s : State) (d i : Nat) : s.begin.candidate d i = s.candidate d i := rfl
@[simp] theorem begin_rankOf (s : State) (d i : Nat) : s.begin.rankOf d i = s.rankOf d i := rfl
@[simp] theorem begin_betterCand (s : State) (d : Nat) (best : Option Nat) (i : Nat) :
    s.begin.betterCand d best i = s.betterCand d best i := rfl
@[simp] theorem begin_bestCand (s : State) (d : Nat) (except : List Nat) :
    s.begin.bestCand d except = s.bestCand d except := rfl
@[simp] theorem begin_ambiguity (s : State) (i : Nat) : s.begin.ambiguity i = s.ambiguity i := rfl
@[simp] theorem begin_avgGates (s : State) (d : Nat) : s.begin.avgGates d = s.avgGates d := rfl
@[simp] theorem begin_holdEstimate (s : State) (d : Nat) : s.begin.holdEstimate d = s.holdEstimate d := rfl
@[simp] theorem begin_peerWithin (s : State) (d i : Nat) : s.begin.peerWithin d i = s.peerWithin d i := rfl
@[simp] theorem begin_onOcxo (s : State) : s.begin.onOcxo = s.onOcxo := rfl
@[simp] theorem begin_ringOn (s : State) (k : Nat) : s.begin.ringOn k = s.ringOn k := rfl
@[simp] theorem begin_ringSize (s : State) (k : Nat) : s.begin.ringSize k = s.ringSize k := rfl
@[simp] theorem begin_cplWaiting (s : State) (k : Nat) : s.begin.cplWaiting k = s.cplWaiting k := rfl
@[simp] theorem begin_cplFull (s : State) (k : Nat) : s.begin.cplFull k = s.cplFull k := rfl
@[simp] theorem begin_releasable (s : State) (u : Unreleased) : s.begin.releasable u = s.releasable u := rfl
@[simp] theorem begin_unread (s : State) (src : Nat) : s.begin.unread src = s.unread src := rfl
@[simp] theorem begin_outstanding (s : State) (src : Nat) : s.begin.outstanding src = s.outstanding src := rfl
@[simp] theorem begin_chipHeld (s : State) : s.begin.chipHeld = s.chipHeld := rfl
@[simp] theorem begin_pHeld (s : State) : s.begin.pHeld = s.pHeld := rfl
@[simp] theorem begin_cHeld (s : State) : s.begin.cHeld = s.cHeld := rfl
@[simp] theorem begin_hHeld (s : State) : s.begin.hHeld = s.hHeld := rfl
@[simp] theorem begin_resumeImage (s : State) : s.begin.resumeImage = s.resumeImage := rfl
@[simp] theorem begin_routeReaders (s : State) (f : Nat) : s.begin.routeReaders f = s.routeReaders f := rfl
@[simp] theorem begin_flowRouted (s : State) (f off : Nat) : s.begin.flowRouted f off = s.flowRouted f off := rfl
@[simp] theorem begin_outputRouted (s : State) (o : Nat) : s.begin.outputRouted o = s.outputRouted o := rfl
@[simp] theorem begin_pipeOf (s : State) (o : Nat) : s.begin.pipeOf o = s.pipeOf o := rfl
@[simp] theorem begin_pipeLive (s : State) (o : Nat) : s.begin.pipeLive o = s.pipeLive o := rfl
@[simp] theorem begin_rawRefusal (s : State) (doms : List Nat) : s.begin.rawRefusal doms = s.rawRefusal doms := rfl
@[simp] theorem begin_frameAt (s : State) (d tick : Nat) : s.begin.frameAt d tick = s.frameAt d tick := rfl
@[simp] theorem begin_sdiFlow (s : State) (link : Option Nat) (port : Nat) :
    s.begin.sdiFlow link port = s.sdiFlow link port := rfl
@[simp] theorem begin_sdiUp (s : State) (x : InFlow) : s.begin.sdiUp x = s.sdiUp x := rfl
@[simp] theorem begin_tribMissing (s : State) (x : InFlow) : s.begin.tribMissing x = s.tribMissing x := rfl
@[simp] theorem begin_readBase (s : State) (flow delay : Nat) : s.begin.readBase flow delay = s.readBase flow delay := rfl
@[simp] theorem begin_switchFlips (s : State) (d frame : Nat) (e : BitVec 128) :
    s.begin.switchFlips d frame e = s.switchFlips d frame e := rfl
@[simp] theorem begin_patEntries (s : State) (d line frame slot : Nat) :
    s.begin.patEntries d line frame slot = s.patEntries d line frame slot := rfl
@[simp] theorem begin_sequencing (s : State) (d : Nat) : s.begin.sequencing d = s.sequencing d := rfl
@[simp] theorem begin_neverAdopted (s : State) (flow : Nat) : s.begin.neverAdopted flow = s.neverAdopted flow := rfl
@[simp] theorem begin_condPresent (s : State) (n : Nat) : s.begin.condPresent n = s.condPresent n := rfl
@[simp] theorem begin_substWait (s : State) (k : UnitKind) (u : Nat) : s.begin.substWait k u = s.substWait k u := rfl
@[simp] theorem begin_measOn (s : State) : s.begin.measOn = s.measOn := rfl
@[simp] theorem begin_measVal (s : State) (type subj key : Nat) :
    s.begin.measVal type subj key = s.measVal type subj key := rfl
@[simp] theorem begin_mediaNs (s : State) : s.begin.mediaNs = s.mediaNs := rfl
@[simp] theorem begin_measCnt (s : State) (type subj key : Nat) :
    s.begin.measCnt type subj key = s.measCnt type subj key := rfl
@[simp] theorem begin_measOr (s : State) (type subj key : Nat) : s.begin.measOr type subj key = s.measOr type subj key := rfl
@[simp] theorem begin_measAvg (s : State) (type subj sum cnt : Nat) :
    s.begin.measAvg type subj sum cnt = s.measAvg type subj sum cnt := rfl
@[simp] theorem begin_recordWords (s : State) (type subj : Nat) :
    s.begin.recordWords type subj = s.recordWords type subj := rfl
@[simp] theorem begin_recordFlags (s : State) (part deleted stepped : Bool) :
    s.begin.recordFlags part deleted stepped = s.recordFlags part deleted stepped := rfl
@[simp] theorem begin_measDatagram (s : State) (dest type count : Nat) (body : Bytes) :
    s.begin.measDatagram dest type count body = s.measDatagram dest type count body := rfl
@[simp] theorem begin_measDests (s : State) (type : Nat) : s.begin.measDests type = s.measDests type := rfl
@[simp] theorem begin_cfgWord (s : State) (a : Nat) : s.begin.cfgWord a = s.cfgWord a := rfl
@[simp] theorem begin_measRate (s : State) (m : Nat) : s.begin.measRate m = s.measRate m := rfl
@[simp] theorem begin_alarmOn (s : State) (code subj : Nat) : s.begin.alarmOn code subj = s.alarmOn code subj := rfl
@[simp] theorem begin_slewLeft (s : State) : s.begin.slewLeft = s.slewLeft := rfl
@[simp] theorem begin_recentUpdates (s : State) : s.begin.recentUpdates = s.recentUpdates := rfl
@[simp] theorem begin_servoMayLock (s : State) : s.begin.servoMayLock = s.servoMayLock := rfl
@[simp] theorem begin_slavePort (s : State) : s.begin.slavePort = s.slavePort := rfl
@[simp] theorem begin_lastReqLost (s : State) (p : PtpPort) : s.begin.lastReqLost p = s.lastReqLost p := rfl
@[simp] theorem begin_ptpHeader (s : State) (p : PtpPort) (ty len seq : Nat) (twoStep : Bool) (log : Int) :
    s.begin.ptpHeader p ty len seq twoStep log = s.ptpHeader p ty len seq twoStep log := rfl
@[simp] theorem begin_ptpSends (s : State) : s.begin.ptpSends = s.ptpSends := rfl
@[simp] theorem begin_announced (s : State) : s.begin.announced = s.announced := rfl
@[simp] theorem begin_metaFmt (s : State) : s.begin.metaFmt = s.metaFmt := rfl
@[simp] theorem begin_txqOf (s : State) (m : Nat) : s.begin.txqOf m = s.txqOf m := rfl
@[simp] theorem begin_alignsPtp (s : State) (d : Nat) : s.begin.alignsPtp d = s.alignsPtp d := rfl
@[simp] theorem begin_predictStart (s : State) (d : Nat) (f : Fmt) : s.begin.predictStart d f = s.predictStart d f := rfl
@[simp] theorem begin_chmFormatBad (s : State) (d : Nat) (f : Fmt) : s.begin.chmFormatBad d f = s.chmFormatBad d f := rfl
@[simp] theorem begin_rateBroken (s : State) (d : Nat) (f : Fmt) : s.begin.rateBroken d f = s.rateBroken d f := rfl
@[simp] theorem begin_partnerOk (s : State) : s.begin.partnerOk = s.partnerOk := rfl
@[simp] theorem begin_partnerMode (s : State) : s.begin.partnerMode = s.partnerMode := rfl
@[simp] theorem begin_loopOuts (s : State) : s.begin.loopOuts = s.loopOuts := rfl
@[simp] theorem begin_unitStreams (s : State) (isIn : Bool) (u : Nat) :
    s.begin.unitStreams isIn u = s.unitStreams isIn u := rfl
@[simp] theorem begin_ladFlows (s : State) (u : Nat) : s.begin.ladFlows u = s.ladFlows u := rfl
@[simp] theorem begin_ladRate (s : State) (u : Nat) : s.begin.ladRate u = s.ladRate u := rfl
@[simp] theorem begin_ladIntake (s : State) (u path : Nat) : s.begin.ladIntake u path = s.ladIntake u path := rfl
@[simp] theorem begin_ladSdi (s : State) (u : Nat) : s.begin.ladSdi u = s.ladSdi u := rfl
@[simp] theorem begin_ladCheck (s : State) (u : Nat) : s.begin.ladCheck u = s.ladCheck u := rfl

end Sys2Proof.Machine
end

