-- ==== Sys2Proof/Laws/Newt.lean ====
section
/-! SUPPORT. What an instruction row does on a core that runs a task: its result enters the pipeline, or it traps. -/

namespace Sys2Proof.Machine

/-- What an instruction sees on a core at `x`, `r`, `t`. -/
def ctxOf (s : State) (x : NwtCore) (r : NwtRun) (t : NwtTask) : NwtCtx :=
  ⟨r.bank, x.dmem, t, s.image t.image, r, fun k => Config.freeBits 80 (s.free + k)⟩

/-- An instruction that does not trap: the run goes on with its result. -/
theorem newt_at {s : State} {c : Nat} {x : NwtCore} {r : NwtRun} {t : NwtTask} (h : s.RunsAt c x r t) (k : Nat) (f : NwtCtx → NwtRes)
    (hn : (f (ctxOf s x r t)).trap = none) :
    s.begin.newt c k f =
      (let res := f (ctxOf s x r t)
       let u := State.corrected { s.begin.setCore c x with free := s.free + 16 } c k
       let r' := if res.rti then ({ r with cycles := r.cycles + 2 }).popRet else r.advance res
       let sat := res.writes.any (fun w => match w with
          | .flags _ (some l) => l.any id
          | _ => false)
       let r' := { r' with pend := r'.pend ++ res.writes.map (fun w => ⟨r.level, 2, w⟩), satSeen := r'.satSeen || sat }
       let r' := match res.irq with
          | some src => r'.raiseIrq (s.image t.image) src
          | none => r'
       if res.ended then u.endTask c r'
       else if t.budget ≤ r'.cycles then u.trapTask c r' trapOverrun
       else u.setCore c { x with run := some r' }) := by
  obtain ⟨r0, h1, h2, h3⟩ := h
  have e : s.begin.core c = s.core c := rfl
  simp only [State.newt, e, h1, h2, h3]
  have hc : f (⟨r.banks.getD r.level NwtBank.zero, x.dmem, t, s.begin.image t.image, r,
      fun k => Config.freeBits 80 (s.begin.free + k)⟩) = f (ctxOf s x r t) := rfl
  rw [hc, hn]
  rfl

/-- Counting corrected errors and writing the core's record do not disturb each other. -/
theorem corrected_setCore (s : State) (c n : Nat) (y : NwtCore) : (s.corrected c n).setCore c y = (s.setCore c y).corrected c n := by
  unfold State.corrected
  split <;> rfl

/-- An instruction that traps. -/
theorem newt_trap {s : State} {c : Nat} {x : NwtCore} {r : NwtRun} {t : NwtTask} (h : s.RunsAt c x r t) (k : Nat) (f : NwtCtx → NwtRes)
    {code : Nat} (hn : (f (ctxOf s x r t)).trap = some code) (h1c : (f (ctxOf s x r t)).cycles = 1) :
    s.begin.newt c k f =
      State.trapTask (State.corrected { s.begin.setCore c x with free := s.free + 16 } c k) c { r with cycles := r.cycles + 1 } code := by
  obtain ⟨r0, h1, h2, h3⟩ := h
  have e : s.begin.core c = s.core c := rfl
  simp only [State.newt, e, h1, h2, h3]
  have hc : f (⟨r.banks.getD r.level NwtBank.zero, x.dmem, t, s.begin.image t.image, r,
      fun k => Config.freeBits 80 (s.begin.free + k)⟩) = f (ctxOf s x r t) := rfl
  rw [hc, hn, h1c]
  rfl

/-- A row whose result neither traps, ends the task, returns from a handler nor raises an interrupt. -/
theorem goes_of {i : Instr} {s : State} {c : Nat} {x : NwtCore} {r : NwtRun} {t : NwtTask} {f : NwtCtx → NwtRes} {b : NwtBank}
    {w : List NwtWrite} {n k : Nat} {br tm j : Option Nat} (h : s.RunsAt c x r t) (hx : exec i s = runEff (fun s => s.newt c k f) s)
    (hf : f (ctxOf s x r t) = { bank := b, writes := w, cycles := n, branch := br, timer := tm, jump := j }) {u : NwtRun}
    (hu : u = { r.advance { bank := b, writes := w, cycles := n, branch := br, timer := tm, jump := j } with
      pend := r.pend ++ w.map (fun w => ⟨r.level, 2, w⟩), satSeen := r.satSeen || w.any NwtWrite.saturates }) :
    Goes k i s c x t u := by
  intro hb
  have hsat : (fun w => match w with
      | .flags _ (some l) => l.any id
      | _ => false) = NwtWrite.saturates := by
    funext w
    unfold NwtWrite.saturates
    rfl
  refine does_of hx (o := []) ?_
  rw [newt_at h k f (by rw [hf])]
  have ha : (r.advance { bank := b, writes := w, cycles := n, branch := br, timer := tm, jump := j }).pend = r.pend := rfl
  have hs : (r.advance { bank := b, writes := w, cycles := n, branch := br, timer := tm, jump := j }).satSeen = r.satSeen := rfl
  simp only [hf, hsat, Bool.false_eq_true, if_false, ha, hs]
  rw [hu] at hb
  rw [if_neg (Nat.not_le.mpr hb), hu]
  rw [corrected_setCore]
  simp only [State.setCore, List.set_set]
  unfold State.corrected
  split <;> rfl

/-- A straight instruction's run is the run that moved. -/
theorem moved_eq (r : NwtRun) (b : NwtBank) (w : List NwtWrite) (n : Nat) :
    r.moved b w n = { r.advance { bank := b, writes := w, cycles := n } with
      pend := r.pend ++ w.map (fun w => ⟨r.level, 2, w⟩), satSeen := r.satSeen || w.any NwtWrite.saturates } := by
  unfold NwtRun.moved NwtRun.advance
  cases r.branch <;> cases r.timer <;> rfl

/-- The same with a branch behind its delay slot. -/
theorem moved_branch (r : NwtRun) (b : NwtBank) (w : List NwtWrite) (n : Nat) (k : Option Nat) :
    { r.moved b w n with branch := k } = { r.advance { bank := b, writes := w, cycles := n, branch := k } with
      pend := r.pend ++ w.map (fun w => ⟨r.level, 2, w⟩), satSeen := r.satSeen || w.any NwtWrite.saturates } := by
  unfold NwtRun.moved NwtRun.advance
  cases r.branch <;> cases r.timer <;> rfl

/-- The same with the timer set. -/
theorem moved_timer (r : NwtRun) (b : NwtBank) (w : List NwtWrite) (n k : Nat) :
    { r.moved b w n with timer := some k } = { r.advance { bank := b, writes := w, cycles := n, timer := some k } with
      pend := r.pend ++ w.map (fun w => ⟨r.level, 2, w⟩), satSeen := r.satSeen || w.any NwtWrite.saturates } := by
  unfold NwtRun.moved NwtRun.advance
  cases r.branch <;> cases r.timer <;> rfl

/-- A register that is no V register reads as a scalar without an open value. -/
theorem scalar_any (b : NwtBank) (code : BitVec 6) (u v : BitVec 32) (h : 16 ≤ code.toNat) : b.scalar code u = b.scalar code v := by
  unfold NwtBank.scalar
  simp only [if_neg (Nat.not_lt.mpr h)]

/-- A result for a destination code lands as the code says. -/
theorem dest_landing (s : State) (x : NwtCore) (r : NwtRun) (t : NwtTask) (d : BitVec 6) (lanes : List (BitVec 32 × Bool))
    (v w : BitVec 32) (h : d.toNat < 16 ∨ v = w) :
    (ctxOf s x r t).dest d lanes v =
      { bank := (r.bank.landing d lanes w).1, writes := (r.bank.landing d lanes w).2 } := by
  simp only [NwtCtx.dest, NwtBank.landing, isVec]
  by_cases e : d.toNat < 16
  · simp [e]
    rfl
  · rcases h with h | h
    · exact absurd h e
    · subst h
      by_cases e2 : d.toNat < 32 <;> simp [e, e2] <;> rfl

end Sys2Proof.Machine
end

