-- ==== Sys2Proof/Laws/PerInstr.lean ====
section
/-! SUPPORT. A law of every row as syntax: a row that carries a packet names an opcode the device recognises, and is well formed
as its packet is (R449, R474). -/

namespace Sys2Proof.Laws.Row
open Sys2Proof.Machine

/-- The law of one row. -/
def Statement (i : Instr) : Prop :=
  ∀ p, commandOf i = some p → (opInfo p.1).isSome = true ∧ wellFormed i = p.2.wellFormed

theorem of_none (i : Instr) (h : commandOf i = none) : Statement i := fun p hp => by rw [h] at hp; cases hp

theorem of_some (i : Instr) (op : Nat) (c : Cmd) (h : commandOf i = some (op, c)) (hi : (opInfo op).isSome = true)
    (hw : wellFormed i = c.wellFormed) : Statement i := fun p hp => by rw [h] at hp; cases hp; exact ⟨hi, hw⟩

theorem sessionOpen (p : Cmd) : Statement (.sessionOpen p) := of_some _ _ _ rfl rfl rfl
theorem ping (p : Cmd) : Statement (.ping p) := of_some _ _ _ rfl rfl rfl
theorem ident (p : Cmd) : Statement (.ident p) := of_some _ _ _ rfl rfl rfl
theorem modeSet (p : Cmd) : Statement (.modeSet p) := of_some _ _ _ rfl rfl rfl
theorem debugChallenge (p : Cmd) : Statement (.debugChallenge p) := of_some _ _ _ rfl rfl rfl
theorem debugUnlock (p : Cmd) : Statement (.debugUnlock p) := of_some _ _ _ rfl rfl rfl
theorem vinDefine (p : Cmd) : Statement (.vinDefine p) := of_some _ _ _ rfl rfl rfl
theorem flowDelete (p : Cmd) : Statement (.flowDelete p) := of_some _ _ _ rfl rfl rfl
theorem vinDepth (p : Cmd) : Statement (.vinDepth p) := of_some _ _ _ rfl rfl rfl
theorem ancInDefine (p : Cmd) : Statement (.ancInDefine p) := of_some _ _ _ rfl rfl rfl
theorem voutDefine (p : Cmd) : Statement (.voutDefine p) := of_some _ _ _ rfl rfl rfl
theorem ancOutDefine (p : Cmd) : Statement (.ancOutDefine p) := of_some _ _ _ rfl rfl rfl
theorem ancOutRoute (p : Cmd) : Statement (.ancOutRoute p) := of_some _ _ _ rfl rfl rfl
theorem testDefine (p : Cmd) : Statement (.testDefine p) := of_some _ _ _ rfl rfl rfl
theorem take (p : Cmd) : Statement (.take p) := of_some _ _ _ rfl rfl rfl
theorem macroStore (p : Cmd) : Statement (.macroStore p) := of_some _ _ _ rfl rfl rfl
theorem macroArm (p : Cmd) : Statement (.macroArm p) := of_some _ _ _ rfl rfl rfl
theorem macroDelete (p : Cmd) : Statement (.macroDelete p) := of_some _ _ _ rfl rfl rfl
theorem patWrite (p : Cmd) : Statement (.patWrite p) := of_some _ _ _ rfl rfl rfl
theorem patClear (p : Cmd) : Statement (.patClear p) := of_some _ _ _ rfl rfl rfl
theorem patShare (p : Cmd) : Statement (.patShare p) := of_some _ _ _ rfl rfl rfl
theorem schedCancel (p : Cmd) : Statement (.schedCancel p) := of_some _ _ _ rfl rfl rfl
theorem astreamIn (p : Cmd) : Statement (.astreamIn p) := of_some _ _ _ rfl rfl rfl
theorem astreamOut (p : Cmd) : Statement (.astreamOut p) := of_some _ _ _ rfl rfl rfl
theorem astreamDelete (p : Cmd) : Statement (.astreamDelete p) := of_some _ _ _ rfl rfl rfl
theorem xpSet (p : Cmd) : Statement (.xpSet p) := of_some _ _ _ rfl rfl rfl
theorem deembedMap (p : Cmd) : Statement (.deembedMap p) := of_some _ _ _ rfl rfl rfl
theorem embedMap (p : Cmd) : Statement (.embedMap p) := of_some _ _ _ rfl rfl rfl
theorem delayDefine (p : Cmd) : Statement (.delayDefine p) := of_some _ _ _ rfl rfl rfl
theorem delayDelete (p : Cmd) : Statement (.delayDelete p) := of_some _ _ _ rfl rfl rfl
theorem aptPort (p : Cmd) : Statement (.aptPort p) := of_some _ _ _ rfl rfl rfl
theorem aptMask (p : Cmd) : Statement (.aptMask p) := of_some _ _ _ rfl rfl rfl
theorem aptTdm (p : Cmd) : Statement (.aptTdm p) := of_some _ _ _ rfl rfl rfl
theorem aptCsTx (p : Cmd) : Statement (.aptCsTx p) := of_some _ _ _ rfl rfl rfl
theorem aptRestart (p : Cmd) : Statement (.aptRestart p) := of_some _ _ _ rfl rfl rfl
theorem audCfg (p : Cmd) : Statement (.audCfg p) := of_some _ _ _ rfl rfl rfl
theorem imageLoad (p : Cmd) : Statement (.imageLoad p) := of_some _ _ _ rfl rfl rfl
theorem imageDelete (p : Cmd) : Statement (.imageDelete p) := of_some _ _ _ rfl rfl rfl
theorem taskDefine (p : Cmd) : Statement (.taskDefine p) := of_some _ _ _ rfl rfl rfl
theorem taskRemove (p : Cmd) : Statement (.taskRemove p) := of_some _ _ _ rfl rfl rfl
theorem taskParam (p : Cmd) : Statement (.taskParam p) := of_some _ _ _ rfl rfl rfl
theorem taskEnable (p : Cmd) : Statement (.taskEnable p) := of_some _ _ _ rfl rfl rfl
theorem pipeDefine (p : Cmd) : Statement (.pipeDefine p) := of_some _ _ _ rfl rfl rfl
theorem pipeDelete (p : Cmd) : Statement (.pipeDelete p) := of_some _ _ _ rfl rfl rfl
theorem layerSet (p : Cmd) : Statement (.layerSet p) := of_some _ _ _ rfl rfl rfl
theorem surfaceDefine (p : Cmd) : Statement (.surfaceDefine p) := of_some _ _ _ rfl rfl rfl
theorem surfaceDelete (p : Cmd) : Statement (.surfaceDelete p) := of_some _ _ _ rfl rfl rfl
theorem surfaceFlip (p : Cmd) : Statement (.surfaceFlip p) := of_some _ _ _ rfl rfl rfl
theorem flipCancel (p : Cmd) : Statement (.flipCancel p) := of_some _ _ _ rfl rfl rfl
theorem measCfg (p : Cmd) : Statement (.measCfg p) := of_some _ _ _ rfl rfl rfl
theorem measDest (p : Cmd) : Statement (.measDest p) := of_some _ _ _ rfl rfl rfl
theorem allowStep (p : Cmd) : Statement (.allowStep p) := of_some _ _ _ rfl rfl rfl
theorem timSet (p : Cmd) : Statement (.timSet p) := of_some _ _ _ rfl rfl rfl
theorem stepThr (p : Cmd) : Statement (.stepThr p) := of_some _ _ _ rfl rfl rfl
theorem ptpCfg (p : Cmd) : Statement (.ptpCfg p) := of_some _ _ _ rfl rfl rfl
theorem ptpPort (p : Cmd) : Statement (.ptpPort p) := of_some _ _ _ rfl rfl rfl
theorem refInput (p : Cmd) : Statement (.refInput p) := of_some _ _ _ rfl rfl rfl
theorem dpllCfg (p : Cmd) : Statement (.dpllCfg p) := of_some _ _ _ rfl rfl rfl
theorem raster (p : Cmd) : Statement (.raster p) := of_some _ _ _ rfl rfl rfl
theorem clkout (p : Cmd) : Statement (.clkout p) := of_some _ _ _ rfl rfl rfl
theorem oscSel (p : Cmd) : Statement (.oscSel p) := of_some _ _ _ rfl rfl rfl
theorem macCfg (p : Cmd) : Statement (.macCfg p) := of_some _ _ _ rfl rfl rfl
theorem macGate (p : Cmd) : Statement (.macGate p) := of_some _ _ _ rfl rfl rfl
theorem hlaneCfg (p : Cmd) : Statement (.hlaneCfg p) := of_some _ _ _ rfl rfl rfl
theorem slaneCfg (p : Cmd) : Statement (.slaneCfg p) := of_some _ _ _ rfl rfl rfl
theorem linkCfg (p : Cmd) : Statement (.linkCfg p) := of_some _ _ _ rfl rfl rfl
theorem tribSet (p : Cmd) : Statement (.tribSet p) := of_some _ _ _ rfl rfl rfl
theorem marginCfg (p : Cmd) : Statement (.marginCfg p) := of_some _ _ _ rfl rfl rfl
theorem eyeMap (p : Cmd) : Statement (.eyeMap p) := of_some _ _ _ rfl rfl rfl
theorem poolCfg (p : Cmd) : Statement (.poolCfg p) := of_some _ _ _ rfl rfl rfl
theorem pprRun (p : Cmd) : Statement (.pprRun p) := of_some _ _ _ rfl rfl rfl
theorem poolWindow (p : Cmd) : Statement (.poolWindow p) := of_some _ _ _ rfl rfl rfl
theorem spareSubst (p : Cmd) : Statement (.spareSubst p) := of_some _ _ _ rfl rfl rfl
theorem twinCfg (p : Cmd) : Statement (.twinCfg p) := of_some _ _ _ rfl rfl rfl
theorem promote (p : Cmd) : Statement (.promote p) := of_some _ _ _ rfl rfl rfl
theorem resync (p : Cmd) : Statement (.resync p) := of_some _ _ _ rfl rfl rfl
theorem roleSwap (p : Cmd) : Statement (.roleSwap p) := of_some _ _ _ rfl rfl rfl
theorem egressLoop (p : Cmd) : Statement (.egressLoop p) := of_some _ _ _ rfl rfl rfl
theorem keyWrite (p : Cmd) : Statement (.keyWrite p) := of_some _ _ _ rfl rfl rfl
theorem keyErase (p : Cmd) : Statement (.keyErase p) := of_some _ _ _ rfl rfl rfl
theorem attest (p : Cmd) : Statement (.attest p) := of_some _ _ _ rfl rfl rfl
theorem reset (p : Cmd) : Statement (.reset p) := of_some _ _ _ rfl rfl rfl
theorem fltClear (p : Cmd) : Statement (.fltClear p) := of_some _ _ _ rfl rfl rfl
theorem quench (p : Cmd) : Statement (.quench p) := of_some _ _ _ rfl rfl rfl
theorem causeClear (p : Cmd) : Statement (.causeClear p) := of_some _ _ _ rfl rfl rfl
theorem rstcntClear (p : Cmd) : Statement (.rstcntClear p) := of_some _ _ _ rfl rfl rfl
theorem optProgram (p : Cmd) : Statement (.optProgram p) := of_some _ _ _ rfl rfl rfl
theorem read (p : Cmd) : Statement (.read p) := of_some _ _ _ rfl rfl rfl
theorem snapshot (p : Cmd) : Statement (.snapshot p) := of_some _ _ _ rfl rfl rfl
theorem castBoundary (x0 : List Nat) : Statement (.castBoundary x0) := of_none _ rfl
theorem castTimerExpiry (x0 : List Nat) : Statement (.castTimerExpiry x0) := of_none _ rfl
theorem mirrorAckReceive (x0 : Nat × Nat) : Statement (.mirrorAckReceive x0) := of_none _ rfl
theorem noMirrorAckTimeout (x0 : Nat) : Statement (.noMirrorAckTimeout x0) := of_none _ rfl
theorem cplConsWrite (x0 : Nat) (x1 : Nat) : Statement (.cplConsWrite x0 x1) := of_none _ rfl
theorem prodWrite (x0 : Nat) (x1 : Nat) (x2 : List Submission) : Statement (.prodWrite x0 x1 x2) := of_none _ rfl
theorem heldPacketTimeout (x0 : Nat) (x1 : Nat) : Statement (.heldPacketTimeout x0 x1) := of_none _ rfl
theorem fragmentTimeout (x0 : Nat) (x1 : Nat) (x2 : Nat) : Statement (.fragmentTimeout x0 x1 x2) := of_none _ rfl
theorem timedRelease (x0 : Nat) (x1 : Nat) : Statement (.timedRelease x0 x1) := of_none _ rfl
theorem timedFire (x0 : Nat) (x1 : Nat) : Statement (.timedFire x0 x1) := of_none _ rfl
theorem slotStart (x0 : Nat) : Statement (.slotStart x0) := of_none _ rfl
theorem bankCopyDone (x0 : Nat) : Statement (.bankCopyDone x0) := of_none _ rfl
theorem frameBoundary (x0 : Nat) : Statement (.frameBoundary x0) := of_none _ rfl
theorem rasterStart (x0 : Nat) : Statement (.rasterStart x0) := of_none _ rfl
theorem poolReadReturn (x0 : Nat) (x1 : Nat) (x2 : Nat × Bool) : Statement (.poolReadReturn x0 x1 x2) := of_none _ rfl
theorem readDeadline (x0 : Nat) : Statement (.readDeadline x0) := of_none _ rfl
theorem retryBudgetExpiry (x0 : Nat) : Statement (.retryBudgetExpiry x0) := of_none _ rfl
theorem suspectExpiry (x0 : Nat) : Statement (.suspectExpiry x0) := of_none _ rfl
theorem pprRowDone (x0 : Bool) : Statement (.pprRowDone x0) := of_none _ rfl
theorem poolWindowRead (x0 : Nat) (x1 : Nat) (x2 : Nat) : Statement (.poolWindowRead x0 x1 x2) := of_none _ rfl
theorem poolWindowWrite (x0 : Nat) (x1 : Nat) (x2 : Bytes) : Statement (.poolWindowWrite x0 x1 x2) := of_none _ rfl
theorem flush (x0 : Nat) (x1 : Nat) : Statement (.flush x0 x1) := of_none _ rfl
theorem macFrameReceive (x0 : Nat) (x1 : NetFrame) : Statement (.macFrameReceive x0 x1) := of_none _ rfl
theorem mergeHoldExpiry (x0 : Nat) (x1 : Nat) : Statement (.mergeHoldExpiry x0 x1) := of_none _ rfl
theorem frameOpenTimeout (x0 : Nat) (x1 : Nat) : Statement (.frameOpenTimeout x0 x1) := of_none _ rfl
theorem pathIdleTimeout (x0 : Nat) (x1 : Nat) : Statement (.pathIdleTimeout x0 x1) := of_none _ rfl
theorem inputLossTimeout (x0 : Nat) : Statement (.inputLossTimeout x0) := of_none _ rfl
theorem sdiFrameReceive (x0 : Option Nat) (x1 : Nat) (x2 : SdiFrame) : Statement (.sdiFrameReceive x0 x1 x2) := of_none _ rfl
theorem slaneLos (x0 : Nat) : Statement (.slaneLos x0) := of_none _ rfl
theorem slaneRateChange (x0 : Nat) (x1 : Nat) : Statement (.slaneRateChange x0 x1) := of_none _ rfl
theorem slaneLock (x0 : Nat) (x1 : Nat) : Statement (.slaneLock x0 x1) := of_none _ rfl
theorem sprueBlockReceive (x0 : Nat) (x1 : Nat) (x2 : BitVec 16) (x3 : BitVec 120) (x4 : BitVec 120) : Statement (.sprueBlockReceive x0 x1 x2 x3 x4) := of_none _ rfl
theorem linkMarkerReceive (x0 : Nat) (x1 : Marker) : Statement (.linkMarkerReceive x0 x1) := of_none _ rfl
theorem laneCdrLoss (x0 : Nat) : Statement (.laneCdrLoss x0) := of_none _ rfl
theorem laneWtrExpiry (x0 : Nat) : Statement (.laneWtrExpiry x0) := of_none _ rfl
theorem marginMeasure (x0 : Nat) : Statement (.marginMeasure x0 x1 x2) := of_none _ rfl
theorem laneTxTrained (x0 : Bool) (x1 : Nat) : Statement (.laneTxTrained x0 x1) := of_none _ rfl
theorem akestimFrameReceive (x0 : Nat) (x1 : AksBody) : Statement (.akestimFrameReceive x0 x1) := of_none _ rfl
theorem akestimRetryTimeout (x0 : Nat) : Statement (.akestimRetryTimeout x0) := of_none _ rfl
theorem akestimLinkUp (x0 : Nat) (x1 : Nat) (x2 : Nat) : Statement (.akestimLinkUp x0 x1 x2) := of_none _ rfl
theorem castRecordReceive (x0 : Nat × CastRec) (x1 : Bool) : Statement (.castRecordReceive x0 x1) := of_none _ rfl
theorem partnerUnresponsive : Statement .partnerUnresponsive := of_none _ rfl
theorem croakInEdge : Statement .croakInEdge := of_none _ rfl
theorem croakInLost : Statement .croakInLost := of_none _ rfl
theorem croakOutToggle : Statement .croakOutToggle := of_none _ rfl
theorem promotion : Statement .promotion := of_none _ rfl
theorem roleSwapExecute : Statement .roleSwapExecute := of_none _ rfl
theorem resyncComplete (x0 : Nat) : Statement (.resyncComplete x0) := of_none _ rfl
theorem loopSignatureReceive (x0 : Nat × Nat) : Statement (.loopSignatureReceive x0) := of_none _ rfl
theorem egressLoopDone : Statement .egressLoopDone := of_none _ rfl
theorem partnerResetRequest : Statement .partnerResetRequest := of_none _ rfl
theorem powerGood : Statement .powerGood := of_none _ rfl
theorem powerSag : Statement .powerSag := of_none _ rfl
theorem backupSupplyRise : Statement .backupSupplyRise := of_none _ rfl
theorem resetNChange (x0 : Bool) : Statement (.resetNChange x0) := of_none _ rfl
theorem perstNChange (x0 : Bool) : Statement (.perstNChange x0) := of_none _ rfl
theorem resetPulseEnd (x0 : ResetSrc) : Statement (.resetPulseEnd x0) := of_none _ rfl
theorem optionLoadDone : Statement .optionLoadDone := of_none _ rfl
theorem clocksLocked : Statement .clocksLocked := of_none _ rfl
theorem poolTrainingDone (x0 : Bool) : Statement (.poolTrainingDone x0) := of_none _ rfl
theorem firmwareVerified (x0 : Bool) (x1 : Bool) : Statement (.firmwareVerified x0 x1) := of_none _ rfl
theorem meltReady : Statement .meltReady := of_none _ rfl
theorem watchdogExpiry : Statement .watchdogExpiry := of_none _ rfl
theorem kick : Statement .kick := of_none _ rfl
theorem firmwareReturn : Statement .firmwareReturn := of_none _ rfl
theorem chip : Statement .chip := of_none _ rfl
theorem quenchExit : Statement .quenchExit := of_none _ rfl
theorem go : Statement .go := of_none _ rfl
theorem coldEntry : Statement .coldEntry := of_none _ rfl
theorem wakeComplete : Statement .wakeComplete := of_none _ rfl
theorem faultRaise (x0 : Nat) : Statement (.faultRaise x0 x1) := of_none _ rfl
theorem substComplete (x0 : UnitKind) (x1 : Nat) : Statement (.substComplete x0 x1 x2) := of_none _ rfl
theorem status (x0 : Nat) : Statement (.status x0) := of_none _ rfl
theorem valid : Statement .valid := of_none _ rfl
theorem xtalLoss : Statement .xtalLoss := of_none _ rfl
theorem pllUnlock (x0 : Bool) : Statement (.pllUnlock x0) := of_none _ rfl
theorem tempSample (x0 : Nat) (x1 : Option Int) : Statement (.tempSample x0 x1) := of_none _ rfl
theorem railSample (x0 : Nat) (x1 : Nat) (x2 : Option Nat) : Statement (.railSample x0 x1 x2) := of_none _ rfl
theorem tamperOnset (x0 : Nat) : Statement (.tamperOnset x0) := of_none _ rfl
theorem latch : Statement .latch := of_none _ rfl
theorem keyCommitDone : Statement .keyCommitDone := of_none _ rfl
theorem attestSigned : Statement .attestSigned := of_none _ rfl
theorem snapshotCopyDone : Statement .snapshotCopyDone := of_none _ rfl
theorem imageCheckDone (x0 : Nat × Nat) : Statement (.imageCheckDone x0) := of_none _ rfl
theorem eyeMapDone (x0 : Nat) (x1 : Bytes) : Statement (.eyeMapDone x0 x1) := of_none _ rfl
theorem servoUpdate (x0 : Int) (x1 : Int) (x2 : Int) : Statement (.servoUpdate x0 x1 x2) := of_none _ rfl
theorem ptpSyncTx (x0 : Nat) : Statement (.ptpSyncTx x0) := of_none _ rfl
theorem ptpAnnounceTx (x0 : Nat) : Statement (.ptpAnnounceTx x0) := of_none _ rfl
theorem ptpDelayReqTx (x0 : Nat) : Statement (.ptpDelayReqTx x0) := of_none _ rfl
theorem announceReceiptTimeout (x0 : Nat) : Statement (.announceReceiptTimeout x0) := of_none _ rfl
theorem macFrameTransmit (x0 : Nat) : Statement (.macFrameTransmit x0) := of_none _ rfl
theorem packetSendTime (x0 : Nat) : Statement (.packetSendTime x0) := of_none _ rfl
theorem txqRead (x0 : Nat) (x1 : Nat) : Statement (.txqRead x0 x1) := of_none _ rfl
theorem macLinkUp (x0 : Nat) : Statement (.macLinkUp x0) := of_none _ rfl
theorem macVerifyTimer (x0 : Nat) : Statement (.macVerifyTimer x0) := of_none _ rfl
theorem macLinkDown (x0 : Nat) : Statement (.macLinkDown x0) := of_none _ rfl
theorem igmpReportSend (x0 : Nat) (x1 : Nat) : Statement (.igmpReportSend x0 x1) := of_none _ rfl
theorem snap (x0 : Nat) : Statement (.snap x0) := of_none _ rfl
theorem clr (x0 : Nat) : Statement (.clr x0) := of_none _ rfl
theorem refFreqGate (x0 : Nat) (x1 : Int) : Statement (.refFreqGate x0 x1) := of_none _ rfl
theorem refInputLoss (x0 : Nat) : Statement (.refInputLoss x0) := of_none _ rfl
theorem refQualified (x0 : Nat) : Statement (.refQualified x0) := of_none _ rfl
theorem refWtrExpiry (x0 : Nat) (x1 : Nat) : Statement (.refWtrExpiry x0 x1) := of_none _ rfl
theorem dpllAbsorbDone (x0 : Nat) : Statement (.dpllAbsorbDone x0) := of_none _ rfl
theorem dpllLocked (x0 : Nat) : Statement (.dpllLocked x0) := of_none _ rfl
theorem blockBoundary : Statement .blockBoundary := of_none _ rfl
theorem audioStreamLoss (x0 : Nat) : Statement (.audioStreamLoss x0) := of_none _ rfl
theorem meterWindowEnd : Statement .meterWindowEnd := of_none _ rfl
theorem tdmFrameSync (x0 : List TdmPort) : Statement (.tdmFrameSync x0) := of_none _ rfl
theorem aes3BlockEnd (x0 : Nat) (x1 : AesBlock) (x2 : AesRx) : Statement (.aes3BlockEnd x0 x1 x2) := of_none _ rfl
theorem aes3BlockSyncLoss (x0 : Nat) (x1 : AesRx) : Statement (.aes3BlockSyncLoss x0 x1) := of_none _ rfl
theorem restart (x0 : Nat) : Statement (.restart x0) := of_none _ rfl
theorem nwtTrap (x0 : Nat) (x1 : Nat) : Statement (.nwtTrap x0 x1) := of_none _ rfl
theorem nwtInterrupt (x0 : Nat) : Statement (.nwtInterrupt x0) := of_none _ rfl
theorem nwtTimerExpiry (x0 : Nat) : Statement (.nwtTimerExpiry x0) := of_none _ rfl
theorem nop (x0 : Nat) (x1 : NwtIns) : Statement (.nop x0 x1) := of_none _ rfl
theorem br (x0 : Nat) (x1 : NwtIns) : Statement (.br x0 x1) := of_none _ rfl
theorem brz (x0 : Nat) (x1 : NwtIns) : Statement (.brz x0 x1) := of_none _ rfl
theorem brnz (x0 : Nat) (x1 : NwtIns) : Statement (.brnz x0 x1) := of_none _ rfl
theorem brn (x0 : Nat) (x1 : NwtIns) : Statement (.brn x0 x1) := of_none _ rfl
theorem call (x0 : Nat) (x1 : NwtIns) : Statement (.call x0 x1) := of_none _ rfl
theorem ret (x0 : Nat) (x1 : NwtIns) : Statement (.ret x0 x1) := of_none _ rfl
theorem rep (x0 : Nat) (x1 : NwtIns) : Statement (.rep x0 x1) := of_none _ rfl
theorem swi (x0 : Nat) (x1 : NwtIns) : Statement (.swi x0 x1) := of_none _ rfl
theorem reti (x0 : Nat) (x1 : NwtIns) : Statement (.reti x0 x1) := of_none _ rfl
theorem tend (x0 : Nat) (x1 : NwtIns) : Statement (.tend x0 x1) := of_none _ rfl
theorem tmr (x0 : Nat) (x1 : NwtIns) : Statement (.tmr x0 x1) := of_none _ rfl
theorem sld (x0 : Nat) (x1 : NwtIns) : Statement (.sld x0 x1) := of_none _ rfl
theorem sst (x0 : Nat) (x1 : NwtIns) : Statement (.sst x0 x1) := of_none _ rfl
theorem vld (x0 : Nat) (x1 : NwtIns) : Statement (.vld x0 x1) := of_none _ rfl
theorem vst (x0 : Nat) (x1 : NwtIns) : Statement (.vst x0 x1) := of_none _ rfl
theorem vldb (x0 : Nat) (x1 : NwtIns) : Statement (.vldb x0 x1) := of_none _ rfl
theorem vlds (x0 : Nat) (x1 : NwtIns) : Statement (.vlds x0 x1) := of_none _ rfl
theorem ast (x0 : Nat) (x1 : NwtIns) : Statement (.ast x0 x1) := of_none _ rfl
theorem ald (x0 : Nat) (x1 : NwtIns) : Statement (.ald x0 x1) := of_none _ rfl
theorem movi (x0 : Nat) (x1 : NwtIns) : Statement (.movi x0 x1) := of_none _ rfl
theorem mov (x0 : Nat) (x1 : NwtIns) : Statement (.mov x0 x1) := of_none _ rfl
theorem padd (x0 : Nat) (x1 : NwtIns) : Statement (.padd x0 x1) := of_none _ rfl
theorem add (x0 : Nat) (x1 : NwtIns) : Statement (.add x0 x1) := of_none _ rfl
theorem sub (x0 : Nat) (x1 : NwtIns) : Statement (.sub x0 x1) := of_none _ rfl
theorem and (x0 : Nat) (x1 : NwtIns) : Statement (.and x0 x1) := of_none _ rfl
theorem or (x0 : Nat) (x1 : NwtIns) : Statement (.or x0 x1) := of_none _ rfl
theorem xor (x0 : Nat) (x1 : NwtIns) : Statement (.xor x0 x1) := of_none _ rfl
theorem shl (x0 : Nat) (x1 : NwtIns) : Statement (.shl x0 x1) := of_none _ rfl
theorem shr (x0 : Nat) (x1 : NwtIns) : Statement (.shr x0 x1) := of_none _ rfl
theorem abs (x0 : Nat) (x1 : NwtIns) : Statement (.abs x0 x1) := of_none _ rfl
theorem min (x0 : Nat) (x1 : NwtIns) : Statement (.min x0 x1) := of_none _ rfl
theorem max (x0 : Nat) (x1 : NwtIns) : Statement (.max x0 x1) := of_none _ rfl
theorem cmplt (x0 : Nat) (x1 : NwtIns) : Statement (.cmplt x0 x1) := of_none _ rfl
theorem vsel (x0 : Nat) (x1 : NwtIns) : Statement (.vsel x0 x1) := of_none _ rfl
theorem vmul (x0 : Nat) (x1 : NwtIns) : Statement (.vmul x0 x1) := of_none _ rfl
theorem vmac (x0 : Nat) (x1 : NwtIns) : Statement (.vmac x0 x1) := of_none _ rfl
theorem vmsb (x0 : Nat) (x1 : NwtIns) : Statement (.vmsb x0 x1) := of_none _ rfl
theorem vmacm (x0 : Nat) (x1 : NwtIns) : Statement (.vmacm x0 x1) := of_none _ rfl
theorem ftap (x0 : Nat) (x1 : NwtIns) : Statement (.ftap x0 x1) := of_none _ rfl
theorem aclr (x0 : Nat) (x1 : NwtIns) : Statement (.aclr x0 x1) := of_none _ rfl
theorem rnd (x0 : Nat) (x1 : NwtIns) : Statement (.rnd x0 x1) := of_none _ rfl
theorem ashf (x0 : Nat) (x1 : NwtIns) : Statement (.ashf x0 x1) := of_none _ rfl
theorem exp (x0 : Nat) (x1 : NwtIns) : Statement (.exp x0 x1) := of_none _ rfl
theorem norm (x0 : Nat) (x1 : NwtIns) : Statement (.norm x0 x1) := of_none _ rfl
theorem reportIntervalEnd : Statement .reportIntervalEnd := of_none _ rfl
theorem measDatagramSend (x0 : Nat) : Statement (.measDatagramSend x0) := of_none _ rfl
theorem gpioEvent (x0 : Nat) (x1 : Bool) : Statement (.gpioEvent x0 x1) := of_none _ rfl
theorem gpioWindowEnd : Statement .gpioWindowEnd := of_none _ rfl
theorem quarantine (x0 : Nat) : Statement (.quarantine x0) := of_none _ rfl
theorem chmFenceWrite (x0 : Nat) (x1 : Nat) (x2 : Nat) : Statement (.chmFenceWrite x0 x1 x2) := of_none _ rfl
theorem vec (x0 : Nat) (x1 : Nat) : Statement (.vec x0 x1) := of_none _ rfl
theorem epochLoRead (x0 : Nat) : Statement (.epochLoRead x0) := of_none _ rfl
theorem tickLoRead (x0 : Nat) : Statement (.tickLoRead x0) := of_none _ rfl
theorem nowNsRead (x0 : Nat) : Statement (.nowNsRead x0) := of_none _ rfl
theorem rasPosRead (x0 : Nat) (x1 : Nat) : Statement (.rasPosRead x0 x1) := of_none _ rfl
theorem latchedLowRead (x0 : BusAccess) : Statement (.latchedLowRead x0) := of_none _ rfl
theorem peakRead (x0 : BusAccess) : Statement (.peakRead x0) := of_none _ rfl
theorem busAccessTimeout (x0 : BusAccess) (x1 : Bool) : Statement (.busAccessTimeout x0 x1) := of_none _ rfl
theorem registerWrite (x0 : BusAccess) (x1 : Nat) : Statement (.registerWrite x0 x1) := of_none _ rfl
theorem dpllLockLost (x0 : Nat) : Statement (.dpllLockLost x0) := of_none _ rfl
theorem ocxoFail : Statement .ocxoFail := of_none _ rfl
theorem refPhaseOutlier (x0 : Nat) : Statement (.refPhaseOutlier x0) := of_none _ rfl
theorem tribRateGate (x0 : Nat) (x1 : Nat) (x2 : Int) : Statement (.tribRateGate x0 x1 x2) := of_none _ rfl
theorem aes3ZPreambleReceive (x0 : Nat) (x1 : AesRx) : Statement (.aes3ZPreambleReceive x0 x1) := of_none _ rfl
theorem aes3TxBlockStart (x0 : Nat) (x1 : List Nat) : Statement (.aes3TxBlockStart x0 x1) := of_none _ rfl
theorem mgmtDatagramReceive (x0 : Nat) (x1 : Nat) (x2 : Nat) (x3 : Nat) (x4 : Nat) (x5 : Nat) (x6 : Bool) (x7 : Bytes) : Statement (.mgmtDatagramReceive x0 x1 x2 x3 x4 x5 x6 x7) := of_none _ rfl
theorem tamperInactive (x0 : Nat) : Statement (.tamperInactive x0) := of_none _ rfl
theorem patternWindowWrite (x0 : Nat) (x1 : Nat) (x2 : Nat) : Statement (.patternWindowWrite x0 x1 x2) := of_none _ rfl
theorem nwtMemWindowWrite (x0 : Nat) (x1 : Nat) (x2 : Nat) : Statement (.nwtMemWindowWrite x0 x1 x2) := of_none _ rfl
theorem vddCoreSetpointStep (x0 : Bool) (x1 : Bool) : Statement (.vddCoreSetpointStep x0 x1) := of_none _ rfl
theorem pmbusRetryExpiry (x0 : Bool) : Statement (.pmbusRetryExpiry x0) := of_none _ rfl

end Sys2Proof.Laws.Row

open Sys2Proof Sys2Proof.Machine in
theorem Sys2Proof.Laws.Row.break (x0 : Nat) (x1 : NwtIns) : Sys2Proof.Laws.Row.Statement (.break x0 x1) :=
  Sys2Proof.Laws.Row.of_none _ rfl
end

