-- ==== Sys2Proof/Laws/Replies.lean ====
section
/-! SUPPORT. What the release of replies leaves as it was: everything but the outputs, the link's transmit state, the completion
rings' producer indices and the replies themselves. -/

namespace Sys2Proof.Machine

/-- What handing replies out leaves as it was. -/
structure RepliesOnly (s t : State) : Prop where
  pending : t.pending = s.pending
  free : t.free = s.free
  latches : t.latches = s.latches
  tick : t.tick = s.tick
  sys : t.sys = s.sys
  rst : t.rst = s.rst
  jnl : t.jnl = s.jnl
  jnlHead : t.jnlHead = s.jnlHead
  events : t.events = s.events
  axl : t.axl = s.axl
  otp : t.otp = s.otp
  tim : t.tim = s.tim
  ref : t.ref = s.ref
  mac : t.mac = s.mac
  lad : t.lad = s.lad
  pool : t.pool = s.pool
  pat : t.pat = s.pat
  shk : t.shk = s.shk
  chm : t.chm = s.chm
  aud : t.aud = s.aud
  nwt : t.nwt = s.nwt
  apt : t.apt = s.apt
  meas : t.meas = s.meas
  twn : t.twn = s.twn
  key : t.key = s.key
  gpio : t.gpio = s.gpio
  bus : t.bus = s.bus
  cmd_admitted : t.cmd.admitted = s.cmd.admitted
  cmd_held : t.cmd.held = s.cmd.held
  cmd_partials : t.cmd.partials = s.cmd.partials
  cmd_macros : t.cmd.macros = s.cmd.macros
  cmd_trigQ : t.cmd.trigQ = s.cmd.trigQ
  cmd_staging : t.cmd.staging = s.cmd.staging
  cmd_reads : t.cmd.reads = s.cmd.reads
  cmd_trigLost : t.cmd.trigLost = s.cmd.trigLost
  regs : ∀ a, (∀ k, a ≠ F.CMD_RING_CFG_CPL_PROD.addr k 0) → t.reg a = s.reg a

theorem RepliesOnly.refl (s : State) : RepliesOnly s s := by
  constructor <;> intros <;> rfl

theorem RepliesOnly.trans {s t u : State} (h : RepliesOnly s t) (g : RepliesOnly t u) : RepliesOnly s u where
  pending := g.pending.trans h.pending
  free := g.free.trans h.free
  latches := g.latches.trans h.latches
  tick := g.tick.trans h.tick
  sys := g.sys.trans h.sys
  rst := g.rst.trans h.rst
  jnl := g.jnl.trans h.jnl
  jnlHead := g.jnlHead.trans h.jnlHead
  events := g.events.trans h.events
  axl := g.axl.trans h.axl
  otp := g.otp.trans h.otp
  tim := g.tim.trans h.tim
  ref := g.ref.trans h.ref
  mac := g.mac.trans h.mac
  lad := g.lad.trans h.lad
  pool := g.pool.trans h.pool
  pat := g.pat.trans h.pat
  shk := g.shk.trans h.shk
  chm := g.chm.trans h.chm
  aud := g.aud.trans h.aud
  nwt := g.nwt.trans h.nwt
  apt := g.apt.trans h.apt
  meas := g.meas.trans h.meas
  twn := g.twn.trans h.twn
  key := g.key.trans h.key
  gpio := g.gpio.trans h.gpio
  bus := g.bus.trans h.bus
  cmd_admitted := g.cmd_admitted.trans h.cmd_admitted
  cmd_held := g.cmd_held.trans h.cmd_held
  cmd_partials := g.cmd_partials.trans h.cmd_partials
  cmd_macros := g.cmd_macros.trans h.cmd_macros
  cmd_trigQ := g.cmd_trigQ.trans h.cmd_trigQ
  cmd_staging := g.cmd_staging.trans h.cmd_staging
  cmd_reads := g.cmd_reads.trans h.cmd_reads
  cmd_trigLost := g.cmd_trigLost.trans h.cmd_trigLost
  regs a ha := (g.regs a ha).trans (h.regs a ha)

theorem aksSend_replies (s : State) (k e : Nat) (b : Bytes) : RepliesOnly s (s.aksSend k e b) := by
  unfold State.aksSend
  by_cases h : (!s.aksOpen) = true
  · rw [if_pos h]; exact .refl s
  · rw [if_neg h]; constructor <;> intros <;> rfl

theorem emit_replies (s : State) (o : Output) : RepliesOnly s (s.emit o) := by
  constructor <;> intros <;> rfl

theorem complete_replies (s : State) (k : Nat) (r : Reply) (n : Nat) (l : Bool) : RepliesOnly s (s.complete k r n l) where
  pending := rfl
  free := rfl
  latches := rfl
  tick := rfl
  sys := rfl
  rst := rfl
  jnl := rfl
  jnlHead := rfl
  events := rfl
  axl := rfl
  otp := rfl
  tim := rfl
  ref := rfl
  mac := rfl
  lad := rfl
  pool := rfl
  pat := rfl
  shk := rfl
  chm := rfl
  aud := rfl
  nwt := rfl
  apt := rfl
  meas := rfl
  twn := rfl
  key := rfl
  gpio := rfl
  bus := rfl
  cmd_admitted := rfl
  cmd_held := rfl
  cmd_partials := rfl
  cmd_macros := rfl
  cmd_trigQ := rfl
  cmd_staging := rfl
  cmd_reads := rfl
  cmd_trigLost := rfl
  regs a ha := by
    show (s.setFld F.CMD_RING_CFG_CPL_PROD _ k).reg a = s.reg a
    exact State.reg_setReg_other s _ a _ (ha k)

theorem sendReply_replies (s : State) (r : Reply) (l : Bool) : RepliesOnly s (s.sendReply r l) := by
  unfold State.sendReply
  simp only
  split
  · exact .refl s
  · split
    · exact aksSend_replies s _ _ _
    · split
      · exact .refl s
      · split
        · exact (emit_replies s _).trans (complete_replies _ _ _ _ _)
        · split
          · exact (emit_replies s _).trans (emit_replies _ _)
          · exact emit_replies s _

theorem storeReply_replies (s : State) (r : Reply) : RepliesOnly s (s.storeReply r) := by
  constructor <;> intros <;> rfl

theorem releaseOne_replies (s : State) (u : Unreleased) : RepliesOnly s (s.releaseOne u) := by
  unfold State.releaseOne
  simp only
  split
  · exact sendReply_replies _ _ _
  · exact (storeReply_replies s _).trans (sendReply_replies _ _ _)

/-- Handing out what may leave changes nothing else. -/
theorem release_replies (s : State) : RepliesOnly s s.release := by
  unfold State.release
  split
  · exact .refl s
  · have go (l : List Unreleased) (t : State) (h : RepliesOnly s t) : RepliesOnly s (l.foldl (fun (t : State) (u : Unreleased) =>
        if t.releasable u then t.releaseOne u
        else { t with cmd := { t.cmd with unreleased := t.cmd.unreleased ++ [u] } }) t) := by
      induction l generalizing t with
      | nil => exact h
      | cons u l ih =>
        rw [List.foldl_cons]
        apply ih
        split
        · exact h.trans (releaseOne_replies t u)
        · exact h.trans (by constructor <;> intros <;> rfl)
    exact go _ _ (by constructor <;> intros <;> rfl)

/-- With no reply waiting, handing out does nothing. -/
theorem release_nil (s : State) (hu : s.cmd.unreleased = []) : s.release = s := by
  have e : ({ s with cmd := { s.cmd with unreleased := [] } } : State) = s := by
    rw [← hu]
  unfold State.release
  split
  · rfl
  · simp only [hu, List.foldl_nil]
    exact e

end Sys2Proof.Machine
end

