-- ==== Sys2Proof/Machine/Pins.lean ====
section
/-! DEFINITION. The states of the pins (R538), which follow from the rest of the state. -/

namespace Sys2Proof.Machine

/-- What R538 says a pin is held at; `unit` where the unit behind the pin drives it, `clock` a square wave of a frequency in Hz
as a fraction (R94). -/
inductive PinState where
  | highZ | low | high | pullDown | pullUp | idle | off | markers | unit | clock (num den : Nat)
  deriving DecidableEq, Repr

/-- The pin-state encoding of R538. -/
def PinState.ofCode : Nat → PinState
  | 1 => .low
  | 2 => .high
  | 3 => .pullDown
  | 4 => .pullUp
  | _ => .highZ

/-- The groups of pins that R538 has rows for. -/
inductive PinGroup where
  | gpio (n : Nat)
  | hLane (n : Nat)
  | sLane (n : Nat)
  | clkout (n : Nat)
  | ppsout
  | aptOut
  | aptClock
  | croakOut
  | i2c
  | uartTx
  deriving DecidableEq, Repr

namespace State

/-- A GPIO pin: its group's fuse-map state in reset, Quench and Cold and until software has configured it, then its own
registers. -/
def gpioPin (s : State) (n : Nat) : PinState :=
  let b := s.otp.applied
  let (g0, g1) := (byteAt b (16 + 2 * (n / 8)), byteAt b (17 + 2 * (n / 8)))
  if !s.rst.aStep then .highZ
  else if s.sys.mode = .quench then .ofCode (bitsOf g0 5 3)
  else if s.sys.mode = .cold then .ofCode (bitsOf g1 2 0)
  else if !s.gpio.configured.contains n then .ofCode (bitsOf g0 2 0)
  else if s.flag F.GPIO_PIN_CFG_DIR n then (if s.flag F.GPIO_PIN_CFG_OUT n then .high else .low)
  else .ofCode (s.fld F.GPIO_PIN_CFG_PULL n)

/-- An H-lane's transmitter (R538): off in Cold; in Quench markers where R120 or SPRUE_QUENCH (R116) says so. -/
def hLanePin (s : State) (l : Nat) : PinState :=
  if s.sys.mode = .cold then .off else if s.laneIdle l then .idle else if s.sys.mode = .quench then .markers else .unit

/-- An S-lane's transmitter: management Ethernet, or an SDI output that leaves the device (R319). -/
def sLanePin (s : State) (l : Nat) : PinState :=
  if s.sys.mode = .cold then .off
  else if !s.rst.pUp || s.sys.mode == .quench || !s.flag F.SLN_LANE_CFG_TX_EN l then .idle
  else if s.fld F.SLN_LANE_CFG_USE l = 2 || (slaneOuts s l).any (fun o => s.sdiSends o) then .unit else .idle

/-- A clock output (R94): the frequency of its FREQ, locked to the named DPLL, or the domain's frame pulse. -/
def clkPin (s : State) (n : Nat) : PinState :=
  let d := s.fld F.REF_CLKOUT_CFG_DPLL n
  if !s.flag F.REF_CLKOUT_CFG_EN n then .low
  else match s.fld F.REF_CLKOUT_CFG_FREQ n with
    | 1 => .clock 10000000 1
    | 2 => .clock 27000000 1
    | 3 => .clock 74250000 1
    | 4 => .clock 74250000000 1001
    | 5 => .clock 148500000 1
    | 6 => .clock 148500000000 1001
    | 7 => .clock 12288000 1
    | 8 => .clock 24576000 1
    | 9 => if s.running d && decide ((s.rasOf d).line ≤ 1) then .high else .low
    | _ => .low

/-- PPSOUT (R95): high for 10 µs from each whole second, of PTP time while it is valid or of the named DPLL's aligned time. -/
def ppsPin (s : State) : PinState :=
  let ptp := s.flag F.REF_CLKOUT_CFG_SRC_PTP 8
  let t := if ptp then s.ptpNow else s.alignedNow (s.fld F.REF_CLKOUT_CFG_DPLL 8)
  if s.flag F.REF_CLKOUT_CFG_EN 8 && (!ptp || s.flag F.TIM_STATUS_TIME_VALID) && decide (t % secUnits < 10000 * 65536) then .high
  else .low

/-- The state of a pin (R93, R538). -/
def pinState (s : State) (g : PinGroup) : PinState :=
  let on := s.sys.mode != .quench && s.sys.mode != .cold
  match g with
  | .gpio n => s.gpioPin n
  | .hLane n => s.hLanePin n
  | .sLane n => s.sLanePin n
  | .clkout n => if s.rst.pUp && on then s.clkPin n else .low
  | .ppsout => if s.rst.pUp && on then s.ppsPin else .low
  | .aptOut => if s.rst.pUp && on then .unit else .low
  | .aptClock => if s.rst.pUp && on && s.flag F.APT_TDM_CFG_MASTER then .unit else .highZ
  | .croakOut => if s.twn.croakOutOn then .unit else .low
  | .i2c => if s.rst.cUp && on then .unit else .highZ
  | .uartTx => if s.rst.cUp && on then .unit else .high

end State

end Sys2Proof.Machine
end

