-- ==== Sys2Proof/Machine/Package.lean ====
section
/-! DEFINITION. The balls of the package (R593 to R595) and its rails (R596 to R598). -/

namespace Sys2Proof.Machine

/-- A ball: its row and its column, each numbered from 1 at the A1 corner, 92 of each. -/
abbrev Ball := Nat × Nat

/-- A signal at the balls: its name, the index where several share the name, and whether it is the complement of a pair. -/
structure Signal where
  name : String
  index : Nat := 0
  neg : Bool := false
  deriving DecidableEq, Repr

/-- The ball of an H-lane's transmit or receive pair (R593). -/
def hLaneBall (n : Nat) (tx neg : Bool) : Ball :=
  let low := decide (n % 8 < 4)
  let row := if n / 8 < 9 then (if tx then (if low then 2 else 6) else if low then 4 else 8)
    else if tx then (if low then 91 else 87) else if low then 89 else 85
  (row, 3 + 10 * (n / 8 % 9) + 2 * (n % 4) + b2n neg)

/-- The ball of an S-lane's transmit or receive pair (R593). -/
def sLaneBall (n : Nat) (tx neg : Bool) : Ball :=
  (12 + 2 * (n % 34) + b2n neg, if n < 34 then (if tx then 2 else 4) else if tx then 91 else 89)

/-- The ball of a PCIe lane's transmit or receive pair (R593). -/
def pcieBall (i : Nat) (tx neg : Bool) : Ball := (12 + 2 * i + b2n neg, if tx then 11 else 13)

/-- Both balls of each transmit and receive pair of some lanes. -/
def pairBalls (count : Nat) (tx rx : String) (ball : Nat → Bool → Bool → Ball) : List (Signal × Ball) :=
  (List.range count).flatMap (fun n =>
    [true, false].flatMap (fun t => [false, true].map (fun neg => (⟨if t then tx else rx, n, neg⟩, ball n t neg))))

/-- Signals of one name in consecutive rows of a column. -/
def rowBalls (name : String) (row col count : Nat) : List (Signal × Ball) :=
  (List.range count).map (fun n => (⟨name, n, false⟩, (row + n, col)))

/-- A true and complement pair in two rows. -/
def pairAt (name : String) (row col : Nat) : List (Signal × Ball) := [(⟨name, 0, false⟩, (row, col)), (⟨name, 0, true⟩, (row + 1, col))]

/-- Single signals in consecutive rows of a column. -/
def columnBalls (row col : Nat) (names : List String) : List (Signal × Ball) :=
  names.zipIdx.map (fun x => (⟨x.1, 0, false⟩, (row + x.2, col)))

/-- The signal balls beside the lanes (R594). -/
def otherBalls : List (Signal × Ball) :=
  rowBalls "GPIO" 12 7 64 ++ rowBalls "APT_IN" 12 9 16 ++ rowBalls "APT_OUT" 28 9 16 ++ rowBalls "CLKOUT" 44 9 8 ++
  columnBalls 52 9 ["PPSOUT", "PPSIN", "CLKIN", "OSCIN", "APT_BCLK", "APT_FS", "CROAK_OUT", "CROAK_IN", "RESET_N", "PERST_N",
    "TAMPER0_N", "TAMPER1_N", "VBAT"] ++
  pairAt "PCIE_REFCLK" 28 11 ++ pairAt "REFA" 30 11 ++ pairAt "REFB" 32 11 ++ columnBalls 34 11 ["XTAL_IN", "XTAL_OUT"] ++
  columnBalls 30 13 ["I2C0_SCL", "I2C0_SDA", "I2C1_SCL", "I2C1_SDA", "I2C2_SCL", "I2C2_SDA", "I2C3_SCL", "I2C3_SDA", "UART0_TX",
    "UART0_RX", "UART1_TX", "UART1_RX", "JTAG_TCK", "JTAG_TMS", "JTAG_TDI", "JTAG_TDO", "JTAG_TRST_N", "SPI_CLK", "SPI_CS_N",
    "SPI_DQS"] ++ rowBalls "SPI_DQ" 50 13 8

/-- Every signal's ball (R593, R594). -/
def signalBalls : List (Signal × Ball) :=
  pairBalls 144 "HLANE_TX" "HLANE_RX" hLaneBall ++ pairBalls 68 "SLANE_TX" "SLANE_RX" sLaneBall ++
    pairBalls 8 "PCIE_TX" "PCIE_RX" pcieBall ++ otherBalls

/-- The supply rails in the order of MEAS_ENV_RAIL (R596). -/
inductive Rail
  | vddCore | vddHl | vddaHl | vddSl | vddM | vddqM | vddio | vdd33 | vbat
  deriving DecidableEq, Repr

/-- A rail's nominal voltage in mV (R596); VBAT has a range and none. -/
def Rail.nominal : Rail → Option Nat
  | .vddCore => some 750 | .vddHl => some 850 | .vddaHl => some 1200 | .vddSl => some 900 | .vddM => some 1100
  | .vddqM => some 400 | .vddio => some 1800 | .vdd33 => some 3300 | .vbat => none

/-- A main rail's group in the order of power-up (R597); VBAT is independent. -/
def Rail.group : Rail → Option Nat
  | .vdd33 => some 1 | .vddio => some 1 | .vddCore => some 2 | .vddSl => some 3 | .vddHl => some 3
  | .vddaHl => some 4 | .vddM => some 5 | .vddqM => some 6 | .vbat => none

/-- Whether a rail's voltage in mV counts as good for the supply monitor: within 3 % of nominal, VDD_CORE within 0.69 to 0.81 V
(R598). -/
def Rail.good (r : Rail) (mv : Nat) : Bool :=
  if r = .vddCore then decide (690 ≤ mv ∧ mv ≤ 810)
  else r.nominal.all (fun n => decide (97 * n ≤ 100 * mv ∧ 100 * mv ≤ 103 * n))

/-- Whether a rail's voltage in mV asserts POWER_ON again once it has lasted 10 µs: below 85 % of nominal, VDD_CORE below 0.60 V
(R598). -/
def Rail.sagged (r : Rail) (mv : Nat) : Bool :=
  if r = .vddCore then decide (mv < 600) else r.nominal.any (fun n => decide (100 * mv < 85 * n))

/-- The rail whose region a ball lies in (R595). -/
def railAt (b : Ball) : Option Rail :=
  let (r, c) := b
  let even := (r + c) % 2 == 0
  let rows (lo hi : Nat) := decide (lo ≤ r ∧ r ≤ hi)
  let cols (lo hi : Nat) := decide (lo ≤ c ∧ c ≤ hi)
  if rows 30 62 && cols 30 62 && even then some .vddCore
  else if (rows 20 24 || rows 68 72) && cols 20 72 && even then some .vddM
  else if (rows 25 27 || rows 65 67) && cols 20 72 && even then some .vddqM
  else if (r == 11 || r == 82) && cols 3 89 && c % 2 == 1 then some .vddHl
  else if (r == 10 || r == 83) && cols 3 89 && c % 2 == 1 then some .vddaHl
  else if (c == 6 || c == 86) && rows 12 78 && r % 2 == 0 then some .vddSl
  else if c == 15 && rows 12 78 && r % 2 == 0 then some .vddio
  else if c == 17 && rows 12 20 && r % 2 == 0 then some .vdd33
  else none

/-- What a ball carries. -/
inductive BallUse
  | signal (s : Signal)
  | rail (r : Rail)
  | vss
  deriving DecidableEq, Repr

/-- What a ball of the grid carries; VSS where R593 to R595 assign nothing. -/
def ballUse (b : Ball) : BallUse :=
  match signalBalls.find? (fun x => x.2 == b) with
  | some x => .signal x.1
  | none => match railAt b with
    | some r => .rail r
    | none => .vss

/-- An S-lane SDI transmitter's latency from the Shakeout to its balls in ns, beside the 256 ns of R298, at its rates in kb/s; a
1.001 form has the same latency in unit intervals (R607). -/
def sdiTxLatency : List (Nat × Nat) := [(1485000, 200), (2970000, 120), (5940000, 80), (11880000, 60)]

end Sys2Proof.Machine
end

