-- ==== Sys2Proof/Tests/Slice0.lean ====
section
/-! SUPPORT. Tests: ill-formed commands that the check refuses, single steps with results worked out by hand from the
specification, and for each statement with hypotheses a concrete state and operands that meet them, clause by clause. -/

namespace Sys2Proof.Tests
open Sys2Proof Sys2Proof.Machine
set_option Elab.async false

/-! ## Small states -/

/-- Register words with the listed fields (field, instance, value); their other bits are 0. -/
def words (l : List (Fld × Nat × Nat)) : List (Nat × Word) :=
  l.foldl (fun m x => sins m (x.1.addr x.2.1 0) (sget (fun _ => 0) m (x.1.addr x.2.1 0) ||| placeBits x.1.hi x.1.lo x.2.2)) []

/-- A part with every domain out of reset and firmware serving, in a mode, with these register fields. -/
def live (m : Mode) (l : List (Fld × Nat × Nat)) : State :=
  { State.reset with
    regs := words l
    sys := { SysState.reset with mode := m, meltReady := true }
    rst := { RstState.reset with
      asserted := [], aUp := true, cUp := true, pUp := true, hUp := true, aStep := true, hStep := true, pStep := true,
      cStep := true, fwUp := true } }

/-- A part with every domain in reset, with these register fields. -/
def dark (l : List (Fld × Nat × Nat)) : State := { State.reset with regs := words l }

/-! ## Well-formedness: one ill-formed term for each check -/

def ping0 : Cmd := { src := 0, session := 7, hdrCrc := 0x73DE5B32, bodyCrc := 0x48674BC7 }

theorem test_wellFormed_ping : wellFormed (.ping ping0) = true := by decide
theorem test_illFormed_magic : wellFormed (.ping { ping0 with magic := 0x4C55 }) = false := by decide
theorem test_illFormed_version : wellFormed (.ping { ping0 with version := 2 }) = false := by decide
theorem test_illFormed_flags : wellFormed (.ping { ping0 with flags := 32 }) = false := by decide
theorem test_illFormed_param_len : wellFormed (.ping { ping0 with paramLen := 4 }) = false := by decide
theorem test_illFormed_param_multiple : wellFormed (.ping { ping0 with paramLen := 3, params := [1, 2, 3] }) = false := by decide
theorem test_illFormed_tag : wellFormed (.ping { ping0 with auth := [0] }) = false := by decide
theorem test_illFormed_no_tag : wellFormed (.ping { ping0 with src := 8 }) = false := by decide
theorem test_illFormed_params_too_long (c : Cmd) (h : 65500 < c.params.length) : wellFormed (.ping c) = false := by
  change c.wellFormed = false
  simp only [Cmd.wellFormed, Bool.and_eq_false_iff, decide_eq_false_iff_not]
  exact .inl (.inr (by split <;> omega))

/-! One term outside each range that the check of operands names. -/

theorem test_illFormed_operands0 :
    ([.cplConsWrite 8 0, .cplConsWrite 0 65536, .prodWrite 8 0 [], .prodWrite 0 65536 [], .prodWrite 0 1 [⟨0, 63, []⟩],
   .prodWrite 0 1 [⟨0, 65537, []⟩], .heldPacketTimeout 7 0, .heldPacketTimeout 8 4294967296, .fragmentTimeout 12 0 0,
   .fragmentTimeout 8 65536 0, .timedRelease 16 0, .timedFire 0 4294967296, .slotStart 4, .bankCopyDone 4, .frameBoundary 4,
   .rasterStart 4, .refWtrExpiry 4 0, .dpllAbsorbDone 4, .dpllLocked 4, .dpllLockLost 4, .suspectExpiry 33554432,
   .poolWindowRead 16 0 1, .poolWindowRead 0 0 0, .poolWindowWrite 16 0 [1], .poolWindowWrite 0 0 [], .flush 16 0,
   .macFrameReceive 32 { len := 64, fcsOk := true, dst := 0 },
   .macFrameReceive 0 { len := 65536, fcsOk := true, dst := 0 }, .mergeHoldExpiry 65536 0,
   .frameOpenTimeout 65536 0, .inputLossTimeout 65536, .packetSendTime 65536, .pathIdleTimeout 2048 0, .pathIdleTimeout 0 2,
   .sdiFrameReceive (some 16) 0 { format := 0, picture := [] }, .sdiFrameReceive none 68 { format := 0, picture := [] },
   .slaneLos 68, .slaneRateChange 68 0, .slaneLock 0 16] : List Instr).all (fun i => !wellFormed i) = true := by decide +kernel

theorem test_illFormed_operands1 :
    ([.sprueBlockReceive 16 0 0 0 0, .linkMarkerReceive 144 { bits := 0 }, .laneCdrLoss 144, .marginMeasure 144 [(0, 0)] [(0, 0)],
   .marginMeasure 0x144 [(0, 0)] [(0, 0)], .marginMeasure 0 [] [], .mirrorAckReceive (4294967296, 0), .akestimFrameReceive 4294967296 (.ack 0),
   .loopSignatureReceive (4294967296, 0), .loopSignatureReceive (0, 4294967296), .eyeMapDone 144 [], .laneWtrExpiry 16, .laneTxTrained true 68, .laneTxTrained false 144,
   .akestimLinkUp 6 0 0, .faultRaise 48 none, .substComplete .newt 68 [], .status 281474976710656, .tempSample 20 none,
   .railSample 9 0 none, .tamperOnset 4, .tamperInactive 4, .imageCheckDone (64, 0), .ptpSyncTx 32, .ptpAnnounceTx 32,
   .ptpDelayReqTx 32, .announceReceiptTimeout 32, .macFrameTransmit 32, .macLinkUp 32, .macVerifyTimer 32, .macLinkDown 32, .snap 32, .clr 32,
   .txqRead 8 0, .txqRead 0 32, .igmpReportSend 32 0, .igmpReportSend 0 4294967296, .refFreqGate 9 0, .refInputLoss 9,
   .refQualified 9, .refPhaseOutlier 9, .audioStreamLoss 0x0FFF, .audioStreamLoss 0x2000, .tdmFrameSync [⟨16, [], [], []⟩]] : List Instr).all (fun i => !wellFormed i) = true := by decide +kernel

theorem test_illFormed_operands2 :
    ([.aes3BlockEnd 16 ⟨[], [], [], []⟩ ⟨0, [], []⟩, .aes3BlockSyncLoss 16 ⟨0, [], []⟩, .restart 16, .aes3ZPreambleReceive 16 ⟨0, [], []⟩,
   .aes3TxBlockStart 16 [], .nwtTrap 68 1, .nwtTrap 0 0, .nwtTrap 0 9, .nwtInterrupt 68, .nop 68 {}, .vmac 68 {}, .norm 68 {},
   .measDatagramSend 4, .gpioEvent 64 true, .quarantine 64, .chmFenceWrite 8 0 0, .chmFenceWrite 0 256 0,
   .chmFenceWrite 0 0 4294967296, .vec 8 0, .vec 0 4294967296, .epochLoRead 8, .tickLoRead 8, .nowNsRead 8, .rasPosRead 8 0,
   .rasPosRead 0 4, .latchedLowRead ⟨8, 0, 0, 15⟩, .peakRead ⟨0, 16, 0, 15⟩, .busAccessTimeout ⟨0, 0, 1099511627776, 15⟩ true,
   .registerWrite ⟨0, 0, 2, 15⟩ 0, .registerWrite ⟨0, 0, 0, 7⟩ 0, .registerWrite ⟨0, 0, 0, 15⟩ 4294967296, .tribRateGate 16 0 0,
   .tribRateGate 0 3840 0, .mgmtDatagramReceive 2 0 0 0 0 0 false [], .mgmtDatagramReceive 0 65536 0 0 0 0 false [],
   .mgmtDatagramReceive 0 0 0 0 0 65507 false [0], .patternWindowWrite 8 0 0, .patternWindowWrite 0 0x400000 0,
   .patternWindowWrite 0 2 0, .patternWindowWrite 0 0 4294967296, .nwtMemWindowWrite 8 0 0, .nwtMemWindowWrite 0 0x10000 0,
   .nwtMemWindowWrite 0 1 0, .nwtMemWindowWrite 0 0 4294967296] : List Instr).all (fun i => !wellFormed i) = true := by decide +kernel

/-- The largest operands that the check takes. -/
theorem test_wellFormed_bounds :
    ([.cplConsWrite 7 65535, .heldPacketTimeout 11 4294967295, .slotStart 3, .suspectExpiry 33554431, .flush 15 0, .slaneLock 67 15,
      .laneCdrLoss 143, .marginMeasure 0x143 [(0, 0)] [(0, 0)], .ptpSyncTx 31, .akestimLinkUp 5 0 0, .faultRaise 47 none, .tempSample 19 none, .railSample 8 0 none, .snap 31, .txqRead 7 31,
      .refQualified 8, .audioStreamLoss 0x1FFF, .nwtTrap 67 8, .gpioEvent 63 true, .chmFenceWrite 7 255 4294967295,
      .tribRateGate 15 3839 0, .patternWindowWrite 7 0x3FFFFC 4294967295, .nwtMemWindowWrite 7 0xFFFC 4294967295] : List Instr).all
      wellFormed = true := by decide +kernel

/-- No row of the opcode table gives bits. -/
theorem test_no_row_gives_bits : decodeTableWord 32 0 = none := rfl

/-! ## Single steps -/

/-- The state a step answers, itself where it stops. -/
def stepped (s : State) : State := match step s with
  | .next t => t
  | .fault _ => s
  | .refused _ => s

/-- R42, R43: an idle tick counts, and only out of reset. -/
theorem test_idle_ticks : (stepped { live .melt [] with tick := 41 }).tick = 42 ∧ (stepped { dark [] with tick := 41 }).tick = 41 := by
  decide +kernel

/-- The queue: the front command runs, the rest waits. -/
theorem test_front_runs : (stepped { live .cold [] with pending := [.go, .kick] }).pending = [.kick] ∧
    (stepped { live .cold [] with pending := [.go, .kick] }).sys.wakePend = true := by decide +kernel

/-- R329: a fence that lies behind by half the range or more is stale. -/
theorem test_fence_moves_forward : (stepped { live .melt [(F.CHM_FENCE_VALUE, 0, 5), (F.CHM_FENCE_STALE_CNT, 0, 0)] with
    pending := [.chmFenceWrite 0 0 6] }).fld F.CHM_FENCE_VALUE = 6 := by decide +kernel

theorem test_stale_fence_is_counted : (stepped { live .melt [(F.CHM_FENCE_VALUE, 0, 5), (F.CHM_FENCE_STALE_CNT, 0, 0)] with
    pending := [.chmFenceWrite 0 0 5] }).fld F.CHM_FENCE_STALE_CNT = 1 := by decide +kernel

/-- R65: after slot 255 of a line comes slot 0 of the next. -/
theorem test_slot_wraps_to_the_next_line : ((stepped { live .melt
    [(F.REF_RAS_STAT_RUN, 0, 1), (F.REF_RAS_STAT_FORMAT_ACTIVE, 0, 0x10), (F.PAT_BANK_FMT_IDLE, 0, 1)] with
      ref := { RefState.reset with ras := [⟨9, 1, 255, 0⟩, ⟨0, 0, 0, 0⟩, ⟨0, 0, 0, 0⟩, ⟨0, 0, 0, 0⟩] }
      pending := [.slotStart 0] }).rasOf 0).line = 2 := by decide +kernel

/-- A Newt core that runs one task, its run as given. -/
def withRun (r : NwtRun) (t : NwtTask) : State := { live .melt [] with nwt := ⟨[⟨[], [], [t], some r, []⟩], [], []⟩ }

def task0 : NwtTask := ⟨0, 0, false, [], [], 0, 0, 0, 0, 0, 0, 0, 0, false, false, 1000, false, false, false, false, [], false, false, []⟩

def run0 (b : NwtBank) : NwtRun := ⟨0, 0, [b, NwtBank.zero, NwtBank.zero], 0, none, [], [], [], none, 0, false⟩

/-- R391 and R390: (−1) · (−1) is 2^62, one of Q17.62, and does not overflow. -/
theorem test_product_of_minus_ones : mulQ31 0x80000000#32 0x80000000#32 = 0x4000000000000000#80 := by decide

/-- R392: ADD saturates. -/
theorem test_add_saturates : vAdd 0x7FFFFFFF#32 1#32 = (0x7FFFFFFF#32, true) := by decide

/-- R395: a pointer that leaves its buffer upwards comes back at its base. -/
theorem test_pointer_wraps : (({ NwtBank.zero with
    p := List.replicate 8 112#18, b := List.replicate 8 100#18, l := List.replicate 8 16#18 } : NwtBank).bump 0 8).p.getD 0 0 = 104#18 := by
  decide +kernel

/-- R401: a result stands two instructions later, not at once. -/
theorem test_result_is_delayed : ((((stepped { withRun (run0 NwtBank.zero) task0 with pending := [.movi 0 { dst := 16, imm := 5 }] }).core 0).run.map
    (fun r => (r.pc, r.pend.length, (r.banks.getD 0 NwtBank.zero).sc.getD 0 0))) = some (1, 1, 0#32)) := by decide +kernel

/-- R449: the CRCs of a PING of session 7, worked out with another program. -/
theorem test_packet_passes_its_checks : packetCheck 0 (cmdBytes opPing ping0) = none := by decide +kernel

theorem test_packet_with_a_wrong_crc : packetCheck 0 (cmdBytes opPing { ping0 with hdrCrc := 0 }) = some 0x0101 := by decide +kernel

/-! ## Statements and the states that meet their hypotheses

Each theorem names its statement; its conjuncts follow the statement's clauses, at the edge of a range where there is one. -/

theorem witness_StepRunsFrontCommand : ({ State.reset with pending := [.kick, .go] } : State).pending = .kick :: [.go] := rfl

theorem witness_IdleStepIsOneTick : State.reset.pending = [] ∧ State.reset.rst.pUp = false ∧ State.reset.gpio.vddAge = [] ∧
    (live .melt []).pending = [] ∧ (live .melt []).lane.links = [] ∧ (live .melt []).twn.aksHeld = [] ∧ (live .melt []).gpio.vddAge = [] ∧
    (live .melt []).rst.pUp = true := by decide +kernel

theorem witness_BoundedStoresKept : State.reset.Bounded ∧ ∃ t, step State.reset = .next t :=
  ⟨⟨by decide, by decide +kernel⟩, _, rfl⟩

theorem witness_QueueRunsFirstInFirstOut :
    ({ State.reset with pending := [.kick, .go, .chip] } : State).pending = [.kick, .go] ++ [.chip] := rfl

theorem witness_FieldReadsAsWritten : F.TIM_STEP_PEND_LO_PEND.hi = 31 ∧ F.TIM_STATUS_TIME_VALID.hi < 32 ∧
    F.TIM_STATUS_STEP_PEND.addr 0 0 = F.TIM_STATUS_TIME_VALID.addr 0 0 ∧
    (F.TIM_STATUS_STEP_PEND.hi < F.TIM_STATUS_TIME_VALID.lo ∨ F.TIM_STATUS_TIME_VALID.hi < F.TIM_STATUS_STEP_PEND.lo) ∧
    F.TIM_STEP_PEND_LO_PEND.addr 0 0 ≠ F.TIM_STATUS_TIME_VALID.addr 0 0 := by decide

/-- A key of sixteen bytes 01, its record in slot 0, and the slot (R554). -/
def key0 : Bytes := List.replicate 16 1

def record0 : Bytes := padTo 64 key0 ++ leBytes 2 128 ++ [0, 0] ++ leBytes 4 1

def slot0 : KeySlot := ⟨mkCopy 0 128 1 key0, [], 0⟩

/-- R555: the tag that a write computes makes the copy valid, whatever the tag key is. -/
theorem test_written_copy_is_valid : copyValid 0 (mkCopy 0 128 1 key0) = true := by
  have h (t : Bytes) : slice (record0 ++ t) 0 72 = record0 ∧ slice (record0 ++ t) 72 8 = t.take 8 ∧ copyGen (record0 ++ t) = 1 :=
    ⟨rfl, rfl, rfl⟩
  have e : slice record0 0 72 = record0 := rfl
  change copyValid 0 (record0 ++ copyTag 0 record0) = true
  simp only [copyValid, (h _).2.1, (h _).2.2]
  simp [copyTag, (h _).1, e]

theorem slotKey_of {s : State} (h : s.keySlot 0 = slot0) : s.slotKey 0 = some (128, key0) := by
  have e : copyValid 0 ([] : Bytes) = false := rfl
  have c : slot0.current 0 = some (mkCopy 0 128 1 key0) := by
    simp [KeySlot.current, KeySlot.active, slot0, test_written_copy_is_valid, e]
  have b : copyBits (mkCopy 0 128 1 key0) = 128 ∧ slice (copyKey (mkCopy 0 128 1 key0)) 0 16 = key0 := ⟨rfl, rfl⟩
  simp [State.slotKey, h, c, b, ceilDiv]

/-- CS0 and CS8 enabled in session 7, CS8 as an endpoint whose key is in slot 0. -/
def served : State :=
  { live .melt [(F.CMD_SRC_CFG_EN, 0, 1), (F.CMD_SRC_CFG_PERM, 0, 65535), (F.CMD_SRC_SEQ_SESSION, 0, 7), (F.CMD_SRC_SEQ_NEXT_SEQ, 0, 0), (F.CMD_RING_CFG_PROD, 0, 0),
      (F.CMD_RING_CFG_CONS, 0, 0), (F.CMD_SRC_CFG_EN, 8, 1), (F.CMD_SRC_SEQ_SESSION, 8, 7), (F.CMD_SRC_SEQ_NEXT_SEQ, 8, 0),
      (F.CMD_NET_EP_EN, 0, 1), (F.CMD_NET_EP_PEER_IP, 0, 0), (F.CMD_NET_EP_KEY_SLOT, 0, 0), (F.REF_RAS_STAT_RUN, 0, 0),
      (F.REF_RAS_STAT_RUN, 1, 0), (F.REF_RAS_STAT_RUN, 2, 0), (F.REF_RAS_STAT_RUN, 3, 0), (F.CMD_NET_EP_OPEN_CTR_LO, 0, 4),
      (F.CMD_NET_EP_OPEN_CTR_HI, 0, 0)] with
    key := { KeyState.reset with slots := [slot0] } }

def open0 : Cmd := { src := 0, hdrCrc := 0x331AFB3F, bodyCrc := 0x48674BC7 }

/-- A PING on CS8 with the tag of R450 under a key of sixteen bytes 01, worked out with another program. -/
def ping8 : Cmd :=
  { src := 8, session := 7, flags := 4, hdrCrc := 0xCB0D7546, bodyCrc := 0x48674BC7,
    auth := [132, 74, 124, 113, 50, 90, 181, 223, 199, 218, 17, 50, 74, 208, 176, 147] }

theorem served_ping0 : served.begin.Served opPing ping0 :=
  ⟨by decide, by decide +kernel, by decide +kernel, by decide +kernel, by decide +kernel, by decide +kernel, by decide +kernel,
    by decide +kernel⟩

theorem served_ping8 : served.begin.Served opPing ping8 :=
  ⟨by decide, by decide +kernel, by decide +kernel, by decide +kernel,
    fun _ => ⟨by decide +kernel, key0, by
      have p : served.begin.fld F.CMD_NET_EP_PEER_IP 0 = 0 ∧ served.begin.fld F.CMD_NET_EP_KEY_SLOT 0 = 0 := by decide +kernel
      have k : served.begin.slotKey 0 = some (128, key0) := slotKey_of rfl
      change (if served.begin.fld F.CMD_NET_EP_PEER_IP 0 ≠ 0 ∧ served.begin.fld F.CMD_NET_EP_PEER_IP 0 ≠ (0 : BitVec 32).toNat then none
        else (served.begin.slotKey (served.begin.fld F.CMD_NET_EP_KEY_SLOT 0)).map (·.2)) = some key0
      rw [p.1, p.2, k]
      rfl, by decide +kernel⟩, by decide +kernel, by decide +kernel,
    by decide +kernel⟩

theorem witness_CommandRowsNameTheirOpcode : commandOf (.ping ping0) = some (opPing, ping0) ∧ ping0.src.val ≠ 12 ∧
    ping0.params.length = ping0.paramLen.toNat ∧ (live .cold []).sys.mode = .cold ∧ (dark []).rst.aUp = false ∧
    (live .melt [(F.CMD_SRC_CFG_EN, 0, 0)]).flag F.CMD_SRC_CFG_EN 0 = false := by decide +kernel

theorem witness_AdmittedCommandConsumesSeq :
    (commandOf (.ping ping0) = some (opPing, ping0) ∧ served.begin.Takes opPing ping0) ∧
      (commandOf (.ping ping8) = some (opPing, ping8) ∧ served.begin.Takes opPing ping8) :=
  ⟨⟨rfl, ⟨served_ping0, by decide +kernel, by decide +kernel⟩⟩, ⟨rfl, ⟨served_ping8, by decide +kernel, by decide +kernel⟩⟩⟩

theorem witness_SessionOpenIsAdmitted : served.begin.Served opSessionOpen open0 ∧ isNet open0.src.val = false ∧
    served.begin.judge opSessionOpen open0 = .accept :=
  ⟨⟨by decide, by decide +kernel, by decide +kernel, by decide +kernel, by decide +kernel, by decide +kernel, by decide +kernel,
    by decide +kernel⟩, by decide, by decide +kernel⟩

theorem witness_WrongSessionConsumesNoSeq :
    (({ served with regs := sset resetWord served.regs (F.CMD_SRC_SEQ_SESSION.addr 0 0) 8 } : State).begin.Served opPing ping0 ∧
      ping0.session.toNat ≠ ({ served with regs := sset resetWord served.regs (F.CMD_SRC_SEQ_SESSION.addr 0 0) 8 } : State).begin.sessionOf 0) ∧
      commandOf (.ping ping0) = some (opPing, ping0) ∧ opPing ≠ opSessionOpen :=
  ⟨⟨⟨by decide, by decide +kernel, by decide +kernel, by decide +kernel, by decide +kernel, by decide +kernel, by decide +kernel,
    by decide +kernel⟩, by decide +kernel⟩, rfl, by decide⟩

theorem witness_MacroCommandsAreNumberedByTheDevice :
    commandOf (.take { src := 12 }) = some (opTake, { src := 12 }) ∧
      (live .melt [(F.CMD_SRC_CFG_EN, 12, 1)]).sys.mode = .melt ∧ (live .melt [(F.CMD_SRC_CFG_EN, 12, 1)]).fwServes = true ∧
      (live .melt [(F.CMD_SRC_CFG_EN, 12, 1)]).outstanding 12 < 256 ∧
      (live .melt [(F.CMD_SRC_CFG_EN, 12, 1)]).flag F.CMD_SRC_CFG_EN 12 = true := by decide +kernel

/-- Ring 0 on with 16 slots, and its source. -/
def ring0 : State := live .melt [(F.CMD_RING_CFG_EN, 0, 1), (F.CMD_RING_CFG_SUB_SIZE, 0, 0), (F.CMD_RING_CFG_PROD, 0, 65535),
  (F.CMD_RING_CFG_CONS, 0, 65535), (F.CMD_SRC_CFG_EN, 0, 1)]

def ring7off : State := live .melt [(F.CMD_RING_CFG_EN, 7, 0), (F.CMD_RING_CFG_SUB_SIZE, 7, 0), (F.CMD_RING_CFG_PROD, 7, 0),
  (F.CMD_RING_CFG_CONS, 7, 0), (F.CMD_SRC_CFG_EN, 7, 0)]

def endpoint0 : State := live .melt [(F.SLN_LANE_CFG_USE, 0, 2), (F.SLN_LANE_CFG_RX_EN, 0, 1), (F.SLN_LANE_CFG_MGMT_PORT, 0, 1),
  (F.CMD_NET_EP_EN, 0, 1), (F.CMD_NET_EP_MGMT_PORT, 0, 1), (F.CMD_NET_EP_UDP_PORT, 0, 65535)]

def held8 : HeldPacket := ⟨opPing, { src := 8, seq := 4294967295 }⟩

theorem witness_PacketsComeInAsChapter16Says :
    (ring0.ringOn 0 = true ∧ ring0.cmd.unreleased = []) ∧ ring7off.ringOn 7 = false ∧
      (ring0.rst.hUp = true ∧ ring0.ringServed 0 = true ∧ ring0.outstanding 0 + (15 + 65536 - ring0.fld F.CMD_RING_CFG_PROD 0) % 65536 = 16 ∧
        min 256 (ring0.ringSize 0) = 16) ∧
      (ring7off.outstanding 7 + (16 + 65536 - ring7off.fld F.CMD_RING_CFG_PROD 7) % 65536 ≤ min 256 (ring7off.ringSize 7) ∧
        ring7off.ringServed 7 = false) ∧
      min 256 (ring0.ringSize 0) < ring0.outstanding 0 + (16 + 65536 - ring0.fld F.CMD_RING_CFG_PROD 0) % 65536 ∧
      (dark []).rst.hUp = false ∧
      (({ live .melt [] with cmd := { CmdState.reset with held := [held8] } } : State).cmd.held.find?
          (fun h => h.cmd.src.val == 8 && h.cmd.seq.toNat == 4294967295) = some held8 ∧ (live .melt []).fwServes = true ∧ isNet 8 = true) ∧
      (endpoint0.mgmtUp 1 = true ∧ endpoint0.rst.aUp = true ∧ endpoint0.sys.mode ≠ .cold ∧ endpoint0.endpointOf 1 65535 = some 8 ∧
        endpoint0.cmd.partials.find? (State.partialIs 8 0 0) = none ∧ (endpoint0.cmd.partials.filter (fun p => p.src == 8)).length < 8) := by
  decide +kernel

/-- A timed FLIP_CANCEL-free command: an ANC_OUT_ROUTE that waits on CS13. -/
def timedX : Timed := ⟨opXpSet, { src := 0, paramLen := 12, params := [1, 0, 0, 0, 0xFF, 0x7F, 0xFF, 0xFF, 0, 0, 0, 0] }, 0, true, true⟩

def withTimedX : State := { live .melt [(F.AUD_XP_XFADE, 32767, 0)] with pat := { PatState.reset with sched := [timedX] } }

theorem witness_TimedCommandFiresOnce :
    (live .melt []).pat.sched.find? (State.isTimed 0 0) = none ∧
      withTimedX.pat.sched.find? (State.isTimed 0 0) = some timedX ∧ withTimedX.rst.pUp = true ∧
      ((opInfo opXpSet).any (fun x => x.acceptedIn withTimedX.sys.mode && x.cls != .frame)) = true ∧
      (match applyOp opXpSet timedX.cmd (State.schedCount { withTimedX.begin with pat := { PatState.reset with sched := [] } }) with
        | .ok _ _ none none => true
        | _ => false) = true := by decide +kernel

/-- D0 stopped, and D0 running with its raster enabled. -/
def d0off (m : Mode) : State := live m [(F.REF_RAS_STAT_RUN, 0, 0)]

def d0on (m : Mode) : State :=
  { live m [(F.REF_RAS_STAT_RUN, 0, 1), (F.REF_RAS_STAT_FORMAT_ACTIVE, 0, 0x10), (F.REF_RAS_CFG_EN, 0, 1)] with sys := { SysState.reset with mode := m, castAge := 2000 } }

theorem witness_BoundaryAdvancesEpoch :
    ((d0off .melt).rst.aUp = true ∧ (d0off .melt).rst.rstPend = none ∧ (d0off .melt).cmd.admitted = [] ∧ (d0off .melt).cmd.trigQ = [] ∧
      (d0off .melt).cmd.trigLost = [] ∧ (d0off .melt).chipHeld = false ∧ (d0off .melt).running 0 = false) ∧
    ((d0on .melt).rst.aUp = true ∧ (d0on .melt).rst.rstPend = none ∧ (d0on .melt).onLines = true ∧ (d0on .melt).sys.castSrc = false ∧
      2000 ≤ (d0on .melt).sys.castAge) := by decide +kernel

theorem witness_BoundaryRunsItsPhasesInOrder :
    ((d0off .melt).twn.promote = none ∧ (d0off .melt).twn.leave = false ∧ (d0off .melt).twn.swapAt = none ∧ (d0off .melt).chipHeld = false ∧
      (d0off .melt).running 0 = false ∧ (d0off .melt).rst.rstPend = none) ∧
    ((d0on .melt).onLines = true ∧ 2000 ≤ (d0on .melt).sys.castAge) ∧ (dark []).chipHeld = true ∧
    (d0on .melt).running 0 = true ∧ (dark []).rst.aUp = false ∧ (d0off .melt).onLines = false := by decide +kernel

/-- One admitted command in a mode. -/
def adm (op : Nat) (p : Bytes) (v : Verdict) (timed : Bool) : Admitted := ⟨op, { src := 0, params := p }, v, timed, .melt⟩

theorem witness_CommandIsAppliedAtItsBoundary :
    ((live .melt []).fwServes = true ∧ ({ live .melt [] with cmd := { CmdState.reset with admitted := [adm opPing [] .accept false] } } :
      State).cmd.admitted = [adm opPing [] .accept false] ∧ (live .melt []).recordFull (adm opPing [] .accept false) = false) ∧
    ((adm opPing [] (.refuse (rejAll 0x0305)) false).cmd.src.val ≠ 12 ∧ opPing ≠ opDebugUnlock) ∧
    (live .pour []).modeRefuses (adm opPatClear [0, 0, 0, 0] .accept false) = some (rejAll 0x0302) ∧
    ((live .melt []).modeRefuses (adm opOscSel [3, 0, 0, 0] .accept false) = none ∧ opOscSel ≠ opModeSet ∧
      applyOp opOscSel (adm opOscSel [3, 0, 0, 0] .accept false).cmd (live .melt []) = .bad (rej 0x0108 0) ∧
      (live .melt []).sys.mode = (adm opOscSel [3, 0, 0, 0] .accept false).seen ∧ (rej 0x0108 0).status ≠ 0x0302 ∧
      (rejAll 0x0302).status = 0x0302) ∧
    (live .melt []).modeRefuses (adm opXpSet [] .accept true) = none ∧
    ((live .melt []).modeRefuses (adm opPing [] .accept false) = none ∧
      applyOp opPing (adm opPing [] .accept false).cmd (live .melt []) = .ok (live .melt []) []) :=
  ⟨by decide +kernel, by decide +kernel, by decide +kernel, ⟨by decide +kernel, by decide, rfl, by decide +kernel, by decide, rfl⟩, by decide +kernel, by decide +kernel, rfl⟩

/-- A twin on link 0 with a partner. -/
def twin (m : Mode) (up sync busy : Nat) : State :=
  live m [(F.TWN_CFG_EN, 0, 1), (F.TWN_CFG_LINK, 0, 0), (F.SPR_LINK_CFG_EN, 0, 1), (F.SPR_LINK_CFG_TYPE, 0, 1),
    (F.SPR_LINK_STAT_UP, 0, 1), (F.TWN_STAT_PARTNER_UP, 0, up), (F.TWN_STAT_SYNC, 0, sync), (F.TWN_STAT_SYNC_EVER, 0, sync), (F.TWN_STAT_RESYNC_BUSY, 0, busy),
    (F.TWN_REC_EPOCH_LO_REC_EPOCH, 0, 0), (F.TWN_REC_EPOCH_HI_REC_EPOCH, 0, 0)]

def rec1 : CastRec := ⟨1, 1, false, false, none, [], [], [], ⟨0, 0, 0, 0, []⟩, [], [], [], [], [], [], [], [], [], 2, 1⟩

theorem test_illFormed_record : wellFormed (.castRecordReceive (4294967296, rec1) true) = false := by decide

def frameP (n : Nat) : AksPending := ⟨5, n, aksRecAck, 0, []⟩

theorem witness_TwinRecordsAndLink :
    ((twin .pour 1 1 0).partnerOk = true ∧ (twin .pour 1 1 0).twn.swapAt = none ∧ (twin .pour 1 1 0).aksOpen = true ∧
      (twin .pour 1 1 0).lane.aksRx = 0 ∧ (twin .pour 1 1 0).twn.aksHeld = [] ∧ (twin .quench 1 1 0).aksOpen = false ∧
      (twin .pour 1 1 0).lane.aksRx < 1 ∧ 2147483647 < (twin .pour 1 1 0).lane.aksRx + 2147483648 ∧
      ({ LaneState.reset with aksRx := 4294967295 } : LaneState).aksRx ≤ 2147483647 + 2147483648) ∧
    ((twin .pour 0 1 0).partnerOk = false ∧ State.reset.sys.epoch < 0 + 9) ∧
    (({ twin .pour 1 1 0 with
        sys := { SysState.reset with epoch := 10 }
        twn := { TwnState.reset with retained := [rec1] } } : State).twn.retained = [rec1] ∧ 1 + 9 ≤ 10 ∧ rec1.first ≤ 1 ∧ 1 ≤ rec1.epoch) ∧
    ((live .hold [(F.TWN_CFG_EN, 0, 0)]).twinOn = false ∧ (dark []).rst.pUp = false) ∧
    ((twin .hold 1 1 0).twinOn = true ∧ (twin .hold 1 1 0).rst.pUp = true ∧ (twin .hold 1 1 0).flag F.TWN_STAT_PARTNER_UP = true ∧
      (twin .hold 1 1 0).flag F.TWN_STAT_SYNC = true ∧ (twin .hold 1 1 0).flag F.TWN_STAT_RESYNC_BUSY = false ∧ rec1.full = none ∧
      rec1.epoch = (twin .hold 1 1 0).recNext ∧ rec1.first ≤ rec1.epoch) ∧
    ((twin .melt 1 1 0).lane.aksPend.find? (fun p => p.seq == 5) = none) ∧
    (({ twin .melt 1 1 0 with lane := { LaneState.reset with aksPend := [frameP 2] } } : State).lane.aksPend.find? (fun p => p.seq == 5) =
      some (frameP 2) ∧ (frameP 2).attempts < 3 ∧ 3 ≤ (frameP 3).attempts) ∧
    ((twin .melt 0 0 0).flag F.TWN_STAT_PARTNER_UP = false ∧ (twin .melt 1 0 0).flag F.TWN_STAT_SYNC = false ∧
      (twin .melt 1 0 0).twn.croakLost = false ∧ (twin .melt 1 0 0).flag F.TWN_CFG_EN = true) ∧
    ({ TwnState.reset with croakOutOn := true } : TwnState).croakOutOn = true ∧
    (bitOf (optBoot ({ twin .hold 1 1 0 with otp := ⟨[], [0, 0, 0, 0, 4]⟩ } : State).otp.applied) 2 = true ∧
      ({ twin .hold 1 1 0 with twn := { TwnState.reset with partner := some (2, 0) } } : State).partnerMode = some Mode.pour.code) := by
  decide +kernel

/-- A mirror of an empty part. -/
def mirror0 : Mirror := ⟨[], [], [], [], PatState.reset, ShkState.reset, ChmState.reset, AudState.reset, NwtState.reset, [], []⟩

/-- A twin part whose role change is due at the next boundary. -/
def swapping (m : Mode) : State :=
  { twin m 1 1 0 with twn := { TwnState.reset with swapAt := some (1, 0, 0, 1), swapAck := true } }

theorem witness_RolesChangeAsPlanned :
    (twin .hold 1 1 0).twn.promote = none ∧
    (({ twin .melt 1 0 0 with twn := { TwnState.reset with promote := some 3 } } : State).flag F.TWN_STAT_SYNC_EVER = false ∧
      ({ TwnState.reset with promote := some 3 } : TwnState).promote = some 3) ∧
    (({ twin .hold 1 1 0 with twn := { TwnState.reset with promote := some 3 } } : State).sys.mode = .hold ∧
      ({ twin .hold 1 1 0 with twn := { TwnState.reset with promote := some 3 } } : State).flag F.TWN_STAT_SYNC_EVER = true) ∧
    ((swapping .hold).twn.swapAt = some ((swapping .hold).sys.epoch + 1, 0, 0, 1) ∧ (swapping .hold).twn.swapAck = true ∧
      (swapping .hold).flag F.TWN_STAT_SYNC = true ∧ (swapping .hold).sys.mode = .hold ∧ (swapping .pour).sys.mode = .pour ∧
      ({ TwnState.reset with swapAt := some (2, 0, 0, 1) } : TwnState).swapAt = some (2, 0, 0, 1) ∧ (swapping .hold).sys.epoch + 1 < 2) ∧
    ((twin .hold 1 1 0).flag F.TWN_STAT_RESYNC_BUSY = false ∧ (twin .hold 1 0 1).flag F.TWN_STAT_RESYNC_BUSY = true ∧
      ({ rec1 with full := some mirror0 } : CastRec).full = some mirror0 ∧
      ({ TwnState.reset with full := some { rec1 with full := some mirror0 } } : TwnState).buffered = []) ∧
    ((twin .proof 1 1 0).twn.loop = none ∧ ({ TwnState.reset with loop := some ⟨0, 0, []⟩ } : TwnState).loop = some ⟨0, 0, []⟩ ∧
      ({ twin .proof 1 1 0 with twn := { TwnState.reset with loop := some ⟨0, 0, []⟩ } } : State).loopOuts = []) := by decide +kernel

/-- A raster at a line and slot; it executes entries or not. -/
def ras (d line slot en idle : Nat) : State :=
  { live .melt [(F.REF_RAS_STAT_RUN, d, 1), (F.REF_RAS_STAT_FORMAT_ACTIVE, d, 0x10), (F.REF_RAS_CFG_EN, d, en),
      (F.REF_RAS_CFG_FORMAT, d, 0x10), (F.PAT_BANK_FMT_IDLE, d, idle), (F.PAT_BANK_COPY_BUSY, d, 1)] with
    ref := { RefState.reset with ras := RefState.reset.ras.set d ⟨0, line, slot, 0⟩ } }

def fmt60 : Fmt := ⟨0x10, 60, 1, 2250, 1⟩

/-- Raster `d` enabled and not running; it aligns to PTP or not. -/
def rasWait (d ptp : Nat) : State :=
  live .melt [(F.REF_RAS_STAT_RUN, d, 0), (F.REF_RAS_CFG_EN, d, 1), (F.REF_RAS_CFG_FORMAT, d, 0x41), (F.TIM_STATUS_TIME_VALID, 0, 0)]
    |> fun s => { s with regs := sins s.regs (F.REF_DPLL_CAND_EN.addr d 3) (placeBits F.REF_DPLL_CAND_EN.hi F.REF_DPLL_CAND_EN.lo ptp) }

theorem witness_RastersCountSlotsLinesAndFrames :
    ((ras 3 1 254 1 1).running 3 = true ∧ (ras 3 1 254 1 1).domFmt 3 = some fmt60 ∧ (ras 3 1 254 1 1).sequencing 3 = false ∧
      ((ras 3 1 254 1 1).rasOf 3).slot ≠ 255) ∧
    (((ras 3 2249 255 1 1).rasOf 3).slot = 255 ∧ ((ras 3 2249 255 1 1).rasOf 3).line < fmt60.lines) ∧
    (((ras 3 2250 255 1 1).rasOf 3).slot = 255 ∧ fmt60.lines ≤ ((ras 3 2250 255 1 1).rasOf 3).line) ∧
    ((ras 0 1 0 1 0).sequencing 0 = true ∧ ((ras 0 1 0 1 0).rasOf 0).slot ≠ 255) ∧ (d0off .melt).running 0 = false ∧
    (((ras 3 2250 255 0 1).rasOf 3).line = fmt60.lines ∧ (ras 3 2250 255 0 1).flag F.REF_RAS_CFG_EN 3 = false ∧
      (ras 3 2250 255 1 1).flag F.REF_RAS_CFG_EN 3 = true ∧ (ras 3 2250 255 1 1).fld F.REF_RAS_CFG_FORMAT 3 = fmt60.code) ∧
    ((rasWait 3 1).rst.pUp = true ∧ (rasWait 3 1).sys.mode ≠ .cold ∧ (rasWait 3 1).flag F.REF_RAS_CFG_EN 3 = true ∧
      (rasWait 3 1).running 3 = false ∧ (rasWait 3 1).alignsPtp 3 = true ∧ (rasWait 3 1).flag F.TIM_STATUS_TIME_VALID = false) ∧
    ((rasWait 0 0).alignsPtp 0 = false ∧ (fmtOf ((rasWait 0 0).fld F.REF_RAS_CFG_FORMAT 0)).isSome = true) ∧
    (ras 3 2250 255 0 1).flag F.PAT_BANK_COPY_BUSY 3 = true ∧ ((ras 3 2250 255 0 1).activeBank 3).dirtyT = [] ∧
    ((ras 3 2250 255 0 1).activeBank 3).dirtyR = [] ∧ (live .melt [(F.PAT_BANK_COPY_BUSY, 0, 0)]).flag F.PAT_BANK_COPY_BUSY 0 = false := by
  decide +kernel

/-- A read of tile 0 by flow 0, returned or not. -/
def read0 (late : Bool) (inFlight tries : Nat) (good : Bool) : PoolRead :=
  ⟨7, 9, 0, .shakeout 0x2000, 0, 0, 0, 0, some 0, none, good, false, false, tries, inFlight, false, false, false, late, 1, 0, 0, false, false, false, false⟩

def reading (r : PoolRead) : State := { live .melt [] with pool := { PoolState.reset with reads := [r] } }

def row0 : PprRow := ⟨0, 0, 0, 0, [0], false⟩

theorem witness_PoolReadsReturnOrAreConcealed :
    (live .melt []).pool.reads.find? (fun r => r.ident == 7) = none ∧
    ((reading (read0 true 2 0 false)).pool.reads.find? (fun r => r.ident == 7) = some (read0 true 2 0 false) ∧
      (read0 true 2 0 false).inFlight ≠ 0 ∧ (read0 true 2 0 false).late = true ∧ 1 < (read0 true 2 0 false).inFlight) ∧
    ((read0 false 1 0 false).late = false ∧ (read0 false 1 0 false).good = false ∧ (read0 false 1 0 false).concOut = false ∧
      (read0 false 1 0 false).retryWait = false ∧
      (read0 false 1 0 false).tile = some 0 ∧ (reading (read0 false 1 0 false)).tileCrcOk 0 = true ∧
      (reading (read0 false 1 0 false)).tileFlow 0 = 65535 ∧ (reading (read0 false 1 0 false)).tileFlags 0 &&& flagLost = 0) ∧ 2 ≤ (read0 false 1 2 false).tries ∧
    (live .melt []).pool.reads.filter (fun r => r.exec == 9 && !r.late) = [] ∧
    ((reading (read0 false 0 0 true)).pool.reads = [read0 false 0 0 true] ∧ State.readOutcome (read0 false 0 0 true) = 0) ∧
    (live .proof []).pool.pprRun = false ∧
    (({ live .proof [] with pool := { PoolState.reset with ppr := [row0], pprRun := true } } : State).pprNext = some row0) := by
  decide +kernel

/-- A pool window over the first tiles of the pool. -/
def win (m : Mode) (w size auto : Nat) : State :=
  live m [(F.POOL_WIN_CFG_EN, w, 1), (F.POOL_WIN_CFG_SIZE, w, size), (F.POOL_WIN_CFG_RING, w, 0), (F.POOL_WIN_CFG_BASE, w, 33554431),
    (F.POOL_WIN_CFG_AUTO_TRAILER, w, auto)]

theorem witness_PoolWindowsReadAndWriteTiles :
    ((live .melt [(F.POOL_WIN_CFG_EN, 15, 0)]).flag F.POOL_WIN_CFG_EN 15 = false ∧ (live .melt []).pool.winWait = [] ∧
      (live .melt [(F.POOL_WIN_CFG_EN, 15, 0)]).winBlocked (.read 0 15 0 4) = false ∧
      (live .melt []).masterUp (winMaster 15) = true ∧ State.reset.masterUp (winMaster 15) = false) ∧
    ((win .melt 15 12 0).winBlocked (.read 0 15 0 4096) = false ∧ (win .melt 15 12 0).winBlocked (.write 0 15 0 [1]) = false ∧
      (win .melt 0 12 1).winBlocked (.flush 0 0) = false ∧ (win .melt 15 12 0).pool.winWait = [] ∧
      ({ PoolState.reset with winWait := [.flush 0 0] } : PoolState).winWait ≠ []) ∧
    ((win .melt 15 12 0).flag F.POOL_WIN_CFG_EN 15 = true ∧ (win .melt 15 12 0).winRoom 15 0 = 4096 ∧
      ((win .melt 15 12 0).winTile 15 4095).isSome = true ∧ (win .melt 15 12 0).winWritable 15 = true ∧
      (win .melt 15 12 0).flag F.POOL_WIN_CFG_AUTO_TRAILER 15 = false) ∧
    (win .melt 15 13 0).winRoom 15 4096 = 4096 ∧ ((win .melt 15 13 0).winTile 15 4096).isSome = false ∧
    (win .melt 15 12 0).winSize 15 ≤ 4096 ∧ (win .pour 15 12 0).winWritable 15 = false ∧
    ((win .melt 0 12 1).flag F.POOL_WIN_CFG_AUTO_TRAILER 0 = true ∧ (win .melt 0 12 1).winTile 0 0 = some 33554431 ∧
      (win .melt 0 12 1).flag F.BUS_CFG_HOST_CA = false ∧ ((live .melt [(F.BUS_CFG_HOST_CA, 0, 1)]).flag F.BUS_CFG_HOST_CA) = true) := by decide +kernel

/-- A MAC that is enabled with its link up. -/
def mac (m up maxFrame : Nat) : State :=
  live .melt [(F.MAC_CFG_EN, m, 1), (F.MAC_CFG_MAX_FRAME, m, maxFrame), (F.MAC_LINK_STAT_LINK_UP, m, up)]

def frameN (len : Nat) : NetFrame := { len := len, fcsOk := true, dst := 2 ^ 48 - 1 }

/-- A video input flow of an S-lane or a link, with one open frame. -/
def open1 : OpenFrame := ⟨3, 0, 0, 0, [], [], [], [], true, 0, 0, 0, [], [], []⟩

def vin (f src : Nat) : InFlow :=
  ⟨f, 0, 0, false, src, 4, 1920, 1080, 0x10, 0, 0, 1, 0, 0, none, 1, 4, 0, 0, 4, [open1], [], none, 0, 0, none, none, 0, false,
   (0, 0), (0, 0), none, none, [], none, false, [], [], 0, 0, 15, if src = 0 then 67 else 1⟩

def fed (f src : Nat) (l : List (Fld × Nat × Nat)) : State := { live .melt l with lad := ⟨[vin f src], false, 0⟩ }

theorem witness_InputFramesAndLossAreTracked :
    ((dark []).rst.pUp = false ∧ (mac 31 0 9600).flag F.MAC_LINK_STAT_LINK_UP 31 = false) ∧
    ((mac 31 1 9600).rst.pUp = true ∧ (mac 31 1 9600).sys.mode ≠ .cold ∧ (mac 31 1 9600).flag F.MAC_CFG_EN 31 = true ∧
      (mac 31 1 9600).flag F.MAC_LINK_STAT_LINK_UP 31 = true ∧ (frameN 64).smd = .whole ∧ (frameN 64).symErrs ≤ (((mac 31 1 9600).macFec 31).map (·.2)).getD 0 ∧
      (((mac 31 1 9600).macFec 31).map (·.2)).getD 0 < ({ frameN 64 with symErrs := 16 } : NetFrame).symErrs ∧ (frameN 64).jabber = false ∧
      (mac 31 1 9600).fld F.MAC_CFG_MAX_FRAME 31 < (frameN 9601).len ∧ (frameN 63).len < 64 ∧ (frameN 63).len ≤ 9600 ∧
      (frameN 9600).len ≤ (mac 31 1 9600).fld F.MAC_CFG_MAX_FRAME 31 ∧ 64 ≤ (frameN 64).len ∧ (frameN 64).fcsOk = true) ∧
    ((fed 0x7FF 0 []).inFlow 0x7FF = some (vin 0x7FF 0) ∧ (vin 0x7FF 0).opens.find? (fun o => o.s == 3) = some open1 ∧
      (fed 0x7FF 0 []).lad.writesStopped = false ∧ open1.mSeen = true) ∧ (live .melt []).inFlow 65535 = none ∧
    (fed 0 0 [({ F.LAD_FLOW_STAT_LOSS with hi := State.bitCopeUp, lo := State.bitCopeUp }, 0, 1)]).flowBit 0 (State.bitCopeUp - 0) = true ∧
    (fed 0 0 [({ F.LAD_FLOW_STAT_LOSS with hi := State.bitLoss, lo := State.bitLoss }, 0, 1)]).flowBit 0 State.bitLoss = true ∧
    ((fed 0x7FF 0 [(F.LAD_FLOW_STAT_LOSS, 0x7FF, 0), (F.REF_IN_FLOW_FLOW, 0, 1), (F.REF_IN_FLOW_FLOW, 1, 1), (F.REF_IN_FLOW_FLOW, 2, 1),
        (F.REF_IN_FLOW_FLOW, 3, 1)]).flowBit 0x7FF State.bitLoss = false ∧
      (fed 0x7FF 0 [(F.LAD_FLOW_STAT_LOSS, 0x7FF, 0), (F.REF_IN_FLOW_FLOW, 0, 1), (F.REF_IN_FLOW_FLOW, 1, 1),
        (F.REF_IN_FLOW_FLOW, 2, 1), (F.REF_IN_FLOW_FLOW, 3, 1)]).refsOf 0x7FF = []) ∧
    ((fed 0 0 [(F.SLN_LANE_STAT_TRS_LOCK, 67, 1)]).sdiFlow none 67 = some (vin 0 0) ∧
      (fed 0 0 [(F.SLN_LANE_STAT_TRS_LOCK, 67, 1)]).sdiUp (vin 0 0) = true ∧ (fed 0 0 []).sdiUp (vin 0 0) = false) ∧
    ((fed 0 1 [(F.SPR_LINK_STAT_UP, 15, 1)]).sdiFlow (some 15) 1 = some (vin 0 1) ∧
      (fed 0 1 [(F.SPR_LINK_STAT_UP, 15, 1)]).sdiUp (vin 0 1) = true) := by
  decide +kernel

/-- An S-lane in SDI use, an H-lane in data use, a link whose spare serves position 2. -/
def slane (l use rate : Nat) : State := live .melt [(F.SLN_LANE_CFG_USE, l, use), (F.SLN_LANE_CFG_RX_EN, l, 1),
  (F.SLN_LANE_CFG_TX_EN, l, 1), (F.SLN_LANE_CFG_RX_RATE, l, rate), (F.SLN_LANE_STAT_DET_RATE, l, 0)]

def hlane (l en use : Nat) : State := live .melt [(F.HLN_LANE_CFG_EN, l, en), (F.HLN_LANE_CFG_USE, l, use)]

def marker0 : Marker := { bits := markerBits 0 0 0 31 31 false false 0 }

/-- A link whose tributary 0 receives one container. -/
def tribLink : State := live .melt [(F.SPR_TRIB_CFG_EN, 0, 1), (F.SPR_TRIB_CFG_DIR, 0, 0), (F.SPR_TRIB_CFG_START, 0, 0),
  (F.SPR_TRIB_CFG_SIZE, 0, 0)]

/-- R107: MAGIC, and a CRC that a changed bit breaks. -/
theorem test_marker : marker0.bits.extractLsb' 240 16 = 0xA5C3 ∧ marker0.crcOk = true ∧
    ({ marker0 with bits := marker0.bits ^^^ 0x100000000000000000000000000 } : Marker).crcOk = false := by decide +kernel

/-- A container block of a TYPE, COUNT and SEQ (R112). -/
def block0 (ty n seq : Nat) : BitVec 256 := BitVec.ofNat 16 (ty * 2 ^ 14 + n * 2 ^ 9 + seq) ++ 0#120 ++ 0#120

theorem witness_LanesLockFailAndTrain_blocks :
    blockType (block0 3 0 0) = 3 ∧ 24 < blockCount (block0 0 25 0) ∧ (blockType (block0 1 0 0) = 1 ∧ blockCount (block0 1 0 0) = 0) ∧
      (blockType (block0 1 24 511) = 1 ∧ blockCount (block0 1 24 511) = 24 ∧ blockSeq (block0 1 24 511) = 511) := by decide +kernel

theorem witness_LanesLockFailAndTrain_tribs : tribLink.tribOf 0 0 = some 0 ∧ tribLink.tribOf 0 5000 = none := by
  refine ⟨by decide +kernel, List.find?_eq_none.2 fun t _ => ?_⟩
  have h1 : tribLink.fld F.SPR_TRIB_CFG_START 0 t < 2048 := Nat.mod_lt _ (by decide)
  have h2 : tribLink.fld F.SPR_TRIB_CFG_SIZE 0 t < 4 := Nat.mod_lt _ (by decide)
  have h3 := Nat.pow_le_pow_right (n := 2) (by decide) (Nat.le_of_lt_succ h2)
  simp only [Bool.and_eq_true, decide_eq_true_eq, not_and]
  omega

theorem witness_LanesLockFailAndTrain :
    (slane 67 0 14).fld F.SLN_LANE_CFG_USE 67 ≠ 1 ∧
    ((slane 67 1 14).fld F.SLN_LANE_CFG_USE 67 = 1 ∧ (slane 67 1 14).flag F.SLN_LANE_CFG_RX_EN 67 = true ∧
      (slane 67 1 14).fld F.SLN_LANE_CFG_RX_RATE 67 = 14 ∧ (slane 0 1 7).fld F.SLN_LANE_CFG_RX_RATE 0 ≠ 14 ∧
      (slane 0 1 7).fld F.SLN_LANE_CFG_RX_RATE 0 = 7) ∧
    ((hlane 143 0 0).flag F.HLN_LANE_CFG_EN 143 = false ∧ (hlane 143 1 1).flag F.HLN_LANE_CFG_EN 143 = true ∧
      (hlane 143 1 1).fld F.HLN_LANE_CFG_USE 143 ≠ 2 ∧ (hlane 143 1 1).fld F.HLN_LANE_CFG_USE 143 ≠ 3) ∧
    (slane 67 1 14).flag F.SLN_LANE_CFG_TX_EN 67 = true ∧
    (live .melt [(F.SPR_LINK_CFG_REVERT, 15, 0)]).flag F.SPR_LINK_CFG_REVERT 15 = false ∧
    (({ live .melt [] with lane := { LaneState.reset with eyeRun := [143] } } : State).lane.eyeRun.contains 143 = true ∧
      (live .melt []).lane.eyeRun.contains 143 = false) ∧
    ((live .melt [(F.SPR_LINK_CFG_EN, 15, 1)]).flag F.SPR_LINK_CFG_EN 15 = true ∧
      sfind tribLink.lane.contSeq 0 = none) ∧
    ((dark []).rst.pUp = false ∧ (live .melt []).rst.pUp = true) ∧
    ((live .melt []).lane.rates.find? (fun x => x.link == 15 && x.trib == 3839) = none ∧
      ({ LaneState.reset with rates := [⟨15, 3839, 50000, 0⟩] } : LaneState).rates.find? (fun x => x.link == 15 && x.trib == 3839) =
        some ⟨15, 3839, 50000, 0⟩ ∧ ((50000 : Int) - 0).natAbs ≤ 50000) := by decide +kernel

/-- Lane 0 serves position 2 of link 0 and is clean; the spare has taken the position. -/
def reverting : State :=
  { live .melt ((List.range 144).map (fun l => (F.HLN_LANE_CFG_EN, l, 0)) ++ [(F.HLN_LANE_CFG_EN, 0, 1), (F.HLN_LANE_CFG_USE, 0, 2),
      (F.HLN_LANE_CFG_OWNER, 0, 0), (F.HLN_LANE_CFG_POS, 0, 2), (F.HLN_LANE_CFG_SPARE, 0, 0), (F.SPR_LINK_CFG_REVERT, 0, 1),
      (F.SPR_LINK_STAT_RX_SEL, 0, 2)]) with
    lane := { LaneState.reset with lanes := [⟨0, none, 0, false, 0, false, true, 0, none⟩] } }

theorem witness_LanesLockFailAndTrain_revert : reverting.flag F.SPR_LINK_CFG_REVERT 0 = true ∧
    reverting.laneAt 0 (reverting.fld F.SPR_LINK_STAT_RX_SEL 0) = some 0 ∧ (reverting.laneRec 0).clean = true ∧
    (reverting.laneRec 0).failed = false := by decide +kernel

def asserting (l : List ResetSrc) : State := { live .melt [] with rst := { (live .melt []).rst with asserted := l } }

theorem witness_ResetSourcesHoldAndRelease :
    State.reset.rst.asserted.contains .powerOn = true ∧ (live .melt []).rst.asserted.contains .powerOn = false ∧
    ((live .quench []).rst.aUp = true ∧ (live .quench []).sys.mode = .quench ∧ (live .melt []).sys.mode = .melt ∧
      (live .pour []).sys.mode ≠ .quench ∧ (live .pour []).sys.mode ≠ .melt ∧ (dark []).rst.aUp = false) ∧
    ((asserting [.resetN]).chipHeld = true ∧ (asserting [.data]).rst.asserted.contains .data = true ∧
      (asserting [.perst]).rst.asserted.contains .perst = true ∧ (asserting [.watchdog]).rst.asserted.contains .watchdog = true ∧
      (asserting [.control]).rst.asserted.contains .control = true) := by decide +kernel

/-- A start-up that has come to a step of R526. -/
def starting (n : Nat) : State := live .melt [(F.RST_STAT_STEP, 0, n)]

def waking (n : Nat) (r : Option Resume) : State :=
  { starting n with rst := { (starting n).rst with waking := true, resume := r } }

theorem witness_StartUpRunsFromBackupReset :
    State.reset.rst.asserted.filter (fun x => x == .resetN || x == .perst) = [] ∧
    (State.reset.chipHeld = true ∧ (asserting []).chipHeld = false ∧
      ({ dark [] with rst := { RstState.reset with asserted := [] } } : State).rst.aStep = false) ∧
    ((starting 1).fld F.RST_STAT_STEP ≠ 2 ∧ (starting 2).rst.aUp = true ∧ (starting 2).fld F.RST_STAT_STEP = 2 ∧
      (starting 3).fld F.RST_STAT_STEP = 3 ∧ (starting 3).rst.waking = false ∧ (starting 4).rst.cUp = true ∧
      (starting 4).fld F.RST_STAT_STEP = 4 ∧ (starting 6).fld F.RST_STAT_STEP = 6) ∧
    (b2n (bitOf (optBoot (starting 4).otp.applied) 0) = 0 ∧
      b2n (bitOf (optBoot [0, 0, 0, 0, 1]) 0) = 1) := by decide +kernel

def cold (pUp wake : Bool) : State :=
  { d0off .cold with
    rst := { (d0off .cold).rst with pUp := pUp, fwUp := false }
    sys := { SysState.reset with mode := .cold, wakePend := wake, targetDramOff := true } }

def resume0 : Resume := ⟨[], TimState.reset, RefState.reset, LaneState.reset, MacState.reset, LadState.reset, PoolState.reset,
  PatState.reset, ShkState.reset, ChmState.reset, AudState.reset, NwtState.reset, AptState.reset, MeasState.reset, []⟩

theorem witness_ColdAndWake :
    ((live .cold []).sys.mode = .cold ∧ (live .melt []).sys.mode ≠ .cold) ∧
    ((cold false true).sys.wakePend = true ∧ (cold false true).rst.pUp = false ∧ (cold false true).rst.aUp = true ∧
      (cold false true).rst.rstPend = none ∧ (cold false true).chipHeld = false ∧ (cold false true).running 0 = false ∧
      (cold false true).twn.promote = none ∧ (cold false true).twn.swapAt = none ∧ (cold false true).twn.leave = false ∧
      (cold false true).axl.failover = false ∧ (cold false true).rst.fwUp = false) ∧
    ((cold true false).rst.pUp = true ∧ (cold true false).sys.targetDramOff = true) ∧ (starting 6).rst.waking = false ∧
    ((waking 6 none).rst.waking = true ∧ (waking 6 none).rst.cUp = true ∧ (waking 6 none).fld F.RST_STAT_STEP = 6 ∧
      (waking 6 none).rst.resume = none ∧ (waking 6 (some resume0)).rst.resume = some resume0) := by decide +kernel

/-- The watchdog on, its last expiry so many seconds ago or never. -/
def wdt (en : Nat) (last : Option Nat) : State :=
  { live .melt [(F.RST_WDT_EN, 0, en)] with rst := { (live .melt []).rst with wdtLast := last }, tick := 10000000000 }

theorem witness_WatchdogAndFirmware :
    (wdt 0 none).flag F.RST_WDT_EN = false ∧
    ((wdt 1 none).flag F.RST_WDT_EN = true ∧ (wdt 1 none).rst.cUp = true ∧ (wdt 1 none).rst.fwUp = true ∧ (wdt 1 none).sys.mode ≠ .cold ∧
      (wdt 1 (some 9999999999)).rst.wdtLast.any (fun n => decide ((wdt 1 none).tick ≤ n)) = false ∧
      (wdt 1 (some 10000000000)).rst.wdtLast.any (fun n => decide ((wdt 1 none).tick ≤ n)) = true) ∧ (dark []).rst.aUp = false ∧
    ({ (live .melt []).rst with restarting := true } : RstState).restarting = true ∧ (live .melt []).sys.meltReady = true := by
  decide +kernel

theorem witness_FaultsAreRecordedAndReact :
    (47 < 48 ∧ (dark []).rst.aUp = false) ∧ (live .melt []).rst.aUp = true ∧
    ((List.range 48).any (fun n => n != 9 && n != 3 && n != 5 && faultClass n == 1) = true ∧
      (List.range 48).any (fun n => n != 9 && n != 3 && n != 5 && faultClass n == 2) = true ∧
      (List.range 48).any (fun n => n != 9 && n != 3 && n != 5 && faultClass n == 4) = true ∧
      (List.range 48).any (fun n => n != 9 && n != 3 && n != 5 && n != 44 && faultClass n == 3) = true ∧ faultClass 44 = 3) ∧
    ((live .melt []).rst.xtalLost = false ∧ ({ (live .melt []).rst with xtalLost := true } : RstState).xtalLost = true) ∧
    ((live .melt []).axl.running.find? (fun x => x.kind == .newt && x.unit == 67) = none ∧
      ([⟨.newt, 67, 64, true⟩] : List Subst).find? (fun x => x.kind == .newt && x.unit == 67) = some ⟨.newt, 67, 64, true⟩) := by
  decide +kernel

theorem witness_SensorsAndSuppliesAreMonitored :
    ((live .melt [(F.MEAS_STAT_SENSOR_FAIL, 0, 1)]).flag F.MEAS_STAT_SENSOR_FAIL = true ∧
      (live .melt [(F.MEAS_STAT_SENSOR_FAIL, 0, 0)]).flag F.MEAS_STAT_SENSOR_FAIL = false) ∧
    ((-32768 : Int) ≤ -32768 ∧ (32767 : Int) < 32768) ∧
    ((live .melt []).rst.aStep = true ∧ (live .melt []).gpio.vddRetry = none ∧ (live .melt []).gpio.vddAge.length < 2 ∧ 700 ≤ (live .melt []).gpio.vddSet - 5 ∧
      (live .melt []).gpio.vddSet + 5 ≤ 800 ∧
      800 < ({ live .melt [] with gpio := ⟨[], 800, none, [], []⟩ } : State).gpio.vddSet + 5 ∧
      ({ live .melt [] with gpio := ⟨[], 700, none, [0, 0], []⟩ } : State).gpio.vddSet - 5 < 700 ∧
      2 ≤ ({ live .melt [] with gpio := ⟨[], 700, none, [0, 0], []⟩ } : State).gpio.vddAge.length) ∧
    ({ live .melt [] with gpio := ⟨[], 750, some 755, [], []⟩ } : State).gpio.vddRetry = some 755 ∧
    ((live .melt [(F.REF_OSC_OSC, 0, 2)]).rst.pUp = true ∧ (live .melt [(F.REF_OSC_OSC, 0, 2)]).fld F.REF_OSC_OSC ≠ 0 ∧
      (live .melt [(F.REF_OSC_OSC, 0, 0)]).fld F.REF_OSC_OSC = 0) := by decide +kernel

theorem witness_OcxoFailureChangesNoMode : (live .melt [(F.REF_OSC_OSC, 0, 1)]).rst.pUp = true ∧
    (live .melt [(F.REF_OSC_OSC, 0, 1)]).fld F.REF_OSC_OSC ≠ 0 := by decide +kernel

def snap0 : Snapshot := ⟨1, 0, 0, 0, 0, true, false, 0, [], [], []⟩

def snapping : State := { live .melt [] with nwt := { NwtState.reset with snaps := [snap0] } }

/-- An image of slot 8 that is longer than its header says. -/
def stage8 : Staging := ⟨8, List.replicate 128 0, some (0, 5)⟩

/-- A whole image of slot 63: R410's header, one NOP; its CRC worked out with another program. -/
def image0 : Bytes := [0x57, 0x4E, 1, 0, 8, 0, 0, 0] ++ List.replicate 52 0 ++ [71, 195, 77, 55] ++ List.replicate 8 0

def tamper (active en : Nat) : State := live .melt [(F.KEY_TAMPER_ACTIVE, 0, active), (F.KEY_TAMPER_CFG_EN, 0, en)]

theorem witness_KeysTamperAndJobsComplete :
    ((live .melt []).key.ops = [] ∧ ({ KeyState.reset with ops := [⟨63, none, 0, 0⟩] } : KeyState).ops = ⟨63, none, 0, 0⟩ :: []) ∧
    ((live .melt []).key.attest = none ∧ ({ KeyState.reset with attest := some ([], 0, 0) } : KeyState).attest = some ([], 0, 0)) ∧
    ((live .melt []).snapDone = none ∧ snapping.begin.snapDone.isSome = true) ∧
    ((live .melt []).cmd.staging.find? (fun x => x.slot == 8 && x.last.isSome) = none ∧
      ([stage8].find? (fun x => x.slot == 8 && x.last.isSome) = some stage8 ∧ imageBytes stage8.bytes + 3 < stage8.bytes.length) ∧
      (image0.length ≤ imageBytes image0 + 3 ∧ (image0.drop (imageBytes image0)).all (· == 0) = true ∧
        imageOk (image0.take (imageBytes image0)) = true)) ∧
    ((tamper 8 15).fld F.KEY_TAMPER_ACTIVE).testBit 3 = true ∧ ((tamper 7 15).fld F.KEY_TAMPER_ACTIVE).testBit 3 = false ∧
    ((tamper 7 15).fld F.KEY_TAMPER_CFG_EN).testBit 3 = true := by decide +kernel

/-- The control address of a register-space offset, as a master reads or writes it. -/
def at_ (m off : Nat) : BusAccess := { master := m, addr := regBase + off }

theorem witness_TickReadLatchesItsHighWord : (live .melt []).masterUp 5 = true ∧ (live .melt []).accessOk (at_ 5 0x500000) false = true ∧
    (live .melt []).accessOk (at_ 5 0x500004) false = true ∧ (live .melt []).latches = (live .pour []).latches := by decide +kernel

theorem witness_NowReadLatchesTheTime : (live .melt []).masterUp 0 = true ∧ (live .melt []).accessOk (at_ 0 0x500010) false = true := by
  decide +kernel

theorem witness_ModeReadsByItsCode : (live .cold []).masterUp 4 = true ∧ (live .cold []).accessOk (at_ 4 0x8) false = true := by decide +kernel

theorem witness_RegisterReadsAnswerTheirMaster :
    (live .melt []).accessOk (at_ 4 0x10) false = true ∧ (live .melt []).accessOk (at_ 4 (0x680010 + 0x100 * 3)) false = true ∧
    ((live .melt []).masterUp 4 = true ∧ (live .melt []).accessOk (at_ 4 0x1320000) false = true ∧
      targetOf (at_ 4 0x1320000).addr = .reg 0x1320000 ∧ isNwtWin 0x1320000 = false ∧ 19 < 20) ∧
    (live .melt []).accessOk (at_ 4 0x14C) false = false ∧ ((dark []).masterUp 5 = false ∧ (live .melt []).masterUp 8 = false) ∧
    (live .melt []).rst.cUp = true ∧ (dark []).rst.cUp = false := by decide +kernel

/-- CMD_SRC_CFG of CS0 is a register that firmware owns; MAC_STAT_HALF_LO and BUS_STAT hold bits that a write clears. -/
theorem witness_RegisterWritesFollowTheirAccessCode :
    ((live .melt []).masterUp 0 = true ∧ (live .melt []).accessOk (at_ 0 F.CMD_SRC_CFG_EN.off) true = true ∧
      targetOf (at_ 0 F.CMD_SRC_CFG_EN.off).addr = .reg F.CMD_SRC_CFG_EN.off ∧ isNwtWin F.CMD_SRC_CFG_EN.off = false ∧
      ((live .melt []).begin.ownWrite F.CMD_SRC_CFG_EN.off 1).isNone = true ∧ (regRow F.CMD_SRC_CFG_EN.off).isSome = true ∧
      (live .melt []).ownedNow 0 F.CMD_SRC_CFG_EN.off = false ∧ F.CMD_SRC_CFG_EN.off ≠ 0x1200000 ∧ tdmClock 0x7F00 ≤ 49152) ∧
    (targetOf (at_ 4 0x1200000).addr = .reg 0x1200000 ∧ (live .melt []).accessOk (at_ 4 0x1200000) true = true ∧
      49152 < tdmClock 0x40007F00 ∧ (live .melt []).ownedNow 4 0x1200000 = false ∧ (live .melt []).rst.cUp = true) ∧
    ((live .pour []).masterUp 4 = true ∧ (live .pour []).ownedNow 4 F.CMD_SRC_CFG_EN.off = true ∧
      ((regRow F.CMD_SRC_CFG_EN.off).any (fun r => r.fields.all (fun f => f.acc == .rw || f.acc == .rws || f.acc == .ro) &&
        r.fields.any (fun f => f.acc == .rw || f.acc == .rws))) = true) ∧
    (regTable.any (fun r => r.fields.any (fun f => f.acc == .ro)) = true ∧ regTable.any (fun r => r.fields.any (fun f => f.acc == .w1c)) = true ∧
      regTable.any (fun r => r.fields.any (fun f => f.acc == .rw && f.legal != [])) = true ∧
      regTable.any (fun r => r.fields.any (fun f => f.acc == .rw && f.legal == [])) = true) ∧
    (live .melt []).accessOk (at_ 0 0x14C) true = false ∧ (dark []).masterUp 0 = false := by decide +kernel

theorem witness_WindowWritesReachTheirStore :
    ((live .melt []).masterUp 4 = true ∧ (live .melt []).directOk 4 = true ∧
      (live .melt []).accessOk { master := 4, addr := patBase + 0x3FFFFC } true = true ∧ ¬ 0x3FFFFC % 0x80000 < 0x50000 ∧
      (live .melt []).accessOk { master := 4, addr := patBase + 0x3CFFFC } true = true ∧ 0x3CFFFC % 0x80000 < 0x50000 ∧
      0x3CFFFC / 0x80000 % 2 = (live .melt [(F.PAT_BANK_ACTIVE, 3, 1)]).activeNo (0x3CFFFC / 0x100000) ∧
      0x3BFFFC / 0x80000 % 2 ≠ (live .melt [(F.PAT_BANK_ACTIVE, 3, 0)]).activeNo (0x3BFFFC / 0x100000) ∧ 0x3BFFFC % 0x80000 < 0x40000) ∧
    ((live .pour []).directOk 4 = false ∧ (live .melt []).accessOk (at_ 4 (0x1190000 + 0xFFFC)) true = true ∧
      (live .melt [(F.NWT_MEM_WIN_SEL_CORE, 0, 67), (F.NWT_MEM_WIN_SEL_SPACE, 0, 0)]).fld F.NWT_MEM_WIN_SEL_CORE = 67 ∧
      ((live .melt []).core 67).tasks = [] ∧
      (live .melt [(F.NWT_MEM_WIN_SEL_CORE, 0, 67), (F.NWT_MEM_WIN_SEL_SPACE, 0, 0)]).flag F.NWT_MEM_WIN_SEL_SPACE = false) ∧
    (dark []).masterUp 3 = false ∧ (live .melt []).accessOk (at_ 4 0x48) true = true := by decide +kernel

theorem witness_CommandRegistersAct :
    ((live .melt []).rst.aUp = true ∧ (live .melt []).condPresent 47 = false ∧ (dark []).rst.aUp = false) ∧
    ((tamper 8 7).tamperNow = false ∧ (tamper 8 8).tamperNow = true) ∧
    ((live .pour []).sys.mode ≠ .cold ∧ (live .pour []).sys.mode ≠ .quench ∧ (live .quench []).sys.mode = .quench) ∧
    (live .melt []).accessOk (at_ 4 (0xFE0000 + 8 * 255)) true = true ∧
    ((0 + 4294967296 - (live .melt [(F.CHM_FENCE_VALUE, 255, 4294967295)]).fld F.CHM_FENCE_VALUE 255) % 4294967296 = 1 ∧
      (0x7FFFFFFE + 4294967296 - (live .melt [(F.CHM_FENCE_VALUE, 255, 4294967295)]).fld F.CHM_FENCE_VALUE 255) % 4294967296 = 2147483647 ∧
      (0x7FFFFFFF + 4294967296 - (live .melt [(F.CHM_FENCE_VALUE, 255, 4294967295)]).fld F.CHM_FENCE_VALUE 255) % 4294967296 = 2147483648) := by
  decide +kernel

/-- A PTP port. -/
def port (n : Nat) (st : PtpPortState) : PtpPort := ⟨n, 0, true, false, -3, 0, 0, 3, 0, 0, st, none, 0, 0, 0, 0, 0, 0, 0⟩

def ptp (m : Mode) (st : PtpPortState) (recent : List (Nat × Int × Int)) (l : List (Fld × Nat × Nat)) : State :=
  { live m ([(F.TIM_STATUS_STEP_PEND, 0, 0), (F.TIM_STEP_THR_THR, 0, 1000), (F.MEAS_STAT_SENSOR_FAIL, 0, 0)] ++ l) with
    tim := { TimState.reset with ptpEn := true, ports := [port 3 st], recent := recent }, tick := 1000000000 }

theorem witness_ServoStepsSlewsOrRefuses :
    (live .melt []).slavePort = none ∧ (live .melt []).tim.ptpEn = false ∧
    ((ptp .pour .slave [] []).slavePort = some (port 3 .slave) ∧ (ptp .pour .slave [] []).tim.ptpEn = true ∧
      (ptp .pour .slave [] []).rst.pUp = true ∧ (-2147483648 : Int) ≤ -2147483648 ∧ (2147483647 : Int) ≤ 2147483647) ∧
    ((ptp .pour .slave [] []).lastReqLost (port 3 .slave) = false ∧
      ({ ptp .pour .slave [] [] with tim := { TimState.reset with lostStamps := [(0, 0x7FFF)] } } : State).lastReqLost (port 3 .slave) = true) ∧
    ((ptp .pour .slave [] []).tim.corrected = false ∧ ({ TimState.reset with corrected := true } : TimState).corrected = true ∧
      (ptp .pour .slave [] [(F.TIM_STATUS_TIME_VALID, 0, 1), (F.TIM_STATUS_SERVO, 0, servoLocked)]).fld F.TIM_STATUS_SERVO = servoLocked ∧
      (1000 : Int).natAbs ≤ (ptp .pour .slave [] []).fld F.TIM_STEP_THR_THR ∧
      (ptp .pour .slave [] []).fld F.TIM_STEP_THR_THR < (1001 : Int).natAbs) ∧
    ((ptp .pour .slave [(0, 100, 0), (1000000000, -100, 0)] []).servoMayLock = true ∧
      (ptp .pour .slave [(0, 101, 0), (1000000000, 101, 0)] []).servoMayLock = false) := by decide +kernel

theorem witness_PtpPortsSendAndLoseTheirMaster :
    (live .melt []).tim.ports.find? (fun p => p.port == 3 && p.en && p.st == .master) = none ∧
    ((live .melt []).tim.ptpEn = false ∧ (ptp .hold .master [] []).sys.mode = .hold) ∧
    ((ptp .pour .master [] []).tim.ports.find? (fun p => p.port == 3 && p.en && p.st == .master) = some (port 3 .master) ∧
      (ptp .pour .master [] []).tim.ptpEn = true ∧
      (ptp .pour .master [] [(F.REF_RAS_STAT_FORMAT_ACTIVE, 0, 0), (F.REF_RAS_CFG_FORMAT, 0, 0)]).metaFmt = none ∧
      (ptp .pour .master [] [(F.REF_RAS_STAT_FORMAT_ACTIVE, 0, 0x10), (F.REF_RAS_STAT_RUN, 0, 1)]).metaFmt = some fmt60 ∧ (ptp .pour .master [] []).tim.profile = 0) ∧
    (ptp .pour .slave [] []).tim.ports.find? (fun p => p.port == 3 && p.en && p.st == .slave) = some (port 3 .slave) ∧
    ((ptp .pour .master [] []).tim.ports.any (fun p => p.port == 3 && p.en && p.st != .master) = false ∧
      (ptp .pour .slave [] []).tim.ports.any (fun p => p.port == 3 && p.en && p.st != .master) = true ∧
      (ptp .pour .slave [] []).sys.mode ≠ .quench ∧ (ptp .pour .slave [] []).sys.mode ≠ .cold ∧ (ptp .pour .slave [] []).sys.mode ≠ .hold ∧
      (port 3 .slave).hybrid = false) := by decide +kernel

/-- An express frame that asks for a stamp, and MAC 31 with it in its queue. -/
def express : TxFrame := ⟨31, 2, 3, 0, 0, some 5, 64, 0, [], 0⟩

def macQ (up preempt dis verify : Nat) (mode : Mode) (q : List TxFrame) : State :=
  { live mode [(F.MAC_CFG_EN, 31, 1), (F.MAC_CFG_PREEMPT_EN, 31, preempt), (F.MAC_CFG_VERIFY_DIS, 31, dis), (F.MAC_CFG_TX_EN, 31, 0),
      (F.MAC_LINK_STAT_LINK_UP, 31, up), (F.MAC_LINK_STAT_VERIFY, 31, verify), (F.MAC_LINK_STAT_MERGE_ACTIVE, 31, 0),
      (F.TIM_TXQ_OVF_OVF, 0, 0)] with
    mac := { MacState.reset with queue := q, igmpDue := [(31, 7)], verify := [(31, 2)] }
    tim := { TimState.reset with txq := List.replicate 64 ⟨31, 0, 0⟩ } }

def igmpMac (up : Nat) : State := live .pour [(F.MAC_CFG_EN, 31, 1), (F.MAC_CFG_TX_EN, 31, 1), (F.MAC_LINK_STAT_LINK_UP, 31, up)]

theorem witness_MacLinksAndTransmitQueues :
    (live .melt [(F.MAC_CFG_EN, 31, 0)]).flag F.MAC_CFG_EN 31 = false ∧
    ((macQ 0 1 0 0 .pour []).flag F.MAC_CFG_EN 31 = true ∧ (macQ 0 1 0 0 .pour []).flag F.MAC_CFG_PREEMPT_EN 31 = true ∧
      (macQ 0 1 0 0 .pour []).flag F.MAC_CFG_VERIFY_DIS 31 = false ∧ (macQ 0 1 1 0 .pour []).flag F.MAC_CFG_VERIFY_DIS 31 = true ∧
      (macQ 0 0 0 0 .pour []).flag F.MAC_CFG_PREEMPT_EN 31 = false) ∧
    ((macQ 1 1 0 1 .pour []).fld F.MAC_LINK_STAT_VERIFY 31 = 1 ∧ sget (fun _ => 0) (macQ 1 1 0 1 .pour []).mac.verify 31 = 2 ∧
      (macQ 1 1 0 2 .pour []).fld F.MAC_LINK_STAT_VERIFY 31 ≠ 1) ∧
    ((macQ 1 0 0 0 .pour []).flag F.MAC_LINK_STAT_LINK_UP 31 = true ∧ (macQ 0 0 0 0 .pour []).flag F.MAC_LINK_STAT_LINK_UP 31 = false) ∧
    ((((macQ 1 0 0 0 .pour []).begin.lateDrop 31).nextFrame 31) = none ∧
      (((macQ 1 0 0 0 .pour [express]).begin.lateDrop 31).nextFrame 31) = some express ∧
      ((macQ 1 0 0 0 .pour [express]).begin.lateDrop 31).maySend express = true ∧ express.done = 0 ∧
      { express with done := 60 }.done ≠ 0 ∧ ((macQ 1 0 0 0 .melt [express]).begin.lateDrop 31).maySend express = false) ∧
    ((macQ 1 0 0 0 .pour []).mac.igmpDue.contains (31, 7) = true ∧ (igmpMac 1).igmpReady 31 = true ∧ (igmpMac 0).igmpReady 31 = false) ∧
    ((live .melt []).accessOk (at_ 4 (0x501000 + 0x20 * 31)) false = true ∧ (live .melt []).tim.txq.find? (fun x => x.mac == 31) = none ∧
      (macQ 1 0 0 0 .pour []).tim.txq.find? (fun x => x.mac == 31) = some ⟨31, 0, 0⟩) := by decide +kernel

theorem witness_TxqOverflowDropsTheStamp :
    (macQ 1 0 0 0 .pour [express]).rst.pUp = true ∧ (macQ 1 0 0 0 .pour [express]).flag F.MAC_CFG_EN 31 = true ∧
    (macQ 1 0 0 0 .pour [express]).flag F.MAC_LINK_STAT_LINK_UP 31 = true ∧
    ((macQ 1 0 0 0 .pour [express]).begin.lateDrop 31).nextFrame 31 = some express ∧ express.mac = 31 ∧
    ((macQ 1 0 0 0 .pour [express]).begin.lateDrop 31).maySend express = true ∧ express.done = 0 ∧ express.order ≠ 4 ∧ express.stamp = some 5 ∧
    64 ≤ ((macQ 1 0 0 0 .pour [express]).txqOf 31).length := by decide +kernel

theorem witness_CounterHalfFullIsSignalled :
    (2 ^ 47 - 1 : Nat).testBit 47 = false ∧ ((2 ^ 47 - 1 + 1) % 2 ^ 48 : Nat).testBit 47 = true ∧ (2 ^ 47 : Nat).testBit 47 = true ∧
    sget (fun _ => 0) ({ MacState.reset with live := [(31 * 64 + 63, 2 ^ 47 - 1)] } : MacState).live (31 * 64 + 63) = 2 ^ 47 - 1 := by
  decide +kernel

/-- Reference input 8 enabled; DPLL 3 follows input 7 in a state. -/
def refs (present inWin qual st cur : Nat) : State :=
  let s := live .melt [(F.REF_IN_CFG_EN, 8, 1), (F.REF_IN_CFG_WIN, 8, 10), (F.REF_IN_STAT_PRESENT, 8, present),
    (F.REF_IN_STAT_IN_WIN, 8, inWin), (F.REF_IN_STAT_QUALIFIED, 8, qual), (F.REF_DPLL_CFG_REVERTIVE, 3, 1), (F.REF_DPLL_CFG_FORCE_EN, 3, 0),
    (F.REF_DPLL_STAT_STATE, 3, st), (F.REF_DPLL_STAT_CUR_IN, 3, cur), (F.REF_RAS_STAT_RUN, 3, 0), (F.REF_RAS_STAT_ALIGNED, 3, 1),
    (F.REF_RAS_CFG_FORMAT, 3, 0x10), (F.REF_RAS_STAT_FORMAT_ACTIVE, 3, 0x10), (F.REF_IN_FLOW_FLOW, 3, 0)]
  let regs := sins s.regs (F.REF_DPLL_CAND_EN.addr 3 8) (placeBits F.REF_DPLL_CAND_EN.hi F.REF_DPLL_CAND_EN.lo 1)
  { s with regs := regs, ref := { RefState.reset with outGates := List.replicate 9 1 } }

theorem witness_ReferencesQualifyAndDplls :
    ((dark []).rst.pUp = false ∧ (live .melt [(F.REF_IN_CFG_EN, 8, 0)]).flag F.REF_IN_CFG_EN 8 = false) ∧
    ((refs 1 1 1 dpllLocked 7).rst.pUp = true ∧ (refs 1 1 1 dpllLocked 7).flag F.REF_IN_CFG_EN 8 = true ∧
      (1000 : Int).natAbs ≤ (refs 1 1 1 dpllLocked 7).fld F.REF_IN_CFG_WIN 8 * 100 ∧
      (refs 1 1 1 dpllLocked 7).fld F.REF_IN_CFG_WIN 8 * 100 < (1001 : Int).natAbs ∧ 1 ≤ (refs 1 1 1 dpllLocked 7).ref.outGates.getD 8 0) ∧
    ((live .melt [(F.REF_IN_CFG_EN, 3, 1)]).flag F.REF_IN_CFG_EN 3 = true ∧ (-32768 : Int) ≤ -32768 ∧ (32767 : Int) < 32768) ∧
    ((refs 1 1 0 dpllLocked 7).flag F.REF_IN_STAT_PRESENT 8 = true ∧ (refs 1 1 0 dpllLocked 7).flag F.REF_IN_STAT_IN_WIN 8 = true ∧
      (refs 0 1 0 dpllLocked 7).flag F.REF_IN_STAT_PRESENT 8 = false) ∧
    ((refs 1 1 1 dpllFree noInput).flag F.REF_DPLL_CFG_REVERTIVE 3 = true ∧ (refs 1 1 1 dpllFree noInput).flag F.REF_DPLL_CFG_FORCE_EN 3 = false ∧
      (refs 1 1 1 dpllFree noInput).candidate 3 8 = true ∧ (refs 1 1 1 dpllFree noInput).fld F.REF_DPLL_STAT_STATE 3 ≠ dpllOff ∧
      (refs 1 1 1 dpllFree noInput).fld F.REF_DPLL_STAT_CUR_IN 3 = noInput ∧ noInput ≠ 8 ∧ (refs 1 1 0 dpllFree 7).candidate 3 8 = false) ∧
    ((refs 1 1 1 dpllAbs 8).fld F.REF_DPLL_STAT_STATE 3 = dpllAbs ∧ (refs 1 1 1 dpllAbs 8).running 3 = false ∧
      ((refs 1 1 1 dpllAbs 8).dpllOf 3).wtrMet = [] ∧ (refs 1 1 1 dpllLocked 8).fld F.REF_DPLL_STAT_STATE 3 ≠ dpllAbs ∧
      (refs 1 1 1 dpllLocked 8).flag F.REF_RAS_STAT_ALIGNED 3 = true) ∧
    (refs 1 1 1 dpllLocked 8).fld F.REF_DPLL_STAT_CUR_IN 3 = 8 := by decide +kernel

def stream1 (isIn loss : Bool) : AStream :=
  ⟨if isIn then 0x1000 else 0x1FFF, 0, 0, 0, 2, 0, 1, 0, 0, 0, [], [], loss, [], none⟩

theorem witness_AudioBlocksStreamsAndMeters :
    ((live .cold []).sys.mode = .cold ∧ (dark []).rst.pUp = false) ∧
    ((live .pour []).sys.mode ≠ .cold ∧ (live .pour []).sys.mode ≠ .quench ∧ (live .pour []).rst.pUp = true ∧
      (live .pour []).tim.stepped.isSome = false ∧ ({ TimState.reset with stepped := some 5 } : TimState).stepped.isSome = true) ∧
    ((live .melt []).astream 0x1000 = none ∧ (stream1 true true).loss = true ∧
      ({ live .melt [] with aud := { AudState.reset with streams := [stream1 true false] } } : State).astream 0x1000 =
        some (stream1 true false) ∧ (stream1 true false).isIn = true ∧ (stream1 true false).loss = false) ∧
    ((live .melt []).aud.meters.filter (fun m => decide (0 < m.n)) = [] ∧
      ([⟨0, 0, 0, 0, 1, 0⟩] : List MeterAcc).filter (fun m => decide (0 < m.n)) = [⟨0, 0, 0, 0, 1, 0⟩]) := by decide +kernel

/-- Port 15 in a format. -/
def apt (fmt lock inEn outEn : Nat) : State :=
  { live .pour [(F.APT_PORT_STAT_FORMAT, 15, fmt), (F.APT_PORT_STAT_BLOCK_LOCK, 15, lock), (F.APT_PORT_STAT_LOCK, 15, 1),
      (F.APT_PORT_CFG_IN_EN, 15, inEn), (F.APT_PORT_CFG_OUT_EN, 15, outEn)] with
    apt := ⟨List.replicate 15 AptPort.reset ++ [{ AptPort.reset with waitOut := true }]⟩ }

theorem witness_AudioPortsFollowTheirFrames :
    ((apt 1 0 0 0).fld F.APT_PORT_STAT_FORMAT 15 ≠ 2 ∧ (apt 2 0 0 0).fld F.APT_PORT_STAT_FORMAT 15 = 2 ∧ (apt 2 0 0 0).sys.mode ≠ .quench ∧
      (apt 2 0 0 0).sys.mode ≠ .cold ∧ (apt 2 0 1 0).flag F.APT_PORT_CFG_IN_EN 15 = true ∧ (apt 2 0 1 0).flag F.APT_PORT_CFG_OUT_EN 15 = false) ∧
    ((apt 1 0 0 0).isAes 15 = true ∧ (apt 2 0 0 0).isAes 15 = false ∧ (apt 1 1 0 0).flag F.APT_PORT_STAT_BLOCK_LOCK 15 = true ∧
      (apt 1 0 0 0).flag F.APT_PORT_STAT_BLOCK_LOCK 15 = false) ∧
    ((apt 1 1 0 1).flag F.APT_PORT_CFG_OUT_EN 15 = true ∧ ((apt 1 1 0 1).aptPort 15).waitOut = true ∧
      (apt 1 1 0 0).flag F.APT_PORT_CFG_OUT_EN 15 = false) := by decide +kernel

def meas3 (port up : Nat) : State :=
  { live .pour [(F.MEAS_STREAM_CFG_EN, 3, 1), (F.MEAS_STREAM_CFG_PORT, 3, port), (F.MAC_LINK_STAT_LINK_UP, 31, up)] with
    meas := { MeasState.reset with queues := [⟨3, [(0, 0, [1, 2, 3, 4])]⟩] } }

/-- A pin with its event limit. -/
def pin (m : Mode) (q lim : Nat) : State :=
  { live m [(F.GPIO_PIN_STAT_IN, 63, 0), (F.GPIO_PIN_STAT_QUARANTINE, 63, q), (F.GPIO_PIN_LIM_EVT_LIMIT, 63, lim)] with
    otp := ⟨[], List.replicate 15 0 ++ [0x80]⟩ }

theorem witness_IntervalsDatagramsAndGpio :
    ((live .cold []).sys.mode = .cold ∧ (live .melt []).sys.mode ≠ .cold ∧ (live .melt []).rst.pUp = true) ∧
    ((meas3 32 0).measSends 3 = true ∧ (meas3 32 0).nextDgram 3 = some (false, [1, 2, 3, 4]) ∧ 32 ≤ (meas3 32 0).fld F.MEAS_STREAM_CFG_PORT 3 ∧
      (live .pour []).nextDgram 3 = none) ∧
    ((meas3 31 0).fld F.MEAS_STREAM_CFG_PORT 3 < 32 ∧ (meas3 31 0).flag F.MAC_LINK_STAT_LINK_UP 31 = false ∧
      (meas3 31 1).flag F.MAC_LINK_STAT_LINK_UP 31 = true) ∧
    ((pin .melt 0 1).flag F.GPIO_PIN_STAT_IN 63 = false ∧ (pin .melt 1 1).flag F.GPIO_PIN_STAT_QUARANTINE 63 = true ∧
      (pin .melt 0 1).flag F.GPIO_PIN_STAT_QUARANTINE 63 = false ∧ (pin .melt 0 0).fld F.GPIO_PIN_LIM_EVT_LIMIT 63 < 1 ∧
      1 ≤ (pin .melt 0 1).fld F.GPIO_PIN_LIM_EVT_LIMIT 63 ∧ (pin .cold 0 1).wakeMask 63 = true ∧ (live .cold []).wakeMask 63 = false) := by
  decide +kernel

/-- Core 0 runs task 0 of the image in slot 63, one NOP long, with state words at 0 to 63. -/
def task1 : NwtTask :=
  ⟨0, 63, false, [], [], 0, 0, 0, 0, 0, 0, 64, 0, false, false, 2, false, false, false, false, [], false, false, []⟩

def bank1 (ret : BitVec 32) : NwtBank := { NwtBank.zero with sc := List.replicate 15 0 ++ [ret] }

def on (r : NwtRun) : State := { live .melt [] with nwt := ⟨[⟨[], [], [task1], some r, []⟩], [⟨63, image0, [], 0⟩], []⟩ }

def core1 (r : NwtRun) : NwtCore := ⟨[], [], [task1], some r, []⟩

theorem on_runs (b : NwtBank) : (on (run0 b)).RunsAt 0 (core1 (run0 b)) (run0 b) task1 := ⟨_, rfl, rfl, rfl⟩

theorem witness_NewtControlFlow :
    ((live .melt []).core 67).run = none ∧ (∃ x r t, (on (run0 (bank1 0))).RunsAt 0 x r t) ∧
      (((run0 (bank1 0)).moved (bank1 0) [] 1).cycles < task1.budget ∧ 16 ≤ (63#6).toNat ∧
        ((bank1 0).sc.getD 15 0).toNat < imageLen ((on (run0 (bank1 0))).image task1.image) ∧
        imageLen ((on (run0 (bank1 0))).image task1.image) ≤ ((bank1 1).sc.getD 15 0).toNat) ∧ (run0 (bank1 0)).ret = [] ∧
      (({ run0 (bank1 0) with level := 1, ret := [(0, 0)] } : NwtRun).ret = (0, 0) :: [] ∧
        0 < imageLen ((on (run0 (bank1 0))).image task1.image) ∧ imageLen ((on (run0 (bank1 0))).image task1.image) ≤ 1) :=
  ⟨by decide +kernel, ⟨_, _, _, on_runs _⟩, by decide +kernel, by decide +kernel, by decide +kernel⟩

theorem witness_NewtBlockRepeats :
    (∃ x r t, (on (run0 (bank1 0))).RunsAt 0 x r t ∧ r.branch = none) ∧
      (bitsOf (0x00010000#32).toNat 31 16 ≠ 0 ∧ bitsOf (0x0000FFFF#32).toNat 31 16 = 0 ∧
        ({ NwtBank.zero with loops := List.replicate 3 (0, 0, 1) } : NwtBank).loops.length < 4 ∧
        4 ≤ ({ NwtBank.zero with loops := List.replicate 4 (0, 0, 1) } : NwtBank).loops.length ∧
        ({ NwtBank.zero with loops := [(0, 5, 1)] } : NwtBank).loops = (0, 5, 1) :: [] ∧ NwtBank.zero.loops = []) :=
  ⟨⟨_, _, _, on_runs _, rfl⟩, by decide +kernel⟩

theorem witness_NewtMemoryRows :
    (∃ x r t, (on (run0 NwtBank.zero)).RunsAt 0 x r t) ∧
      (task1.access false 60 1 = none ∧ task1.access false 64 1 = some trapBounds ∧ task1.access false 2 1 = some trapAlign ∧
        task1.access false 32 8 = none ∧ task1.access true 0 8 = none ∧ task1.access true 36 8 = some trapBounds ∧
        task1.access true 0 24 = some trapBounds ∧ ({ task1 with stateLen := 96 } : NwtTask).access true 0 24 = none ∧
        ({ task1 with stateLen := 96 } : NwtTask).access false 0 24 = none ∧ task1.access false 0 24 = some trapBounds) :=
  ⟨⟨_, _, _, on_runs _⟩, by decide +kernel⟩

theorem witness_NewtRegisterRows :
    (∃ x r t, (on (run0 NwtBank.zero)).RunsAt 0 x r t) ∧ ((15#6).toNat < 16 ∧ 16 ≤ (16#6).toNat) :=
  ⟨⟨_, _, _, on_runs _⟩, by decide⟩

theorem witness_NewtProductsAreExact :
    (∃ x r t, (on (run0 NwtBank.zero)).RunsAt 0 x r t) ∧ (-32 ≤ (0xFFFFFFE0#32).toInt ∧ (32#32).toInt ≤ 32) :=
  ⟨⟨_, _, _, on_runs _⟩, by decide⟩

theorem witness_NewtFilterTap :
    (∃ x r t, (on (run0 NwtBank.zero)).RunsAt 0 x r t) ∧
      (task1.access false 0 8 = none ∧ task1.access false 60 1 = none ∧ task1.access true (0 + 32) 8 = none) ∧
      ((task1.access false 4 8).orElse fun _ => task1.access false 60 1).orElse (fun _ => task1.access true (4 + 32) 8) = some trapBounds ∧
      task1.access false 64 1 = some trapBounds ∧ (15#6).toNat < 16 :=
  ⟨⟨_, _, _, on_runs _⟩, by decide +kernel, by decide +kernel, by decide +kernel, by decide⟩

theorem witness_NewtPointersWrapInTheirBuffer :
    (7 < NwtBank.zero.p.length ∧ (NwtBank.zero.l.getD 7 0).toNat = 0) ∧
      (({ NwtBank.zero with b := List.replicate 8 0x3FFFF#18, l := List.replicate 8 1#18 } : NwtBank).l.getD 7 0).toNat ≠ 0 ∧
      (({ NwtBank.zero with b := List.replicate 8 0x3FFFF#18, l := List.replicate 8 1#18 } : NwtBank).b.getD 7 0).toNat +
        (({ NwtBank.zero with b := List.replicate 8 0x3FFFF#18, l := List.replicate 8 1#18 } : NwtBank).l.getD 7 0).toNat ≤ 2 ^ 18 := by
  decide +kernel

def raised : NwtRun := { run0 NwtBank.zero with irqs := [(1, 1), (2, 2)] }

theorem witness_NewtTrapsInterruptsAndTimer :
    ((live .melt []).core 0).run = none ∧ (((on raised).core 0).run = some raised ∧ 8 ≤ 8) ∧
      (({ raised with branch := some 0 } : NwtRun).branch ≠ none ∧ (run0 NwtBank.zero).eligible = none) ∧
      (raised.branch = none ∧ raised.eligible = some (2, 2) ∧
        (drain ((on raised).core 0) raised).1.task (drain ((on raised).core 0) raised).2.task = some task1) ∧
      (2 < ({ task1 with budget := 3 } : NwtTask).budget ∧ task1.budget ≤ 2) ∧
      (raised.timer = none ∧ ({ raised with timer := some 1 } : NwtRun).timer = some 1 ∧ ((on raised).core 0).task raised.task = some task1) := by
  decide +kernel

/-- The packet of a command with these parameters, from CS0. -/
def par (p : Bytes) : Cmd := { src := 0, paramLen := BitVec.ofNat 32 p.length, params := p }

theorem witness_AllowStepAuthorisesOneStep : (par []).params = [] ∧
    (live .pour [(F.TIM_STATUS_STEP_PEND, 0, 1)]).flag F.TIM_STATUS_STEP_PEND = true ∧
    (live .pour [(F.TIM_STATUS_STEP_PEND, 0, 0)]).flag F.TIM_STATUS_STEP_PEND = false ∧
    0 ≤ ((live .pour []).ptpNow : Int) +
      sext 64 ((live .pour [(F.TIM_STEP_PEND_LO_PEND, 0, 5), (F.TIM_STEP_PEND_HI_PEND, 0, 0)]).pair F.TIM_STEP_PEND_LO_PEND
        F.TIM_STEP_PEND_HI_PEND) * 65536 := by decide +kernel

/-- A write of slot 63 with 512 bits, and option bytes for copy 3. -/
def keyWrite63 : Bytes := [63, 0, 0, 2] ++ List.replicate 64 0

def option3 : Bytes := [3, 0, 0, 0] ++ List.replicate 512 0

theorem witness_DeviceCommandsTakeEffect :
    ((twin .pour 0 1 0).partnerOk = false ∧ (twin .hold 1 0 0).partnerOk = true ∧ (twin .hold 1 0 0).flag F.TWN_STAT_SYNC = false ∧
      (twin .pour 1 1 0).partnerOk = true ∧ (twin .pour 1 1 0).flag F.TWN_STAT_SYNC = true ∧ (twin .pour 1 1 0).sys.mode ≠ .hold) ∧
    ((par [7, 0, 0, 0]).params.length = 4 ∧ Mode.ofCode (byteAt [7, 0, 0, 0] 0) = some .quench ∧
      Mode.ofCode (byteAt [4, 0, 0, 0] 0) = some .proof ∧ Mode.ofCode (byteAt [5, 0, 0, 0] 0) = none ∧
      (Mode.pour, Mode.proof) ∉ [(Mode.melt, Mode.cold), (.melt, .pour), (.melt, .hold), (.proof, .hold), (.melt, .proof), (.pour, .hold),
        (.pour, .melt), (.hold, .melt), (.hold, .proof), (.proof, .melt)]) ∧
    (1 ≤ byteAt [4, 0, 0, 0] 0 ∧ byteAt [4, 0, 0, 0] 0 ≤ 4 ∧ 4 < byteAt [5, 0, 0, 0] 0 ∧ byteAt [63, 0, 0, 0] 0 ≤ 63 ∧ 63 < byteAt [64, 0, 0, 0] 0 ∧
      byteAt [15, 1, 0, 0] 0 ≤ 15) ∧
    (byteAt [2, 0, 31, 0] 0 ≤ 2 ∧ u16 [2, 0, 31, 0] 2 ≤ [67, 15, 31].getD (byteAt [2, 0, 31, 0] 0) 0 ∧ (twin .proof 1 1 0).partnerOk = true ∧
      (twin .proof 1 1 0).twn.loop = none) ∧
    ((par (List.replicate 12 0)).params.length = 12 ∧ (par (List.replicate 48 0)).params.length = 48 ∧
      ({ KeyState.reset with attest := some ([], 0, 0) } : KeyState).attest ≠ none) ∧
    (u16 keyWrite63 2 = 512 ∧ 512 % 8 = 0 ∧ keyWrite63.length = 4 + pad4 (512 / 8) ∧ byteAt keyWrite63 0 ≤ 63 ∧ (tamper 8 8).tamperNow = true ∧
      (tamper 8 7).tamperNow = false) ∧
    (option3.length = 516 ∧ byteAt option3 0 ≤ 3 ∧
      ((live .melt []).otp.copies.getD (byteAt option3 0) []).any (· != 0) = false ∧
      (([[], [], [], [1]] : List Bytes).getD (byteAt option3 0) []).any (· != 0) = true) := by decide +kernel

/-- A part with a macro, a task and an image that none uses. -/
def stocked : State :=
  { live .melt [(F.CHM_SURF_CFG_EN, 255, 1)] with
    cmd := { CmdState.reset with macros := [⟨255, []⟩] }
    nwt := ⟨[⟨[], [], [{ task0 with parLen := 8 }], none, []⟩], [⟨63, image0, [], 0⟩], []⟩
    chm := { ChmState.reset with flips := [⟨0, 0, 0, [(0x40FF, 1)], 0, 0, 0, false, none⟩] }
    pat := { PatState.reset with doms := List.replicate 4 { PatDom.reset with raw := true }, sched := [timedX] } }

theorem witness_RouteAudioAndNewtCommandsTakeEffect :
    (holdsCompiled stocked 3 = false ∧
      holdsCompiled { live .melt [] with shk := { ShkState.reset with vouts := [⟨0x2000, 0, 0, 0, 0, 0, [], 0, none, none, [], false, none⟩] } } 0 = true ∧ 3 < byteAt [4, 0, 0, 0] 0) ∧
    (macroBody stocked 0 = none ∧ macroBody stocked 255 = some ⟨255, []⟩ ∧ byteAt [255, 1, 2, 63] 1 ≤ 1 ∧ byteAt [255, 1, 2, 63] 2 ≤ 2 ∧
      byteAt [255, 1, 2, 63] 3 ≤ 63) ∧ byteAt [15, 0, 0, 0] 0 ≤ 15 ∧
    (taskNamed stocked 67 31 = false ∧ taskNamed stocked 0 0 = true ∧ 67 < byteAt [68, 0, 0, 0] 0 ∧ 31 < byteAt [67, 32, 0, 0] 1 ∧
      stocked.unitFault .newt 67 = false ∧ (live .melt [(F.AXL_UNIT_NWT_STATE, 67, 3)]).unitFault .newt 67 = true) ∧
    (stocked.imageUsed 0 = true ∧ (8 ≤ 63 ∧ stocked.imageUsed 63 = false ∧ (stocked.image 63).isEmpty = false) ∧ stocked.imageUsed 8 = false ∧
      (stocked.image 8).isEmpty = true) ∧
    (stocked.surfEn (u16 [0xFF, 0x40, 0, 0] 0) = true ∧ u16 [0xFF, 0x40, 0, 0] 0 ≤ 0x40FF ∧
      (stocked.chm.flips.find? (fun x => x.surfaces.any (fun p => p.1 == 0x40FF))).map SurfFlip.reached = some false) ∧
    (stocked.pat.sched.find? (fun t => t.cmd.src.val == 15 && t.cmd.seq.toNat == 0) = none ∧
      stocked.pat.sched.find? (fun t => t.cmd.src.val == 0 && t.cmd.seq.toNat == 0) = some timedX ∧ timedX.released = true ∧
      ({ timedX with released := false } : Timed).released = false) ∧
    (u16 [1, 0, 0, 0, 0xFF, 0x7F, 0xFF, 0xFF, 0xE0, 1, 0, 0] 0 = 1 ∧ u16 [1, 0, 0, 0, 0xFF, 0x7F, 0xFF, 0xFF, 0xE0, 1, 0, 0] 4 = 32767 ∧
      srcRefOk (u16 [1, 0, 0, 0, 0xFF, 0x7F, 0xFF, 0xFF, 0xE0, 1, 0, 0] 6) = true ∧
      u16 [1, 0, 0, 0, 0xFF, 0x7F, 0xFF, 0xFF, 0xE0, 1, 0, 0] 8 ≤ 480) ∧
    ((nextTasks (stocked.core 0)).find? (fun t => t.index == 0) = some { task0 with parLen := 8 } ∧ 4 % 4 = 0 ∧
      4 + 4 ≤ ({ task0 with parLen := 8 } : NwtTask).parLen ∧ ({ task0 with parLen := 8 } : NwtTask).startDue = false) := by decide +kernel

/-- An XP_SET is taken where no AM824 channel would meet a PCM reader. -/
theorem witness_RouteAudioAndNewtCommandsTakeEffect_xp :
    (State.xpWait { live .melt [(F.AUD_XP_XFADE, 32767, 480)] with aud := AudState.reset }
      ⟨32767, 0xFFFF, 480, none, 0, none⟩).amMisuse = false := by decide +kernel

theorem witness_TimeNetPoolAndMeasureCommandsTakeEffect :
    ((par (List.replicate 8 0 ++ [0xFF, 0xC9, 0x9A, 0x3B])).params.length = 12 ∧ u32 (List.replicate 8 0 ++ [0xFF, 0xC9, 0x9A, 0x3B]) 8 = 999999999 ∧
      (ptp .pour .slave [] []).tim.ptpEn = true ∧ (live .melt []).tim.ptpEn = false) ∧
    (100 ≤ bitsOf (u32 [100, 0, 0, 0] 0) 29 0 ∧ bitsOf (u32 [0, 0xCA, 0x9A, 0x3B] 0) 29 0 = 1000000000 ∧ bitsOf (u32 [99, 0, 0, 0] 0) 29 0 < 100 ∧
      1000000000 < bitsOf (u32 [1, 0xCA, 0x9A, 0x3B] 0) 29 0) ∧
    (byteAt [2, 0, 0, 0] 0 ≤ 2 ∧ 2 < byteAt [3, 0, 0, 0] 0 ∧ bitsOf (u32 [1, 1, 0, 0] 0) 11 8 ≠ 0 ∧ bitsOf (u32 [1, 1, 0, 0] 0) 7 0 ≠ 0) ∧
    (eyeLane (u16 [0x43, 1, 0, 0] 0) = true ∧ ({ LaneState.reset with eyeRun := [0x143] } : LaneState).eyeRun.contains 0x143 = true ∧
      (live .melt []).lane.eyeRun.contains 0x143 = false ∧ (live .melt []).rst.pUp = true) ∧ 4 ≤ byteAt [4, 0, 0, 0] 0 ∧
    (byteAt [11, 0, 0, 0] 0 ≤ 11 ∧ bitsOf (u32 [0, 0, 34, 0] 0) 21 16 = 34 ∧ bitsOf (u32 [0, 0, 12, 0] 0) 21 16 = 12 ∧
      11 < byteAt [12, 0, 0, 0] 0 ∧ bitsOf (u32 [0xFF, 7, 34, 0x40] 0) 30 30 = 1 ∧
      inRanges ringIds (bitsOf (u32 [0xFF, 7, 34, 0x40] 0) 15 0) = true ∧ inRanges ringIds (bitsOf (u32 [0xFF, 0xFF, 34, 0x40] 0) 15 0) = false) ∧ (byteAt [31, 0] 0 ≤ 31 ∧ byteAt [31, 0] 1 = 0) ∧ (List.replicate 24 (0 : Byte)).length = 24 := by
  decide +kernel

/-- The worked lanes of R593: H143, S40. -/
theorem test_laneBalls : [hLaneBall 143 true false, hLaneBall 143 false false, sLaneBall 40 true false, sLaneBall 40 false true] =
    [(87, 89), (85, 89), (24, 91), (25, 89)] := by decide

end Sys2Proof.Tests
end

section
/-! PROOFS. Register reads on the control bus (R580 to R584), and the mode that SYS_MODE reports (R17). -/

namespace Sys2Proof.Machine

namespace State

/-- A served read that leads to a register outside the window onto the Newt memories is a read of that register. -/
theorem busRead_eq_readReg {s : State} {a : BusAccess} {off : Nat} (hm : s.masterUp a.master = true) (ha : s.accessOk a false = true)
    (ht : targetOf a.addr = .reg off) (hw : isNwtWin off = false) : s.busRead a = s.readReg a.master off := by
  simp [busRead, hm, ha, ht, hw]

/-- A register that is no stamp queue, latches no word and is latched by none, and tracks no peak: its read hands out the live
word and changes nothing. -/
theorem readReg_eq_emit_liveWord {s : State} {off : Nat} (m : Nat) (hq : ¬(0x501000 ≤ off ∧ off < 0x501400 ∧ off % 0x20 = 0))
    (hl : isLatched off = false) (hh : latchesOf off = []) (hp : s.restartPeak off = s) :
    s.readReg m off = s.emit (.busData m [s.liveWord off] false) := by
  simp [readReg, hq, hl, hh, hp]

/-- A served read of such a register hands out its word as it is when the step begins, and leaves the state. -/
theorem hands_latchedLowRead_liveWord {s : State} {a : BusAccess} {off : Nat} {w : Word} (hm : s.masterUp a.master = true)
    (ha : s.accessOk a false = true) (ht : targetOf a.addr = .reg off) (hw : isNwtWin off = false)
    (hq : ¬(0x501000 ≤ off ∧ off < 0x501400 ∧ off % 0x20 = 0)) (hl : isLatched off = false) (hh : latchesOf off = [])
    (hp : s.begin.restartPeak off = s.begin) (hv : s.begin.liveWord off = w) :
    Hands (.latchedLowRead a) s s [.busData a.master [w] false] := by
  refine hands_of (exec_latchedLowRead a s) ?_
  rw [busRead_eq_readReg (s := s.begin) hm ha ht hw, readReg_eq_emit_liveWord a.master hq hl hh hp, hv]
  rfl

@[simp] theorem liveWord_sysMode (s : State) : s.liveWord 0x8 = s.sysModeWord := by
  simp [liveWord, liveLow]

end State

theorem Mode.code_lt (m : Mode) : m.code < 8 := by cases m <;> decide

/-- The code fits the three bits of MODE, and every other field of SYS_MODE stands above them. -/
theorem getBits_sysModeWord_mode (s : State) : getBits s.sysModeWord F.SYS_MODE_MODE.hi F.SYS_MODE_MODE.lo = s.sys.mode.code := by
  have hc : s.sys.mode.code < 8 := s.sys.mode.code_lt
  simp only [getBits, State.sysModeWord, F.SYS_MODE_MODE, BitVec.toNat_ofNat, Nat.shiftRight_zero]
  omega

/-- Settles O56: the read hands out the live SYS_MODE word, whose MODE field is the code of the mode. -/
theorem modeReadsByItsCode : Obligations.ModeReadsByItsCode := by
  unfold Obligations.ModeReadsByItsCode
  intro m s hm ha
  refine ⟨s.sysModeWord, ?read, ?code⟩
  case read =>
    have ht : targetOf (regBase + 0x8) = .reg 0x8 := by decide
    have hv : s.begin.liveWord 0x8 = s.sysModeWord := by rw [State.liveWord_sysMode, begin_sysModeWord]
    exact State.hands_latchedLowRead_liveWord hm ha ht (by decide) (by decide) (by decide) (by decide) rfl hv
  case code =>
    rw [getBits_sysModeWord_mode]
    cases s.sys.mode <;> decide

end Sys2Proof.Machine
end

section
/-! PROOFS. The transmit-stamp queues (R60, R62): what counting, sending a frame and raising a notice leave of the state, the
overflow of a full queue, and the interrupt line it holds. -/

namespace Sys2Proof.Machine

namespace State

/-! ## Fields and bits -/

/-- A field over a word that an operation leaves is left. -/
theorem fld_of_reg {s t : State} {f : Fld} {i j : Nat} (h : t.reg (f.addr i j) = s.reg (f.addr i j)) : t.fld f i j = s.fld f i j := by
  rw [fld, fld, h]

theorem fld_lt (s : State) (f : Fld) (i j : Nat) : s.fld f i j < 2 ^ (f.hi + 1 - f.lo) :=
  Nat.mod_lt _ (Nat.two_pow_pos _)

/-- A saturating count reads one more, up to its width's largest value. -/
theorem fld_incFld_same (s : State) (f : Fld) (i j : Nat) (hf : f.hi < 32) :
    (s.incFld f i j).fld f i j = min (2 ^ (f.hi + 1 - f.lo) - 1) (s.fld f i j + 1) := by
  have hpos := Nat.two_pow_pos (f.hi + 1 - f.lo)
  rw [incFld, addFld, fld_setFld_same s f _ i j hf, satAdd, Nat.mod_eq_of_lt (by omega), Nat.min_comm]

/-- A word whose reset value is zero reads as the interrupt lines see it. -/
theorem word0_eq_reg {a : Nat} (h : resetWord a = 0) (s : State) : s.word0 a = s.reg a := by
  unfold word0 reg sget
  cases sfind s.regs a with
  | none => exact h.symm
  | some w => rfl

/-! ## Counting (R155, R445) -/

@[simp] theorem measAdd_tim (s : State) (ty sub key n : Nat) : (s.measAdd ty sub key n).tim = s.tim := by
  unfold measAdd; split <;> rfl

@[simp] theorem measAdd_out (s : State) (ty sub key n : Nat) : (s.measAdd ty sub key n).out = s.out := by
  unfold measAdd; split <;> rfl

@[simp] theorem measAdd_regs (s : State) (ty sub key n : Nat) : (s.measAdd ty sub key n).regs = s.regs := by
  unfold measAdd; split <;> rfl

/-- A live counter of a MAC (R155). -/
def liveCount (s : State) (m i : Nat) : Nat := sget (fun _ => 0) s.mac.live (m * 64 + i)

/-- A live counter's new value and its share in the interval record: everything of `macCount` but the half-range bit. -/
def macTally (s : State) (m i n : Nat) : State :=
  let live := sset (fun _ => 0) s.mac.live (m * 64 + i) ((s.liveCount m i + n) % 2 ^ 48)
  let t : State := { s with mac := { s.mac with live := live } }
  (macWord i).elim t (fun w => t.measAdd 8 m w n)

/-- The half-range field that holds a counter's bit (R156). -/
def halfFld (i : Nat) : Fld := if i < 32 then F.MAC_STAT_HALF_LO_HALF else F.MAC_STAT_HALF_HI_HALF

/-- Counting tallies, and where bit 47 rises it sets the counter's half-range bit (R155, R156). -/
theorem macCount_eq (s : State) (m i n : Nat) :
    s.macCount m i n =
      if !(s.liveCount m i).testBit 47 && ((s.liveCount m i + n) % 2 ^ 48).testBit 47 then
        (s.macTally m i n).setFld (halfFld i) ((s.macTally m i n).fld (halfFld i) m ||| 2 ^ (i % 32)) m
      else s.macTally m i n := by
  unfold macCount macTally
  cases macWord i <;> rfl

@[simp] theorem macTally_tim (s : State) (m i n : Nat) : (s.macTally m i n).tim = s.tim := by
  unfold macTally; cases macWord i <;> simp

@[simp] theorem macTally_out (s : State) (m i n : Nat) : (s.macTally m i n).out = s.out := by
  unfold macTally; cases macWord i <;> simp

@[simp] theorem macTally_regs (s : State) (m i n : Nat) : (s.macTally m i n).regs = s.regs := by
  unfold macTally; cases macWord i <;> simp

@[simp] theorem macCount_tim (s : State) (m i n : Nat) : (s.macCount m i n).tim = s.tim := by
  rw [macCount_eq]; split <;> simp

@[simp] theorem macCount_out (s : State) (m i n : Nat) : (s.macCount m i n).out = s.out := by
  rw [macCount_eq]; split <;> simp

/-- Whether an offset holds a half-range word of some MAC, by its place in the MAC's block: the words that counting writes. -/
def isHalfWord (a : Nat) : Bool := a % 0x4000 == 0x208 || a % 0x4000 == 0x20C

theorem isHalfWord_addr_halfFld (i m : Nat) : isHalfWord ((halfFld i).addr m 0) = true := by
  unfold halfFld isHalfWord Fld.addr
  split <;> simp only [F.MAC_STAT_HALF_LO_HALF, F.MAC_STAT_HALF_HI_HALF, Bool.or_eq_true, beq_iff_eq] <;> omega

theorem reg_macCount (s : State) (m i n : Nat) {a : Nat} (ha : isHalfWord a = false) : (s.macCount m i n).reg a = s.reg a := by
  have ht : (s.macTally m i n).reg a = s.reg a := reg_of_regs _ _ (macTally_regs s m i n) a
  rw [macCount_eq]
  split
  · have hne : a ≠ (halfFld i).addr m 0 := fun e => by simp [e, isHalfWord_addr_halfFld] at ha
    rw [setFld, reg_setReg_other _ _ _ _ hne, ht]
  · exact ht

/-! ## A frame leaves (R139, R145, R146) -/

@[simp] theorem lateDrop_tim (s : State) (m : Nat) : (s.lateDrop m).tim = s.tim := by
  unfold lateDrop; dsimp only; split <;> simp

theorem reg_lateDrop (s : State) (m : Nat) {a : Nat} (ha : isHalfWord a = false) : (s.lateDrop m).reg a = s.reg a := by
  unfold lateDrop
  dsimp only
  split
  · rfl
  · exact reg_macCount _ m 51 _ ha

@[simp] theorem unqueue_tim (s : State) (f : TxFrame) : (s.unqueue f).tim = s.tim := rfl
@[simp] theorem reg_unqueue (s : State) (f : TxFrame) (a : Nat) : (s.unqueue f).reg a = s.reg a := rfl

@[simp] theorem countTx_tim (s : State) (f : TxFrame) : (s.countTx f).tim = s.tim := by
  unfold countTx; dsimp only; split <;> simp

theorem reg_countTx (s : State) (f : TxFrame) {a : Nat} (ha : isHalfWord a = false) : (s.countTx f).reg a = s.reg a := by
  unfold countTx; dsimp only; split <;> simp only [reg_macCount _ _ _ _ ha]

@[simp] theorem startFrame_tim (s : State) (f : TxFrame) : (s.startFrame f).tim = s.tim := by
  unfold startFrame
  dsimp only
  split
  · simp
  · split <;> simp

theorem reg_emit (s : State) (o : Output) (a : Nat) : (s.emit o).reg a = s.reg a := rfl

theorem reg_startFrame (s : State) (f : TxFrame) {a : Nat} (ha : isHalfWord a = false) : (s.startFrame f).reg a = s.reg a := by
  unfold startFrame
  dsimp only
  split
  · change (((s.unqueue f).macCount f.mac 46 1).macCount f.mac 47 1).reg a = s.reg a
    simp only [reg_macCount _ _ _ _ ha, reg_unqueue]
  · split <;> simp only [reg_emit, reg_countTx _ _ ha, reg_macCount _ _ _ _ ha, reg_unqueue]

/-- A frame that preemption does not cut leaves whole (R145). -/
theorem startFrame_whole {s : State} {f : TxFrame} (hd : f.done = 0)
    (hw : f.order ≠ 4 ∨ s.flag F.MAC_LINK_STAT_MERGE_ACTIVE f.mac = false) :
    s.startFrame f = ((s.unqueue f).countTx f).emit (.frame f.mac f.kind f.body) := by
  have hc : (s.unqueue f).fragmentOf f = none := by
    unfold fragmentOf
    refine if_pos ?_
    rcases hw with h | h
    · exact .inl h
    · exact .inr (.inl (by rw [show (s.unqueue f).flag F.MAC_LINK_STAT_MERGE_ACTIVE f.mac = false from h]; rfl))
  simp [startFrame, hc, hd]

/-! ## Raising a notice (R542, R543) -/

/-- A source of class Notice makes its records and nothing more. -/
theorem raise_of_notice {n : Nat} (h : faultClass n = 1) (s : State) (args : List Nat) : s.raise n args = s.faultRecord n args := by
  simp [raise, raiseFault, h]

@[simp] theorem setFltStatus_tim (s : State) (n : Nat) : (s.setFltStatus n).tim = s.tim := by
  unfold setFltStatus; split <;> rfl

@[simp] theorem setFltStatus_out (s : State) (n : Nat) : (s.setFltStatus n).out = s.out := by
  unfold setFltStatus; split <;> rfl

/-- A write to the fault block, or below it, leaves the words above it (R592). -/
theorem reg_setFld_belowCmd (s : State) (f : Fld) (v i j : Nat) {a : Nat} (hf : f.addr i j < 0x300000) (ha : 0x300000 ≤ a) :
    (s.setFld f v i j).reg a = s.reg a :=
  reg_setReg_other s _ a _ (by omega)

theorem reg_setFltStatus (s : State) (n : Nat) {a : Nat} (ha : 0x300000 ≤ a) : (s.setFltStatus n).reg a = s.reg a := by
  unfold setFltStatus
  split
  · exact reg_setFld_belowCmd s _ _ 0 0 (by decide) ha
  · exact reg_setFld_belowCmd s _ _ 0 0 (by decide) ha

@[simp] theorem fltFirst_tim (s : State) (n : Nat) : (s.fltFirst n).tim = s.tim := by
  unfold fltFirst
  split
  · rfl
  · split <;> simp

@[simp] theorem fltFirst_out (s : State) (n : Nat) : (s.fltFirst n).out = s.out := by
  unfold fltFirst
  split
  · rfl
  · split <;> simp

theorem reg_fltFirst (s : State) (n : Nat) {a : Nat} (ha : 0x300000 ≤ a) : (s.fltFirst n).reg a = s.reg a := by
  have below (f : Fld) (hf : f.addr 0 0 < 0x300000) (t : State) (v : Nat) : (t.setFld f v).reg a = t.reg a :=
    reg_setFld_belowCmd t f v 0 0 hf ha
  unfold fltFirst
  split
  · rfl
  · split
    · exact below _ (by decide) s 1
    · simp only [setFlag, setPair, below F.FLT_FIRST_VALID (by decide), below F.FLT_FIRST_CLASS (by decide),
        below F.FLT_FIRST_SOURCE (by decide), below F.FLT_FIRST_EPOCH_W1 (by decide), below F.FLT_FIRST_EPOCH_W2 (by decide),
        below F.FLT_FIRST_TICK_W3 (by decide), below F.FLT_FIRST_TICK_W4 (by decide)]

@[simp] theorem faultRecord_tim (s : State) (n : Nat) (args : List Nat) : (s.faultRecord n args).tim = s.tim := by
  simp [faultRecord, incFld]

@[simp] theorem faultRecord_out (s : State) (n : Nat) (args : List Nat) : (s.faultRecord n args).out = s.out := by
  simp [faultRecord, incFld]

/-- The records of a fault stand in its own block. -/
theorem reg_faultRecord (s : State) {n : Nat} (args : List Nat) {a : Nat} (hn : n < 48) (ha : 0x300000 ≤ a) :
    (s.faultRecord n args).reg a = s.reg a := by
  have hcnt : F.FLT_CNT_COUNT.addr n 0 < 0x300000 := by simp only [Fld.addr, F.FLT_CNT_COUNT]; omega
  unfold faultRecord
  rw [reg_fltFirst _ _ ha]
  exact (reg_setFld_belowCmd _ _ _ n 0 hcnt ha).trans (reg_setFltStatus s n ha)

/-! ## A full stamp queue (R62) -/

/-- What becomes of a stamp whose queue is full: OVF and DROP_CNT of its MAC; a PTP message's own stamp counts as lost (R63). -/
def stampDropped (s : State) (m ident : Nat) : State :=
  let lost := if ident < 0x8000 then lastN 64 (s.tim.lostStamps ++ [(m, ident)]) else s.tim.lostStamps
  { (s.setFld F.TIM_TXQ_OVF_OVF (s.fld F.TIM_TXQ_OVF_OVF ||| 2 ^ m)).incFld F.TIM_TXQ_DROP_CNT m with
    tim := { s.tim with lostStamps := lost } }

/-- The stamp of a frame whose queue holds 64 entries is dropped, and TIM_TXQ_OVF raised, a Notice. -/
theorem txStamp_full {s : State} {f : TxFrame} {ident : Nat} (hs : f.stamp = some ident) (hq : 64 ≤ (s.txqOf f.mac).length) :
    s.txStamp f = (s.stampDropped f.mac ident).faultRecord fltTimTxqOvf [f.mac] := by
  rw [← raise_of_notice (by decide)]
  simp only [txStamp, hs, if_pos hq]
  rfl

@[simp] theorem stampDropped_txq (s : State) (m ident : Nat) : (s.stampDropped m ident).tim.txq = s.tim.txq := rfl
@[simp] theorem stampDropped_out (s : State) (m ident : Nat) : (s.stampDropped m ident).out = s.out := rfl

theorem stampDropped_regs (s : State) (m ident : Nat) : (s.stampDropped m ident).regs =
    ((s.setFld F.TIM_TXQ_OVF_OVF (s.fld F.TIM_TXQ_OVF_OVF ||| 2 ^ m)).incFld F.TIM_TXQ_DROP_CNT m).regs := rfl

theorem addr_dropCnt_ne_ovf (m : Nat) : F.TIM_TXQ_DROP_CNT.addr m 0 ≠ F.TIM_TXQ_OVF_OVF.addr 0 0 := by
  simp only [Fld.addr, F.TIM_TXQ_DROP_CNT, F.TIM_TXQ_OVF_OVF]; omega

theorem stampDropped_ovf (s : State) {m : Nat} (ident : Nat) (hm : m < 32) :
    (s.stampDropped m ident).fld F.TIM_TXQ_OVF_OVF = s.fld F.TIM_TXQ_OVF_OVF ||| 2 ^ m := by
  have hlt : s.fld F.TIM_TXQ_OVF_OVF ||| 2 ^ m < 2 ^ (F.TIM_TXQ_OVF_OVF.hi + 1 - F.TIM_TXQ_OVF_OVF.lo) :=
    Nat.or_lt_two_pow (fld_lt s F.TIM_TXQ_OVF_OVF 0 0) (Nat.pow_lt_pow_right (by omega) hm)
  rw [fld_of_regs _ _ (stampDropped_regs s m ident), incFld, addFld, fld_setFld_word _ _ _ _ _ _ _ _ (addr_dropCnt_ne_ovf m).symm,
    fld_setFld_same _ _ _ _ _ (by decide), Nat.mod_eq_of_lt hlt]

theorem stampDropped_dropCnt (s : State) (m ident : Nat) :
    (s.stampDropped m ident).fld F.TIM_TXQ_DROP_CNT m =
      min (2 ^ (F.TIM_TXQ_DROP_CNT.hi + 1 - F.TIM_TXQ_DROP_CNT.lo) - 1) (s.fld F.TIM_TXQ_DROP_CNT m + 1) := by
  rw [fld_of_regs _ _ (stampDropped_regs s m ident), fld_incFld_same _ _ _ _ (by decide),
    fld_setFld_word _ _ _ _ _ _ _ _ (addr_dropCnt_ne_ovf m)]

/-! ## The TIM interrupt line (R591) -/

/-- A bit of TIM_TXQ_OVF holds the TIM line up, whichever of the other three lines are: each adds its own power of two. -/
theorem testBit_intLines_of_ovf {s : State} (h : s.word0 F.TIM_TXQ_OVF_OVF.off ≠ 0) : s.intLines.testBit 5 = true := by
  have ht : (getBits (s.word0 F.TIM_STATUS_STEP_REFUSED.off) 1 1 != 0 || s.word0 F.TIM_TXQ_OVF_OVF.off != 0) = true :=
    Bool.or_eq_true_iff.mpr (.inr (bne_iff_ne.mpr h))
  unfold intLines
  dsimp only
  rw [if_pos ht]
  split <;> split <;> split <;> rfl

theorem intLines_of_regs {s t : State} (h : t.regs = s.regs) : t.intLines = s.intLines := by
  unfold intLines word0
  rw [h]

theorem word0_ovf_ne_zero {s : State} (h : s.fld F.TIM_TXQ_OVF_OVF ≠ 0) : s.word0 F.TIM_TXQ_OVF_OVF.off ≠ 0 := by
  have hr : resetWord F.TIM_TXQ_OVF_OVF.off = 0 := by decide +kernel
  intro h0
  refine h ?_
  rw [word0_eq_reg hr] at h0
  simp [fld, show s.reg (F.TIM_TXQ_OVF_OVF.addr 0 0) = 0 from h0, getBits]

/-! ## MAC_FRAME_TRANSMIT -/

/-- A whole frame that the MAC may send leaves, with its stamp (R139, R60). -/
theorem macTx_sends {s : State} {m : Nat} {f : TxFrame} (hm : m < 32) (hp : s.rst.pUp = true) (he : s.flag F.MAC_CFG_EN m = true)
    (hl : s.flag F.MAC_LINK_STAT_LINK_UP m = true) (hn : (s.lateDrop m).nextFrame m = some f) (hs : (s.lateDrop m).maySend f = true)
    (hd : f.done = 0) : s.macTx m = ((s.lateDrop m).startFrame f).txStamp f := by
  simp [macTx, hm, hp, he, hl, hn, hs, hd]

end State

/-- What a step hands to the outside is kept by its end. -/
theorem mem_out_commit {s t : State} {o : Output} (h : o ∈ t.out) : o ∈ (s.commit t).out := by
  rw [State.commit_out]
  split
  · exact List.mem_append_left _ h
  · exact h

/-- Settles O41: the frame leaves as `startFrame` says, which touches neither the queues nor the TIM words; then the full queue
drops the stamp. -/
theorem txqOverflowDropsTheStamp : Obligations.TxqOverflowDropsTheStamp := by
  unfold Obligations.TxqOverflowDropsTheStamp
  intro m k f s hm hp he hl hn hf hs hd hk hq
  subst hf
  let u := (s.begin.lateDrop f.mac).startFrame f
  let t := (u.stampDropped f.mac k).faultRecord fltTimTxqOvf [f.mac]
  have htim : u.tim = s.tim := by simp [u]
  have hreg {a : Nat} (ha : State.isHalfWord a = false) : u.reg a = s.reg a := by
    rw [State.reg_startFrame _ _ ha, State.reg_lateDrop _ _ ha, State.reg_begin]
  have hfull : 64 ≤ (u.txqOf f.mac).length := by
    rw [State.txqOf, htim]
    exact hq
  have htx : s.begin.macTx f.mac = t := by
    rw [State.macTx_sends (s := s.begin) hm hp he hl hn hs hd, State.txStamp_full hk hfull]
  have hkeep (g : Fld) (j : Nat) (ha : 0x300000 ≤ g.addr j 0) : t.fld g j = (u.stampDropped f.mac k).fld g j :=
    State.fld_of_reg (State.reg_faultRecord _ _ (by decide) ha)
  have hovf : t.fld F.TIM_TXQ_OVF_OVF = s.fld F.TIM_TXQ_OVF_OVF ||| 2 ^ f.mac := by
    rw [hkeep _ 0 (by decide), State.stampDropped_ovf u k hm, State.fld_of_reg (hreg (by decide))]
  have hcnt : t.fld F.TIM_TXQ_DROP_CNT f.mac = 
      min (2 ^ (F.TIM_TXQ_DROP_CNT.hi + 1 - F.TIM_TXQ_DROP_CNT.lo) - 1) (s.fld F.TIM_TXQ_DROP_CNT f.mac + 1) := by
    have hw : State.isHalfWord (F.TIM_TXQ_DROP_CNT.addr f.mac 0) = false := by
      simp [State.isHalfWord, Fld.addr, F.TIM_TXQ_DROP_CNT]; omega
    rw [hkeep _ _ (by simp only [Fld.addr, F.TIM_TXQ_DROP_CNT]; omega), State.stampDropped_dropCnt, State.fld_of_reg (hreg hw)]
  refine ⟨s.commit t, ?exec, ?txq, ?ovf, ?cnt, ?line, ?frame⟩
  case exec => rw [exec_macFrameTransmit, execMacFrameTransmit, runEff_next, htx]
  case txq => simp [t, htim]
  case ovf => rw [commit_fld, hovf]
  case cnt => rw [commit_fld, hcnt]
  case line =>
    rw [State.intLines_of_regs (commit_regs s t)]
    refine State.testBit_intLines_of_ovf (State.word0_ovf_ne_zero ?_)
    rw [hovf]
    exact fun h => absurd (Nat.or_eq_zero_iff.mp h).2 (Nat.two_pow_pos _).ne'
  case frame =>
    intro hw
    have hmerge : (s.begin.lateDrop f.mac).flag F.MAC_LINK_STAT_MERGE_ACTIVE f.mac = s.flag F.MAC_LINK_STAT_MERGE_ACTIVE f.mac := by
      have ha : State.isHalfWord (F.MAC_LINK_STAT_MERGE_ACTIVE.addr f.mac 0) = false := by
        simp [State.isHalfWord, Fld.addr, F.MAC_LINK_STAT_MERGE_ACTIVE]
      simp only [State.flag, State.fld, State.reg_lateDrop _ _ ha, State.reg_begin]
    apply mem_out_commit
    simp [t, u, State.startFrame_whole hd (hmerge ▸ hw)]

end Sys2Proof.Machine
end

section
/-! PROOFS. PTP time (R47 to R53): what a new set of TIM_BASE and TIM_TICK_BASE gives at its first tick, and ALLOW_STEP. -/

namespace Sys2Proof.Machine

/-- A command whose length is the one it wants goes on to the checks that follow (R475). -/
theorem guarded_lenIs {c : Cmd} {n : Nat} (h : c.params.length = n) (checks : List (Bool × RefRec)) (k : Unit → CmdResult) :
    guarded (lenIs c n :: checks) k = guarded checks k := by
  simp [guarded, lenIs, h, firstFail]

/-- PTP time at the tick from which a set of BASE and TICK_BASE holds is BASE: neither RATE nor a slew has acted yet. -/
theorem ptpAt_tickBase (t : TimState) : ptpAt t t.tickBase = t.base := by
  have hs : min t.tickBase t.slewEnd - t.tickBase = 0 := by omega
  simp [ptpAt, hs]

namespace State

theorem flag_setFlag_same (s : State) (f : Fld) (b : Bool) (i j : Nat) (hf : f.hi < 32) (hw : f.hi = f.lo) :
    (s.setFlag f b i j).flag f i j = b := by
  rw [flag, setFlag, fld_setFld_same s f _ i j hf, hw, Nat.add_sub_cancel_left]
  cases b <;> rfl

/-- A new set moves the present time by its step, down to zero at least (R48). -/
theorem ptpNow_ptpSet (s : State) (freq slew : Int) (slewEnd : Nat) (step : Int) :
    (s.ptpSet freq slew slewEnd step).ptpNow = ((s.ptpNow : Int) + step * 65536).toNat :=
  ptpAt_tickBase (s.ptpSet freq slew slewEnd step).tim

/-- PTP time is read from the set in force and the tick alone. -/
theorem ptpNow_of_tim {s t : State} (ht : t.tim = s.tim) (hk : t.tick = s.tick) : t.ptpNow = s.ptpNow := by
  rw [ptpNow, ptpNow, ht, hk]

end State

theorem applyOp_allowStep (c : Cmd) (s : State) : applyOp opAllowStep c s = applyAllowStep c s := rfl

/-- The time, slew and STEP_PEND that ALLOW_STEP leaves, before the consequences of its step (R52). -/
def State.stepAllowed (s : State) : State :=
  (s.ptpSet s.tim.freq 0 0 (sext 64 (s.pair F.TIM_STEP_PEND_LO_PEND F.TIM_STEP_PEND_HI_PEND))).setFlag F.TIM_STATUS_STEP_PEND false

/-- With a step pending, ALLOW_STEP takes it; with none, it changes nothing (R52). -/
theorem applyAllowStep_eq {c : Cmd} {s : State} (hc : c.params = []) :
    applyAllowStep c s =
      if s.flag F.TIM_STATUS_STEP_PEND then
        let v := s.pair F.TIM_STEP_PEND_LO_PEND F.TIM_STEP_PEND_HI_PEND
        .ok (s.stepAllowed.stepEffects (sext 64 v - s.slewLeft)) (leBytes 8 v)
      else .ok s (leBytes 8 0) :=
  guarded_lenIs (by rw [hc]; rfl) [] _

theorem ptpNow_stepAllowed (s : State) : s.stepAllowed.ptpNow =
    ((s.ptpNow : Int) + sext 64 (s.pair F.TIM_STEP_PEND_LO_PEND F.TIM_STEP_PEND_HI_PEND) * 65536).toNat := by
  rw [← s.ptpNow_ptpSet s.tim.freq 0 0]
  exact State.ptpNow_of_tim rfl rfl

/-- Settles O57: the pending value moves PTP time through a new set of BASE and TICK_BASE, in which no slew is left. -/
theorem allowStepAuthorisesOneStep : Obligations.AllowStepAuthorisesOneStep := by
  unfold Obligations.AllowStepAuthorisesOneStep
  intro c s hc
  rw [applyOp_allowStep, applyAllowStep_eq hc]
  constructor
  · intro hpend
    refine ⟨s.stepAllowed, if_pos hpend, ?pend, rfl, rfl, rfl, ?time⟩
    case pend => exact State.flag_setFlag_same _ _ _ _ _ (by decide) rfl
    case time =>
      intro hpos
      rw [ptpNow_stepAllowed, Int.toNat_of_nonneg hpos]
  · intro hpend
    rw [if_neg (by simp [hpend])]

end Sys2Proof.Machine
end

section
/-! PROOFS. Latched time reads (R46, R49, R584): what a master's latches hold after writes to them, the words of TIM_TICK and
TIM_NOW, and the reads that fill their latches. -/

namespace Sys2Proof.Machine

namespace State

/-! ## Latches -/

/-- A latch holds what was put in it. -/
@[simp] theorem latchOf_setLatch_same (s : State) (m a : Nat) (w : Word) : (s.setLatch m a w).latchOf m a = w :=
  sget_sset_same _ _ _ _

/-- A master's other latches stay. -/
theorem latchOf_setLatch_other (s : State) (m a b : Nat) (w : Word) (h : b ≠ a) : (s.setLatch m a w).latchOf m b = s.latchOf m b :=
  sget_sset_other _ _ _ _ _ (by omega)

theorem latchOf_of_latches {s t : State} (h : t.latches = s.latches) (m a : Nat) : t.latchOf m a = s.latchOf m a := by
  rw [latchOf, latchOf, h]

/-- A master's latches of several words, filled with what these words are in `s`. -/
def latchLive (s : State) (m : Nat) (l : List Nat) (t : State) : State := l.foldl (fun t h => t.setLatch m h (s.liveWord h)) t

theorem latchOf_latchLive_other (s : State) (m : Nat) {l : List Nat} {a : Nat} (h : a ∉ l) (t : State) :
    (s.latchLive m l t).latchOf m a = t.latchOf m a := by
  induction l generalizing t with
  | nil => rfl
  | cons b l ih =>
    obtain ⟨hb, hl⟩ := not_or.mp (mt List.mem_cons.mpr h)
    exact (ih hl _).trans (latchOf_setLatch_other t m b a _ hb)

/-- Each word latched is held as it was. -/
theorem latchOf_latchLive (s : State) (m : Nat) {l : List Nat} {a : Nat} (h : a ∈ l) (t : State) :
    (s.latchLive m l t).latchOf m a = s.liveWord a := by
  induction l generalizing t with
  | nil => simp at h
  | cons b l ih =>
    by_cases hl : a ∈ l
    · exact ih hl _
    · obtain rfl : a = b := by simpa [hl] using h
      exact (latchOf_latchLive_other s m hl _).trans (latchOf_setLatch_same t m a _)

/-! ## Reads of a low word and of a latched one (R584) -/

/-- A read of a low word hands out the live word and latches the words above it. -/
theorem readReg_low {s : State} {off : Nat} (m : Nat) (hq : ¬(0x501000 ≤ off ∧ off < 0x501400 ∧ off % 0x20 = 0))
    (hl : isLatched off = false) (hp : ∀ t : State, t.restartPeak off = t) :
    s.readReg m off = (s.latchLive m (latchesOf off) s).emit (.busData m [s.liveWord off] false) := by
  simp [readReg, hq, hl, hp, latchLive]

/-- A read of a latched word hands out the master's latch. -/
theorem readReg_latched {s : State} {off : Nat} (m : Nat) (hq : ¬(0x501000 ≤ off ∧ off < 0x501400 ∧ off % 0x20 = 0))
    (hl : isLatched off = true) (hh : latchesOf off = []) (hp : s.restartPeak off = s) :
    s.readReg m off = s.emit (.busData m [s.latchOf m off] false) := by
  simp [readReg, hq, hl, hh, hp]

/-! ## The words of TIM_TICK and TIM_NOW -/

@[simp] theorem liveWord_tickLo (s : State) : s.liveWord 0x500000 = BitVec.ofNat 32 s.tick := by
  simp [liveWord, liveLow]

@[simp] theorem liveWord_tickHi (s : State) : s.liveWord 0x500004 = BitVec.ofNat 32 (s.tick / 4294967296) := by
  simp [liveWord, liveLow]

/-- The six words of TIM_NOW and its set (R49). -/
theorem liveWord_now (s : State) {i : Nat} (h : i < 6) : s.liveWord (0x500010 + 4 * i) = s.nowWord i := by
  interval_cases i <;> simp [liveWord, liveLow]

end State

/-- The register space maps its offsets from its base (R574). -/
theorem targetOf_reg {off : Nat} (h : off < 0x10000000) : targetOf (regBase + off) = .reg off := by
  simp [targetOf, h]

/-- A served read of a low word, whole: it hands out the live word, and the words above it stand in the master's latches. -/
theorem runEff_busRead_low {s : State} {a : BusAccess} {off : Nat} (hm : s.masterUp a.master = true) (ha : s.accessOk a false = true)
    (ht : targetOf a.addr = .reg off) (hw : isNwtWin off = false) (hq : ¬(0x501000 ≤ off ∧ off < 0x501400 ∧ off % 0x20 = 0))
    (hl : isLatched off = false) (hp : ∀ t : State, t.restartPeak off = t) :
    ∃ t, runEff (fun s => s.busRead a) s = .next t ∧ Output.busData a.master [s.begin.liveWord off] false ∈ t.out ∧
      ∀ h ∈ latchesOf off, t.latchOf a.master h = s.begin.liveWord h := by
  have hr : s.begin.busRead a =
      (s.begin.latchLive a.master (latchesOf off) s.begin).emit (.busData a.master [s.begin.liveWord off] false) := by
    rw [State.busRead_eq_readReg (s := s.begin) hm ha ht hw, State.readReg_low a.master hq hl hp]
  refine ⟨_, runEff_next _ s, ?data, ?latches⟩
  case data => exact mem_out_commit (by simp [hr])
  case latches =>
    intro h hh
    rw [State.latchOf_of_latches (State.commit_latches _ _), hr, State.latchOf_of_latches (State.emit_latches _ _),
      State.latchOf_latchLive _ _ hh]

/-- A served read of a latched word hands out what the master's latch holds, and leaves the state. -/
theorem hands_latchedLowRead_latch {s : State} {a : BusAccess} {off : Nat} {w : Word} (hm : s.masterUp a.master = true)
    (ha : s.accessOk a false = true) (ht : targetOf a.addr = .reg off) (hw : isNwtWin off = false)
    (hq : ¬(0x501000 ≤ off ∧ off < 0x501400 ∧ off % 0x20 = 0)) (hl : isLatched off = true) (hh : latchesOf off = [])
    (hp : s.begin.restartPeak off = s.begin) (hv : s.latchOf a.master off = w) :
    Hands (.latchedLowRead a) s s [.busData a.master [w] false] := by
  refine hands_of (exec_latchedLowRead a s) ?_
  rw [State.busRead_eq_readReg (s := s.begin) hm ha ht hw, State.readReg_latched a.master hq hl hh hp, begin_latchOf, hv]
  rfl

/-- Settles O32: TIM_TICK_HI is the word that the read of TIM_TICK_LO latches, and a read of it hands out the latch. -/
theorem tickReadLatchesItsHighWord : Obligations.TickReadLatchesItsHighWord := by
  unfold Obligations.TickReadLatchesItsHighWord
  intro m s hm ha
  obtain ⟨t, ht, hdata, hlatch⟩ := runEff_busRead_low (off := 0x500000) hm ha (targetOf_reg (by decide)) (by decide) (by decide)
    (by decide) (fun _ => rfl)
  have hhi : t.latchOf m 0x500004 = BitVec.ofNat 32 (s.tick / 4294967296) := by
    rw [hlatch 0x500004 (by decide), State.liveWord_tickHi, State.begin_tick]
  refine ⟨t, ht, by simpa using hdata, ?_⟩
  intro u hu hmu hau
  exact hands_latchedLowRead_latch hmu hau (targetOf_reg (by decide)) (by decide) (by decide) (by decide) (by decide) rfl
    ((State.latchOf_of_latches hu m _).trans hhi)

/-- Settles O33: the five words above TIM_NOW_NS are those that its read latches, all of one time. -/
theorem nowReadLatchesTheTime : Obligations.NowReadLatchesTheTime := by
  unfold Obligations.NowReadLatchesTheTime
  intro m s hm ha
  obtain ⟨t, ht, hdata, hlatch⟩ := runEff_busRead_low (off := 0x500010) hm ha (targetOf_reg (by decide)) (by decide) (by decide)
    (by decide) (fun _ => rfl)
  have hnow (i : Nat) (hi : i < 6) (hl : 0x500010 + 4 * i ∈ latchesOf 0x500010) : t.latchOf m (0x500010 + 4 * i) = s.nowWord i := by
    rw [hlatch _ hl, State.liveWord_now _ hi, begin_nowWord]
  refine ⟨t, ht, ?ns, hnow 1 ?_ ?_, hnow 2 ?_ ?_, hnow 3 ?_ ?_, hnow 4 ?_ ?_, hnow 5 ?_ ?_⟩
  case ns =>
    rw [State.liveWord_now (i := 0) _ (by decide), begin_nowWord] at hdata
    exact hdata
  all_goals decide

end Sys2Proof.Machine
end

section
/-! PROOFS. The local oscillator (R91): which words an operation may change, and the failure of a selected OCXO. -/

namespace Sys2Proof.Machine

namespace State

/-! ## What setting a flag leaves -/

/-- A flag of the same word that shares no bit stays. -/
theorem flag_setFlag_bits (s : State) (f g : Fld) (b : Bool) (i j k l : Nat) (ha : g.addr k l = f.addr i j) (hg : g.hi < 32)
    (hd : g.hi < f.lo ∨ f.hi < g.lo) : (s.setFlag f b i j).flag g k l = s.flag g k l := by
  rw [flag, flag, setFlag, fld_setFld_bits s f g _ i j k l ha hg hd]

theorem onlyWords_setFlag (s : State) (f : Fld) (b : Bool) (i j : Nat) : s.onlyWords (s.setFlag f b i j) [f.addr i j] :=
  fun _ ha => reg_setReg_other s _ _ _ (List.ne_of_not_mem_cons ha)

theorem onlyWords.trans {s t u : State} {l : List Nat} (hst : s.onlyWords t l) (htu : t.onlyWords u l) : s.onlyWords u l :=
  fun a ha => (htu a ha).trans (hst a ha)

theorem onlyWords.commit {s t : State} {l : List Nat} (h : s.onlyWords t l) (r : State) : s.onlyWords (r.commit t) l :=
  fun a ha => (reg_commit r t a).trans (h a ha)

/-! ## OCXO_FAIL -/

/-- Once OSC_FAIL is set, clearing OSC_OK leaves it: they are two bits of one word. -/
theorem flag_oscFail_ocxoFail {s : State} (h : s.fld F.REF_OSC_OSC ≠ 0) : s.ocxoFail.flag F.REF_OSC_OSC_FAIL = true := by
  rw [ocxoFail, if_neg h, flag_setFlag_bits _ F.REF_OSC_OSC_OK F.REF_OSC_OSC_FAIL _ _ _ _ _ rfl (by decide) (.inr (by decide))]
  exact flag_setFlag_same s F.REF_OSC_OSC_FAIL true 0 0 (by decide) rfl

/-- OSC_FAIL and OSC_OK are in the word of REF_OSC, so no other word changes. -/
theorem onlyWords_ocxoFail (s : State) : s.onlyWords s.ocxoFail [F.REF_OSC_OSC_FAIL.addr 0 0] := by
  unfold ocxoFail
  split
  · exact fun _ _ => rfl
  · exact (onlyWords_setFlag s F.REF_OSC_OSC_FAIL true 0 0).trans (onlyWords_setFlag _ F.REF_OSC_OSC_OK false 0 0)

/-- The failure shows in the registers alone: every other part of the state stays. -/
theorem ocxoFail_eq_regs (s : State) : s.ocxoFail = { s with regs := s.ocxoFail.regs } := by
  unfold ocxoFail
  split <;> rfl

end State

/-- Once domain P is released, the row has its effect. -/
theorem exec_ocxoFail_up {s : State} (hp : s.rst.pUp = true) : exec .ocxoFail s = .next (s.commit s.begin.ocxoFail) := by
  rw [exec_ocxoFail, execOcxoFail, runEff_next, State.begin_rst, if_pos hp]

/-- Settles O44: the failure sets OSC_FAIL, and nothing but the word of REF_OSC changes. -/
theorem ocxoFailureChangesNoMode : Obligations.OcxoFailureChangesNoMode := by
  unfold Obligations.OcxoFailureChangesNoMode
  intro s hp hsel
  have heq := s.begin.ocxoFail_eq_regs
  refine ⟨s.commit s.begin.ocxoFail, exec_ocxoFail_up hp, ?fail, ?mode, ?tim, ?ref, ?meas, ?tick, ?words⟩
  case fail => rw [State.flag, commit_fld]; exact State.flag_oscFail_ocxoFail (s := s.begin) hsel
  case mode => rw [commit_sys, heq, State.begin_sys]
  case tim => rw [State.commit_tim, heq, State.begin_tim]
  case ref => rw [State.commit_ref, heq, State.begin_ref]
  case meas => rw [State.commit_meas, heq, State.begin_meas]
  case tick => rw [State.commit_tick, heq, State.begin_tick]
  case words => exact s.begin.onlyWords_ocxoFail.commit s

end Sys2Proof.Machine
end

section
/-! PROOFS. The half-range bits of the MAC counters (R156): what counting writes where bit 47 rises, and the interrupt line these
bits hold. -/

namespace Sys2Proof.Machine

namespace State

/-! ## Counting with and without a rise of bit 47 -/

/-- Whether counting takes bit 47 of a counter from 0 to 1. -/
def halfRises (s : State) (m i n : Nat) : Bool :=
  !(s.liveCount m i).testBit 47 && ((s.liveCount m i + n) % 2 ^ 48).testBit 47

theorem halfRises_eq_true {s : State} {m i n : Nat} : s.halfRises m i n = true ↔
    (s.liveCount m i).testBit 47 = false ∧ ((s.liveCount m i + n) % 2 ^ 48).testBit 47 = true := by
  rw [halfRises, Bool.and_eq_true, Bool.not_eq_true']

theorem halfRises_eq_false {s : State} {m i n : Nat} : s.halfRises m i n = false ↔
    (s.liveCount m i).testBit 47 = true ∨ ((s.liveCount m i + n) % 2 ^ 48).testBit 47 = false := by
  rw [halfRises, Bool.and_eq_false_iff, Bool.not_eq_false']

/-- Where bit 47 rises, counting tallies and sets the counter's half-range bit. -/
theorem macCount_of_halfRises {s : State} {m i n : Nat} (h : s.halfRises m i n = true) :
    s.macCount m i n = (s.macTally m i n).setFld (halfFld i) ((s.macTally m i n).fld (halfFld i) m ||| 2 ^ (i % 32)) m := by
  rw [macCount_eq]
  exact if_pos h

/-- Where it does not, counting tallies and does nothing else. -/
theorem macCount_of_not_halfRises {s : State} {m i n : Nat} (h : s.halfRises m i n = false) : s.macCount m i n = s.macTally m i n := by
  rw [macCount_eq]
  exact if_neg (Bool.eq_false_iff.mp h)

/-! ## The half-range words -/

/-- A half-range field is its whole word. -/
theorem halfFld_whole (i : Nat) : (halfFld i).hi = 31 ∧ (halfFld i).lo = 0 := by
  unfold halfFld
  split <;> exact ⟨rfl, rfl⟩

/-- The field has room for the counter's bit, and keeps the others. -/
theorem fld_or_halfBit_lt (s : State) (m i : Nat) : s.fld (halfFld i) m ||| 2 ^ (i % 32) < 2 ^ ((halfFld i).hi + 1 - (halfFld i).lo) := by
  have hbit : 2 ^ (i % 32) < 2 ^ ((halfFld i).hi + 1 - (halfFld i).lo) := by
    obtain ⟨hhi, hlo⟩ := halfFld_whole i
    rw [hhi, hlo]
    exact Nat.pow_lt_pow_right (by decide) (Nat.mod_lt i (by decide))
  exact Nat.or_lt_two_pow (fld_lt s (halfFld i) m 0) hbit

theorem fld_macCount_of_halfRises {s : State} {m i n : Nat} (h : s.halfRises m i n = true) :
    (s.macCount m i n).fld (halfFld i) m = s.fld (halfFld i) m ||| 2 ^ (i % 32) := by
  have hhi : (halfFld i).hi < 32 := by rw [(halfFld_whole i).1]; decide
  rw [macCount_of_halfRises h, fld_setFld_same _ _ _ _ _ hhi, Nat.mod_eq_of_lt (fld_or_halfBit_lt _ m i),
    fld_of_regs _ _ (macTally_regs s m i n)]

theorem onlyWords_setFld (s : State) (f : Fld) (v i j : Nat) : s.onlyWords (s.setFld f v i j) [f.addr i j] :=
  fun _ ha => reg_setReg_other s _ _ _ (List.ne_of_not_mem_cons ha)

theorem onlyWords_of_regs {s t : State} (h : t.regs = s.regs) (l : List Nat) : s.onlyWords t l :=
  fun a _ => reg_of_regs t s h a

theorem onlyWords_macCount_of_halfRises {s : State} {m i n : Nat} (h : s.halfRises m i n = true) :
    s.onlyWords (s.macCount m i n) [(halfFld i).addr m 0] := by
  rw [macCount_of_halfRises h]
  exact (onlyWords_of_regs (macTally_regs s m i n) _).trans (onlyWords_setFld _ _ _ m 0)

/-! ## The MAC interrupt line (R591) -/

/-- A field that is not zero makes its word so. -/
theorem reg_ne_zero_of_fld {s : State} {f : Fld} {i j : Nat} (h : s.fld f i j ≠ 0) : s.reg (f.addr i j) ≠ 0 := by
  intro h0
  exact h (by simp [fld, h0, getBits])

theorem resetWord_half : ∀ m < 32, resetWord (F.MAC_STAT_HALF_LO_HALF.addr m 0) = 0 ∧ resetWord (F.MAC_STAT_HALF_HI_HALF.addr m 0) = 0 := by
  decide +kernel

/-- The half-range words are 0 after reset, so the interrupt lines see them as they read. -/
theorem word0_addr_halfFld (s : State) {m : Nat} (i : Nat) (hm : m < 32) :
    s.word0 ((halfFld i).addr m 0) = s.reg ((halfFld i).addr m 0) := by
  obtain ⟨hlo, hhi⟩ := resetWord_half m hm
  refine word0_eq_reg ?_ s
  unfold halfFld
  split
  · exact hlo
  · exact hhi

/-- A half-range bit of any MAC holds the MAC line up, whichever of the other three lines are: each adds its own power of two. -/
theorem testBit_intLines_of_half {s : State} {m i : Nat} (hm : m < 32) (h : s.fld (halfFld i) m ≠ 0) :
    s.intLines.testBit 10 = true := by
  have hw : s.word0 ((halfFld i).addr m 0) ≠ 0 := by
    rw [word0_addr_halfFld s i hm]
    exact reg_ne_zero_of_fld h
  have hany : (List.range 32).any (fun m => s.word0 (F.MAC_STAT_HALF_LO_HALF.addr m 0) != 0 ||
      s.word0 (F.MAC_STAT_HALF_HI_HALF.addr m 0) != 0) = true := by
    refine List.any_eq_true.mpr ⟨m, List.mem_range.mpr hm, Bool.or_eq_true_iff.mpr ?_⟩
    unfold halfFld at hw
    split at hw
    · exact .inl (bne_iff_ne.mpr hw)
    · exact .inr (bne_iff_ne.mpr hw)
  unfold intLines
  dsimp only
  rw [if_pos hany]
  split <;> split <;> split <;> rfl

end State

/-- Settles O42: the tally writes no register, so the half-range word is all that a rise of bit 47 writes, and the bit set there
holds the MAC line. -/
theorem counterHalfFullIsSignalled : Obligations.CounterHalfFullIsSignalled := by
  unfold Obligations.CounterHalfFullIsSignalled
  intro m i n s hm _
  refine ⟨fun hold hnew => ?rises, fun hstill => ?still⟩
  case rises =>
    have h : s.halfRises m i n = true := State.halfRises_eq_true.mpr ⟨hold, hnew⟩
    have hfld := State.fld_macCount_of_halfRises h
    have hset : (s.macCount m i n).fld (State.halfFld i) m ≠ 0 := by
      rw [hfld]
      exact fun h0 => (Nat.two_pow_pos (i % 32)).ne' (Nat.or_eq_zero_iff.mp h0).2
    exact ⟨hfld, State.testBit_intLines_of_half hm hset, State.onlyWords_macCount_of_halfRises h⟩
  case still =>
    have h : s.halfRises m i n = false := State.halfRises_eq_false.mpr hstill
    rw [State.macCount_of_not_halfRises h, State.macTally_regs]

end Sys2Proof.Machine
end

section
/-! PROOFS. Pointers of a Newt bank and their circular buffers (R395). -/

namespace Sys2Proof.Machine

namespace NwtBank

theorem getD_bump_same {b : NwtBank} {n : Nat} (d : Int) (hn : n < b.p.length) : (b.bump n d).p.getD n 0 = b.movePtr n d := by
  simp [bump, hn]

theorem getD_bump_other {b : NwtBank} {n j : Nat} (d : Int) (hj : j ≠ n) : (b.bump n d).p.getD j 0 = b.p.getD j 0 := by
  simp [bump, List.getElem?_set_ne hj.symm]

/-- With Ln = 0 the pointer moves modulo the address space. -/
theorem movePtr_of_len_eq_zero {b : NwtBank} {n : Nat} (d : Int) (hl : (b.l.getD n 0).toNat = 0) :
    ((b.movePtr n d).toNat : Int) = (b.ptr n + d) % 2 ^ 18 := by
  rw [movePtr, if_pos hl, BitVec.toNat_ofInt]
  omega

/-- With a buffer inside the address space the pointer is the offset of the moved address into the buffer, modulo the length;
where the move stays in the buffer that offset is below the length. -/
theorem movePtr_of_len_ne_zero {b : NwtBank} {n : Nat} (d : Int) (hl : (b.l.getD n 0).toNat ≠ 0)
    (hb : (b.b.getD n 0).toNat + (b.l.getD n 0).toNat ≤ 2 ^ 18) :
    ((b.movePtr n d).toNat : Int) =
      (b.b.getD n 0).toNat + ((b.ptr n : Int) + d - (b.b.getD n 0).toNat) % (b.l.getD n 0).toNat := by
  have hlen : (0 : Int) < (b.l.getD n 0).toNat := by omega
  have hlo := Int.emod_nonneg ((b.ptr n : Int) + d - (b.b.getD n 0).toNat) hlen.ne'
  have hhi := Int.emod_lt_of_pos ((b.ptr n : Int) + d - (b.b.getD n 0).toNat) hlen
  rw [movePtr, if_neg hl]
  split
  case isTrue hin =>
    obtain ⟨hge, hlt⟩ := hin
    rw [Int.emod_eq_of_lt (by omega) (by omega), BitVec.toNat_ofInt]
    omega
  case isFalse =>
    rw [BitVec.toNat_ofInt]
    omega

end NwtBank

/-- A base and an offset modulo the length lie in the buffer, whole lengths away from the address, which stays where it lay inside. -/
theorem base_add_emod_in_buffer {a base len : Nat} {x : Int} (hl : len ≠ 0) (ha : (a : Int) = base + (x - base) % len) :
    (base ≤ a ∧ a < base + len ∧ ∃ k : Int, (a : Int) = x + k * len) ∧
      ((base : Int) ≤ x → x < base + len → (a : Int) = x) := by
  have hlen : (0 : Int) < len := by omega
  have hlo := Int.emod_nonneg (x - base) hlen.ne'
  have hhi := Int.emod_lt_of_pos (x - base) hlen
  refine ⟨⟨by omega, by omega, -((x - base) / len), ?turns⟩, fun hge hlt => ?plain⟩
  case turns =>
    rw [ha, Int.emod_def]
    ring
  case plain =>
    rw [ha, Int.emod_eq_of_lt (by omega) (by omega)]
    ring

/-- Settles O54: a wrapped address is the buffer's base and an offset modulo its length. -/
theorem newtPointersWrapInTheirBuffer : Obligations.NewtPointersWrapInTheirBuffer := by
  unfold Obligations.NewtPointersWrapInTheirBuffer
  intro b n d hn
  dsimp only
  rw [NwtBank.getD_bump_same d hn]
  exact ⟨fun hl => NwtBank.movePtr_of_len_eq_zero d hl,
    fun hl hb => base_add_emod_in_buffer hl (NwtBank.movePtr_of_len_ne_zero d hl hb),
    fun j hj => NwtBank.getD_bump_other d hj⟩

end Sys2Proof.Machine
end

section
/-! PROOFS. Newt rows in straight line: what a result without branch, jump or timer makes of the run, and traps (R399 to R401). -/

namespace Sys2Proof.Machine

section
variable {s : State} {c k : Nat} {x : NwtCore} {r : NwtRun} {t : NwtTask} {row : Instr} {f : NwtCtx → NwtRes}

/-- A row that leaves the bank `b` and queues the results `w` moves its run. -/
theorem goes_moved {b : NwtBank} {w : List NwtWrite} {n : Nat} (h : s.RunsAt c x r t)
    (hx : exec row s = runEff (fun s => s.newt c k f) s)
    (hf : f (ctxOf s x r t) = { bank := b, writes := w, cycles := n }) : Goes k row s c x t (r.moved b w n) :=
  goes_of h hx hf (moved_eq r b w n)

/-- A row whose effect is a trap traps after one cycle. -/
theorem traps_of {code : Nat} (h : s.RunsAt c x r t) (hx : exec row s = runEff (fun s => s.newt c k f) s)
    (hf : f (ctxOf s x r t) = (ctxOf s x r t).trapped code) : Traps k row s c x r code :=
  does_of hx (newt_trap h k f (by rw [hf]; rfl) (by rw [hf]; rfl))

/-- A row with a result for a V register lands its lanes; the scalar reading does not matter. -/
theorem goes_vec {d : BitVec 6} {lanes : List (BitVec 32 × Bool)} {v : BitVec 32} (h : s.RunsAt c x r t)
    (hx : exec row s = runEff (fun s => s.newt c k f) s) (hd : d.toNat < 16)
    (hf : f (ctxOf s x r t) = (ctxOf s x r t).dest d lanes v) :
    Goes k row s c x t (r.moved (r.bank.landing d lanes 0).1 (r.bank.landing d lanes 0).2 1) :=
  goes_moved h hx (hf.trans (dest_landing s x r t d lanes v 0 (.inl hd)))

/-- A multiply of lanes queues the old accumulator combined with the products; the accumulator it reads is by definition the
forwarded one (R401). -/
theorem goes_mac {i : NwtIns} {g : BitVec 80 → BitVec 80 → BitVec 80} (h : s.RunsAt c x r t)
    (hx : exec row s = runEff (fun s => s.newt c k (mac g i)) s) :
    Goes k row s c x t (r.moved r.bank
      [.acc i.ak.toNat (List.zipWith g (r.forwarded i.ak.toNat)
        (List.zipWith mulQ31 (r.bank.lanes i.sa) (r.bank.lanes i.sb))) true] 1) :=
  goes_moved h hx rfl

end

end Sys2Proof.Machine
end

section
/-! PROOFS. Accumulator lanes: exact products, accumulation modulo 2^80 and the saturation of ASHF (R391). -/

namespace Sys2Proof.Machine

/-- A product of two Q1.31 words needs 63 bits, so an accumulator lane holds it exactly. -/
theorem toInt_mulQ31 (a b : BitVec 32) : (mulQ31 a b).toInt = a.toInt * b.toInt := by
  have hhi : a.toInt * b.toInt ≤ 2 ^ 62 := BitVec.toInt_mul_toInt_le
  have hlo : -(2 ^ 62) ≤ a.toInt * b.toInt := BitVec.le_toInt_mul_toInt
  exact BitVec.toInt_ofInt_eq_self (by decide) (by omega) (by omega)

theorem toInt_add_mulQ31 (o : BitVec 80) (a b : BitVec 32) :
    (o + mulQ31 a b).toInt = (o.toInt + a.toInt * b.toInt).bmod (2 ^ 80) := by
  rw [BitVec.toInt_add, toInt_mulQ31]

theorem toInt_sub_mulQ31 (o : BitVec 80) (a b : BitVec 32) :
    (o - mulQ31 a b).toInt = (o.toInt - a.toInt * b.toInt).bmod (2 ^ 80) := by
  rw [BitVec.toInt_sub, toInt_mulQ31]

/-- Saturation clamps to the range of an accumulator lane. -/
theorem toInt_satAcc (x : Int) : (satAcc x).1.toInt = max (-(2 ^ 79)) (min (2 ^ 79 - 1) x) := by
  unfold satAcc
  split
  case isTrue hlo =>
    have hmin : (BitVec.ofInt 80 (-(2 ^ 79))).toInt = -(2 ^ 79) := by decide
    dsimp only
    omega
  case isFalse hlo =>
    split
    case isTrue hhi =>
      have hmax : (BitVec.ofInt 80 (2 ^ 79 - 1)).toInt = 2 ^ 79 - 1 := by decide
      dsimp only
      omega
    case isFalse hhi =>
      have hin : (BitVec.ofInt 80 x).toInt = x := BitVec.toInt_ofInt_eq_self (by decide) (by omega) (by omega)
      dsimp only
      omega

/-- SAT is set where the value lies outside that range. -/
theorem satAcc_saturates_iff (x : Int) : (satAcc x).2 = true ↔ x < -(2 ^ 79) ∨ 2 ^ 79 - 1 < x := by
  unfold satAcc
  split
  case isTrue hlo => exact iff_of_true rfl (.inl hlo)
  case isFalse hlo =>
    split
    case isTrue hhi => exact iff_of_true rfl (.inr hhi)
    case isFalse hhi => exact iff_of_false Bool.false_ne_true (not_or.mpr ⟨hlo, hhi⟩)

/-- A left shift by ASHF is a saturated multiplication. -/
theorem ashfLane_left (a : BitVec 80) (n : Nat) : ashfLane a n = satAcc (a.toInt * 2 ^ n) :=
  if_pos (Int.natCast_nonneg n)

/-- A shift of ASHF in its stated range shifts each lane. -/
theorem nwtAshf_of_range {i : NwtIns} (y : NwtCtx) (hlo : -32 ≤ i.imm.toInt) (hhi : i.imm.toInt ≤ 32) :
    nwtAshf i y =
      (let l := (y.bank.accOf i.ak.toNat).map (fun a => ashfLane a i.imm.toInt)
       { bank := y.bank, writes := [.acc i.ak.toNat (l.map (·.1)) false, .flags none (some (l.map (·.2)))] }) := by
  simp only [nwtAshf, if_pos (And.intro hlo hhi)]

/-- Settles O52: the rows queue the combined products, and the arithmetic is that of the lanes. -/
theorem newtProductsAreExact : Obligations.NewtProductsAreExact := by
  unfold Obligations.NewtProductsAreExact
  refine ⟨fun c i s x r t h => ⟨?vmul, ?vmac, ?vmsb, fun hlo hhi => ?ashf⟩, toInt_mulQ31,
    fun o a b => ⟨toInt_add_mulQ31 o a b, toInt_sub_mulQ31 o a b⟩, fun a n => ?left⟩
  case vmul => exact goes_mac h (exec_vmul c i s)
  case vmac => exact goes_mac h (exec_vmac c i s)
  case vmsb => exact goes_mac h (exec_vmsb c i s)
  case ashf => exact goes_moved h (exec_ashf c i s) (nwtAshf_of_range _ hlo hhi)
  case left =>
    rw [ashfLane_left]
    exact ⟨toInt_satAcc _, satAcc_saturates_iff _⟩

end Sys2Proof.Machine
end

section
/-! PROOFS. The filter tap and the rows that clear, round, count and shift an accumulator (R392, R393, R400). -/

namespace Sys2Proof.Machine

/-- The trap of FTAP's three accesses: the words at Pa, the word at Pb, the words above those at Pa (R400). -/
def ftapAccess (i : NwtIns) (y : NwtCtx) : Option Nat :=
  ((y.task.access false (y.bank.ptr (pIdx i.sa)) 8).orElse fun _ => y.task.access false (y.bank.ptr (pIdx i.sb)) 1).orElse
    fun _ => y.task.access true (y.bank.ptr (pIdx i.sa) + 32) 8

theorem ftapAccess_eq_none {i : NwtIns} {y : NwtCtx} (hl : y.task.access false (y.bank.ptr (pIdx i.sa)) 8 = none)
    (hq : y.task.access false (y.bank.ptr (pIdx i.sb)) 1 = none)
    (hs : y.task.access true (y.bank.ptr (pIdx i.sa) + 32) 8 = none) : ftapAccess i y = none := by
  simp only [ftapAccess, hl, hq, hs, Option.orElse_none]

theorem nwtFtap_of_access {i : NwtIns} {y : NwtCtx} (ha : ftapAccess i y = none) :
    nwtFtap i y =
      (let l := memWords y.mem (y.bank.ptr (pIdx i.sa)) 8
       let w := memWord y.mem (y.bank.ptr (pIdx i.sb))
       { bank := (y.bank.bump (pIdx i.sa) (-32)).bump (pIdx i.sb) 4,
         writes := [.acc i.ak.toNat (List.zipWith (fun o v => o + mulQ31 v w) (y.macAcc i.ak.toNat) l) true,
           .mem (y.bank.ptr (pIdx i.sa) + 32) (wordBytes l)] }) := by
  unfold ftapAccess at ha
  simp only [nwtFtap, ha, bump2]

theorem nwtFtap_of_trap {i : NwtIns} {y : NwtCtx} {code : Nat} (ha : ftapAccess i y = some code) :
    nwtFtap i y = y.trapped code := by
  unfold ftapAccess at ha
  simp only [nwtFtap, ha]

theorem nwtVmacm_of_access {i : NwtIns} {y : NwtCtx} (ha : y.task.access false (y.bank.ptr (pIdx i.sb)) 1 = none) :
    nwtVmacm i y =
      (let w := memWord y.mem (y.bank.ptr (pIdx i.sb))
       { bank := y.bank.bump (pIdx i.sb) 4,
         writes := [.acc i.ak.toNat
           (List.zipWith (fun o v => o + mulQ31 v w) (y.macAcc i.ak.toNat) (y.bank.lanes i.sa)) true] }) := by
  simp only [nwtVmacm, ha]

theorem nwtVmacm_of_trap {i : NwtIns} {y : NwtCtx} {code : Nat}
    (ha : y.task.access false (y.bank.ptr (pIdx i.sb)) 1 = some code) : nwtVmacm i y = y.trapped code := by
  simp only [nwtVmacm, ha]

/-- EXP of an accumulator writes each lane's exponent. -/
theorem nwtExp_of_alt {i : NwtIns} (y : NwtCtx) (ha : i.alt = true) :
    ∃ v, nwtExp i y = y.dest i.dst ((y.bank.accOf i.ak.toNat).map (fun a => (BitVec.ofInt 32 (expAcc a), false))) v := by
  simp only [nwtExp, ha, if_true, List.map_map]
  exact ⟨_, rfl⟩

theorem nwtExp_of_not_alt {i : NwtIns} (y : NwtCtx) (ha : i.alt = false) :
    nwtExp i y = y.dest i.dst ((y.bank.lanes i.sa).map (fun a => (BitVec.ofNat 32 (expWord a), false)))
      (BitVec.ofNat 32 (expWord (y.sc i.sa 0))) := by
  simp only [nwtExp, ha, Bool.false_eq_true, if_false, alu1]

/-- NORM of an accumulator writes each lane's exponent and shifts the lane by it. -/
theorem nwtNorm_of_alt {i : NwtIns} (y : NwtCtx) (ha : i.alt = true) :
    ∃ v, nwtNorm i y =
      (let e := y.dest i.dst ((y.bank.accOf i.ak.toNat).map (fun a => (BitVec.ofInt 32 (expAcc a), false))) v
       { e with writes := e.writes ++ [.acc i.ak.toNat ((y.bank.accOf i.ak.toNat).map normAcc) false] }) := by
  simp only [nwtNorm, ha, if_true, List.map_map]
  exact ⟨_, rfl⟩

theorem nwtNorm_of_not_alt {i : NwtIns} (y : NwtCtx) (ha : i.alt = false) :
    nwtNorm i y = y.dest i.dst ((y.bank.lanes i.sa).map (fun a => (a <<< expWord a, false))) (normWord (y.sc i.sa 0)) := by
  simp only [nwtNorm, ha, Bool.false_eq_true, if_false, alu1, normWord]

/-- Settles O53: each row by its effect, whose accesses are those of the statement. -/
theorem newtFilterTap : Obligations.NewtFilterTap := by
  unfold Obligations.NewtFilterTap
  intro c i s x r t h
  refine ⟨fun hl hq hs => ?ftap, fun code ha => ?ftapTrap, fun ha => ?vmacm, fun code ha => ?vmacmTrap, ?aclr,
    fun hd => ?rnd, fun hd ha => ⟨?expAcc, ?normAcc⟩, fun hd ha => ⟨?expWord, ?normWord⟩⟩
  case ftap => exact goes_moved h (exec_ftap c i s) (nwtFtap_of_access (ftapAccess_eq_none hl hq hs))
  case ftapTrap => exact traps_of h (exec_ftap c i s) (nwtFtap_of_trap ha)
  case vmacm => exact goes_moved h (exec_vmacm c i s) (nwtVmacm_of_access ha)
  case vmacmTrap => exact traps_of h (exec_vmacm c i s) (nwtVmacm_of_trap ha)
  case aclr => exact goes_moved h (exec_aclr c i s) rfl
  case rnd => exact goes_vec h (exec_rnd c i s) hd rfl
  case expAcc =>
    obtain ⟨v, hv⟩ := nwtExp_of_alt (ctxOf s x r t) ha
    exact goes_vec h (exec_exp c i s) hd hv
  case normAcc =>
    obtain ⟨v, hv⟩ := nwtNorm_of_alt (ctxOf s x r t) ha
    rw [dest_landing s x r t i.dst _ v 0 (.inl hd)] at hv
    exact goes_moved h (exec_norm c i s) hv
  case expWord => exact goes_vec h (exec_exp c i s) hd (nwtExp_of_not_alt _ ha)
  case normWord => exact goes_vec h (exec_norm c i s) hd (nwtNorm_of_not_alt _ ha)

end Sys2Proof.Machine
end

section
/-! PROOFS. The queue and its commands: what a step runs, that no row stops, the reset state, and register fields. -/

namespace Sys2Proof.Machine

/-! ## Steps and rows -/

/-- Settles O1: a step on a queue that is not empty is the row at its front. -/
theorem stepRunsFrontCommand : Obligations.StepRunsFrontCommand := by
  unfold Obligations.StepRunsFrontCommand
  intro c rest s h
  rw [step, h]

/-- On an empty queue the block idles. -/
theorem step_eq_idle {s : State} (h : s.pending = []) : step s = .next s.idle := by
  rw [step, h]

namespace State

/-- Without links and held frames the link clocks stand still. -/
theorem linkClocks_idle {s : State} (h : s.rst.pUp = true → s.lane.links = [] ∧ s.twn.aksHeld = []) : s.linkClocks = s := by
  unfold linkClocks
  split
  case isTrue => rfl
  case isFalse hp =>
    obtain ⟨hl, ha⟩ := h (by simpa using hp)
    simp [hl, aksGapClock, ha]

/-- Without a command in the last 100 ms the setpoint clock stands still. -/
theorem vddClock_idle {s : State} (h : s.gpio.vddAge = []) : s.vddClock = s := by
  unfold vddClock
  rw [h, List.filterMap_nil, ← h]

/-- A tick of the counters: the tick counter while domain P runs, the age of the cast cycle outside a reset of Chip reach. -/
def ticked (s : State) : State :=
  { s with
    out := []
    tick := if s.rst.pUp then (s.tick + 1) % 2 ^ 64 else s.tick
    sys := { s.sys with castAge := if s.chipHeld then s.sys.castAge else s.sys.castAge + 1 } }

theorem idle_eq (s : State) : s.idle = s.ticked.linkClocks.vddClock := rfl

end State

/-- Settles O2: with nothing for the link and setpoint clocks to count, the counters alone move. -/
theorem idleStepIsOneTick : Obligations.IdleStepIsOneTick := by
  unfold Obligations.IdleStepIsOneTick
  intro s hq hl hv
  have hl' : s.ticked.linkClocks = s.ticked := State.linkClocks_idle hl
  have hv' : s.ticked.vddClock = s.ticked := State.vddClock_idle hv
  rw [step_eq_idle hq, State.idle_eq, hl', hv']
  rfl

/-- Every row answers a next state that its effect and the common frame give. -/
theorem exec_next_commit (i : Instr) (s : State) : ∃ t, exec i s = .next (s.commit t) := by
  obtain ⟨f, hf⟩ := exec_eff i s
  exact ⟨_, hf.trans (runEff_next f s)⟩

/-- Settles O3: the common frame restores the queue and bounds the stores. -/
theorem everyCommandAnswersNextState : Obligations.EveryCommandAnswersNextState := by
  unfold Obligations.EveryCommandAnswersNextState
  intro i s
  obtain ⟨t, ht⟩ := exec_next_commit i s
  refine ⟨_, ht, State.commit_pending s t, ?jnl, fun k => ?stored⟩
  case jnl =>
    rw [State.commit_jnl]
    exact lastN_length _ _
  case stored =>
    rw [State.commit_stored]
    exact boundStored_length _ k

/-! ## The queue -/

/-- A step on a queue that is not empty ends in the state that its first command gives, with that command taken off. -/
theorem step_eq_after {c : Instr} {rest : List Instr} {s : State} (h : s.pending = c :: rest) :
    step s = .next (after c { s with pending := s.pending.drop 1 }) ∧ (after c { s with pending := s.pending.drop 1 }).pending = rest := by
  have hd : s.pending.drop 1 = rest := by rw [h]; rfl
  obtain ⟨t, ht⟩ := exec_next_commit c { s with pending := rest }
  rw [stepRunsFrontCommand c rest s h, hd, after, ht]
  exact ⟨rfl, State.commit_pending _ _⟩

/-- Settles O6, by induction on the commands in front: each step takes one off and leaves those behind it. -/
theorem queueRunsFirstInFirstOut : Obligations.QueueRunsFirstInFirstOut := by
  unfold Obligations.QueueRunsFirstInFirstOut
  intro cs more
  induction cs with
  | nil => exact fun s h => ⟨rfl, h⟩
  | cons c cs ih =>
    intro s h
    obtain ⟨hs, hp⟩ := step_eq_after h
    rw [List.length_cons, runFor, hs]
    exact ih _ hp

/-! ## Reset -/

/-- Settles O5: nothing is listed after reset, so every word reads its table's reset value. -/
theorem resetIsBoundedAndEmpty : Obligations.ResetIsBoundedAndEmpty := by
  unfold Obligations.ResetIsBoundedAndEmpty
  exact ⟨⟨Nat.zero_le _, rfl⟩, rfl, fun _ => rfl, rfl, rfl, rfl, rfl, rfl, rfl, rfl, rfl⟩

/-! ## Fields -/

/-- Settles O7, by the three laws of a field's write. -/
theorem fieldReadsAsWritten : Obligations.FieldReadsAsWritten := by
  unfold Obligations.FieldReadsAsWritten
  intro s f g v i j k l hf hg
  exact ⟨State.fld_setFld_same s f v i j hf, fun h => State.fld_setFld_word s f g v i j k l h,
    fun h hd => State.fld_setFld_bits s f g v i j k l h hg hd⟩

/-! ## Packet rows -/

namespace State

/-- A packet whose source is not served leaves everything (R455, R473). -/
theorem arrive_unserved {s : State} {op : Nat} {c : Cmd} {b : Bytes}
    (h : s.sys.mode = .cold ∨ s.rst.aUp = false ∨ s.flag F.CMD_SRC_CFG_EN c.src.val = false) : s.arrive op c b = s := by
  unfold arrive
  refine if_pos ?_
  rcases h with h | h | h
  · exact .inl h
  · exact .inr (.inl (by simp [h]))
  · exact .inr (.inr (.inr (.inr (by simp [h]))))

end State

/-- Settles O8: a row's opcode is in the table, and arrival looks at no packet of a source that is not served. -/
theorem commandRowsNameTheirOpcode : Obligations.CommandRowsNameTheirOpcode := by
  unfold Obligations.CommandRowsNameTheirOpcode
  intro i op c s h
  obtain ⟨hx, hop⟩ := command_exec i op c s h
  refine ⟨hop, fun hsrc hlen hoff => does_of (o := []) hx ?_⟩
  show s.begin.commandRow op c = s.begin
  rw [State.commandRow, if_neg hsrc]
  exact State.arrive_unserved (by rw [if_pos hlen]; exact hoff)

end Sys2Proof.Machine
end

section
/-! PROOFS. The bounds on the stores over an idle step (R465, R470): a tick delivers the Akestim frames held behind an abandoned one
(R117, R118) outside the common frame of the rows, so what they journal is not cut. -/

namespace Sys2Proof.Machine

/-- A command that the active refused, as its cast record carries it. -/
def refusedRec : RecCmd :=
  { op := opPing, cmd := { src := 0 }, order := 0, status := 0x0302, isLocal := false, timed := false, payload := [], epoch := 1 }

/-- A standby with a full journal and a cast record held since 6 µs, whose command is journalled as it is delivered. -/
def fullJournalStandby : State :=
  { Tests.twin .hold 1 1 0 with
    tick := 6000
    jnl := List.replicate 16384 ⟨0, 0, 0, 0, 0, 0, 0, 0, 0, 0⟩
    twn := { TwnState.reset with aksHeld := [(0, 0, .record { Tests.rec1 with cmds := [refusedRec] } true)] } }

theorem bounded_fullJournalStandby : fullJournalStandby.Bounded :=
  ⟨(List.length_replicate ..).le, rfl⟩

/-- The tick delivers the record, and its entry is the 16,385th. -/
theorem length_jnl_idle_fullJournalStandby : fullJournalStandby.idle.jnl.length = 16385 := by decide +kernel

/-- Refutes O4: an idle step that delivers a held cast record journals its commands past 16,384 entries. -/
theorem not_boundedStoresKept : ¬ Obligations.BoundedStoresKept := by
  unfold Obligations.BoundedStoresKept
  intro h
  obtain ⟨hlen, -⟩ := h fullJournalStandby _ bounded_fullJournalStandby (step_eq_idle rfl)
  rw [length_jnl_idle_fullJournalStandby] at hlen
  exact absurd hlen (by decide)

end Sys2Proof.Machine
end

section
/-! PROOFS. Arrival of packets (R453 to R464): what a consumed packet leaves, SESSION_OPEN, a packet outside its source's session,
and the commands of CS12. -/

namespace Sys2Proof.Machine

namespace State

/-! ## Answers -/

theorem queueReply_replies (s : State) (c : Cmd) (r : Reply) : RepliesOnly s (s.queueReply c r) := by
  constructor <;> intros <;> rfl

/-- An answer that consumes no SEQ changes nothing but replies on their way out. -/
theorem answer_replies (s : State) (c : Cmd) (r : RefRec) : RepliesOnly s (s.answer c r) :=
  (queueReply_replies s c _).trans (release_replies _)

end State

/-- A field outside the words of the completion rings' producer indices is left by the release of replies. -/
theorem RepliesOnly.fld {s t : State} (h : RepliesOnly s t) (f : Fld) (i j : Nat)
    (ha : ∀ k, f.addr i j ≠ F.CMD_RING_CFG_CPL_PROD.addr k 0) : t.fld f i j = s.fld f i j :=
  State.fld_of_reg (h.regs _ ha)

theorem addr_nextSeq_ne_cplProd (src : Fin 16) (k : Nat) :
    F.CMD_SRC_SEQ_NEXT_SEQ.addr src.val 0 ≠ F.CMD_RING_CFG_CPL_PROD.addr k 0 := by
  have := src.isLt
  simp only [Fld.addr, F.CMD_SRC_SEQ_NEXT_SEQ, F.CMD_RING_CFG_CPL_PROD]
  omega

namespace State

/-! ## Consumed packets -/

/-- An accepted packet writes NEXT_SEQ alone among the register words. -/
theorem onlyWords_consume_accept (s : State) (op : Nat) (c : Cmd) :
    s.onlyWords (s.consume op c .accept) [F.CMD_SRC_SEQ_NEXT_SEQ.addr c.src.val 0] :=
  onlyWords_setFld s F.CMD_SRC_SEQ_NEXT_SEQ ((c.seq.toNat + 1) % 4294967296) c.src.val 0

/-- A SESSION_OPEN whose counter is higher than the stored one and which the checks accept is consumed (R462). -/
theorem arriveOpen_accept {s : State} {op : Nat} {c : Cmd}
    (hctr : isNet c.src.val = true → c.params.length = 8 →
      s.view.pair F.CMD_NET_EP_OPEN_CTR_LO F.CMD_NET_EP_OPEN_CTR_HI (c.src.val - 8) < u64 c.params 0)
    (hheld : s.cmd.held.all (fun h => h.cmd.src.val != c.src.val) = true) (hj : s.judge op c = .accept) :
    s.arriveOpen op c = s.consume op c .accept := by
  unfold arriveOpen
  dsimp only
  rw [if_neg (fun ⟨hn, hle, hl⟩ => absurd (hctr hn hl) (Nat.not_lt.mpr hle)), hj, if_pos (.inl rfl)]
  exact held_none _ _ _ (by rw [consume_held]; exact hheld)

theorem arriveSeq_open (s : State) (c : Cmd) : s.arriveSeq opSessionOpen c = s.arriveOpen opSessionOpen c := by
  rw [arriveSeq, if_pos rfl]

/-- A packet outside its source's session is answered 0x0303 (R461). -/
theorem arriveSeq_of_session {s : State} {op : Nat} {c : Cmd} (hop : op ≠ opSessionOpen)
    (h : s.sessionOf c.src.val = 0 ∨ c.session.toNat ≠ s.sessionOf c.src.val) :
    s.arriveSeq op c = s.answer c (rejAll 0x0303) := by
  unfold arriveSeq
  dsimp only
  rw [if_neg hop]
  exact if_pos h

end State

/-- Settles O9: a packet that passes steps 0 to 7 is consumed, and its reply is the last that its source keeps. -/
theorem admittedCommandConsumesSeq : Obligations.AdmittedCommandConsumesSeq := by
  unfold Obligations.AdmittedCommandConsumesSeq
  intro i op c s hi ht
  obtain ⟨hx, -⟩ := command_exec i op c s hi
  obtain ⟨key, hkey, hrow⟩ := arrive_takes s.begin op c ht
  obtain ⟨hseq, hadm, hunr, hjnl, hev, hst, hmode, hep, hregs⟩ :=
    consume_facts s.begin op { c with key := key } (s.begin.judge op { c with key := key })
  rw [← hrow] at hseq hadm hunr hjnl hev hst hmode hep hregs
  refine ⟨_, key, hx.trans (runEff_next _ s), hkey, ?seq, ?adm, ?unr, ?jnl, ?ev, ?stored, ?words, ?mode, ?epoch⟩
  case seq => exact (commit_fld ..).trans hseq
  case adm => exact (commit_admitted ..).trans hadm
  case unr => exact (commit_unreleased ..).trans hunr
  case jnl => rw [commit_jnlNext, hjnl, State.begin_jnl]
  case ev => rw [commit_events, hev, State.begin_events]
  case stored =>
    rw [commit_storedNext, hst]
    exact ⟨_, mem_boundStored_last _ _ c.src.isLt, rfl, rfl, rfl, rfl⟩
  case words =>
    intro a ha
    obtain ⟨h1, h2⟩ := not_or.mp (mt List.mem_cons.mpr ha)
    rw [commit_reg, hregs a h1 (List.ne_of_not_mem_cons h2), State.reg_begin]
  case mode => rw [commit_sys, hmode, State.begin_sys]
  case epoch => rw [commit_sys, hep, State.begin_sys]

/-- Settles O10: the counter check is passed, so an accepted SESSION_OPEN is consumed whatever its SEQ. -/
theorem sessionOpenIsAdmitted : Obligations.SessionOpenIsAdmitted := by
  unfold Obligations.SessionOpenIsAdmitted
  intro c s hs hctr
  obtain ⟨key, hkey, hrow⟩ := arrive_served s.begin opSessionOpen c hs
  refine ⟨key, hkey, fun hj => ?_⟩
  have hopen : s.begin.commandRow opSessionOpen c = s.begin.consume opSessionOpen { c with key := key } .accept :=
    hrow.trans ((State.arriveSeq_open ..).trans (State.arriveOpen_accept (c := { c with key := key }) hctr hs.held hj))
  obtain ⟨hseq, hadm, -, hjnl, -⟩ := consume_facts s.begin opSessionOpen { c with key := key } .accept
  rw [← hopen] at hseq hadm hjnl
  refine ⟨_, (exec_sessionOpen c s).trans (runEff_next _ s), ?seq, ?adm, ?jnl, ?words⟩
  case seq => exact (commit_fld ..).trans hseq
  case adm => exact (commit_admitted ..).trans hadm
  case jnl => exact (commit_jnlNext ..).trans (congrArg (lastN 16384) hjnl)
  case words =>
    have hw := State.onlyWords_consume_accept s.begin opSessionOpen { c with key := key }
    rw [← hopen] at hw
    exact hw.commit s

/-- Settles O11: such a packet is answered 0x0303, and an answer changes nothing but replies on their way out. -/
theorem wrongSessionConsumesNoSeq : Obligations.WrongSessionConsumesNoSeq := by
  unfold Obligations.WrongSessionConsumesNoSeq
  intro i op c s hi hop hs hsess
  obtain ⟨hx, -⟩ := command_exec i op c s hi
  obtain ⟨key, -, hrow⟩ := arrive_served s.begin op c hs
  have hans : RepliesOnly s.begin (s.begin.commandRow op c) := by
    rw [hrow, State.arriveSeq_of_session (c := { c with key := key }) hop hsess]
    exact State.answer_replies ..
  refine ⟨_, hx.trans (runEff_next _ s), ?seq, ?adm, ?jnl, ?sys⟩
  case seq => exact (commit_fld ..).trans (hans.fld _ _ _ (addr_nextSeq_ne_cplProd c.src))
  case adm => exact (commit_admitted ..).trans hans.cmd_admitted
  case jnl => exact (commit_jnlNext ..).trans (congrArg (lastN 16384) hans.jnl)
  case sys => exact (commit_sys ..).trans hans.sys

/-! ## CS12 (R287, R463) -/

/-- The command that CS12 submits: the device numbers it and leaves it untimed. -/
def State.numbered12 (s : State) (c : Cmd) : Cmd :=
  { c with
    src := 12, seq := BitVec.ofNat 32 (s.fld F.CMD_SRC_SEQ_NEXT_SEQ 12), flags := c.flags &&& 0xFD#8
    session := BitVec.ofNat 32 (s.fld F.CMD_SRC_SEQ_SESSION 12) }

theorem State.isTimed_numbered12 (s : State) (c : Cmd) : (s.numbered12 c).isTimed = false := by
  simp [Cmd.isTimed, State.numbered12]

theorem State.commandRow_cs12 {s : State} {op : Nat} {c : Cmd} (hc : c.src.val = 12) (h1 : s.sys.mode ≠ .cold)
    (h2 : s.sys.mode ≠ .hold) (h3 : s.fwServes = true) (h4 : s.outstanding 12 < 256) (h5 : s.flag F.CMD_SRC_CFG_EN 12 = true) :
    s.commandRow op c = s.consume op (s.numbered12 c) (s.judge op (s.numbered12 c)) := by
  unfold State.commandRow
  rw [if_pos hc, if_neg (by simp [h1, h2, h3, Nat.not_le.mpr h4])]
  unfold State.submit12
  exact if_neg (by simp [h5])

/-- Settles O12: CS12 consumes the command that the device numbered. -/
theorem macroCommandsAreNumberedByTheDevice : Obligations.MacroCommandsAreNumberedByTheDevice := by
  unfold Obligations.MacroCommandsAreNumberedByTheDevice
  intro i op c s hi hc h1 h2 h3 h4 h5
  obtain ⟨hx, -⟩ := command_exec i op c s hi
  have hrow := State.commandRow_cs12 (s := s.begin) (op := op) hc h1 h2 h3 h4 h5
  obtain ⟨hseq, hadm, -⟩ := consume_facts s.begin op (s.begin.numbered12 c) (s.begin.judge op (s.begin.numbered12 c))
  rw [← hrow] at hseq hadm
  rw [State.isTimed_numbered12] at hadm
  refine ⟨_, _, s.numbered12 c, hx.trans (runEff_next _ s), (commit_admitted ..).trans hadm, rfl, ?seq⟩
  have hlt : s.fld F.CMD_SRC_SEQ_NEXT_SEQ 12 < 2 ^ 32 := State.fld_lt ..
  refine (commit_fld ..).trans (hseq.trans ?_)
  show ((BitVec.ofNat 32 (s.fld F.CMD_SRC_SEQ_NEXT_SEQ 12)).toNat + 1) % 4294967296 = _
  rw [BitVec.toNat_ofNat, Nat.mod_eq_of_lt hlt]

end Sys2Proof.Machine
end

section
/-! PROOFS. Newt rows of every kind (R392 to R408): a core without a run, operands, and results that need more than a moved run. -/

namespace Sys2Proof.Machine

/-! ## Rows and cores -/

/-- An instruction row is one issue on its core. -/
theorem NewtRow.exec_newt {c : Nat} {i : NwtIns} {row : Instr} (h : NewtRow c i row) (s : State) :
    ∃ k f, exec row s = runEff (fun s => s.newt c k f) s := by
  simp only [NewtRow, List.mem_cons, List.not_mem_nil, or_false] at h
  rcases h with rfl | rfl | rfl | rfl | rfl | rfl | rfl | rfl | rfl | rfl | rfl | rfl | rfl | rfl | rfl | rfl | rfl | rfl | rfl |
    rfl | rfl | rfl | rfl | rfl | rfl | rfl | rfl | rfl | rfl | rfl | rfl | rfl | rfl | rfl | rfl | rfl | rfl | rfl | rfl | rfl |
    rfl | rfl | rfl | rfl | rfl | rfl <;> exact ⟨_, _, rfl⟩

/-- A core that runs no task issues nothing. -/
theorem newt_of_no_run {s : State} {c : Nat} (h : (s.core c).run = none) (k : Nat) (f : NwtCtx → NwtRes) : s.newt c k f = s := by
  simp only [State.newt, h]

/-! ## Operands and destinations -/

section
variable {s : State} {c k : Nat} {x : NwtCore} {r : NwtRun} {t : NwtTask} {row : Instr} {f : NwtCtx → NwtRes}

/-- A scalar operand other than a V register has no open value. -/
theorem sc_ctxOf {code : BitVec 6} (h : 16 ≤ code.toNat) (j : Nat) : (ctxOf s x r t).sc code j = r.bank.scalar code 0 :=
  scalar_any r.bank code _ 0 h

/-- A result lands as its destination code says; what a V register takes for its scalar reading does not matter. -/
theorem NwtCtx.dest_landing (y : NwtCtx) (d : BitVec 6) (lanes : List (BitVec 32 × Bool)) {v w : BitVec 32}
    (h : d.toNat < 16 ∨ v = w) :
    y.dest d lanes v = { bank := (y.bank.landing d lanes w).1, writes := (y.bank.landing d lanes w).2 } := by
  unfold NwtCtx.dest NwtBank.landing isVec
  by_cases hv : d.toNat < 16
  · simp [hv]
  · obtain rfl := h.resolve_left hv
    by_cases hs : d.toNat < 32 <;> simp [hv, hs]

/-- A row that puts a result into its destination moves its run. -/
theorem goes_landing {d : BitVec 6} {lanes : List (BitVec 32 × Bool)} {v w : BitVec 32} {y : NwtCtx} (h : s.RunsAt c x r t)
    (hx : exec row s = runEff (fun s => s.newt c k f) s) (hv : d.toNat < 16 ∨ v = w) (hf : f (ctxOf s x r t) = y.dest d lanes v) :
    Goes k row s c x t (r.moved (y.bank.landing d lanes w).1 (y.bank.landing d lanes w).2 1) :=
  goes_moved h hx (hf.trans (y.dest_landing d lanes hv))

/-- A row of one operand. -/
theorem goes_alu1 {i : NwtIns} {fv : BitVec 32 → BitVec 32 × Bool} {fs : BitVec 32 → BitVec 32} (h : s.RunsAt c x r t)
    (hx : exec row s = runEff (fun s => s.newt c k (alu1 fv fs i)) s) (ha : i.dst.toNat < 16 ∨ 16 ≤ i.sa.toNat) :
    Goes k row s c x t
      (r.moved (r.bank.landing i.dst ((r.bank.lanes i.sa).map fv) (fs (r.bank.scalar i.sa 0))).1
        (r.bank.landing i.dst ((r.bank.lanes i.sa).map fv) (fs (r.bank.scalar i.sa 0))).2 1) :=
  goes_landing (y := ctxOf s x r t) h hx (ha.imp_right fun ha => congrArg fs (sc_ctxOf ha 0)) rfl

/-- A row of two operands. -/
theorem goes_alu2 {i : NwtIns} {fv : BitVec 32 → BitVec 32 → BitVec 32 × Bool} {fs : BitVec 32 → BitVec 32 → BitVec 32}
    (h : s.RunsAt c x r t) (hx : exec row s = runEff (fun s => s.newt c k (alu2 fv fs i)) s)
    (ha : i.dst.toNat < 16 ∨ 16 ≤ i.sa.toNat) (hb : i.dst.toNat < 16 ∨ 16 ≤ i.sb.toNat) :
    Goes k row s c x t
      (r.moved (r.bank.landing i.dst (List.zipWith fv (r.bank.lanes i.sa) (r.bank.lanes i.sb))
          (fs (r.bank.scalar i.sa 0) (r.bank.scalar i.sb 0))).1
        (r.bank.landing i.dst (List.zipWith fv (r.bank.lanes i.sa) (r.bank.lanes i.sb))
          (fs (r.bank.scalar i.sa 0) (r.bank.scalar i.sb 0))).2 1) := by
  refine goes_landing (y := ctxOf s x r t) h hx ?_ rfl
  rcases ha with ha | ha
  · exact .inl ha
  · refine hb.imp_right fun hb => ?_
    rw [sc_ctxOf ha, sc_ctxOf hb]

/-! ## Branches and jumps -/

/-- A row that puts a branch behind its delay slot. -/
theorem goes_branch {w : List NwtWrite} {br : Option Nat} (h : s.RunsAt c x r t)
    (hx : exec row s = runEff (fun s => s.newt c k f) s) (hf : f (ctxOf s x r t) = { bank := r.bank, writes := w, branch := br }) :
    Goes k row s c x t { r.moved r.bank w 1 with branch := br } :=
  goes_of h hx hf (moved_branch r r.bank w 1 br)

/-- The run after a jump that is not in a delay slot, with the loops that the row leaves open. -/
def NwtRun.jumped (r : NwtRun) (loops : List (Nat × Nat × Nat)) (pc : Nat) : NwtRun :=
  { r.moved r.bank [] 1 with banks := r.banks.set r.level { r.bank with loops := loops }, pc := pc }

theorem goes_jump {loops : List (Nat × Nat × Nat)} {pc : Nat} (h : s.RunsAt c x r t) (hb : r.branch = none)
    (hx : exec row s = runEff (fun s => s.newt c k f) s)
    (hf : f (ctxOf s x r t) = { bank := { r.bank with loops := loops }, jump := some pc }) : Goes k row s c x t (r.jumped loops pc) := by
  refine goes_of h hx hf ?_
  unfold NwtRun.jumped NwtRun.moved NwtRun.advance
  cases r.timer <;> simp [hb]

/-! ## Interrupts and the end of the task -/

/-- The run after a result that does not trap: returned from its handler or advanced, with the new results in flight and the
interrupt raised. -/
def NwtRun.issued (r : NwtRun) (img : Bytes) (res : NwtRes) : NwtRun :=
  let v := if res.rti then ({ r with cycles := r.cycles + 2 } : NwtRun).popRet else r.advance res
  let v := { v with pend := v.pend ++ res.writes.map (fun w => ⟨r.level, 2, w⟩), satSeen := v.satSeen || res.writes.any NwtWrite.saturates }
  match res.irq with
  | some src => v.raiseIrq img src
  | none => v

/-- The state in which a row issues on its core: the results due have landed and the errors met are counted. -/
def issuing (s : State) (c k : Nat) (x : NwtCore) : State := State.corrected { s.begin.setCore c x with free := s.free + 16 } c k

theorem newt_eq_issued (h : s.RunsAt c x r t) (hn : (f (ctxOf s x r t)).trap = none) :
    s.begin.newt c k f =
      (let u := r.issued (s.image t.image) (f (ctxOf s x r t))
       if (f (ctxOf s x r t)).ended then (issuing s c k x).endTask c u
       else if t.budget ≤ u.cycles then (issuing s c k x).trapTask c u trapOverrun
       else (issuing s c k x).setCore c { x with run := some u }) := by
  rw [newt_at h k f hn]
  have hsat : NwtWrite.saturates = fun w => match w with
      | .flags _ (some l) => l.any id
      | _ => false := by
    funext w
    unfold NwtWrite.saturates
    rfl
  unfold NwtRun.issued
  rw [hsat]
  rfl

/-- A row whose result neither traps nor ends the task goes on with the run that the result gives. -/
theorem goes_issued {res : NwtRes} (h : s.RunsAt c x r t) (hx : exec row s = runEff (fun s => s.newt c k f) s)
    (hf : f (ctxOf s x r t) = res) (htrap : res.trap = none) (hend : res.ended = false) :
    Goes k row s c x t (r.issued (s.image t.image) res) := by
  intro hbud
  subst hf
  refine does_of (o := []) hx ?_
  rw [newt_eq_issued h htrap]
  dsimp only
  rw [hend, if_neg Bool.false_ne_true, if_neg (Nat.not_le.mpr hbud), issuing, corrected_setCore]
  simp only [State.setCore, List.set_set]
  unfold State.corrected
  split <;> rfl

theorem issued_irq (img : Bytes) (src : Nat) :
    r.issued img { bank := r.bank, irq := some src } = (r.moved r.bank [] 1).raiseIrq img src := by
  rw [moved_eq]
  rfl

theorem issued_rti (img : Bytes) : r.issued img { bank := r.bank, rti := true } = ({ r with cycles := r.cycles + 2 } : NwtRun).popRet := by
  simp [NwtRun.issued]

/-- The end of a task. -/
theorem does_ended (h : s.RunsAt c x r t) (hx : exec row s = runEff (fun s => s.newt c k f) s)
    (hf : f (ctxOf s x r t) = { bank := r.bank, ended := true }) :
    Does row s ((issuing s c k x).endTask c (r.moved r.bank [] 1)) := by
  refine does_self hx ?_
  rw [newt_eq_issued h (by rw [hf]), hf, if_pos rfl, moved_eq]
  rfl

end

end Sys2Proof.Machine
end

section
/-! PROOFS. Newt control rows, block repeats, and traps, interrupts and the timer (R399 to R408). -/

namespace Sys2Proof.Machine

/-! ## Control rows -/

section
variable {s : State} {c : Nat} {x : NwtCore} {r : NwtRun} {t : NwtTask}

/-- A conditional branch on a scalar operand. -/
theorem goes_branchIf {i : NwtIns} {row : Instr} {p : NwtCtx → Bool} {br : Option Nat} (h : s.RunsAt c x r t)
    (hx : exec row s = runEff (fun s => s.newt c i.corr (branchIf p i)) s)
    (hp : (if p (ctxOf s x r t) then some (bitsOf i.imm.toNat 12 0) else none) = br) :
    Goes i.corr row s c x t { r.moved r.bank [] 1 with branch := br } :=
  goes_branch h hx (congrArg (fun br => ({ bank := r.bank, branch := br } : NwtRes)) hp)

theorem nwtRet_of_inside (i : NwtIns) (hin : (r.bank.sc.getD 15 0).toNat < imageLen (s.image t.image)) :
    nwtRet i (ctxOf s x r t) = { bank := r.bank, branch := some (r.bank.sc.getD 15 0).toNat } :=
  if_neg (Nat.not_le.mpr hin)

theorem nwtRet_of_outside (i : NwtIns) (hout : imageLen (s.image t.image) ≤ (r.bank.sc.getD 15 0).toNat) :
    nwtRet i (ctxOf s x r t) = (ctxOf s x r t).trapped trapProgBounds :=
  if_pos hout

theorem nwtReti_of_nil (i : NwtIns) (hr : r.ret = []) : nwtReti i (ctxOf s x r t) = (ctxOf s x r t).trapped trapBadReti := by
  simp only [nwtReti, show (ctxOf s x r t).run.ret = [] from hr]

theorem nwtReti_of_cons (i : NwtIns) {lvl pc : Nat} {rest : List (Nat × Nat)} (hr : r.ret = (lvl, pc) :: rest) :
    nwtReti i (ctxOf s x r t) = if imageLen (s.image t.image) ≤ pc then (ctxOf s x r t).trapped trapProgBounds
      else { bank := r.bank, rti := true } := by
  simp only [nwtReti, show (ctxOf s x r t).run.ret = (lvl, pc) :: rest from hr]
  rfl

theorem popRet_of_cons {lvl pc : Nat} {rest : List (Nat × Nat)} (n : Nat) (hr : r.ret = (lvl, pc) :: rest) :
    ({ r with cycles := n } : NwtRun).popRet = { r with level := lvl, pc := pc, ret := rest, branch := none, cycles := n } := by
  simp only [NwtRun.popRet, hr]

end

theorem getLsbD_31_eq_decide_toInt_neg (v : BitVec 32) : v.getLsbD 31 = decide (v.toInt < 0) := by
  rw [← BitVec.msb_eq_toInt, BitVec.msb_eq_getLsbD_last]

/-- Settles O48: each control row by its result; what a row does not name is in the run that moved. -/
theorem newtControlFlow : Obligations.NewtControlFlow := by
  unfold Obligations.NewtControlFlow
  refine ⟨fun c i s hrun row hrow => ?idle, fun c i s x r t h => ?runs⟩
  case idle =>
    obtain ⟨k, f, hx⟩ := hrow.exec_newt s
    exact does_of (o := []) hx (newt_of_no_run (s := s.begin) hrun k f)
  case runs =>
    refine ⟨goes_moved h (exec_nop c i s) rfl, goes_branch h (exec_br c i s) rfl, fun hsa => ⟨?brz, ?brnz, ?brn⟩,
      goes_branch h (exec_call c i s) rfl, fun hin => goes_branch h (exec_ret c i s) (nwtRet_of_inside i hin),
      fun hout => traps_of h (exec_ret c i s) (nwtRet_of_outside i hout), ?swi, fun hr => traps_of h (exec_reti c i s) (nwtReti_of_nil i hr),
      fun lvl pc rest hr => ⟨fun hout => ?retiTrap, fun hin => ?reti⟩, does_ended h (exec_tend c i s) rfl, fun ha => ?tmrImm,
      fun ha hsa => ?tmrReg⟩
    case brz =>
      refine goes_branchIf h (exec_brz c i s) ?_
      simp only [sc_ctxOf hsa, beq_iff_eq]
    case brnz =>
      refine goes_branchIf h (exec_brnz c i s) ?_
      simp only [sc_ctxOf hsa, bne_iff_ne, ite_not]
    case brn =>
      refine goes_branchIf h (exec_brn c i s) ?_
      simp only [sc_ctxOf hsa, getLsbD_31_eq_decide_toInt_neg, decide_eq_true_eq]
    case swi =>
      have hg := goes_issued h (exec_swi c i s) (rfl : _ = ({ bank := r.bank, irq := some 2 } : NwtRes)) rfl rfl
      rw [issued_irq] at hg
      exact hg
    case retiTrap => exact traps_of h (exec_reti c i s) ((nwtReti_of_cons i hr).trans (if_pos hout))
    case reti =>
      have hg := goes_issued h (exec_reti c i s) ((nwtReti_of_cons i hr).trans (if_neg (Nat.not_le.mpr hin))) rfl rfl
      rw [issued_rti, popRet_of_cons _ hr] at hg
      exact hg
    case tmrImm => exact goes_of h (exec_tmr c i s) (by rw [nwtTmr, ha]; rfl) (moved_timer r r.bank [] 1 _)
    case tmrReg =>
      exact goes_of h (exec_tmr c i s) (by rw [nwtTmr, ha, if_pos rfl, sc_ctxOf hsa]; rfl) (moved_timer r r.bank [] 1 _)

/-! ## Block repeats -/

section
variable {s : State} {x : NwtCore} {r : NwtRun} {t : NwtTask}

/-- The count of a REP (R402). -/
def repCount (i : NwtIns) (b : NwtBank) : Nat := if i.alt then (b.scalar i.sa 0).toNat % 65536 else bitsOf i.imm.toNat 31 16

theorem nwtRep_eq {i : NwtIns} (hs : i.alt = false ∨ 16 ≤ i.sa.toNat) :
    nwtRep i (ctxOf s x r t) =
      if repCount i r.bank = 0 then { bank := r.bank, jump := some (bitsOf i.imm.toNat 12 0 + 1) }
      else if 4 ≤ r.bank.loops.length then (ctxOf s x r t).trapped trapRepOvf
      else { bank := { r.bank with loops := (r.pc + 1, bitsOf i.imm.toNat 12 0, repCount i r.bank) :: r.bank.loops }
             jump := some (r.pc + 1) } := by
  have hn : (if i.alt then ((ctxOf s x r t).sc i.sa 0).toNat % 65536 else bitsOf i.imm.toNat 31 16) = repCount i r.bank := by
    rcases hs with ha | hsa
    · simp [repCount, ha]
    · rw [sc_ctxOf hsa, repCount]
  unfold nwtRep
  rw [hn]
  rfl

theorem nwtBreak_of_cons (i : NwtIns) {a z k : Nat} {rest : List (Nat × Nat × Nat)} (hl : r.bank.loops = (a, z, k) :: rest) :
    nwtBreak i (ctxOf s x r t) = { bank := { r.bank with loops := rest }, jump := some (z + 1) } := by
  simp only [nwtBreak, show (ctxOf s x r t).bank.loops = (a, z, k) :: rest from hl]
  rfl

theorem nwtBreak_of_nil (i : NwtIns) (hl : r.bank.loops = []) : nwtBreak i (ctxOf s x r t) = { bank := r.bank } := by
  simp only [nwtBreak, show (ctxOf s x r t).bank.loops = [] from hl]
  rfl

end

/-- Settles O49: REP and BREAK jump with the loops they leave open; the end index by the recursion over the open loops. -/
theorem newtBlockRepeats : Obligations.NewtBlockRepeats := by
  unfold Obligations.NewtBlockRepeats
  refine ⟨fun c i s x r t h hb hs => ⟨fun hn => ?none, fun hn hl => ?opens, fun hn hl => ?full, fun a z k rest hl => ?leaves, fun hl => ?stays⟩,
    fun a z k pc rest => ⟨fun hpc => ?inside, fun hpc hk => ?again, fun hpc hk => ?done, rfl⟩⟩
  case none => exact goes_jump h hb (exec_rep c i s) ((nwtRep_eq hs).trans (if_pos hn))
  case opens =>
    exact goes_jump h hb (exec_rep c i s) ((nwtRep_eq hs).trans ((if_neg hn).trans (if_neg (Nat.not_le.mpr hl))))
  case full => exact traps_of h (exec_rep c i s) ((nwtRep_eq hs).trans ((if_neg hn).trans (if_pos hl)))
  case leaves => exact goes_jump h hb (exec_break c i s) (nwtBreak_of_cons i hl)
  case stays => exact goes_moved h (exec_break c i s) (nwtBreak_of_nil i hl)
  case inside => rw [loopNext, if_neg hpc]
  case again => rw [loopNext, if_pos hpc, if_pos hk]
  case done => rw [loopNext, if_pos hpc, if_neg (Nat.not_lt.mpr hk)]

/-! ## Traps, interrupts and the timer -/

section
variable {s : State} {c : Nat} {r : NwtRun}

theorem nwtTrap_of_run {code : Nat} (hr : (s.core c).run = some r) :
    s.nwtTrap c code = if 1 ≤ code ∧ code ≤ 8 then s.trapTask c r code else s := by
  simp only [State.nwtTrap, hr]

theorem nwtTrap_of_bad_code {code : Nat} (hc : code = 0 ∨ 8 < code) : s.nwtTrap c code = s := by
  unfold State.nwtTrap
  split
  · rfl
  · exact if_neg (by omega)

theorem nwtInterrupt_of_not_taken (hr : (s.core c).run = some r) (h : r.branch ≠ none ∨ r.eligible = none) :
    s.nwtInterrupt c = s := by
  unfold State.nwtInterrupt
  simp only [hr]
  split
  next hb he => exact absurd he (by rcases h with h | h <;> simp_all)
  next => rfl

/-- The run at the entry of an interrupt's level (R405). -/
def NwtRun.entered (u : NwtRun) (img : Bytes) (q : Nat × Nat) : NwtRun :=
  { u with
    irqs := u.irqs.erase q, ret := (u.level, u.pc) :: u.ret, level := q.2, pc := irqEntry img q.2, cycles := u.cycles + 2 }

theorem nwtInterrupt_of_taken {q : Nat × Nat} {t : NwtTask} (hr : (s.core c).run = some r) (hb : r.branch = none)
    (he : r.eligible = some q) (ht : (drain (s.core c) r).1.task (drain (s.core c) r).2.task = some t) :
    s.nwtInterrupt c =
      (let v := (drain (s.core c) r).2.entered (s.image t.image) q
       if t.budget ≤ v.cycles then (s.setCore c (drain (s.core c) r).1).trapTask c v trapOverrun
       else s.setCore c { (drain (s.core c) r).1 with run := some v }) := by
  simp only [State.nwtInterrupt, hr, hb, he, ht]
  rfl

theorem nwtTimer_of_off (hr : (s.core c).run = some r) (h : r.timer = none) : s.nwtTimer c = s := by
  simp only [State.nwtTimer, hr, h]

theorem nwtTimer_of_on {n : Nat} {t : NwtTask} (hr : (s.core c).run = some r) (h : r.timer = some n)
    (ht : (s.core c).task r.task = some t) :
    s.nwtTimer c = s.setCore c { s.core c with run := some (({ r with timer := none } : NwtRun).raiseIrq (s.image t.image) 1) } := by
  simp only [State.nwtTimer, hr, h, ht]

theorem nwt_events_of_no_run (h : (s.core c).run = none) (code : Nat) :
    s.nwtTrap c code = s ∧ s.nwtInterrupt c = s ∧ s.nwtTimer c = s := by
  simp only [State.nwtTrap, State.nwtInterrupt, State.nwtTimer, h, and_self]

end

/-- Settles O55, by the branch of each event that its hypotheses choose. -/
theorem newtTrapsInterruptsAndTimer : Obligations.NewtTrapsInterruptsAndTimer := by
  unfold Obligations.NewtTrapsInterruptsAndTimer
  refine ⟨fun c code s hr => ?idle, fun c code s hc => ?badCode, fun c code r s hr h1 h8 => ?trap, fun c r s hr hn => ?notTaken,
    fun c r q t s hr hb he ht => ⟨fun hbud => ?taken, fun hbud => ?overrun⟩, fun c r s hr hn => ?timerOff,
    fun c n r t s hr hn ht => ?timerOn⟩
  case idle =>
    obtain ⟨h1, h2, h3⟩ := nwt_events_of_no_run (s := s.begin) hr code
    exact ⟨does_of (o := []) (exec_nwtTrap c code s) h1, does_of (o := []) (exec_nwtInterrupt c s) h2,
      does_of (o := []) (exec_nwtTimerExpiry c s) h3⟩
  case badCode => exact does_of (o := []) (exec_nwtTrap c code s) (nwtTrap_of_bad_code (s := s.begin) hc)
  case trap => exact does_self (exec_nwtTrap c code s) ((nwtTrap_of_run (s := s.begin) hr).trans (if_pos ⟨h1, h8⟩))
  case notTaken => exact does_of (o := []) (exec_nwtInterrupt c s) (nwtInterrupt_of_not_taken (s := s.begin) hr hn)
  case taken =>
    exact does_of (o := []) (exec_nwtInterrupt c s)
      ((nwtInterrupt_of_taken (s := s.begin) hr hb he ht).trans (if_neg (Nat.not_le.mpr hbud)))
  case overrun =>
    exact does_self (exec_nwtInterrupt c s) ((nwtInterrupt_of_taken (s := s.begin) hr hb he ht).trans (if_pos hbud))
  case timerOff => exact does_of (o := []) (exec_nwtTimerExpiry c s) (nwtTimer_of_off (s := s.begin) hr hn)
  case timerOn => exact does_of (o := []) (exec_nwtTimerExpiry c s) (nwtTimer_of_on (s := s.begin) hr hn ht)

end Sys2Proof.Machine
end

section
/-! PROOFS. Newt memory and register rows (R392, R395, R396, R399): loads, stores, and operations lane by lane. -/

namespace Sys2Proof.Machine

section
variable {s : State} {c : Nat} {x : NwtCore} {r : NwtRun} {t : NwtTask} {i : NwtIns} {row : Instr}

/-! ## Loads and stores -/

/-- The bank after the post-modify of a memory row's pointer (R395). -/
def NwtBank.postModified (b : NwtBank) (i : NwtIns) : NwtBank := b.bump (pIdx i.sa) (b.modifier i)

/-- A load traps, or lands its lanes with the pointer moved. -/
theorem load_traps_or_goes {n : Nat} {put : List (BitVec 32) → NwtCtx → NwtBank → NwtRes} {lanes : List (BitVec 32)}
    (h : s.RunsAt c x r t) (hx : exec row s = runEff (fun s => s.newt c i.corr (loadPost n put i)) s)
    (hput : put (memWords x.dmem (r.bank.ptr (pIdx i.sa)) n) (ctxOf s x r t) (r.bank.postModified i) =
      NwtCtx.dest { ctxOf s x r t with bank := r.bank.postModified i } i.dst (lanes.map (fun w => (w, false)))
        (memWord x.dmem (r.bank.ptr (pIdx i.sa)))) :
    (∀ code, t.access false (r.bank.ptr (pIdx i.sa)) n = some code → Traps i.corr row s c x r code) ∧
      (t.access false (r.bank.ptr (pIdx i.sa)) n = none →
        (let l := (r.bank.postModified i).landing i.dst (lanes.map (fun w => (w, false))) (memWord x.dmem (r.bank.ptr (pIdx i.sa)))
         Goes i.corr row s c x t (r.moved l.1 l.2 1))) := by
  constructor
  · intro code ha
    refine traps_of h hx ?_
    simp only [loadPost, show (ctxOf s x r t).task.access false ((ctxOf s x r t).bank.ptr (pIdx i.sa)) n = some code from ha]
  · intro ha
    refine goes_landing (y := { ctxOf s x r t with bank := r.bank.postModified i }) h hx (.inr rfl) ?_
    simp only [loadPost, show (ctxOf s x r t).task.access false ((ctxOf s x r t).bank.ptr (pIdx i.sa)) n = none from ha]
    exact hput

/-- A store traps, or queues its bytes with the pointer moved. -/
theorem store_traps_or_goes {f : NwtCtx → NwtRes} {l : List (BitVec 32)} (h : s.RunsAt c x r t)
    (hx : exec row s = runEff (fun s => s.newt c i.corr f) s) (hf : f (ctxOf s x r t) = storePost l i (ctxOf s x r t)) :
    (∀ code, t.access true (r.bank.ptr (pIdx i.sa)) l.length = some code → Traps i.corr row s c x r code) ∧
      (t.access true (r.bank.ptr (pIdx i.sa)) l.length = none →
        Goes i.corr row s c x t
          (r.moved (r.bank.postModified i) [.mem (r.bank.ptr (pIdx i.sa)) (wordBytes l)] 1)) := by
  constructor
  · intro code ha
    refine traps_of h hx (hf.trans ?_)
    simp only [storePost, show (ctxOf s x r t).task.access true ((ctxOf s x r t).bank.ptr (pIdx i.sa)) l.length = some code from ha]
  · intro ha
    refine goes_moved h hx (hf.trans ?_)
    simp only [storePost, show (ctxOf s x r t).task.access true ((ctxOf s x r t).bank.ptr (pIdx i.sa)) l.length = none from ha]
    rfl

/-- The addresses of VLDS (R396). -/
def vldsAddrs (i : NwtIns) (b : NwtBank) : List Nat :=
  (List.range 8).map (fun k => (BitVec.ofInt 18 ((b.ptr (pIdx i.sa) : Int) + (k : Nat) * (b.m.getD (i.sb.toNat % 8) 0).toInt)).toNat)

theorem nwtVlds_eq :
    nwtVlds i (ctxOf s x r t) = match (vldsAddrs i r.bank).findSome? (fun q => t.access false q 1) with
      | some code => (ctxOf s x r t).trapped code
      | none => { (ctxOf s x r t).dest i.dst ((vldsAddrs i r.bank).map (fun q => (memWord x.dmem q, false)))
          (memWord x.dmem (r.bank.ptr (pIdx i.sa))) with cycles := (bankLoad (vldsAddrs i r.bank) + 1) / 2 } := rfl

theorem nwtVlds_of_trap {code : Nat} (ha : (vldsAddrs i r.bank).findSome? (fun q => t.access false q 1) = some code) :
    nwtVlds i (ctxOf s x r t) = (ctxOf s x r t).trapped code := by
  rw [nwtVlds_eq, ha]

theorem nwtVlds_of_access (ha : (vldsAddrs i r.bank).findSome? (fun q => t.access false q 1) = none) :
    nwtVlds i (ctxOf s x r t) =
      { (ctxOf s x r t).dest i.dst ((vldsAddrs i r.bank).map (fun q => (memWord x.dmem q, false)))
          (memWord x.dmem (r.bank.ptr (pIdx i.sa))) with
        cycles := (bankLoad (vldsAddrs i r.bank) + 1) / 2 } := by
  rw [nwtVlds_eq, ha]

theorem nwtAst_eq :
    nwtAst i (ctxOf s x r t) = match t.access true (r.bank.ptr (pIdx i.sa)) 24 with
      | some code => (ctxOf s x r t).trapped code
      | none => { bank := r.bank, writes := [.mem (r.bank.ptr (pIdx i.sa))
          ((r.bank.accOf i.ak.toNat).flatMap (fun q => leBytes 12 (q.signExtend 96).toNat))] } := rfl

theorem nwtAld_eq :
    nwtAld i (ctxOf s x r t) = match t.access false (r.bank.ptr (pIdx i.sa)) 24 with
      | some code => (ctxOf s x r t).trapped code
      | none => { bank := r.bank, writes := [.acc i.ak.toNat ((List.range 8).map (fun k =>
          BitVec.ofNat 80 (u64 (sgetMany zeroByte x.dmem (r.bank.ptr (pIdx i.sa) + 12 * k) 10) 0 +
            18446744073709551616 * u16 (sgetMany zeroByte x.dmem (r.bank.ptr (pIdx i.sa) + 12 * k) 10) 8))) false] } := rfl

end

/-- Settles O50: loads and stores with post-modify share one rule each; the other rows by their accesses. -/
theorem newtMemoryRows : Obligations.NewtMemoryRows := by
  unfold Obligations.NewtMemoryRows
  intro c i s x r t h
  refine ⟨load_traps_or_goes h (exec_sld c i s) ?sld, load_traps_or_goes h (exec_vldb c i s) ?vldb, load_traps_or_goes h (exec_vld c i s) rfl,
    fun hd => store_traps_or_goes h (exec_sst c i s) ?sst, store_traps_or_goes h (exec_vst c i s) rfl,
    ⟨fun code ha => ?vldsTrap, fun ha => ?vlds⟩, fun code ha => ?astTrap, fun ha => ?ast, fun code ha => ?aldTrap, fun ha => ?ald⟩
  case sld =>
    rw [List.map_replicate]
    refine congrArg (fun e : NwtRes => { e with cycles := 1 }) (NwtCtx.dest_landing _ i.dst _ (.inr rfl)) |>.trans ?_
    exact (NwtCtx.dest_landing _ i.dst _ (.inr rfl)).symm
  case vldb => rw [List.map_replicate]; rfl
  case sst =>
    unfold nwtSst
    rw [sc_ctxOf hd]
  case vldsTrap => exact traps_of h (exec_vlds c i s) (nwtVlds_of_trap ha)
  case vlds =>
    refine goes_moved h (exec_vlds c i s) ((nwtVlds_of_access ha).trans ?_)
    rw [NwtCtx.dest_landing _ _ _ (.inr rfl)]
    rfl
  case astTrap => exact traps_of h (exec_ast c i s) (by rw [nwtAst_eq]; simp only [show t.access true (r.bank.ptr (pIdx i.sa)) 24 = some code from ha])
  case ast => exact goes_moved h (exec_ast c i s) (by rw [nwtAst_eq]; simp only [show t.access true (r.bank.ptr (pIdx i.sa)) 24 = none from ha]; rfl)
  case aldTrap => exact traps_of h (exec_ald c i s) (by rw [nwtAld_eq]; simp only [show t.access false (r.bank.ptr (pIdx i.sa)) 24 = some code from ha])
  case ald => exact goes_moved h (exec_ald c i s) (by rw [nwtAld_eq]; simp only [show t.access false (r.bank.ptr (pIdx i.sa)) 24 = none from ha]; rfl)

/-! ## Register rows -/

theorem map_zipWith_noSat (f : BitVec 32 → BitVec 32 → BitVec 32) (l m : List (BitVec 32)) :
    (List.zipWith f l m).map (fun v => (v, false)) = List.zipWith (noSat f) l m := by
  rw [List.map_zipWith]
  rfl

theorem minQ31_eq (a b : BitVec 32) : minQ31 a b = if b.toInt < a.toInt then b else a := by
  simp only [minQ31, ltQ31, decide_eq_true_eq]

theorem maxQ31_eq (a b : BitVec 32) : maxQ31 a b = if a.toInt < b.toInt then b else a := by
  simp only [maxQ31, ltQ31, decide_eq_true_eq]

/-- Settles O51: each row is an operation of one or two operands whose result its destination code lands. -/
theorem newtRegisterRows : Obligations.NewtRegisterRows := by
  unfold Obligations.NewtRegisterRows
  intro c i s x r t h
  refine ⟨?movi, goes_moved h (exec_padd c i s) rfl, goes_moved h (exec_cmplt c i s) rfl, fun hd => ?vsel,
    fun ha => ⟨?mov, ?shl, ?shr, ?abs, fun hb => ⟨?add, ?sub, ?and, ?or, ?xor, ?min, ?max⟩⟩⟩
  case movi =>
    dsimp only
    rw [List.map_replicate]
    exact goes_landing (y := ctxOf s x r t) h (exec_movi c i s) (.inr rfl) rfl
  case vsel => exact goes_landing (y := ctxOf s x r t) h (exec_vsel c i s) (.inl hd) rfl
  case mov => exact goes_alu1 (fv := fun v => (v, false)) (fs := id) h (exec_mov c i s) ha
  case shl => exact goes_alu1 (fv := fun a => vShl a i.imm.toNat) (fs := fun a => a <<< min i.imm.toNat 32) h (exec_shl c i s) ha
  case shr =>
    dsimp only
    rw [List.map_map]
    exact goes_alu1 (fv := fun a => (sra a i.imm.toNat, false)) (fs := fun a => sra a i.imm.toNat) h (exec_shr c i s) ha
  case abs => exact goes_alu1 (fv := vAbs) (fs := fun a => if a.getLsbD 31 then 0 - a else a) h (exec_abs c i s) ha
  case add => exact goes_alu2 (fv := vAdd) (fs := (· + ·)) h (exec_add c i s) ha hb
  case sub => exact goes_alu2 (fv := vSub) (fs := (· - ·)) h (exec_sub c i s) ha hb
  case and =>
    dsimp only
    rw [map_zipWith_noSat]
    exact goes_alu2 (fv := noSat (· &&& ·)) (fs := (· &&& ·)) h (exec_and c i s) ha hb
  case or =>
    dsimp only
    rw [map_zipWith_noSat]
    exact goes_alu2 (fv := noSat (· ||| ·)) (fs := (· ||| ·)) h (exec_or c i s) ha hb
  case xor =>
    dsimp only
    rw [map_zipWith_noSat]
    exact goes_alu2 (fv := noSat (· ^^^ ·)) (fs := (· ^^^ ·)) h (exec_xor c i s) ha hb
  case min =>
    simp only [← minQ31_eq]
    rw [map_zipWith_noSat]
    exact goes_alu2 (fv := noSat minQ31) (fs := minQ31) h (exec_min c i s) ha hb
  case max =>
    simp only [← maxQ31_eq]
    rw [map_zipWith_noSat]
    exact goes_alu2 (fv := noSat maxQ31) (fs := maxQ31) h (exec_max c i s) ha hb

end Sys2Proof.Machine
end

section
/-! PROOFS. How packets come in (R457 to R464): the rings of the host, held packets, and datagrams of the network endpoints. -/

namespace Sys2Proof.Machine

namespace State

/-! ## Rings (R457, R458) -/

/-- A ring is served as before once PROD is written. -/
theorem ringServed_setProd (s : State) (k v : Nat) : (s.setFld F.CMD_RING_CFG_PROD v k).ringServed k = s.ringServed k := by
  have hring : (s.setFld F.CMD_RING_CFG_PROD v k).fld F.CMD_RING_CFG_EN k = s.fld F.CMD_RING_CFG_EN k :=
    fld_setFld_word _ _ _ _ _ _ _ _ (by simp only [Fld.addr, F.CMD_RING_CFG_EN, F.CMD_RING_CFG_PROD]; omega)
  have hsrc : (s.setFld F.CMD_RING_CFG_PROD v k).fld F.CMD_SRC_CFG_EN k = s.fld F.CMD_SRC_CFG_EN k :=
    fld_setFld_word _ _ _ _ _ _ _ _ (by simp only [Fld.addr, F.CMD_SRC_CFG_EN, F.CMD_RING_CFG_PROD]; omega)
  simp only [ringServed, ringOn, flag, hring, hsrc, setFld_sys, setFld_rst]

/-- A write of PROD with room: the index is taken, and a served ring's new descriptors are read in order. -/
theorem prodWrite_of_room {s : State} {k v : Nat} {subs : List Submission} (hk : k < 8) (hh : s.rst.hUp = true)
    (hroom : s.outstanding k + (v % 65536 + 65536 - s.fld F.CMD_RING_CFG_PROD k) % 65536 ≤ min 256 (s.ringSize k)) :
    s.prodWrite k v subs =
      if s.ringServed k then subs.foldl (fun t d => t.readSub k d) (s.setFld F.CMD_RING_CFG_PROD (v % 65536) k)
      else s.setFld F.CMD_RING_CFG_PROD (v % 65536) k := by
  unfold prodWrite
  rw [if_neg (by simp [hh, Nat.not_le.mpr hk])]
  dsimp only
  rw [if_neg (Nat.not_lt.mpr hroom), ringServed_setProd]

/-- A write of PROD past the room is marked as refused. -/
theorem prodWrite_of_full {s : State} {k v : Nat} {subs : List Submission} (hk : k < 8) (hh : s.rst.hUp = true)
    (hfull : min 256 (s.ringSize k) < s.outstanding k + (v % 65536 + 65536 - s.fld F.CMD_RING_CFG_PROD k) % 65536) :
    s.prodWrite k v subs = s.setFlag F.CMD_SRC_STAT_PROD_REFUSED true k := by
  unfold prodWrite
  rw [if_neg (by simp [hh, Nat.not_le.mpr hk])]
  exact if_pos hfull

theorem prodWrite_held {s : State} {k v : Nat} {subs : List Submission} (hh : s.rst.hUp = false) : s.prodWrite k v subs = s :=
  if_pos (.inr (by simp [hh]))

/-- A 16-bit index reads as written. -/
theorem fld_setFld_index (s : State) (f : Fld) (v k : Nat) (hhi : f.hi = 15) (hlo : f.lo = 0) :
    (s.setFld f (v % 65536) k).fld f k = v % 65536 := by
  rw [fld_setFld_same _ _ _ _ _ (by omega), hhi, hlo]
  exact Nat.mod_mod v 65536

end State

/-- A row whose effect is one index write leaves everything else. -/
theorem writes_index {i : Instr} {g : State → State} {s : State} {f : Fld} {v k : Nat} (hx : exec i s = runEff g s)
    (hg : g s.begin = s.begin.setFld f (v % 65536) k) (hhi : f.hi = 15) (hlo : f.lo = 0) :
    ∃ t, exec i s = .next t ∧ t.fld f k = v % 65536 ∧ s.onlyWords t [f.addr k 0] ∧ t.cmd.admitted = s.cmd.admitted ∧ t.sys = s.sys := by
  refine ⟨_, hx.trans (runEff_next g s), ?fld, ?words, ?adm, ?sys⟩
  case fld => rw [commit_fld, hg, State.fld_setFld_index _ _ _ _ hhi hlo]
  case words => rw [hg]; exact (State.onlyWords_setFld s.begin f _ k 0).commit s
  case adm => rw [commit_admitted, hg]; rfl
  case sys => rw [commit_sys, hg]; rfl

namespace State

/-! ## Held packets (R464) -/

/-- The packets that stay held when one of a source and SEQ is taken off. -/
def heldWithout (s : State) (k q : Nat) : State :=
  { s with cmd := { s.cmd with held := s.cmd.held.filter (fun x => !(x.cmd.src.val == k && x.cmd.seq.toNat == q)) } }

/-- The one reply that waits is handed to its network endpoint. -/
theorem answer_net {s : State} {c : Cmd} {r : RefRec} (hfw : s.fwServes = true) (hnone : s.cmd.unreleased = [])
    (hnet : isNet c.src.val = true) :
    ∃ l, s.answer c r = { s with out := s.out ++
      [.reply { s.replyOf c r.status (some s.sys.epoch) none r.bytes with key := [] }
        (s.replyOf c r.status (some s.sys.epoch) none r.bytes).tagBytes false false] ++ l } := by
  have hsrc : 8 ≤ c.src.val ∧ c.src.val ≤ 11 := by simpa [isNet] using hnet
  have hring (t : State) : t.ringOn c.src.val = false := by simp [ringOn, Nat.not_lt.mpr hsrc.1]
  set rep := s.replyOf c r.status (some s.sys.epoch) none r.bytes with hrep
  have hr : rep.src = c.src.val := rfl
  have hsend (t : State) : ∃ l, t.sendReply rep false =
      { t with out := t.out ++ [.reply { rep with key := [] } rep.tagBytes false false] ++ l } := by
    unfold sendReply
    simp only [hr, hring, hnet, show ¬ c.src.val < 8 by omega, show ¬ c.src.val = 14 by omega, show ¬ c.src.val = 12 by omega,
      show ¬ c.src.val = 13 by omega, false_and, or_self, if_false, if_true, decide_false, Bool.false_and, Bool.false_eq_true]
    exact ⟨_, rfl⟩
  obtain ⟨l, hl⟩ := hsend { s with cmd := { s.cmd with unreleased := [] } }
  refine ⟨l, ?_⟩
  have hback : ({ s with cmd := { s.cmd with unreleased := [] } } : State) = s := by rw [← hnone]
  rw [hback] at hl
  unfold answer release queueReply
  rw [if_neg (by simpa [fwServes] using hfw)]
  simp only [hnone, List.nil_append, List.foldl_cons, List.foldl_nil]
  rw [hback, if_pos (by simp [releasable, ← hrep, hr, hring]), ← hl, releaseOne]
  simp only [beq_self_eq_true, Bool.or_true, if_true]
  rfl

end State

theorem heldTimeout_eq {s : State} {k q : Nat} {h : HeldPacket}
    (hf : s.cmd.held.find? (fun h => h.cmd.src.val == k && h.cmd.seq.toNat == q) = some h) :
    exec (.heldPacketTimeout k q) s = runEff (fun _ => (s.begin.heldWithout k q).answer h.cmd (rejAll 0x0107)) s := by
  rw [exec_heldPacketTimeout, execHeldPacketTimeout]
  simp only [runEff, State.begin_cmd, hf]
  rfl

/-! ## Datagrams (R459) -/

namespace State

/-- A first fragment that is not the whole datagram is kept while its endpoint has room for it. -/
theorem fragment_first {s : State} {k n peer sp off : Nat} {data : Bytes}
    (hnew : s.cmd.partials.find? (partialIs k n peer) = none) (hroom : (s.cmd.partials.filter (fun p => p.src == k)).length < 8) :
    s.fragment k n peer sp off true data =
      { s with cmd := { s.cmd with
          partials := s.cmd.partials.filter (fun p => !partialIs k n peer p) ++ [⟨k, n, peer, [(off, data)], none⟩] } } := by
  unfold fragment
  simp only [hnew, Option.isNone_none, true_and, if_neg (Nat.not_le.mpr hroom), Option.getD_none, if_true, List.nil_append, assembled]

end State

/-- A datagram of a port that listens goes to its endpoint. -/
theorem mgmtDatagram_eq {s : State} {port udp peer sp n off k : Nat} {more : Bool} {data : Bytes} (hm : s.mgmtUp port = true)
    (ha : s.rst.aUp = true) (hc : s.sys.mode ≠ .cold) (he : s.endpointOf port udp = some k) :
    exec (.mgmtDatagramReceive port udp peer sp n off more data) s =
      runEff (fun s => if off = 0 ∧ !more then s.datagram k peer sp data else s.fragment k n peer sp off more data) s := by
  have he' : s.begin.endpointOf port udp = some k := he
  have hm' : s.begin.mgmtUp port = true := hm
  rw [exec_mgmtDatagramReceive, execMgmtDatagramReceive]
  simp only [runEff]
  rw [if_neg (by simp [hm', ha, hc])]
  simp only [he']

/-- Settles O13, row by row from the rules above. -/
theorem packetsComeInAsChapter16Says : Obligations.PacketsComeInAsChapter16Says := by
  unfold Obligations.PacketsComeInAsChapter16Says
  refine ⟨⟨?cons, ?consOnly, ?consOff, ?prod, ?prodFull, ?prodHeld⟩, ?gap, ?gapNone, ?fragEnd, ?first, ?whole, ?deaf⟩
  case cons =>
    intro k v s hr
    exact does_self (exec_cplConsWrite k v s) (if_neg (by simp [show s.begin.ringOn k = true from hr]))
  case consOnly =>
    intro k v s hr hu
    refine writes_index (exec_cplConsWrite k v s) ?_ rfl rfl
    rw [if_neg (by simp [show s.begin.ringOn k = true from hr])]
    exact release_nil _ hu
  case consOff =>
    intro k v s hr
    exact does_of (o := []) (exec_cplConsWrite k v s) (if_pos (by simp [show s.begin.ringOn k = false from hr]))
  case prod =>
    intro k v subs s hk hh hroom
    have hw := State.prodWrite_of_room (s := s.begin) (subs := subs) hk hh hroom
    refine ⟨fun hs => ?_, fun hs hnil => ?_, fun hs => ?_⟩
    · exact does_self (exec_prodWrite k v subs s) (hw.trans (if_pos hs))
    · subst hnil
      obtain ⟨t, ht, hf, ho, -, hsys⟩ := writes_index (exec_prodWrite k v [] s) (hw.trans (if_pos hs)) rfl rfl
      exact ⟨t, ht, hf, ho, hsys⟩
    · obtain ⟨t, ht, hf, ho, -, hsys⟩ :=
        writes_index (exec_prodWrite k v subs s) (hw.trans (if_neg (by simp [show s.begin.ringServed k = false from hs]))) rfl rfl
      exact ⟨t, ht, hf, ho, hsys⟩
  case prodFull =>
    intro k v subs s hk hh hfull
    exact does_of (o := []) (exec_prodWrite k v subs s) (State.prodWrite_of_full (s := s.begin) hk hh hfull)
  case prodHeld =>
    intro k v subs s hh
    exact does_of (o := []) (exec_prodWrite k v subs s) (State.prodWrite_held (s := s.begin) hh)
  case gap =>
    intro k q h s hf
    have hx := heldTimeout_eq hf
    have hsrc : h.cmd.src.val = k ∧ h.cmd.seq.toNat = q := by simpa using List.find?_some hf
    obtain ⟨hk, hq⟩ := hsrc
    refine ⟨?_, fun hfw hnone hnet => ?_⟩
    · have hrep := State.answer_replies (s.begin.heldWithout k q) h.cmd (rejAll 0x0107)
      refine ⟨_, hx.trans (runEff_next _ s), ?_, (commit_admitted ..).trans hrep.cmd_admitted, (commit_sys ..).trans hrep.sys, ?_⟩
      · refine Eq.trans ?_ hrep.cmd_held
        rw [State.commit]
        split
        · rw [State.sendVec_cmd]
        · rfl
      · have hkeep := hrep.fld F.CMD_SRC_SEQ_NEXT_SEQ _ 0 (addr_nextSeq_ne_cplProd h.cmd.src)
        rw [hk] at hkeep
        exact (commit_fld ..).trans hkeep
    · obtain ⟨l, hl⟩ := State.answer_net (s := s.begin.heldWithout k q) (r := rejAll 0x0107) hfw hnone (hk ▸ hnet)
      have hh := hands_of hx (e := s.heldWithout k q) hl
      refine hh.elim (fun h => ⟨_, h, ?_⟩) (fun h => ⟨_, h, ?_⟩)
      · exact ⟨_, _, _, _, List.mem_append_left _ (List.mem_append_right _ (List.mem_singleton.mpr rfl)), rfl, hq, hk⟩
      · exact ⟨_, _, _, _, List.mem_append_left _ (List.mem_append_left _ (List.mem_append_right _ (List.mem_singleton.mpr rfl))),
          rfl, hq, hk⟩
  case gapNone =>
    intro k q s hf
    refine does_of (o := []) (exec_heldPacketTimeout k q s) ?_
    simp only [State.begin_cmd, hf]
    rfl
  case fragEnd => exact fun k n p s => does_of (o := []) (exec_fragmentTimeout k n p s) rfl
  case first =>
    intro port udp peer sp n off k data s hm ha hc he hnew hroom
    refine does_of (o := []) (mgmtDatagram_eq hm ha hc he) ?_
    simp only [Bool.not_true, Bool.false_eq_true, and_false, if_false]
    exact State.fragment_first (s := s.begin) hnew hroom
  case whole =>
    intro port udp peer sp n k data s hm ha hc he
    refine does_self (mgmtDatagram_eq hm ha hc he) ?_
    simp
  case deaf =>
    intro port udp peer sp n off more data s h
    refine does_of (o := []) (exec_mgmtDatagramReceive port udp peer sp n off more data s) ?_
    by_cases hoff : s.mgmtUp port = false ∨ s.rst.aUp = false ∨ s.sys.mode = .cold
    · exact if_pos (by simpa using hoff)
    · have he : s.begin.endpointOf port udp = none := by
        simp only [not_or] at hoff
        obtain ⟨h1, h2, h3⟩ := hoff
        simpa [h1, h2, h3] using h
      rw [he]
      exact ite_self _

end Sys2Proof.Machine
end

section
/-! PROOFS. Commands at their instant: timed commands of CS13 (R254, R255) and what a boundary does with one command (R31). -/

namespace Sys2Proof.Machine

namespace State

/-! ## Timed commands (R254, R255) -/

/-- The list of CS13 without one timed command, recounted. -/
def unscheduled (s : State) (k q : Nat) : State :=
  schedCount { s with pat := { s.pat with sched := s.pat.sched.filter (fun x => !isTimed k q x) } }

/-- The effect of a timed command where its mode accepts it. -/
def timedResult (s : State) (w : Timed) : CmdResult :=
  let okMode := match opInfo w.op with
    | some x => x.acceptedIn s.sys.mode
    | none => false
  let byPtp := !w.cmd.whenEpoch && (opInfo w.op).any (fun x => x.cls == .frame)
  if okMode then applyOp w.op w.cmd (if byPtp then s.nameLine (some w.cmd.whenF.toNat) else s) else .bad (rejAll 0x0305)

/-- What CS13 leaves of a timed command: its journal entry, its own SEQ, and the second reply. -/
def timedDone (u : State) (k q : Nat) (w : Timed) (now status : Nat) (p : Bytes) (epoch time : Option Nat) : State :=
  let n := u.fld F.CMD_SRC_SEQ_NEXT_SEQ 13
  let v := u.journal ⟨now, 13, 4, 0, n, w.op, status, w.cmd.tag.toNat, k, q⟩
  let v := (v.setFld F.CMD_SRC_SEQ_NEXT_SEQ ((n + 1) % 4294967296) 13).setFld F.CMD_SRC_SEQ_LAST_APPLIED n 13
  (secondReply { v with twn := { v.twn with firedNow := v.twn.firedNow ++ [(k, q)] } } w status p epoch time).release

/-- The end of a timed command by its result. -/
def timedEnd (s : State) (k q : Nat) (w : Timed) : CmdResult → State
  | .ok u p ep tm => (u.nameLine none).timedDone k q w s.sys.epoch 0 p (ep.getD (some s.sys.epoch)) (match ep with
    | none => u.appliedTime
    | some none => none
    | some _ => if u.flag F.TIM_STATUS_TIME_VALID then tm else none)
  | .bad r => s.timedDone k q w s.sys.epoch r.status r.bytes (some s.sys.epoch) none

theorem timedFire_none {s : State} {k q : Nat} (h : s.pat.sched.find? (isTimed k q) = none) : s.timedFire k q = s := by
  rw [timedFire, h]

theorem timedFire_some {s : State} {k q : Nat} {w : Timed} (hf : s.pat.sched.find? (isTimed k q) = some w) (hp : s.rst.pUp = true) :
    s.timedFire k q = (s.unscheduled k q).timedEnd k q w ((s.unscheduled k q).timedResult w) := by
  unfold timedFire
  rw [hf]
  dsimp -zeta only
  rw [if_neg (by simp [hp])]
  extract_lets _ s1 s2 okMode byPtp res now
  change _ = s2.timedEnd k q w res
  clear_value res
  cases res <;> rfl

/-- The result where the mode accepts the command. -/
theorem timedResult_accepted {s : State} {w : Timed} {x : OpInfo} (hi : opInfo w.op = some x)
    (ha : x.acceptedIn s.sys.mode = true) :
    s.timedResult w =
      applyOp w.op w.cmd (if w.cmd.whenEpoch = false ∧ x.cls = .frame then s.nameLine (some w.cmd.whenF.toNat) else s) := by
  unfold timedResult
  rw [hi]
  dsimp only
  rw [if_pos ha]
  cases w.cmd.whenEpoch <;> simp

end State

/-- Settles O14, from what CS13 does with the command that its source and SEQ name. -/
theorem timedCommandFiresOnce : Obligations.TimedCommandFiresOnce := by
  unfold Obligations.TimedCommandFiresOnce
  refine ⟨?release, ?none, ?fire⟩
  case release => exact fun k q s => does_of (o := []) (exec_timedRelease k q s) rfl
  case none => exact fun k q s h => does_of (o := []) (exec_timedFire k q s) (State.timedFire_none (s := s.begin) h)
  case fire =>
    intro k q w x s u p hf hp hi ha hok
    refine does_self (exec_timedFire k q s) ((State.timedFire_some (s := s.begin) hf hp).trans ?_)
    have hok' : applyOp w.op w.cmd (if w.cmd.whenEpoch = false ∧ x.cls = .frame then
        (s.begin.unscheduled k q).nameLine (some w.cmd.whenF.toNat) else s.begin.unscheduled k q) = .ok u p none none := hok
    rw [State.timedResult_accepted (s := s.begin.unscheduled k q) hi ha, hok']
    rfl

namespace State

/-! ## One command at its boundary (R31, R466, R470) -/

/-- A refusal: the journal entry, the counter and the reply with the refusal's status. -/
def refusedAt (s : State) (a : Admitted) (r : RefRec) : State :=
  ((s.noteCommand a 1 r.status []).incFld F.CMD_SRC_CNT_REFUSED a.cmd.src.val).replyLater a r.status (some s.sys.epoch) none r.bytes

/-- Outside CS12 and DEBUG_UNLOCK a refusal has no further effect. -/
theorem refuseAt_eq {s : State} {a : Admitted} (hsrc : a.cmd.src.val ≠ 12) (hop : a.op ≠ opDebugUnlock) (r : RefRec) :
    s.refuseAt a r s.sys.epoch = s.refusedAt a r := by
  unfold refuseAt
  simp only [if_neg hop, if_neg hsrc]
  rfl

theorem applyAt_refuse {s : State} {a : Admitted} {r : RefRec} (hv : a.verdict = .refuse r) :
    s.applyAt a = s.refuseAt a r s.sys.epoch := by
  rw [applyAt, hv]

theorem applyAt_dry {s : State} {a : Admitted} {st : Nat} {p : Bytes} (hv : a.verdict = .dry st p) :
    s.applyAt a = (s.noteCommand a 2 st []).replyLater a st (some s.sys.epoch) none p := by
  rw [applyAt, hv]

theorem applyAt_byMode {s : State} {a : Admitted} {r : RefRec} (hv : a.verdict = .accept) (hm : s.modeRefuses a = some r) :
    s.applyAt a = s.refuseAt a r s.sys.epoch := by
  simp only [applyAt, hv, hm]

/-- An accepted command that the mode still accepts is scheduled where it is timed, else applied. -/
theorem applyAt_accept {s : State} {a : Admitted} (hv : a.verdict = .accept) (hm : s.modeRefuses a = none) :
    s.applyAt a = if a.timed then s.scheduleAt a else s.effectAt a := by
  simp only [applyAt, hv, hm]

theorem applyAt_timed {s : State} {a : Admitted} (hv : a.verdict = .accept) (hm : s.modeRefuses a = none) (ht : a.timed = true) :
    s.applyAt a = s.scheduleAt a := by
  rw [applyAt_accept hv hm, if_pos ht]

theorem applyAt_untimed {s : State} {a : Admitted} (hv : a.verdict = .accept) (hm : s.modeRefuses a = none) (ht : a.timed = false) :
    s.applyAt a = s.effectAt a := by
  rw [applyAt_accept hv hm, if_neg (by simp [ht])]

theorem effectAt_bad {s : State} {a : Admitted} {r : RefRec} (h : applyOp a.op a.cmd s = .bad r) :
    s.effectAt a = s.refuseAt a (s.lateRefusal a r) s.sys.epoch := by
  rw [effectAt, h]

/-- An effect that succeeds, of another source than CS12: its journal entry and its reply. -/
theorem effectAt_ok {s t : State} {a : Admitted} {p : Bytes} (hsrc : a.cmd.src.val ≠ 12)
    (h : applyOp a.op a.cmd s = .ok t p none none) :
    s.effectAt a =
      (t.noteCommand a (if a.op = opSessionOpen then 5 else 0) 0 p).replyLater a 0 (some s.sys.epoch) t.appliedTime p := by
  rw [effectAt, h]
  dsimp only
  rw [if_neg hsrc]

/-- A late refusal stays as it is while the mode is the one of the command's admission (R20). -/
theorem lateRefusal_same {s : State} {a : Admitted} {r : RefRec} (hm : s.sys.mode = a.seen) (hr : r.status ≠ 0x0302)
    (hop : a.op ≠ opModeSet) : s.lateRefusal a r = r := by
  unfold lateRefusal
  simp [hm, hr, hop]

/-- A mode that refuses late answers 0x0305. -/
theorem lateRefusal_byMode {s : State} {a : Admitted} {r : RefRec} (hr : r.status = 0x0302) :
    s.lateRefusal a r = rejAll 0x0305 := by
  unfold lateRefusal
  simp [hr]

theorem scheduleAt_eq (s : State) (a : Admitted) : ∃ ep tm p, s.scheduleAt a =
    (let t := (s.noteCommand a 3 1 []).replyLater a 1 ep tm p
     schedCount { t with pat := { t.pat with sched := s.pat.sched ++ [⟨a.op, a.cmd, s.sys.epoch, false, true⟩] } }) :=
  ⟨(s.timedReply a).1, (s.timedReply a).2.1, (s.timedReply a).2.2, rfl⟩

theorem boundaryOrder_nil (order : List Nat) : boundaryOrder order [] = [] := by
  induction order with
  | nil => rfl
  | cons k ks ih => simp [boundaryOrder, ih]

/-- The only command of a boundary is in order, whatever order is asked for. -/
theorem boundaryOrder_one (order : List Nat) (a : Admitted) : boundaryOrder order [a] = [a] := by
  induction order with
  | nil => rfl
  | cons k ks ih =>
    by_cases hk : a.cmd.src.val == k
    · simp [boundaryOrder, hk, boundaryOrder_nil]
    · simp [boundaryOrder, hk, ih]

theorem applyCommands_one {s : State} {a : Admitted} (hroom : s.recordFull a = false) :
    s.applyCommands [a] [] = (s.applyAt a, []) := by
  simp [applyCommands, hroom]

/-- A boundary with one command that has room in the record applies it. -/
theorem boundaryCommands_one {s : State} {a : Admitted} (hfw : s.fwServes = true) (hc : s.sys.mode ≠ .cold)
    (ha : s.cmd.admitted = [a]) (hroom : s.recordFull a = false) (order : List Nat) :
    s.boundaryCommands order false = applyAt { s with cmd := { s.cmd with admitted := [] } } a := by
  have hone : [a].filter Admitted.quenches ++ [a].filter (fun a => !a.quenches) = [a] := by
    cases h : a.quenches <;> simp [h]
  unfold boundaryCommands
  rw [if_neg (by simp [hfw, hc])]
  dsimp only
  rw [ha, boundaryOrder_one, if_neg (by decide), if_neg (by decide), hone, applyCommands_one (by exact hroom)]
  rfl

/-- LAST_APPLIED takes the command's SEQ (R466). -/
theorem lastApplied_noteCommand (t : State) (a : Admitted) (kind st : Nat) (p : Bytes) :
    (t.noteCommand a kind st p).fld F.CMD_SRC_SEQ_LAST_APPLIED a.cmd.src.val = a.cmd.seq.toNat :=
  (fld_setFld_same _ _ _ _ _ (by decide)).trans (Nat.mod_eq_of_lt a.cmd.seq.isLt)

/-- A command is one journal entry, at its place in the cycle (R470). -/
theorem jnl_noteCommand (t : State) (a : Admitted) (kind st : Nat) (p : Bytes) :
    (t.noteCommand a kind st p).jnl = t.jnl ++ [⟨t.sys.epoch, a.cmd.src.val, kind,
      (t.jnl.filter (fun x => x.epoch == t.sys.epoch)).length, a.cmd.seq.toNat, a.op, st, a.cmd.tag.toNat, 0xFF, 0⟩] := rfl

end State

/-- Settles O17, by the verdict of the command and what its mode and effect answer. -/
theorem commandIsAppliedAtItsBoundary : Obligations.CommandIsAppliedAtItsBoundary := by
  unfold Obligations.CommandIsAppliedAtItsBoundary
  intro a s
  refine ⟨⟨?one, ?refused, fun st p hv => State.applyAt_dry hv, ?timed, ?done⟩, ?note⟩
  case one => exact fun hfw hc ha hroom order => State.boundaryCommands_one hfw hc ha hroom order
  case refused =>
    intro hsrc hop
    have hrefuse := State.refuseAt_eq (s := s) hsrc hop
    refine ⟨?_, ?_, ?_, ?_, ?_⟩
    · exact fun r hv => (State.applyAt_refuse hv).trans (hrefuse r)
    · exact fun r hv hm => (State.applyAt_byMode hv hm).trans (hrefuse r)
    · exact fun r hv hm ht _ hbad => (State.applyAt_untimed hv hm ht).trans ((State.effectAt_bad hbad).trans (hrefuse _))
    · exact fun r hm hr hop => State.lateRefusal_same hm hr hop
    · exact fun r hr => State.lateRefusal_byMode hr
  case timed =>
    intro hv hm ht
    obtain ⟨ep, tm, p, h⟩ := State.scheduleAt_eq s a
    exact ⟨ep, tm, p, (State.applyAt_timed hv hm ht).trans h⟩
  case done => exact fun t p hv hm ht hsrc hok => (State.applyAt_untimed hv hm ht).trans (State.effectAt_ok hsrc hok)
  case note => exact fun t kind st p => ⟨State.lastApplied_noteCommand t a kind st p, State.jnl_noteCommand t a kind st p⟩

end Sys2Proof.Machine
end

section
/-! SUPPORT. What the phases of a cast cycle boundary leave of the cycle itself: its EPOCH, age and source, SYS_CAST, the commands
and triggers that wait, and the resets. -/

namespace Sys2Proof.Machine

/-- What belongs to the cast cycle: its count, its age and source, SYS_CAST, what waits for a boundary, and the resets. -/
def State.cycle (s : State) : (Bool × Option Nat) × (Nat × Nat × Bool) × (List Admitted × List Nat × List Nat) × Word :=
  ((s.rst.aUp, s.rst.rstPend), (s.sys.epoch, s.sys.castAge, s.sys.castSrc),
    (s.cmd.admitted, s.cmd.trigQ, s.cmd.trigLost), s.reg 0x20)

/-- The parts of the state that commands, resets and the twin act on. -/
def State.control (s : State) : (RstState × SysState × CmdState × TwnState) × Word :=
  ((s.rst, s.sys, s.cmd, s.twn), s.reg 0x20)

/-- What a standby keeps of its active's sequence numbers and captures goes as it is promoted. -/
def TwnState.standbyEnded (t : TwnState) : TwnState := { t with rtpLog := [], replay := none, nwtPend := none }

/-- The same of the whole state. -/
def State.standbyEnded (s : State) : State := { s with twn := s.twn.standbyEnded }

/-- A view of the state stays. -/
def Kept {α : Type} (v : State → α) (s t : State) : Prop := v t = v s

/-- The cycle stays, but for its count. -/
abbrev CycleKept (s t : State) : Prop := Kept State.cycle s t

/-- Commands, resets and the twin are left alone. -/
abbrev ControlKept (s t : State) : Prop := Kept State.control s t

namespace Kept

variable {α : Type} {v : State → α} {s t u : State}

theorem refl (s : State) : Kept v s s := rfl

/-- A change of the other parts of the state. -/
theorem other (hu : v u = v t) (h : Kept v s t) : Kept v s u := Eq.trans hu h

theorem foldl {β : Type} {f : State → β → State} {l : List β} (hf : ∀ u x, Kept v s u → Kept v s (f u x)) (h : Kept v s t) :
    Kept v s (l.foldl f t) := by
  induction l generalizing t with
  | nil => exact h
  | cons x l ih => exact ih (hf t x h)

theorem ite {c : Prop} [Decidable c] {w : State} (ht : Kept v s u) (hf : Kept v s w) : Kept v s (if c then u else w) := by
  split
  · exact ht
  · exact hf

end Kept

namespace ControlKept

variable {s t u : State}

theorem sys (h : ControlKept s t) : t.sys = s.sys := congrArg (fun c => c.1.2.1) h
theorem twn (h : ControlKept s t) : t.twn = s.twn := congrArg (fun c => c.1.2.2.2) h

section
variable {f : Fld} {v i j : Nat} {b : Bool}

/-- Words above SYS_CAST are no part of it. -/
theorem setFld (hf : Nat.blt 0x20 f.off = true) (h : ControlKept s t) : ControlKept s (t.setFld f v i j) := by
  rw [Nat.blt_eq] at hf
  exact h.other (congrArg (Prod.mk (t.rst, t.sys, t.cmd, t.twn)) (State.reg_setReg_other t _ _ _ (by simp only [Fld.addr]; omega)))

theorem setFlag (hf : Nat.blt 0x20 f.off = true) (h : ControlKept s t) : ControlKept s (t.setFlag f b i j) := h.setFld hf

theorem incFld (hf : Nat.blt 0x20 f.off = true) (h : ControlKept s t) : ControlKept s (t.incFld f i j) := h.setFld hf

theorem setPair {lo hi : Fld} (hl : Nat.blt 0x20 lo.off = true) (hh : Nat.blt 0x20 hi.off = true) (h : ControlKept s t) :
    ControlKept s (t.setPair lo hi v i) := (h.setFld hl).setFld hh

end

theorem event (h : ControlKept s t) (b v c : Nat) (l : List Nat) : ControlKept s (t.event b v c l) := h

/-! ## Faults -/

theorem faultRecord {l : List Nat} (h : ControlKept s t) (n : Nat) : ControlKept s (t.faultRecord n l) := by
  have hst : ControlKept s (t.setFltStatus n) := .ite (setFld rfl h) (setFld rfl h)
  have hev : ControlKept s (((t.setFltStatus n).incFld F.FLT_CNT_COUNT n).event blkFlt (faultClass n) n l) :=
    event (incFld rfl hst) _ _ _ _
  exact .ite hev (.ite (setFlag rfl hev) (setPair rfl rfl (setPair rfl rfl (setFld rfl (setFld rfl (setFlag rfl hev))))))

/-- A source of class Notice has no reaction. -/
theorem raiseNotice {n : Nat} {l : List Nat} (hn : faultClass n = 1) (h : ControlKept s t) : ControlKept s (t.raise n l) := by
  rw [State.raise_of_notice hn]
  exact h.faultRecord n

/-! ## Reference inputs (R72, R76, R81) -/

theorem setDpll {x : DpllState} (h : ControlKept s t) (d : Nat) : ControlKept s (t.setDpll d x) := h

theorem refTime (h : ControlKept s t) (d i : Nat) : ControlKept s (t.refTime d i).2 := by
  unfold State.refTime
  split
  · exact h
  split
  · exact h
  dsimp only
  split
  · exact h
  split
  · exact h
  · exact h

theorem followInput (h : ControlKept s t) (d i : Nat) : ControlKept s (t.followInput d i) := by
  unfold State.followInput
  extract_lets old first
  generalize ht : t.refTime d i = p
  obtain ⟨time, v⟩ := p
  have hv : ControlKept s v := by
    have hr := h.refTime d i
    rwa [ht] at hr
  have hset (x : DpllState) : ControlKept s ((v.setFld F.REF_DPLL_STAT_CUR_IN i d).setDpll d x) := setDpll (setFld rfl hv) d
  have hsw (c : Prop) [Decidable c] (x : DpllState) : ControlKept s
      (if c then (v.setFld F.REF_DPLL_STAT_CUR_IN i d).setDpll d x
        else ((v.setFld F.REF_DPLL_STAT_CUR_IN i d).setDpll d x).hist F.REF_HIST_SWITCH d) := .ite (hset x) (setFlag rfl (hset x))
  exact .ite (setFlag rfl (setFld rfl (setFld rfl (hsw _ _)))) (setFld rfl (hsw _ _))

theorem enterHoldover {l : List Nat} (h : ControlKept s t) (d : Nat) : ControlKept s (t.enterHoldover d l) :=
  raiseNotice rfl (setFlag rfl (setFld rfl (setFld rfl (setFld rfl (setFld rfl (h.setDpll d))))))

theorem switchTo (h : ControlKept s t) (d b : Nat) : ControlKept s (t.switchTo d b) :=
  .ite (followInput (h.enterHoldover d) d b) (h.followInput d b)

theorem currentLost (h : ControlKept s t) (d i : Nat) (loss : Bool) : ControlKept s (t.currentLost d i loss) := by
  unfold State.currentLost
  refine .ite (.ite (setFlag rfl (h.enterHoldover d)) (h.enterHoldover d)) ?_
  split
  · exact h.enterHoldover d
  · refine .ite ?_ (h.switchTo d _)
    dsimp only
    split
    · exact h.switchTo d _
    · exact h.enterHoldover d

theorem disqualify (h : ControlKept s t) (i : Nat) (loss : Bool) : ControlKept s (t.disqualify i loss) := by
  have hl : ControlKept s (if loss then (t.setFlag F.REF_IN_STAT_PRESENT false i).setFlag F.REF_IN_STAT_LOS_SEEN true i else t) :=
    .ite (setFlag rfl (setFlag rfl h)) h
  refine .foldl (fun u d hu => .ite hu ?_) (.ite (setFlag rfl (setFlag rfl hl)) hl)
  have hlos : ControlKept s (if loss then u.hist F.REF_HIST_LOS d else u) := .ite (setFlag rfl hu) hu
  have hdis (c : Prop) [Decidable c] : ControlKept s (if c then (if loss then u.hist F.REF_HIST_LOS d else u).hist F.REF_HIST_DISQ d
      else (if loss then u.hist F.REF_HIST_LOS d else u)) := .ite (setFlag rfl hlos) hlos
  exact .ite (currentLost (setDpll (hdis _) d) d i loss) (setDpll (hdis _) d)

theorem refLoss (h : ControlKept s t) (i : Nat) : ControlKept s (t.refLoss i) := .ite (h.disqualify i true) h

/-! ## Pending flips (R348) -/

theorem dropFlip (h : ControlKept s t) (x : SurfFlip) : ControlKept s (t.dropFlip x) :=
  setFld rfl (.foldl (fun _ _ hu => setFld rfl (setFld rfl (setFld rfl (setFlag rfl hu)))) h)

theorem flipLate (h : ControlKept s t) (x : SurfFlip) : ControlKept s (t.flipLate x) :=
  dropFlip (raiseNotice rfl (event (.foldl (fun _ _ hu => setFld rfl hu) h) _ _ _ _)) x

/-! ## Synchronisation (R502, R503) and the end of a standby (R510) -/

theorem syncClear (h : ControlKept s t) (c : Nat) : ControlKept s (t.syncClear c) :=
  .ite (raiseNotice rfl (setFld rfl (setFlag rfl h))) h

theorem promoteRest (s : State) : ControlKept s.standbyEnded s.promoteRest := by
  unfold State.promoteRest
  extract_lets s1 s2 _ _ _ s3 on4 s4
  have h1 : ControlKept s s1 := .foldl (fun _ _ hu => .ite hu (setFld rfl hu)) (.refl s)
  have h2 : ControlKept s s2 := by
    refine .foldl (fun u p hu => ?_) h1
    split
    · exact .ite (flipLate hu _) hu
    · exact hu
  have h3 : ControlKept s.standbyEnded s3 := congrArg
    (fun (c : (RstState × SysState × CmdState × TwnState) × Word) => ((c.1.1, c.1.2.1, c.1.2.2.1,
      c.1.2.2.2.standbyEnded), c.2)) h2
  have h4 : ControlKept s.standbyEnded s4 := refLoss h3 4
  split
  · exact h4
  · exact .foldl (fun _ _ hu => .ite (setFld rfl hu) hu) h4

end ControlKept


namespace CycleKept

variable {s t u : State}

theorem aUp (h : CycleKept s t) : t.rst.aUp = s.rst.aUp := congrArg (fun c => c.1.1) h
theorem rstPend (h : CycleKept s t) : t.rst.rstPend = s.rst.rstPend := congrArg (fun c => c.1.2) h
theorem epoch (h : CycleKept s t) : t.sys.epoch = s.sys.epoch := congrArg (fun c => c.2.1.1) h
theorem castAge (h : CycleKept s t) : t.sys.castAge = s.sys.castAge := congrArg (fun c => c.2.1.2.1) h
theorem castSrc (h : CycleKept s t) : t.sys.castSrc = s.sys.castSrc := congrArg (fun c => c.2.1.2.2) h
theorem admitted (h : CycleKept s t) : t.cmd.admitted = s.cmd.admitted := congrArg (fun c => c.2.2.1.1) h
theorem trigQ (h : CycleKept s t) : t.cmd.trigQ = s.cmd.trigQ := congrArg (fun c => c.2.2.1.2.1) h
theorem trigLost (h : CycleKept s t) : t.cmd.trigLost = s.cmd.trigLost := congrArg (fun c => c.2.2.1.2.2) h
theorem cast (h : CycleKept s t) : t.reg 0x20 = s.reg 0x20 := congrArg (fun c => c.2.2.2) h

/-- From the parts that stay. -/
theorem of_parts (hr : t.rst = s.rst) (hs : t.sys = s.sys) (ha : t.cmd.admitted = s.cmd.admitted) (hq : t.cmd.trigQ = s.cmd.trigQ)
    (hl : t.cmd.trigLost = s.cmd.trigLost) (hc : t.reg 0x20 = s.reg 0x20) : CycleKept s t := by
  unfold CycleKept Kept State.cycle
  rw [hr, hs, ha, hq, hl, hc]

/-- What leaves commands, resets and the twin alone leaves the cycle. -/
theorem control (g : ControlKept t u) (h : CycleKept s t) : CycleKept s u :=
  h.other (congrArg (fun c => ((c.1.1.aUp, c.1.1.rstPend), (c.1.2.1.epoch, c.1.2.1.castAge, c.1.2.1.castSrc),
    (c.1.2.2.1.admitted, c.1.2.2.1.trigQ, c.1.2.2.1.trigLost), c.2)) g)

/-- Handing replies out leaves the cycle. -/
theorem replies (g : RepliesOnly t u) (h : CycleKept s t) : CycleKept s u :=
  h.other (of_parts g.rst g.sys g.cmd_admitted g.cmd_trigQ g.cmd_trigLost
    (g.regs _ (by intro k; simp only [Fld.addr, F.CMD_RING_CFG_CPL_PROD]; omega)))

/-! ## Registers and records -/

section
variable {f : Fld} {v i j : Nat} {b : Bool}

/-- Words above SYS_CAST are not the cycle's. -/
theorem setFld (hf : Nat.blt 0x20 f.off = true) (h : CycleKept s t) : CycleKept s (t.setFld f v i j) := by
  rw [Nat.blt_eq] at hf
  exact h.other (of_parts (s := t) rfl rfl rfl rfl rfl (State.reg_setReg_other _ _ _ _ (by simp only [Fld.addr]; omega)))

theorem setFlag (hf : Nat.blt 0x20 f.off = true) (h : CycleKept s t) : CycleKept s (t.setFlag f b i j) := h.setFld hf

theorem incFld (hf : Nat.blt 0x20 f.off = true) (h : CycleKept s t) : CycleKept s (t.incFld f i j) := h.setFld hf

theorem setPair {lo hi : Fld} (hl : Nat.blt 0x20 lo.off = true) (hh : Nat.blt 0x20 hi.off = true) (h : CycleKept s t) :
    CycleKept s (t.setPair lo hi v i) := (h.setFld hl).setFld hh

end

theorem event (h : CycleKept s t) (b v c : Nat) (l : List Nat) : CycleKept s (t.event b v c l) := h

theorem journalOwn (h : CycleKept s t) (k op : Nat) : CycleKept s (t.journalOwn k op) := h

theorem enterMode (h : CycleKept s t) (m : Mode) (c : Nat) : CycleKept s (t.enterMode m c) := h

theorem aksSend {k e : Nat} {b : Bytes} (h : CycleKept s t) : CycleKept s (t.aksSend k e b) := h.replies (aksSend_replies t k e b)

theorem release (h : CycleKept s t) : CycleKept s t.release := h.replies (release_replies t)

/-! ## Flip requests of the sequencers (R240, R243) -/

theorem setPatDom {x : PatDom} (h : CycleKept s t) (d : Nat) : CycleKept s (t.setPatDom d x) := h

theorem noteBank {a b : List Nat} (h : CycleKept s t) (d : Nat) : CycleKept s (t.noteBank d a b) := h

theorem setBank {b : PatBank} (h : CycleKept s t) (d k : Nat) : CycleKept s (t.setBank d k b) :=
  .ite (setFld rfl (setFld rfl (h.setPatDom d))) (setFld rfl (setFld rfl (h.setPatDom d)))

/-- The format field of either bank. -/
theorem setBankFmt (h : CycleKept s t) (k v d : Nat) :
    CycleKept s (t.setFld (if k = 0 then F.PAT_BANK_FMT_A else F.PAT_BANK_FMT_B) v d) :=
  setFld (by split <;> rfl) h

theorem patWriteNow (h : CycleKept s t) (d : Nat) : CycleKept s (t.patWriteNow d) := by
  unfold State.patWriteNow
  split
  · exact h
  · have hb (k v : Nat) (b : PatBank) (x y : List Nat) : CycleKept s
        (((t.setBank d k b).noteBank d x y).setFld (if k = 0 then F.PAT_BANK_FMT_A else F.PAT_BANK_FMT_B) v d) :=
      setBankFmt (noteBank (h.setBank d k) d) k v d
    exact setPatDom (.ite (setFlag rfl (hb ..)) (hb ..)) d

theorem patWrite (h : CycleKept s t) (d : Nat) : CycleKept s (t.patWrite d) := by
  unfold State.patWrite
  split
  · exact h
  · exact .ite (h.setPatDom d) (h.patWriteNow d)

theorem rawWrite {l : List (Bool × Nat × BitVec 128)} {b : Bool} (h : CycleKept s t) (d : Nat) : CycleKept s (t.rawWrite d l b) := by
  unfold State.rawWrite
  refine .ite (h.setPatDom d) (setPatDom ?_ d)
  split
  · exact setBankFmt (noteBank (h.setBank d _) d) _ _ d
  · exact noteBank (h.setBank d _) d

theorem patWaiting (h : CycleKept s t) (d : Nat) : CycleKept s (t.patWaiting d) := by
  have hw : CycleKept s (if (t.patDom d).deferred then t.patWrite d else t) := .ite (h.patWrite d) h
  exact .ite h (.ite hw (rawWrite (hw.setPatDom d) d))

theorem patBoundary (h : CycleKept s t) (d : Nat) : CycleKept s (t.patBoundary d) := by
  have hf : CycleKept s (if (t.patDom d).flipReq then t.setFlag F.PAT_BANK_FLIP_PEND true d else t) := .ite (setFlag rfl h) h
  have hw := patWaiting (hf.setPatDom (x := { t.patDom d with flipReq := false }) d) d
  exact .ite hw (setPatDom (.foldl (fun _ _ hu => event hu _ _ _ _) (hw.setBank d _)) d)

/-! ## The twin's changes (R508, R512, R513) -/

/-- What happens in the name of the next EPOCH leaves the cycle as it would. -/
theorem atNext {f : State → State} (hf : ∀ u, CycleKept u (f u)) (h : CycleKept s t) : CycleKept s (t.atNext f) := by
  have hn := hf { t with sys := { t.sys with epoch := t.sys.epoch + 1 } }
  exact .other (congrArg (fun c => (c.1, (t.sys.epoch, c.2.1.2), c.2.2)) hn) h

theorem finishReply {p : Bytes} {e : Option Nat} (h : CycleKept s t) (src seq st : Nat) : CycleKept s (t.finishReply src seq st p e) :=
  release (.ite (incFld rfl h) h)

theorem promoteDo (h : CycleKept s t) (c : Nat) : CycleKept s (t.promoteDo c) := by
  have hp : CycleKept s ((((t.enterMode .pour c).incFld F.TWN_CNT_PROMOTIONS).setFlag F.TWN_STAT_RESYNC_BUSY false).journalOwn 0xA 0) :=
    journalOwn (setFlag rfl (incFld rfl (h.enterMode .pour c))) 0xA 0
  have hsync : CycleKept s ((((((t.enterMode .pour c).incFld F.TWN_CNT_PROMOTIONS).setFlag F.TWN_STAT_RESYNC_BUSY false).journalOwn
      0xA 0).syncClear 1).setFlag F.TWN_STAT_SYNC_EVER false) := setFlag rfl (hp.control (ControlKept.syncClear (.refl _) 1))
  exact hsync

theorem promoteNow (h : CycleKept s t) : CycleKept s t.promoteNow := by
  unfold State.promoteNow
  split
  · exact h
  · exact .ite (atNext (fun u => promoteDo (.refl u) _) h) h

theorem promoteRest (h : CycleKept s t) : CycleKept s t.promoteRest := control (ControlKept.promoteRest t) h

theorem promoteBoundary (h : CycleKept s t) : CycleKept s t.promoteBoundary :=
  .ite (atNext (fun u => promoteRest (.refl u)) h.promoteNow) h.promoteNow

theorem leaveNow (h : CycleKept s t) : CycleKept s t.leaveNow :=
  .ite h (.ite (atNext (fun u => enterMode (.refl u) _ _) h) h)

theorem sendRecord (h : CycleKept s t) : CycleKept s t.sendRecord := by
  unfold State.sendRecord
  refine .ite h (.ite (.ite h ?_) h)
  exact .other (u := State.gatherClear _) rfl (aksSend (incFld rfl h))

theorem swapNow (h : CycleKept s t) : CycleKept s t.swapNow.1 := by
  unfold State.swapNow
  split
  · exact h
  split
  · exact h
  refine .ite h (atNext (fun u => ?_) h)
  extract_lets _ _ _ _ v w _ _
  have hv : CycleKept u v := by
    simp only [v]
    split
    · exact rfl
    · exact rfl
    · exact rfl
  have hw : CycleKept u w := .ite (hv.journalOwn _ _) hv
  exact hw

theorem swapBoundary (h : CycleKept s t) : CycleKept s t.swapBoundary := by
  unfold State.swapBoundary
  extract_lets due s1
  have h1 : CycleKept s s1 := .ite h.sendRecord h
  have hx := h1.swapNow
  generalize s1.swapNow = vx at hx ⊢
  obtain ⟨v, x⟩ := vx
  dsimp -zeta only
  extract_lets promoted _ demoted _ w
  have hp : CycleKept s promoted := atNext (fun u => promoteRest (.refl u)) hx
  have hd : CycleKept s demoted := setPair rfl rfl hx
  have hw : CycleKept s w := .ite hp (.ite hd hx)
  split
  · exact .ite hw (atNext (fun u => finishReply (.refl u) _ _ _) hw)
  · exact hw

theorem dropTwin (h : CycleKept s t) : CycleKept s t.dropTwin := by
  unfold State.dropTwin
  extract_lets s1
  have h1 : CycleKept s s1 := by
    simp only [s1]
    split
    · exact .ite h (h.finishReply _ _ _)
    · exact h
  exact h1

theorem twinBoundary (h : CycleKept s t) : CycleKept s t.twinBoundary :=
  .ite h.dropTwin (.ite h h.leaveNow.promoteBoundary.swapBoundary)

theorem logSeqs (h : CycleKept s t) : CycleKept s t.logSeqs := .ite h h

/-! ## After the count -/

theorem wakeNow (h : CycleKept s t) : CycleKept s t.wakeNow := by
  have hm : CycleKept s (t.enterMode .melt 0x5) := h
  exact .ite h (setFld rfl hm)

theorem roleNow (h : CycleKept s t) : CycleKept s t.roleNow := h

theorem failoverNow (h : CycleKept s t) : CycleKept s t.failoverNow := .ite h (.ite (.ite (aksSend h) h) h)

theorem aptFormat (h : CycleKept s t) : CycleKept s t.aptFormat :=
  .foldl (fun _ _ hu => .ite hu (setFld rfl (setFlag rfl (setFlag rfl (setFld rfl hu))))) h

theorem sendFull (h : CycleKept s t) : CycleKept s t.sendFull := .ite h (.ite h (aksSend h))

theorem readChanges (h : CycleKept s t) : CycleKept s t.readChanges := h

/-- With no trigger queued and none lost, the drain leaves the cycle. -/
theorem drainTriggers (h : CycleKept s t) (hq : t.cmd.trigQ = []) (hl : t.cmd.trigLost = []) : CycleKept s t.drainTriggers := by
  have hnone : CycleKept s { t with cmd := { t.cmd with trigQ := [], trigLost := [] } } :=
    .other (of_parts (s := t) rfl rfl rfl hq.symm hl.symm rfl) h
  unfold State.drainTriggers
  rw [hq, hl]
  exact .ite h (setFld rfl hnone)

/-- With no command waiting, a boundary applies none. -/
theorem boundaryCommands (h : CycleKept s t) (ha : t.cmd.admitted = []) (order : List Nat) :
    CycleKept s (t.boundaryCommands order false) := by
  have hnone : CycleKept s { t with cmd := { t.cmd with admitted := [] } } := .other (of_parts (s := t) rfl rfl ha.symm rfl rfl rfl) h
  unfold State.boundaryCommands
  rw [ha, State.boundaryOrder_nil]
  exact .ite h hnone

end CycleKept

end Sys2Proof.Machine
end

section
/-! PROOFS. A cast cycle boundary (R19 to R32): its phases, and the EPOCH it counts. -/

namespace Sys2Proof.Machine

namespace State

/-- What ends a cycle: flip requests, the twin's changes, and the record. -/
def cycleEnd (s : State) : State :=
  (if s.rst.pUp then [0, 1, 2, 3].foldl (fun t d => t.patBoundary d) s else s).twinBoundary.logSeqs.sendRecord

/-- What begins the next cycle once it is counted: a wake, ROLE, a failover request, and the commands. -/
def cycleBegin (s : State) (order : List Nat) (before : Mode) : State :=
  (s.wakeNow.roleNow.failoverNow.boundaryCommands order false).castAfter before

theorem cycleEnd_kept (s : State) : CycleKept s s.cycleEnd := by
  have h : CycleKept s s := .refl s
  have hp : CycleKept s (if s.rst.pUp then [0, 1, 2, 3].foldl (fun t d => t.patBoundary d) s else s) :=
    .ite (.foldl (fun _ d hu => CycleKept.patBoundary hu d) h) h
  exact hp.twinBoundary.logSeqs.sendRecord

/-- With nothing waiting, what begins a cycle leaves its count. -/
theorem cycleBegin_kept {s : State} (order : List Nat) (before : Mode) (ha : s.cmd.admitted = []) (hq : s.cmd.trigQ = [])
    (hl : s.cmd.trigLost = []) : CycleKept s (s.cycleBegin order before) := by
  have h : CycleKept s s := .refl s
  have h1 := h.wakeNow.roleNow.failoverNow
  have h2 := (h1.boundaryCommands (h1.admitted.trans ha) order).roleNow
  unfold cycleBegin castAfter
  refine .release (.readChanges ?_)
  have h3 (e : Nat) (b : Bytes) := CycleKept.sendFull (CycleKept.aptFormat
    (Kept.ite (c := (s.wakeNow.roleNow.failoverNow.boundaryCommands order false).roleNow.sys.mode = before)
      h2 (h2.aksSend (k := aksReport) (e := e) (b := b))))
  exact (h3 _ _).drainTriggers ((h3 _ _).trigQ.trans hq) ((h3 _ _).trigLost.trans hl)

/-- With no reset pending, a boundary ends the cycle, counts it, and begins the next. -/
theorem boundary_eq {s : State} (ha : s.rst.aUp = true) (hr : s.rst.rstPend = none) (order : List Nat) (d0 : Bool) (len : Nat) :
    s.boundary order d0 len = (s.cycleEnd.castCount d0 len).cycleBegin order s.sys.mode := by
  have hend := s.cycleEnd_kept
  have hdue : (s.cycleEnd.castCount d0 len).resetDue = false := by
    show (s.cycleEnd.rst.rstPend.isSome && _) = false
    rw [hend.rstPend, hr]
    rfl
  have hup : (s.cycleEnd.castCount d0 len).rst.aUp = true := hend.aUp.trans ha
  show (let t := if (s.cycleEnd.castCount d0 len).resetDue then
          ((s.cycleEnd.castCount d0 len).boundaryCommands order true).resetNow else s.cycleEnd.castCount d0 len
        if !t.rst.aUp then t else t.cycleBegin order s.sys.mode) = _
  simp only [hdue, Bool.false_eq_true, if_false, hup, Bool.not_true]

theorem castTimer_eq {s : State} (hc : s.chipHeld = false) (hr : s.running 0 = false) (order : List Nat) :
    s.castTimer order = s.boundary order false 64000 :=
  if_neg (by simp [hc, hr])

theorem castTimer_still {s : State} (h : s.chipHeld = true ∨ s.running 0 = true) (order : List Nat) : s.castTimer order = s :=
  if_pos (by simpa using h)

theorem castBoundary_eq {s : State} (ha : s.rst.aUp = true) (hl : s.onLines = true)
    (hage : s.sys.castSrc = false → 2000 ≤ s.sys.castAge) (order : List Nat) :
    s.castBoundary order = s.boundary order true s.sys.castAge := by
  refine if_neg ?_
  cases h : s.sys.castSrc <;> simp_all

theorem castBoundary_still {s : State} (h : s.rst.aUp = false ∨ s.onLines = false) (order : List Nat) : s.castBoundary order = s := by
  refine if_pos ?_
  rcases h with h | h <;> simp [h]

/-- A boundary with nothing waiting counts the cycle and leaves the count. -/
theorem boundary_counts {s : State} (ha : s.rst.aUp = true) (hr : s.rst.rstPend = none) (hadm : s.cmd.admitted = [])
    (hq : s.cmd.trigQ = []) (hl : s.cmd.trigLost = []) (order : List Nat) (d0 : Bool) (len : Nat) :
    let t := s.boundary order d0 len
    t.sys.epoch = (s.sys.epoch + 1) % 2 ^ 64 ∧ t.sys.castAge = 0 ∧ t.sys.castSrc = d0 ∧
      t.fld F.SYS_CAST_LAST_LEN = min 128000 len := by
  have hend := s.cycleEnd_kept
  have hbegin := cycleBegin_kept (s := s.cycleEnd.castCount d0 len) order s.sys.mode (hend.admitted.trans hadm)
    (hend.trigQ.trans hq) (hend.trigLost.trans hl)
  rw [boundary_eq ha hr]
  refine ⟨hbegin.epoch.trans ?_, hbegin.castAge, hbegin.castSrc, ?_⟩
  · show (s.cycleEnd.sys.epoch + 1) % 2 ^ 64 = _
    rw [hend.epoch]
  · refine (fld_of_reg hbegin.cast).trans ((fld_setFld_same _ _ _ _ _ (by decide)).trans (Nat.mod_eq_of_lt ?_))
    simp only [F.SYS_CAST_LAST_LEN]
    omega

end State

/-- A row that is such a boundary answers its count. -/
theorem counts_of_boundary {i : Instr} {f : State → State} {s : State} {order : List Nat} {d0 : Bool} {len : Nat}
    (hx : exec i s = runEff f s) (hf : f s.begin = s.begin.boundary order d0 len) (ha : s.rst.aUp = true)
    (hr : s.rst.rstPend = none) (hadm : s.cmd.admitted = []) (hq : s.cmd.trigQ = []) (hl : s.cmd.trigLost = []) :
    ∃ t, exec i s = .next t ∧ t.sys.epoch = (s.sys.epoch + 1) % 2 ^ 64 ∧ t.sys.castAge = 0 ∧ t.sys.castSrc = d0 ∧
      t.fld F.SYS_CAST_LAST_LEN = min 128000 len := by
  obtain ⟨he, hage, hsrc, hlen⟩ := State.boundary_counts (s := s.begin) ha hr hadm hq hl order d0 len
  refine ⟨_, hx.trans (runEff_next f s), ?_⟩
  rw [commit_sys, commit_fld, hf]
  exact ⟨he, hage, hsrc, hlen⟩

/-- Settles O15: no phase but the count touches EPOCH, the cycle's age or SYS_CAST. -/
theorem boundaryAdvancesEpoch : Obligations.BoundaryAdvancesEpoch := by
  unfold Obligations.BoundaryAdvancesEpoch
  intro order s ha hr hadm hq hl
  refine ⟨fun hc h0 => ?timer, fun hon hage => ?lines⟩
  case timer =>
    exact counts_of_boundary (exec_castTimerExpiry order s) (State.castTimer_eq (s := s.begin) hc h0 order) ha hr hadm hq hl
  case lines =>
    exact counts_of_boundary (exec_castBoundary order s) (State.castBoundary_eq (s := s.begin) ha hon hage order) ha hr hadm hq hl

/-- Settles O16: with no reset pending no phase is left out. -/
theorem boundaryRunsItsPhasesInOrder : Obligations.BoundaryRunsItsPhasesInOrder := by
  unfold Obligations.BoundaryRunsItsPhasesInOrder
  intro order s
  refine ⟨?runs, ?timerOff, ?linesOff⟩
  case runs =>
    intro _ ha hr _ _ _
    have hb := State.boundary_eq (s := s.begin) ha hr order
    refine ⟨fun hc h0 => ?_, fun hon hage => ?_⟩
    · exact does_self (exec_castTimerExpiry order s) ((State.castTimer_eq (s := s.begin) hc h0 order).trans (hb _ _))
    · exact does_self (exec_castBoundary order s) ((State.castBoundary_eq (s := s.begin) ha hon hage order).trans (hb _ _))
  case timerOff =>
    exact fun h => does_of (o := []) (exec_castTimerExpiry order s) (State.castTimer_still (s := s.begin) h order)
  case linesOff =>
    exact fun h => does_of (o := []) (exec_castBoundary order s) (State.castBoundary_still (s := s.begin) h order)

end Sys2Proof.Machine
end

section
/-! PROOFS. Device, twin, key and option commands (families 0x00, 0x0C, 0x0D and 0x0E): their effect or their refusal. -/

namespace Sys2Proof.Machine

/-! ## Checks in order (R475) -/

section
variable {b : Bool} {r : RefRec} {l : List (Bool × RefRec)} {k : Unit → CmdResult}

theorem guarded_pass (h : b = false) : guarded ((b, r) :: l) k = guarded l k := by
  subst h
  rfl

theorem guarded_fail (h : b = true) : guarded ((b, r) :: l) k = .bad r := by
  subst h
  rfl

theorem guarded_nil : guarded [] k = k () := rfl

end

/-- The check that a number is not above a limit. -/
theorem decide_above {m n : Nat} (h : n ≤ m) : decide (m < n) = false := decide_eq_false (Nat.not_lt.mpr h)

theorem not_inRanges_one {a b v : Nat} (h : a ≤ v) (g : v ≤ b) : (!inRanges [(a, b)] v) = false := by simp [inRanges, h, g]

theorem not_inRanges_out {a b v : Nat} (h : v < a ∨ b < v) : (!inRanges [(a, b)] v) = true := by
  have h' : v < a ∨ b < v := h
  simp [inRanges, List.any_cons]
  omega

section
variable {c : Cmd} {s : State}

/-! ## Commands without parameters -/

theorem applyPing_eq (h : c.params.length = 0) : applyOp opPing c s = .ok s [] := by
  show applyPing c s = _
  rw [applyPing, guarded_lenIs h, guarded_nil]

theorem applyQuench_eq (h : c.params.length = 0) : applyOp opQuench c s = .ok (s.raise fltQuenchCmd []) [] := by
  show applyQuench c s = _
  rw [applyQuench, guarded_lenIs h, guarded_nil]

theorem applyCauseClear_eq (h : c.params.length = 0) : applyOp opCauseClear c s = .ok (s.setReg F.RST_CAUSE_CAUSE.off 0) [] := by
  show applyCauseClear c s = _
  rw [applyCauseClear, guarded_lenIs h, guarded_nil]

/-! ### Planned role changes (R513) -/

theorem applyPromote_checks (h : c.params.length = 0) : applyOp opPromote c s =
    guarded [(!s.partnerOk, rejAll 0x0603), (!s.flag F.TWN_STAT_SYNC, rejAll 0x0604)] fun _ =>
      .ok (s.swapPlan c.src.val c.seq.toNat 0x1) [] := by
  show applyPromote c s = _
  rw [applyPromote, guarded_lenIs h]

theorem applyRoleSwap_checks (h : c.params.length = 0) : applyOp opRoleSwap c s =
    guarded [(!s.partnerOk, rejAll 0x0603), (!s.flag F.TWN_STAT_SYNC || s.partnerMode != some Mode.hold.code, rejAll 0x0604)] fun _ =>
      .ok (s.swapPlan c.src.val c.seq.toNat 0x1) [] := by
  show applyRoleSwap c s = _
  rw [applyRoleSwap, guarded_lenIs h]

theorem applyResync_checks (h : c.params.length = 0) : applyOp opResync c s =
    guarded [(!s.partnerOk, rejAll 0x0603)] fun _ => .ok s.startResync [] := by
  show applyResync c s = _
  rw [applyResync, guarded_lenIs h]

/-- Without a partner no twin command is accepted. -/
theorem twin_no_partner (h : c.params.length = 0) (hp : s.partnerOk = false) :
    applyOp opPromote c s = .bad (rejAll 0x0603) ∧ applyOp opRoleSwap c s = .bad (rejAll 0x0603) ∧
      applyOp opResync c s = .bad (rejAll 0x0603) := by
  have hf : (!s.partnerOk) = true := by simp [hp]
  rw [applyPromote_checks h, applyRoleSwap_checks h, applyResync_checks h, guarded_fail hf, guarded_fail hf, guarded_fail hf]
  exact ⟨rfl, rfl, rfl⟩

/-- Out of synchronisation no role change is accepted. -/
theorem twin_no_sync (h : c.params.length = 0) (hp : s.partnerOk = true) (hs : s.flag F.TWN_STAT_SYNC = false) :
    applyOp opPromote c s = .bad (rejAll 0x0604) ∧ applyOp opRoleSwap c s = .bad (rejAll 0x0604) := by
  have hok : (!s.partnerOk) = false := by simp [hp]
  rw [applyPromote_checks h, applyRoleSwap_checks h, guarded_pass hok, guarded_pass hok, guarded_fail (by simp [hs]),
    guarded_fail (by simp [hs])]
  exact ⟨rfl, rfl⟩

/-- PROMOTE outside Hold agrees the change without a frame. -/
theorem applyPromote_ok (h : c.params.length = 0) (hp : s.partnerOk = true) (hs : s.flag F.TWN_STAT_SYNC = true)
    (hm : s.sys.mode ≠ .hold) :
    applyOp opPromote c s = .ok
      { s with twn := { s.twn with
          swapAt := some (s.sys.epoch + 3, c.src.val, c.seq.toNat, 1), swapAck := false, swapRec := s.sys.mode == .pour } } [] := by
  rw [applyPromote_checks h, guarded_pass (by simp [hp]), guarded_pass (by simp [hs]), guarded_nil, State.swapPlan]
  exact congrArg (CmdResult.ok · [] none none) (if_neg hm)

/-! ## MODE_SET (R18, R478) -/

/-- The transitions of R18 that have no condition. -/
def freeModes : List (Mode × Mode) :=
  [(.melt, .proof), (.pour, .melt), (.hold, .melt), (.hold, .proof), (.proof, .melt)]

/-- The transitions of R18. -/
def listedModes : List (Mode × Mode) :=
  [(.melt, .cold), (.melt, .pour), (.melt, .hold), (.proof, .hold), (.melt, .proof), (.pour, .hold),
    (.pour, .melt), (.hold, .melt), (.hold, .proof), (.proof, .melt)]

theorem modeChecks_free {m : Mode} (h : (s.sys.mode, m) ∈ freeModes) : s.modeChecks m = [] := by
  unfold State.modeChecks
  cases hs : s.sys.mode <;> cases m <;> simp_all [freeModes]

theorem modeChecks_unlisted {m : Mode} (h : (s.sys.mode, m) ∉ listedModes) : s.modeChecks m = [(true, rejAll 0x0302)] := by
  unfold State.modeChecks
  cases hs : s.sys.mode <;> cases m <;> simp_all [listedModes]

theorem applyModeSet_some {m : Mode} (h : c.params.length = 4) (hm : Mode.ofCode (byteAt c.params 0) = some m) :
    applyOp opModeSet c s = guarded ((m == .quench, rej 0x0108 0) :: s.modeChecks m) fun _ =>
      .ok (State.modeEnter { s with sys := { s.sys with targetDramOff := m == .cold && bitOf (byteAt c.params 1) 0 } } m) [] := by
  show applyModeSet c s = _
  unfold applyModeSet
  rw [hm]
  exact guarded_lenIs h _ _

theorem applyModeSet_none (h : c.params.length = 4) (hm : Mode.ofCode (byteAt c.params 0) = none) :
    applyOp opModeSet c s = .bad (rej 0x0108 0) := by
  show applyModeSet c s = _
  unfold applyModeSet
  rw [hm]
  exact guarded_lenIs h [] _

theorem loopEnd_sys (t : State) (b : Bool) : (t.loopEnd b).sys = t.sys := by
  unfold State.loopEnd
  split <;> rfl

/-- Entering Melt or Proof by command: the mode, its cause and its EPOCH. -/
theorem sys_modeEnter {t : State} {m : Mode} (hm : m = .melt ∨ m = .proof) :
    (t.modeEnter m).sys.mode = m ∧ (t.modeEnter m).sys.lastCause = 1 ∧ (t.modeEnter m).sys.modeEpoch = t.sys.epoch := by
  have he : (if t.sys.mode = .proof then t.loopEnd true else t).sys.epoch = t.sys.epoch := by
    split
    · rw [loopEnd_sys]
    · rfl
  rcases hm with rfl | rfl
  · exact ⟨rfl, rfl, he⟩
  · exact ⟨rfl, rfl, he⟩

theorem free_target {m n : Mode} (h : (m, n) ∈ freeModes) : n = .melt ∨ n = .proof := by
  cases n <;> simp_all [freeModes]

theorem applyModeSet_free {m : Mode} (h : c.params.length = 4) (hm : Mode.ofCode (byteAt c.params 0) = some m)
    (hf : (s.sys.mode, m) ∈ freeModes) :
    ∃ t, applyOp opModeSet c s = .ok t [] ∧ t.sys.mode = m ∧ t.sys.lastCause = 1 ∧ t.sys.modeEpoch = s.sys.epoch := by
  have ht := free_target hf
  rw [applyModeSet_some h hm, modeChecks_free hf, guarded_pass (by rcases ht with rfl | rfl <;> rfl), guarded_nil]
  exact ⟨_, rfl, sys_modeEnter ht⟩

/-! ## EGRESS_LOOP (R518) -/

/-- The loop's status as a new comparison begins. -/
def State.loopCleared (s : State) (k u : Nat) : State :=
  let s := ((s.setFlag F.TWN_LOOP_STAT_DONE false).setFlag F.TWN_LOOP_STAT_PASS false).setFld F.TWN_LOOP_STAT_KIND k
  ((s.setFld F.TWN_LOOP_STAT_UNIT u).setFld F.TWN_LOOP_STAT_COMPARED 0).setFld F.TWN_LOOP_STAT_MISMATCH 0

/-- A new comparison. -/
def State.loopBegun (s : State) (k u : Nat) : State :=
  let s := s.loopCleared k u
  { s with twn := { s.twn with loop := some ⟨k, u, []⟩ } }

theorem State.loopBegun_status (s : State) (k u : Nat) :
    (s.loopBegun k u).flag F.TWN_LOOP_STAT_DONE = false ∧ (s.loopBegun k u).fld F.TWN_LOOP_STAT_MISMATCH = 0 := by
  have hregs : (s.loopBegun k u).regs = (s.loopCleared k u).regs := rfl
  unfold State.flag
  rw [State.fld_of_regs _ _ hregs, State.fld_of_regs _ _ hregs]
  constructor
  · unfold State.loopCleared State.setFlag
    rw [State.fld_setFld_word _ F.TWN_LOOP_STAT_MISMATCH _ _ _ _ _ _ (by decide),
      State.fld_setFld_word _ F.TWN_LOOP_STAT_COMPARED _ _ _ _ _ _ (by decide),
      State.fld_setFld_bits _ F.TWN_LOOP_STAT_UNIT F.TWN_LOOP_STAT_DONE _ _ _ _ _ rfl (by decide) (by decide),
      State.fld_setFld_bits _ F.TWN_LOOP_STAT_KIND F.TWN_LOOP_STAT_DONE _ _ _ _ _ rfl (by decide) (by decide),
      State.fld_setFld_bits _ F.TWN_LOOP_STAT_PASS F.TWN_LOOP_STAT_DONE _ _ _ _ _ rfl (by decide) (by decide),
      State.fld_setFld_same _ _ _ _ _ (by decide)]
    rfl
  · exact (State.fld_setFld_same _ _ _ _ _ (by decide)).trans (Nat.zero_mod _)

/-- EGRESS_LOOP of a unit that exists, with a partner and no loop under way. -/
theorem applyEgressLoop_ok (h : c.params.length = 4) (hk : byteAt c.params 0 ≤ 2)
    (hu : u16 c.params 2 ≤ [67, 15, 31].getD (byteAt c.params 0) 0) (hp : s.partnerOk = true) (hl : s.twn.loop = none) :
    ∃ t, applyOp opEgressLoop c s = .ok t [] ∧ t.twn.loop = some ⟨byteAt c.params 0, u16 c.params 2, []⟩ ∧
      t.flag F.TWN_LOOP_STAT_DONE = false ∧ t.fld F.TWN_LOOP_STAT_MISMATCH = 0 := by
  obtain ⟨hd, hm⟩ := s.loopBegun_status (byteAt c.params 0) (u16 c.params 2)
  refine ⟨s.loopBegun (byteAt c.params 0) (u16 c.params 2), ?_, rfl, hd, hm⟩
  show applyEgressLoop c s = _
  unfold applyEgressLoop
  dsimp only
  rw [guarded_lenIs h, guarded_pass (decide_above hk), guarded_pass (decide_above hu), guarded_pass (by simp [hp]),
    guarded_pass (by simp [hl]), guarded_nil]
  rfl

/-! ## Resets, faults, keys and options -/

theorem applyReset_ok (h : c.params.length = 4) (h1 : 1 ≤ byteAt c.params 0) (h4 : byteAt c.params 0 ≤ 4) :
    applyOp opReset c s = .ok { s with rst := { s.rst with rstPend := some (byteAt c.params 0) } } [] := by
  show applyReset c s = _
  rw [applyReset, guarded_lenIs h, guarded_pass (not_inRanges_one h1 h4), guarded_nil]

theorem applyReset_bad (h : c.params.length = 4) (hk : byteAt c.params 0 = 0 ∨ 4 < byteAt c.params 0) :
    applyOp opReset c s = .bad (rej 0x0108 0) := by
  show applyReset c s = _
  rw [applyReset, guarded_lenIs h, guarded_fail (not_inRanges_out (by omega))]

theorem applyKeyErase_ok (h : c.params.length = 4) (hk : byteAt c.params 0 ≤ 63) :
    applyOp opKeyErase c s = .ok (s.keyQueue ⟨byteAt c.params 0, none, c.src.val, c.seq.toNat⟩) [] := by
  show applyKeyErase c s = _
  rw [applyKeyErase, guarded_lenIs h, guarded_pass (decide_above hk), guarded_nil]

theorem applyKeyErase_bad (h : c.params.length = 4) (hk : 63 < byteAt c.params 0) :
    applyOp opKeyErase c s = .bad (rej 0x0108 0) := by
  show applyKeyErase c s = _
  rw [applyKeyErase, guarded_lenIs h, guarded_fail (decide_eq_true hk)]

theorem applyTwinCfg_ok (h : c.params.length = 4) (hl : byteAt c.params 0 ≤ 15) :
    applyOp opTwinCfg c s =
      .ok ((s.setFld F.TWN_CFG_LINK (byteAt c.params 0)).setFlag F.TWN_CFG_EN (bitOf (byteAt c.params 1) 0)) [] := by
  show applyTwinCfg c s = _
  rw [applyTwinCfg, guarded_lenIs h, guarded_pass (decide_above hl), guarded_nil]

theorem applyFltClear_eq (h : c.params.length = 12) :
    applyOp opFltClear c s = .ok (if bitOf (byteAt c.params 8) 0 then (s.fltClear (u64 c.params 0)).fltFirstClear
      else s.fltClear (u64 c.params 0)) [] := by
  show applyFltClear c s = _
  rw [applyFltClear, guarded_lenIs h, guarded_nil]

theorem applyAttest_ok (h : c.params.length = 48) (hn : s.key.attest = none) :
    applyOp opAttest c s =
      .ok { s with key := { s.key with attest := some (s.statement c.params, c.src.val, c.seq.toNat) } } [] := by
  show applyAttest c s = _
  rw [applyAttest, guarded_lenIs h, guarded_pass (by simp [hn]), guarded_nil]

theorem applyAttest_busy (h : c.params.length = 48) (hn : s.key.attest ≠ none) :
    applyOp opAttest c s = .bad (rejAll 0x0306) := by
  show applyAttest c s = _
  rw [applyAttest, guarded_lenIs h, guarded_fail (Option.isSome_iff_ne_none.mpr hn)]

/-- KEY_WRITE of whole bytes comes to the tamper check (R572). -/
theorem applyKeyWrite_checks {bits : Nat} (hb : u16 c.params 2 = bits) (h1 : 1 ≤ bits) (h512 : bits ≤ 512) (h8 : bits % 8 = 0)
    (hlen : c.params.length = 4 + pad4 (bits / 8)) (hk : byteAt c.params 0 ≤ 63) :
    applyOp opKeyWrite c s = guarded [(s.tamperNow, rejAll 0x0410)] fun _ =>
      .ok (s.keyQueue ⟨byteAt c.params 0, some (bits, slice c.params 4 (bits / 8)), c.src.val, c.seq.toNat⟩) [] := by
  have hdiv : ceilDiv bits 8 = bits / 8 := by unfold ceilDiv; omega
  show applyKeyWrite c s = _
  unfold applyKeyWrite
  dsimp only
  rw [hb, hdiv, guarded_pass (by simp [hlen]), guarded_pass (decide_above hk), guarded_pass (by simp; omega), guarded_lenIs hlen,
    guarded_pass (by simp [h8])]

theorem applyOptProgram_checks (h : c.params.length = 516) (hk : byteAt c.params 0 ≤ 3) :
    applyOp opOptProgram c s =
      guarded [((s.otp.copies.getD (byteAt c.params 0) []).any (· != 0), rejAll 0x0305)] fun _ =>
        .ok { s with otp := { s.otp with copies := s.otp.copies.set (byteAt c.params 0) (slice c.params 4 512 ++
          leBytes 4 (crc32 (slice c.params 4 512)).toNat) } } (leBytes 4 (crc32 (slice c.params 4 512)).toNat) := by
  show applyOptProgram c s = _
  unfold applyOptProgram
  dsimp only
  rw [guarded_lenIs h, guarded_pass (decide_above hk)]

end

/-- Settles O58, command by command. -/
theorem deviceCommandsTakeEffect : Obligations.DeviceCommandsTakeEffect := by
  unfold Obligations.DeviceCommandsTakeEffect
  intro c s
  refine ⟨?plain, ?mode, fun h hm => applyModeSet_none h hm, ?four, fun h => applyFltClear_eq h, ?attest, ?key, ?opt⟩
  case plain =>
    intro h0
    have h : c.params.length = 0 := by rw [h0]; rfl
    exact ⟨applyPing_eq h, applyQuench_eq h, applyCauseClear_eq h, twin_no_partner h, twin_no_sync h, applyPromote_ok h⟩
  case mode =>
    intro m h hm
    refine ⟨fun hq => ?_, fun hq hl => ?_, applyModeSet_free h hm⟩
    · rw [applyModeSet_some h hm, guarded_fail (by simp [hq])]
    · rw [applyModeSet_some h hm, modeChecks_unlisted hl, guarded_pass (by simp [hq]), guarded_fail rfl]
  case four =>
    exact fun h => ⟨applyReset_ok h, applyReset_bad h, applyKeyErase_ok h, applyKeyErase_bad h, applyTwinCfg_ok h, applyEgressLoop_ok h⟩
  case attest => exact fun h => ⟨applyAttest_ok h, applyAttest_busy h⟩
  case key =>
    intro bits hb h1 h512 h8 hlen hk
    rw [applyKeyWrite_checks hb h1 h512 h8 hlen hk]
    exact ⟨fun ht => guarded_fail ht, fun ht => guarded_pass ht⟩
  case opt =>
    intro h hk
    dsimp only
    rw [applyOptProgram_checks h hk]
    exact ⟨fun ho => guarded_fail ho, fun ho => guarded_pass ho⟩

end Sys2Proof.Machine
end

section
/-! PROOFS. Pattern, MACRO, timed, audio, Newt and composition commands (families 0x02 to 0x06): their effect or their refusal. -/

namespace Sys2Proof.Machine

section
variable {c : Cmd} {s : State}

/-! ## Patterns and macros (R287, R482) -/

theorem applyPatClear_checks (h : c.params.length = 4) : applyOp opPatClear c s =
    guarded [(decide (3 < byteAt c.params 0), rej 0x0108 0), (holdsCompiled s (byteAt c.params 0), rejAll 0x0318)] fun _ =>
      .ok (s.patClear (byteAt c.params 0)) [] := by
  show applyPatClear c s = _
  rw [applyPatClear, guarded_lenIs h]

/-- The slot of a stored MACRO emptied. -/
def State.macroDeleted (s : State) (i : Nat) : State :=
  let s : State := { s with cmd := { s.cmd with macros := s.cmd.macros.filter (fun m => m.index != i) } }
  ((s.setFlag F.CMD_MACRO_VALID false i).setFlag F.CMD_MACRO_ARMED false i).setFld F.CMD_MACRO_LEN 0 i

theorem applyMacroDelete_checks (h : c.params.length = 4) : applyOp opMacroDelete c s =
    guarded [((macroBody s (byteAt c.params 0)).isNone, rej 0x030F 0)] fun _ => .ok (s.macroDeleted (byteAt c.params 0)) [] := by
  show applyMacroDelete c s = _
  unfold applyMacroDelete
  dsimp only
  rw [guarded_lenIs h]
  rfl

theorem applyMacroArm_ok (h : c.params.length = 4) (hb : (macroBody s (byteAt c.params 0)).isNone = false)
    (h1 : byteAt c.params 1 ≤ 1) (h2 : byteAt c.params 2 ≤ 2) (h3 : byteAt c.params 3 ≤ 63) :
    applyOp opMacroArm c s = .ok (((s.setFld F.CMD_MACRO_ARMED (byteAt c.params 1) (byteAt c.params 0)).setFld F.CMD_MACRO_EDGE
      (byteAt c.params 2) (byteAt c.params 0)).setFld F.CMD_MACRO_PIN (byteAt c.params 3) (byteAt c.params 0)) [] := by
  show applyMacroArm c s = _
  rw [applyMacroArm, guarded_lenIs h, guarded_pass (decide_above h1), guarded_pass (not_inRanges_one (Nat.zero_le _) h2),
    guarded_pass (decide_above h3), guarded_pass hb, guarded_nil]

/-! ## Timed commands (R257, R483) -/

theorem applySchedCancel_eq (h : c.params.length = 8) (hk : byteAt c.params 0 ≤ 15) : applyOp opSchedCancel c s =
    match s.pat.sched.find? (State.isTimed (byteAt c.params 0) (u32 c.params 4)) with
    | none => .bad (rejAll 0x0316)
    | some t =>
      if t.released then .bad (rejAll 0x0315)
      else .ok (State.secondReply (State.schedCount { s with
        pat := { s.pat with sched := s.pat.sched.filter (fun x => !State.isTimed (byteAt c.params 0) (u32 c.params 4) x) }
        twn := { s.twn with cancelledNow := s.twn.cancelledNow ++ [(byteAt c.params 0, u32 c.params 4)] } })
          t 0x031A (rejAll 0x031A).bytes (some s.sys.epoch) none) [] := by
  show applySchedCancel c s = _
  unfold applySchedCancel
  dsimp only
  rw [guarded_lenIs h, guarded_pass (decide_above hk), guarded_nil]
  rfl

/-! ## Audio (R370, R422, R429, R484) -/

theorem applyAptRestart_ok (h : c.params.length = 4) (hp : byteAt c.params 0 ≤ 15) :
    applyOp opAptRestart c s = .ok (s.restartAsk (byteAt c.params 0)) [] := by
  show applyAptRestart c s = _
  rw [applyAptRestart, guarded_lenIs h, guarded_pass (decide_above hp), guarded_nil]

theorem applyAptCsTx_ok (h : c.params.length = 28) (hp : byteAt c.params 0 ≤ 15) (ha : byteAt c.params 1 ≤ 1) :
    applyOp opAptCsTx c s = .ok (s.setAptPort (byteAt c.params 0) { s.aptPort (byteAt c.params 0) with
      csPend := (s.aptPort (byteAt c.params 0)).csPend ++ [(byteAt c.params 1, slice c.params 4 24)] }) [] := by
  show applyAptCsTx c s = _
  unfold applyAptCsTx
  dsimp only
  rw [guarded_lenIs h, guarded_pass (decide_above hp), guarded_pass (decide_above ha), guarded_nil]

/-- The change that the first item of an XP_SET with a crossfade of its own asks for. -/
def firstXpChange (b : Bytes) : XpChange := ⟨u16 b 4, u16 b 6, u16 b 8, none, 0, none⟩

/-- XP_SET of one channel (R484): the change waits where it does not misuse the matrix. -/
theorem applyXpSet_one (h : c.params.length = 12) (hn : u16 c.params 0 = 1) (hch : u16 c.params 4 ≤ 32767)
    (hsrc : srcRefOk (u16 c.params 6) = true) (hx : u16 c.params 8 ≤ 480)
    (hm : ((s.setFld F.AUD_XP_XFADE (u16 c.params 8) (u16 c.params 4)).xpWait (firstXpChange c.params)).amMisuse = false) :
    applyOp opXpSet c s =
      .ok ((s.setFld F.AUD_XP_XFADE (u16 c.params 8) (u16 c.params 4)).xpWait (firstXpChange c.params)) [] := by
  have hown : u16 c.params 8 ≠ 0xFFFF := by omega
  unfold firstXpChange at hm ⊢
  show applyXpSet c s = _
  unfold applyXpSet
  simp only [hn, List.range_one, List.map_cons, List.map_nil, List.findSome?_cons, List.findSome?_nil, Nat.mul_zero, Nat.add_zero,
    Nat.reduceAdd, if_neg hown, List.getD_cons_zero, Nat.not_lt.mpr hch, List.take_zero, List.any_nil, Bool.false_eq_true, or_self,
    if_false, hsrc, Bool.not_true, Nat.not_lt.mpr hx, Option.isSome_none, List.foldl_cons, List.foldl_nil, hm]
  rw [guarded_pass (by simp [h]), guarded_pass (by decide), guarded_lenIs h, guarded_pass rfl, guarded_nil]

/-! ## Newt tasks and images (R389, R409, R412, R485) -/

/-- The checks of a task command on an existing task pass to its effect. -/
theorem guarded_taskId (h : c.params.length = 4) {k i : Nat} (last : Bool × RefRec) (f : Unit → CmdResult) :
    guarded (lenIs c 4 :: taskIdForm s k i ++ [last]) f =
      guarded [(decide (67 < k), rej 0x0108 0), (decide (31 < i), rej 0x0108 1),
        (s.unitFault .newt k, { rej 0x0501 0 with unit := some k }), last] f := by
  rw [List.cons_append, guarded_lenIs h]
  rfl

/-- The next tasks of a core are asked to be enabled. -/
def State.taskEnabled (s : State) (k i : Nat) : State :=
  let x := s.core k
  let t := s.setCore k { x with tasks := x.tasks.map (fun (t : NwtTask) =>
    if t.index == i && t.dis && !t.removeDue then { t with enableDue := true } else t) }
  { t with twn := { t.twn with newtNow := t.twn.newtNow ++ [(k, i, false)] } }

theorem applyTaskEnable_checks (h : c.params.length = 4) : applyOp opTaskEnable c s =
    guarded [(decide (67 < byteAt c.params 0), rej 0x0108 0), (decide (31 < byteAt c.params 1), rej 0x0108 1),
      (s.unitFault .newt (byteAt c.params 0), { rej 0x0501 0 with unit := some (byteAt c.params 0) }),
      (!taskNamed s (byteAt c.params 0) (byteAt c.params 1), rej 0x030F 0)] fun _ =>
        .ok (s.taskEnabled (byteAt c.params 0) (byteAt c.params 1)) [] := by
  show applyTaskEnable c s = _
  unfold applyTaskEnable
  dsimp only
  rw [guarded_taskId h]
  rfl

theorem applyTaskRemove_checks (h : c.params.length = 4) : applyOp opTaskRemove c s =
    guarded [(decide (67 < byteAt c.params 0), rej 0x0108 0), (decide (31 < byteAt c.params 1), rej 0x0108 1),
      (s.unitFault .newt (byteAt c.params 0), { rej 0x0501 0 with unit := some (byteAt c.params 0) }),
      (!taskNamed s (byteAt c.params 0) (byteAt c.params 1), rej 0x030F 0)] fun _ =>
        .ok (s.dropTask (byteAt c.params 0) (byteAt c.params 1)).audUse [] := by
  show applyTaskRemove c s = _
  unfold applyTaskRemove
  dsimp only
  rw [guarded_taskId h]

/-- A check list that fails at the core number. -/
theorem guarded_core_out {k i : Nat} {b : Bool} {r : RefRec} {l : List (Bool × RefRec)} {f : Unit → CmdResult} (hk : 67 < k) :
    guarded ((decide (67 < k), rej 0x0108 0) :: (decide (31 < i), rej 0x0108 1) :: (b, r) :: l) f = .bad (rej 0x0108 0) :=
  guarded_fail (decide_eq_true hk)

theorem guarded_task_out {k i : Nat} {b : Bool} {r : RefRec} {l : List (Bool × RefRec)} {f : Unit → CmdResult} (hk : k ≤ 67)
    (hi : 31 < i) :
    guarded ((decide (67 < k), rej 0x0108 0) :: (decide (31 < i), rej 0x0108 1) :: (b, r) :: l) f = .bad (rej 0x0108 1) := by
  rw [guarded_pass (decide_above hk), guarded_fail (decide_eq_true hi)]

theorem guarded_task_in {k i : Nat} {b : Bool} {r : RefRec} {l : List (Bool × RefRec)} {f : Unit → CmdResult} (hk : k ≤ 67)
    (hi : i ≤ 31) :
    guarded ((decide (67 < k), rej 0x0108 0) :: (decide (31 < i), rej 0x0108 1) :: (b, r) :: l) f = guarded ((b, r) :: l) f := by
  rw [guarded_pass (decide_above hk), guarded_pass (decide_above hi)]

theorem applyImageDelete_checks (h : c.params.length = 4) (h8 : 8 ≤ byteAt c.params 0) (h63 : byteAt c.params 0 ≤ 63) :
    applyOp opImageDelete c s =
      guarded [(s.imageUsed (byteAt c.params 0), rej 0x0317 0), ((s.image (byteAt c.params 0)).isEmpty, rej 0x030F 0)] fun _ =>
        .ok { s with nwt := { s.nwt with images := s.nwt.images.filter (fun x => x.slot != byteAt c.params 0) } } [] := by
  show applyImageDelete c s = _
  rw [applyImageDelete, guarded_lenIs h, guarded_pass (not_inRanges_one h8 h63)]

/-- TASK_PARAM of a started task of a core that is not in fault (R389): the pending page is written and asked for. -/
theorem applyTaskParam_ok {n : Nat} {t : NwtTask} (hn : u16 c.params 4 = n) (h : c.params.length = 8 + pad4 n)
    (h4 : u16 c.params 2 % 4 = 0) (hk : byteAt c.params 0 < 68) (hf : s.unitFault .newt (byteAt c.params 0) = false)
    (ht : (nextTasks (s.core (byteAt c.params 0))).find? (fun t => t.index == byteAt c.params 1) = some t)
    (hp : u16 c.params 2 + n ≤ t.parLen) (hs : t.startDue = false) :
    applyOp opTaskParam c s = .ok
      (let x := s.core (byteAt c.params 0)
       let u : State := { s with twn := { s.twn with
         pagesNow := s.twn.pagesNow ++ [(byteAt c.params 0, byteAt c.params 1, u16 c.params 2, slice c.params 8 n)] } }
       u.setCore (byteAt c.params 0) (NwtCore.setTask
         { x with dmem := ssetMany zeroByte x.dmem (t.pendingPage + u16 c.params 2) (slice c.params 8 n) }
         { t with swapDue := true })) [] := by
  have hfind : (nextTasks (s.core (byteAt c.params 0))).find? (fun t => t.index == byteAt c.params 1 &&
      decide (byteAt c.params 0 < 68) && !s.unitFault .newt (byteAt c.params 0)) = some t := by
    simpa only [hk, hf, decide_true, Bool.and_true, Bool.not_false] using ht
  show applyTaskParam c s = _
  unfold applyTaskParam
  dsimp only
  rw [hn, hfind]
  dsimp only
  rw [guarded_pass (by simp [h]), guarded_lenIs h, guarded_pass (by simp [h4]), guarded_pass (decide_above hp), guarded_nil,
    if_neg (by simp [hs])]

/-! ## Composition (R345, R487) -/

theorem applyFlipCancel_some {x : SurfFlip} (h : c.params.length = 4) (hf : s.surfEn (u16 c.params 0) = true)
    (hl : 0x4000 ≤ u16 c.params 0) (hh : u16 c.params 0 ≤ 0x40FF)
    (hx : s.chm.flips.find? (fun x => x.surfaces.any (fun p => p.1 == u16 c.params 0)) = some x) :
    applyOp opFlipCancel c s = if x.reached then .bad (rejAll 0x0316) else .ok (s.dropFlip x) [] := by
  show applyFlipCancel c s = _
  unfold applyFlipCancel
  dsimp only
  rw [guarded_lenIs h, guarded_pass (not_inRanges_one hl hh), guarded_pass (by simp [hf]), guarded_nil, hx]

end

/-- Settles O59, command by command. -/
theorem routeAudioAndNewtCommandsTakeEffect : Obligations.RouteAudioAndNewtCommandsTakeEffect := by
  unfold Obligations.RouteAudioAndNewtCommandsTakeEffect
  intro c s
  refine ⟨fun h => ⟨⟨?clear, ?held, ?domOut, ?noMacro, ?stored, fun hp => applyAptRestart_ok h hp, ?coreOut, ?taskOut, ?fault, ?unnamed,
    ?named, ?image⟩, ?flip⟩, ?sched, ?xp, fun h hp ha => applyAptCsTx_ok h hp ha,
    fun n t hn h h4 hk hf ht hp hs => applyTaskParam_ok hn h h4 hk hf ht hp hs⟩
  case clear =>
    intro hd hh
    rw [applyPatClear_checks h, guarded_pass (decide_above hd), guarded_pass hh, guarded_nil]
  case held =>
    intro hd hh
    rw [applyPatClear_checks h, guarded_pass (decide_above hd), guarded_fail hh]
  case domOut =>
    intro hd
    rw [applyPatClear_checks h, guarded_fail (decide_eq_true hd)]
  case noMacro =>
    intro hb
    rw [applyMacroDelete_checks h, guarded_fail (by rw [hb]; rfl)]
  case stored =>
    intro b hb h1 h2 h3
    have hsome : (macroBody s (byteAt c.params 0)).isNone = false := by rw [hb]; rfl
    refine ⟨applyMacroArm_ok h hsome h1 h2 h3, s.macroDeleted (byteAt c.params 0), ?_, rfl⟩
    rw [applyMacroDelete_checks h, guarded_pass hsome, guarded_nil]
  case coreOut =>
    intro hk
    rw [applyTaskEnable_checks h, applyTaskRemove_checks h, guarded_core_out hk, guarded_core_out hk]
    exact ⟨rfl, rfl⟩
  case taskOut =>
    intro hk hi
    rw [applyTaskEnable_checks h, applyTaskRemove_checks h, guarded_task_out hk hi, guarded_task_out hk hi]
    exact ⟨rfl, rfl⟩
  case fault =>
    intro hk hi hf
    rw [applyTaskEnable_checks h, applyTaskRemove_checks h, guarded_task_in hk hi, guarded_task_in hk hi, guarded_fail hf,
      guarded_fail hf]
    exact ⟨rfl, rfl⟩
  case unnamed =>
    intro hk hi hf hn
    have hbad : (!taskNamed s (byteAt c.params 0) (byteAt c.params 1)) = true := by rw [hn]; rfl
    rw [applyTaskEnable_checks h, applyTaskRemove_checks h, guarded_task_in hk hi, guarded_task_in hk hi, guarded_pass hf,
      guarded_pass hf, guarded_fail hbad, guarded_fail hbad]
    exact ⟨rfl, rfl⟩
  case named =>
    intro hk hi hf hn
    have hok : (!taskNamed s (byteAt c.params 0) (byteAt c.params 1)) = false := by rw [hn]; rfl
    rw [applyTaskEnable_checks h, applyTaskRemove_checks h, guarded_task_in hk hi, guarded_task_in hk hi, guarded_pass hf,
      guarded_pass hf, guarded_pass hok, guarded_pass hok]
    exact ⟨rfl, rfl⟩
  case image =>
    intro h8 h63
    rw [applyImageDelete_checks h h8 h63]
    exact ⟨fun hu => guarded_fail hu, fun hu he => (guarded_pass hu).trans (guarded_fail he),
      fun hu he => (guarded_pass hu).trans (guarded_pass he)⟩
  case flip =>
    intro x hf hl hh hx
    rw [applyFlipCancel_some h hf hl hh hx]
    exact ⟨fun hr => if_pos hr, fun hr => if_neg (by simp [hr])⟩
  case sched =>
    intro h hk it
    have heq := applySchedCancel_eq (s := s) h hk
    refine ⟨fun hn => ?_, fun t ht => ⟨fun hr => ?_, fun hr => ?_⟩⟩
    · rw [heq, show s.pat.sched.find? (State.isTimed _ _) = none from hn]
    · rw [heq, show s.pat.sched.find? (State.isTimed _ _) = some t from ht]
      exact if_pos hr
    · rw [heq, show s.pat.sched.find? (State.isTimed _ _) = some t from ht]
      exact if_neg (by simp [hr])
  case xp =>
    intro h hn hch hsrc hx x t hm
    exact applyXpSet_one h hn hch hsrc hx hm

end Sys2Proof.Machine
end

section
/-! PROOFS. The twin link: Akestim frames in sequence order (R117, R118), cast records and their acknowledgement (R501, R502), CROAK
(R548), and a partner that comes or goes (R497, R509). -/

namespace Sys2Proof.Machine

namespace State

/-! ## Frames in sequence order (R117, R118) -/

/-- A responsive partner is heard without effect. -/
theorem partnerHeard_up {s : State} (h : s.flag F.TWN_STAT_PARTNER_UP = true) : s.partnerHeard = s :=
  if_pos (by simp [h])

/-- A good frame acknowledged. -/
def blockAcked (s : State) (q : Nat) : State := s.emit (.akestim aksBlockAck q 0 [])

/-- A good frame acknowledged, with its place in the sequence taken. -/
def aksTaken (s : State) (q : Nat) : State :=
  { s.blockAcked q with lane := { s.lane with aksRx := (q + 1) % 4294967296 } }

theorem aksTake_closed {s : State} (h : s.aksOpen = false) (q : Nat) (f : AksFrame) : s.aksTake q f = s :=
  if_pos (by simp [h])

section
variable {s : State} {q : Nat} {f : AksFrame} (ho : s.aksOpen = true) (hup : s.flag F.TWN_STAT_PARTNER_UP = true)
include ho hup

/-- A frame on an open link, by its distance from the sequence number due. -/
theorem aksTake_open : s.aksTake q f =
    if 2147483648 ≤ (q + 4294967296 - s.lane.aksRx % 4294967296) % 4294967296 then s.blockAcked q
    else if (q + 4294967296 - s.lane.aksRx % 4294967296) % 4294967296 = 0 then
      ((s.aksTaken q).aksDeliver f).aksDrain s.twn.aksHeld.length
    else { s.blockAcked q with
      twn := { s.twn with aksHeld := upsert (fun x => x.1 == q) (q, s.tick, f) s.twn.aksHeld } } := by
  unfold aksTake
  rw [if_neg (by simp [ho]), partnerHeard_up hup]
  rfl

/-- The frame due is delivered, with none held behind it. -/
theorem aksTake_due (hq : s.lane.aksRx = q) (hh : s.twn.aksHeld = []) : s.aksTake q f = (s.aksTaken q).aksDeliver f := by
  have h0 : (q + 4294967296 - s.lane.aksRx % 4294967296) % 4294967296 = 0 := by rw [hq]; omega
  rw [aksTake_open ho hup, h0, if_neg (by decide), if_pos rfl, hh]
  rfl

/-- A frame ahead of the one due is held. -/
theorem aksTake_ahead (h1 : s.lane.aksRx < q) (h2 : q < s.lane.aksRx + 2147483648) (h3 : q < 4294967296) :
    s.aksTake q f = { s.blockAcked q with
      twn := { s.twn with aksHeld := upsert (fun x => x.1 == q) (q, s.tick, f) s.twn.aksHeld } } := by
  rw [aksTake_open ho hup, if_neg (by omega), if_neg (by omega)]

/-- A frame delivered before is acknowledged again. -/
theorem aksTake_before (h1 : q < s.lane.aksRx) (h2 : s.lane.aksRx ≤ q + 2147483648) (h3 : s.lane.aksRx < 4294967296) :
    s.aksTake q f = s.blockAcked q := by
  rw [aksTake_open ho hup, if_pos (by omega)]

end

theorem aksOpen_parts {s : State} (h : s.aksOpen = true) : s.twinOn = true ∧ s.rst.pUp = true := by
  simp only [aksOpen, aksUp, Bool.and_eq_true] at h
  exact ⟨h.1.1.1.1, h.1.1.2⟩

theorem aksOpen_shut {s : State} (h : s.twinOn = false ∨ s.rst.pUp = false ∨ s.sys.mode = .quench ∨ s.sys.mode = .cold) :
    s.aksOpen = false := by
  rcases h with h | h | h | h <;> simp [aksOpen, aksUp, h]

/-- A frame that is not an acknowledgement block is taken in sequence. -/
theorem aksFrame_shut {s : State} (h : s.aksOpen = false) (q : Nat) (b : AksBody) : s.aksFrame q b = s := by
  cases b with
  | ack k => exact if_neg (by simp [h])
  | _ => exact aksTake_closed h q _

/-! ## Cast records (R501, R502) -/

/-- An acknowledgement frees the records up to its EPOCH, and synchronises. -/
theorem mirrorAck_eq {s : State} (hp : s.partnerOk = true) (hm : s.sys.mode ≠ .hold) (hs : s.twn.swapAt = none) (e : Nat) :
    s.mirrorAck e =
      (let t : State := { s with twn := { s.twn with retained := s.twn.retained.filter (fun r => decide (e < r.epoch)) } }
       let t := ((t.setFlag F.TWN_STAT_SYNC true).setFlag F.TWN_STAT_SYNC_EVER true).setFld F.TWN_STAT_UNSYNC_CAUSE 0
       (t.setPair F.TWN_REC_EPOCH_LO_REC_EPOCH F.TWN_REC_EPOCH_HI_REC_EPOCH e).ackReplies e) := by
  unfold mirrorAck
  rw [if_neg (by simp [hp, hm]), hs]
  dsimp only
  rw [Bool.or_false]

theorem mirrorAck_hold {s : State} (h : s.sys.mode = .hold) (e : Nat) : s.mirrorAck e = s := if_pos (.inr h)

/-- The record that is due, at a synchronised standby. -/
theorem recordArrive_due {s : State} {r : CastRec} (ht : s.twinOn = true) (hp : s.rst.pUp = true) (hm : s.sys.mode = .hold)
    (hup : s.flag F.TWN_STAT_PARTNER_UP = true) (hb : s.flag F.TWN_STAT_RESYNC_BUSY = false) (hf : r.full = none)
    (he : r.epoch = s.recNext) (h1 : r.first ≤ r.epoch) :
    s.recordArrive r true =
      if (s.recordApply r).flag F.TWN_STAT_SYNC then (s.recordApply r).aksSend aksRecAck r.epoch [] else s.recordApply r := by
  have hord : s.recordOrdinary r true =
      if (s.recordApply r).flag F.TWN_STAT_SYNC then (s.recordApply r).aksSend aksRecAck r.epoch [] else s.recordApply r := by
    unfold recordOrdinary
    dsimp only
    rw [if_neg (by simp [he]), if_neg (by simp; omega), if_neg (by simp [hb])]
  unfold recordArrive
  rw [if_neg (by simp [ht, hp, hm]), partnerHeard_up hup]
  dsimp only
  rw [if_neg (by simp [hf]), if_neg (by simp [hb]), hord]

theorem mirrorNoAck_early {s : State} {e : Nat} (h : s.sys.epoch < e + 9) : s.mirrorNoAck e = s := if_pos h

theorem mirrorNoAck_late {s : State} {e : Nat} {r : CastRec} (h : e + 9 ≤ s.sys.epoch) (hr : r ∈ s.twn.retained) (h1 : r.first ≤ e)
    (h2 : e ≤ r.epoch) : s.mirrorNoAck e = (s.incFld F.TWN_CNT_NO_ACK).noAckReplies e := by
  have hlate : s.twn.retained.any (fun r => decide (r.first ≤ e) && decide (e ≤ r.epoch)) = true :=
    List.any_eq_true.mpr ⟨r, hr, by simp [h1, h2]⟩
  unfold mirrorNoAck
  rw [if_neg (Nat.not_lt.mpr h)]
  dsimp only
  rw [hlate]
  rfl

/-! ## Retries (R117) -/

theorem aksRetry_none {s : State} {q : Nat} (h : s.aksOpen = false ∨ s.lane.aksPend.find? (fun p => p.seq == q) = none) :
    s.aksRetry q = s := by
  unfold aksRetry
  rcases h with h | h
  · simp [h]
  · cases ho : s.aksOpen <;> simp [h]

theorem aksRetry_some {s : State} {q : Nat} {p : AksPending} (ho : s.aksOpen = true)
    (h : s.lane.aksPend.find? (fun p => p.seq == q) = some p) :
    s.aksRetry q =
      if p.attempts < 3 then
        State.emit { s with lane := { s.lane with
          aksPend := s.lane.aksPend.map (fun x => if x.seq == q then { x with attempts := x.attempts + 1 } else x) } }
          (.akestim p.kind p.seq p.epoch p.body)
      else ((s.aksAck q).incFld F.SPR_AKS_DROP_DROP (s.fld F.TWN_CFG_LINK)).event blkTwn 1 0x0001 [q, p.kind, p.epoch] := by
  unfold aksRetry
  rw [if_pos ho, h]

/-! ## The partner comes (R512) -/

theorem regs_aksSend (s : State) (k e : Nat) (b : Bytes) : (s.aksSend k e b).regs = s.regs := by
  unfold aksSend
  split <;> rfl

theorem sys_aksSend (s : State) (k e : Nat) (b : Bytes) : (s.aksSend k e b).sys = s.sys := (aksSend_replies s k e b).sys

theorem twn_aksSend (s : State) (k e : Nat) (b : Bytes) : (s.aksSend k e b).twn = s.twn := (aksSend_replies s k e b).twn

/-- A transfer asked for leaves the partner responsive. -/
theorem partnerUp_startResync (s : State) : s.startResync.flag F.TWN_STAT_PARTNER_UP = s.flag F.TWN_STAT_PARTNER_UP := by
  have hr : s.startResync.regs = ((s.setFlag F.TWN_STAT_RESYNC_BUSY true).incFld F.TWN_CNT_RESYNCS).regs := regs_aksSend ..
  rw [flag, fld_of_regs _ _ hr, incFld, addFld, fld_setFld_word _ F.TWN_CNT_RESYNCS _ _ _ _ _ _ (by decide)]
  exact flag_setFlag_bits s F.TWN_STAT_RESYNC_BUSY F.TWN_STAT_PARTNER_UP true 0 0 0 0 rfl (by decide) (by decide)

/-- Something good from the partner makes it responsive. -/
theorem partnerUp_partnerHeard {s : State} (h : s.twinOn = true) : s.partnerHeard.flag F.TWN_STAT_PARTNER_UP = true := by
  unfold partnerHeard
  split
  · rename_i hc
    simpa [h] using hc
  · dsimp only
    split
    · rw [partnerUp_startResync]
      exact flag_setFlag_same s F.TWN_STAT_PARTNER_UP true 0 0 (by decide) rfl
    · exact flag_setFlag_same s F.TWN_STAT_PARTNER_UP true 0 0 (by decide) rfl

theorem sys_partnerHeard (s : State) : s.partnerHeard.sys = s.sys := by
  unfold partnerHeard startResync
  split
  · rfl
  · dsimp only
    split
    · rw [sys_aksSend]
      rfl
    · rfl

/-- The link's two ends begin again, with the partner's mode noted. -/
def linkFresh (s : State) (m e : Nat) : State :=
  let t := s.partnerHeard
  ({ t with lane := { t.lane with aksTx := 0, aksRx := 0, aksPend := [] },
            twn := { t.twn with partner := some (m, e), aksHeld := [] } }.fresh 32).2

/-- Outside Pour, bring-up sends a session and a report, and no more. -/
theorem aksLinkUp_eq {s : State} (ht : s.twinOn = true) (hm : s.sys.mode ≠ .pour) (m e l : Nat) : ∃ e1 b1 e2 b2,
    s.aksLinkUp m e l = ((s.linkFresh m e).aksSend aksCommand e1 b1).aksSend aksReport e2 b2 := by
  refine ⟨_, _, _, _, (if_neg (by simp [ht])).trans (if_neg ?_)⟩
  rintro ⟨hp, -⟩
  rw [sys_aksSend, sys_aksSend] at hp
  exact hm ((congrArg SysState.mode (sys_partnerHeard s)).symm.trans hp)

theorem aksLinkUp_facts {s : State} (ht : s.twinOn = true) (hm : s.sys.mode ≠ .pour) (m e l : Nat) :
    (s.aksLinkUp m e l).twn.partner = some (m, e) ∧ (s.aksLinkUp m e l).flag F.TWN_STAT_PARTNER_UP = true := by
  obtain ⟨e1, b1, e2, b2, h⟩ := aksLinkUp_eq ht hm m e l
  rw [h, twn_aksSend, twn_aksSend, flag, fld_of_regs _ _ (regs_aksSend ..), fld_of_regs _ _ (regs_aksSend ..)]
  exact ⟨rfl, partnerUp_partnerHeard ht⟩

theorem aksLinkUp_off {s : State} (h : s.twinOn = false) (m e l : Nat) : s.aksLinkUp m e l = s := if_pos (by simp [h])

/-! ## The partner goes (R497, R509) -/

theorem partnerLost_none {s : State} (h : s.twinOn = false ∨ s.flag F.TWN_STAT_PARTNER_UP = false) : s.partnerLost = s :=
  if_pos (by rcases h with h | h <;> simp [h])

/-- What a partner that stops takes with it. -/
def partnerGone (s : State) : State :=
  let t := (s.setFlag F.TWN_STAT_PARTNER_UP false).setFlag F.TWN_STAT_RESYNC_BUSY false
  { t with lane := { t.lane with aksPend := [] }, twn := { t.twn with partner := none, fullReq := false, retained := [], aksHeld := [] } }

theorem syncClear_unsynced {s : State} (h : s.flag F.TWN_STAT_SYNC = false) (c : Nat) : s.syncClear c = s :=
  if_neg (by simp [h])

theorem sync_partnerGone (s : State) : s.partnerGone.flag F.TWN_STAT_SYNC = s.flag F.TWN_STAT_SYNC := by
  have hr : s.partnerGone.regs = ((s.setFlag F.TWN_STAT_PARTNER_UP false).setFlag F.TWN_STAT_RESYNC_BUSY false).regs := rfl
  rw [flag, fld_of_regs _ _ hr]
  exact (flag_setFlag_bits _ F.TWN_STAT_RESYNC_BUSY F.TWN_STAT_SYNC false 0 0 0 0 rfl (by decide) (by decide)).trans
    (flag_setFlag_bits s F.TWN_STAT_PARTNER_UP F.TWN_STAT_SYNC false 0 0 0 0 rfl (by decide) (by decide))

theorem partnerLost_unsynced {s : State} (ht : s.twinOn = true) (hup : s.flag F.TWN_STAT_PARTNER_UP = true)
    (hs : s.flag F.TWN_STAT_SYNC = false) (hc : s.twn.croakLost = false) :
    s.partnerLost = (s.partnerGone.setFlag F.TWN_STAT_LINK_ONLY_SEEN true).raise fltTwinSplit [1] := by
  have hlost : s.partnerLost = let t := s.partnerGone.syncClear 0x3
      if t.twn.croakLost then t.croakPath else (t.setFlag F.TWN_STAT_LINK_ONLY_SEEN true).raise fltTwinSplit [1] :=
    if_neg (by simp [ht, hup])
  rw [hlost, syncClear_unsynced ((sync_partnerGone s).trans hs)]
  exact if_neg (by simp [show s.partnerGone.twn.croakLost = false from hc])

/-! ## CROAK (R548) -/

/-- CROAK_IN lost as the twin notes it. -/
def croakNoted (s : State) : State :=
  let t := s.setFlag F.TWN_STAT_CROAK_OK false
  { t with twn := { t.twn with croakLost := true } }

theorem croakInLost_up {s : State} (he : s.flag F.TWN_CFG_EN = true) (hc : s.twn.croakLost = false) (hm : s.sys.mode ≠ .proof)
    (hup : s.flag F.TWN_STAT_PARTNER_UP = true) :
    s.croakInLost = (s.croakNoted.setFlag F.TWN_STAT_CROAK_ONLY_SEEN true).raise fltTwinSplit [0] := by
  have hlost : s.croakInLost = let t := if s.croakNoted.sys.mode = .proof then s.croakNoted.event blkTwn 1 0x0011 [] else s.croakNoted
      if t.flag F.TWN_STAT_PARTNER_UP then (t.setFlag F.TWN_STAT_CROAK_ONLY_SEEN true).raise fltTwinSplit [0] else t.croakPath :=
    if_neg (by simp [he, hc])
  have hmode : (if s.croakNoted.sys.mode = .proof then s.croakNoted.event blkTwn 1 0x0011 [] else s.croakNoted) = s.croakNoted :=
    if_neg hm
  have hstay : s.croakNoted.flag F.TWN_STAT_PARTNER_UP = true :=
    (flag_setFlag_bits s F.TWN_STAT_CROAK_OK F.TWN_STAT_PARTNER_UP false 0 0 0 0 rfl (by decide) (by decide)).trans hup
  rw [hlost, hmode]
  exact if_pos hstay

theorem croakInLost_off {s : State} (h : s.flag F.TWN_CFG_EN = false) : s.croakInLost = s := if_pos (by simp [h])

theorem croakInEdge_off {s : State} (h : s.flag F.TWN_CFG_EN = false) : s.croakInEdge = s := if_pos (by simp [h])

theorem croakInEdge_on {s : State} (h : s.flag F.TWN_CFG_EN = true) :
    s.croakInEdge = State.setFlag { s with twn := { s.twn with croakLost := false } } F.TWN_STAT_CROAK_OK true :=
  if_neg (by simp [h])

theorem croakToggle_off {s : State} (h : s.twn.croakOutOn = false ∨ s.sys.mode = .quench ∨ s.sys.mode = .cold) : s.croakToggle = s :=
  if_pos (by rcases h with h | h | h <;> simp [h])

theorem croakToggle_on {s : State} (h : s.twn.croakOutOn = true) (hq : s.sys.mode ≠ .quench) (hc : s.sys.mode ≠ .cold) :
    s.croakToggle = State.emit { s with twn := { s.twn with croakOut := !s.twn.croakOut } } (.pin "CROAK_OUT" (b2n (!s.twn.croakOut))) :=
  if_neg (by simp [h, hq, hc])

end State

/-- Settles O18, row by row from the rules above. -/
theorem twinRecordsAndLink : Obligations.TwinRecordsAndLink := by
  unfold Obligations.TwinRecordsAndLink
  refine ⟨⟨?ack, ?ackShut, ?ackHold, ?early, ?late, ?recShut, ?rec⟩, ?shut, ?block, ?report, ?ahead, ?before, ?retryNone, ?retry,
    ?upOff, ?up, ?lostOff, ?lost, ?edge, ?croakLost, ?croakOff, ?toggle, ?still, ?reset, ?resetOff⟩
  case ack =>
    intro q e s ho hup hq hh hm hs
    have hp : (s.begin.aksTaken q).partnerOk = true := by
      have ht : s.twinOn = true := (State.aksOpen_parts ho).1
      show (s.twinOn && s.flag F.TWN_STAT_PARTNER_UP) = true
      rw [ht, hup]
      rfl
    exact does_self (exec_mirrorAckReceive (q, e) s) ((State.aksTake_due (s := s.begin) ho hup hq hh).trans
      (State.mirrorAck_eq (s := s.begin.aksTaken q) hp hm hs e))
  case ackShut =>
    exact fun q e s h => does_of (o := []) (exec_mirrorAckReceive (q, e) s) (State.aksTake_closed (s := s.begin) h q _)
  case ackHold =>
    intro q e s ho hup hq hh hm
    exact does_of (exec_mirrorAckReceive (q, e) s) ((State.aksTake_due (s := s.begin) ho hup hq hh).trans
      (State.mirrorAck_hold (s := s.begin.aksTaken q) hm e))
  case early =>
    exact fun e s h => does_of (o := []) (exec_noMirrorAckTimeout e s) (State.mirrorNoAck_early (s := s.begin) h)
  case late =>
    exact fun e r s h hr h1 h2 => does_self (exec_noMirrorAckTimeout e s) (State.mirrorNoAck_late (s := s.begin) h hr h1 h2)
  case recShut =>
    exact fun q r ok s h => does_of (o := []) (exec_castRecordReceive (q, r) ok s) (State.aksTake_closed (s := s.begin) h q _)
  case rec =>
    intro q r s ho hq hh hm hup _ hb hf he h1
    obtain ⟨ht, hp⟩ := State.aksOpen_parts ho
    exact does_self (exec_castRecordReceive (q, r) true s) ((State.aksTake_due (s := s.begin) ho hup hq hh).trans
      (State.recordArrive_due (s := s.begin.aksTaken q) ht hp hm hup hb hf he h1))
  case shut =>
    exact fun q b s h => does_of (o := []) (exec_akestimFrameReceive q b s)
      (State.aksFrame_shut (s := s.begin) (State.aksOpen_shut (s := s.begin) h) q b)
  case block =>
    intro q k s
    refine ⟨fun ho hup => ?_, fun hup => ?_⟩
    · exact does_of (o := []) (exec_akestimFrameReceive q (.ack k) s)
        (if_pos (by simp [show s.begin.aksOpen = true from ho, show s.begin.flag F.TWN_STAT_PARTNER_UP = true from hup]))
    · exact does_of (o := []) (exec_akestimFrameReceive q (.ack k) s)
        (if_neg (by simp [show s.begin.flag F.TWN_STAT_PARTNER_UP = false from hup]))
  case report =>
    exact fun q m e s ho hup hh hq => does_of (exec_akestimFrameReceive q (.report m e) s)
      (State.aksTake_due (s := s.begin) ho hup hq hh)
  case ahead =>
    exact fun q m e s ho hup h1 h2 h3 => does_of (exec_akestimFrameReceive q (.report m e) s)
      (State.aksTake_ahead (s := s.begin) ho hup h1 h2 h3)
  case before =>
    exact fun q m e s ho hup h1 h2 h3 => does_of (exec_akestimFrameReceive q (.report m e) s)
      (State.aksTake_before (s := s.begin) ho hup h1 h2 h3)
  case retryNone =>
    exact fun q s h => does_of (o := []) (exec_akestimRetryTimeout q s) (State.aksRetry_none (s := s.begin) h)
  case retry =>
    intro q p s ho h
    have hr := State.aksRetry_some (s := s.begin) ho h
    refine ⟨fun hp => ?_, fun hp => ?_⟩
    · exact hands_of (exec_akestimRetryTimeout q s) (hr.trans (if_pos hp))
    · exact does_of (o := []) (exec_akestimRetryTimeout q s) (hr.trans (if_neg (Nat.not_lt.mpr hp)))
  case upOff =>
    exact fun m e l s h => does_of (o := []) (exec_akestimLinkUp m e l s) (State.aksLinkUp_off (s := s.begin) h m e l)
  case up =>
    intro m e l s ht hm
    obtain ⟨hp, hf⟩ := State.aksLinkUp_facts (s := s.begin) ht hm m e l
    obtain ⟨o, ho⟩ := does_self (exec_akestimLinkUp m e l s) rfl
    exact ⟨_, ho, hp, hf⟩
  case lostOff =>
    exact fun s h => does_of (o := []) (exec_partnerUnresponsive s) (State.partnerLost_none (s := s.begin) h)
  case lost =>
    exact fun s ht hup hs hc => does_self (exec_partnerUnresponsive s) (State.partnerLost_unsynced (s := s.begin) ht hup hs hc)
  case edge =>
    exact fun s h => does_of (o := []) (exec_croakInEdge s) (State.croakInEdge_on (s := s.begin) h)
  case croakLost =>
    exact fun s he hc hm hup => does_self (exec_croakInLost s) (State.croakInLost_up (s := s.begin) he hc hm hup)
  case croakOff =>
    exact fun s h => ⟨does_of (o := []) (exec_croakInEdge s) (State.croakInEdge_off (s := s.begin) h),
      does_of (o := []) (exec_croakInLost s) (State.croakInLost_off (s := s.begin) h)⟩
  case toggle =>
    exact fun s h hq hc => hands_of (exec_croakOutToggle s) (State.croakToggle_on (s := s.begin) h hq hc)
  case still =>
    exact fun s h => does_of (o := []) (exec_croakOutToggle s) (State.croakToggle_off (s := s.begin) h)
  case reset =>
    exact fun s hm hb hp => does_self (exec_partnerResetRequest s) (if_pos ⟨hm, hb, hp⟩)
  case resetOff =>
    exact fun s h => does_of (o := []) (exec_partnerResetRequest s) (if_neg (fun hc => h hc.1))

end Sys2Proof.Machine
end

section
/-! PROOFS. Changes of role: promotion (R508, R510), planned role changes (R513), resynchronisation (R515, R29) and egress loops
(R518). -/

namespace Sys2Proof.Machine

namespace State

theorem sys_atNext (s : State) (f : State → State) :
    (s.atNext f).sys = { (f { s with sys := { s.sys with epoch := s.sys.epoch + 1 } }).sys with epoch := s.sys.epoch } := rfl

theorem twn_atNext (s : State) (f : State → State) :
    (s.atNext f).twn = (f { s with sys := { s.sys with epoch := s.sys.epoch + 1 } }).twn := rfl

theorem sys_atNext_promoteRest (s : State) : (s.atNext promoteRest).sys = s.sys := by
  rw [sys_atNext, (ControlKept.promoteRest _).sys]
  rfl

theorem twn_atNext_promoteRest (s : State) : (s.atNext promoteRest).twn = s.twn.standbyEnded := by
  rw [twn_atNext, (ControlKept.promoteRest _).twn]
  rfl

/-! ## Promotion (R508, R510) -/

theorem promoteNow_none {s : State} (h : s.twn.promote = none) : s.promoteNow = s := by rw [promoteNow, h]

theorem promoteBoundary_none {s : State} (h : s.twn.promote = none) : s.promoteBoundary = s := by
  unfold promoteBoundary
  rw [promoteNow_none h]
  refine if_neg ?_
  rintro ⟨hh, hp⟩
  exact absurd (hh.symm.trans hp) (by decide)

/-- A promotion that its device no longer admits is forgotten. -/
theorem promoteBoundary_forget {s : State} {c : Nat} (h : s.twn.promote = some c)
    (hm : s.sys.mode ≠ .hold ∨ s.flag F.TWN_STAT_SYNC_EVER = false) :
    s.promoteBoundary = { s with twn := { s.twn with promote := none } } := by
  have hn : s.promoteNow = { s with twn := { s.twn with promote := none } } := by
    rw [promoteNow, h]
    exact if_neg (by rintro ⟨h1, h2⟩; rcases hm with hm | hm; exacts [hm h1, by simp [hm] at h2])
  unfold promoteBoundary
  rw [hn]
  refine if_neg ?_
  rintro ⟨hh, hp⟩
  exact absurd (hh.symm.trans hp) (by decide)

theorem sys_promoteDo (s : State) (c : Nat) : (s.promoteDo c).sys = { (s.enterMode .pour c).sys with role := .solo } := by
  unfold promoteDo
  exact congrArg (fun y : SysState => { y with role := .solo }) (ControlKept.syncClear (.refl _) 1).sys

theorem twn_promoteDo (s : State) (c : Nat) :
    (s.promoteDo c).twn = { s.twn with promote := none, buffered := [], full := none, swapAt := none, retained := [] } := by
  unfold promoteDo
  exact congrArg (fun y : TwnState => { y with promote := none, buffered := [], full := none, swapAt := none, retained := [] })
    (ControlKept.syncClear (.refl _) 1).twn

/-- A promotion that stands: the device is alone in Pour. -/
theorem promoteBoundary_facts {s : State} {c : Nat} (h : s.twn.promote = some c) (hm : s.sys.mode = .hold)
    (he : s.flag F.TWN_STAT_SYNC_EVER = true) :
    let t := s.promoteBoundary
    t.sys.mode = .pour ∧ t.sys.lastCause = c ∧ t.sys.role = .solo ∧ t.sys.epoch = s.sys.epoch ∧
      t.twn.promote = none ∧ t.twn.full = none ∧ t.twn.buffered = [] ∧ t.twn.retained = [] := by
  have hn : s.promoteNow = s.atNext (fun t => t.promoteDo c) := by
    rw [promoteNow, h]
    exact if_pos ⟨hm, he⟩
  have hsys : s.promoteNow.sys = { s.sys with mode := .pour, lastCause := c, role := .solo, modeEpoch := s.sys.epoch + 1 } := by
    rw [hn, sys_atNext, sys_promoteDo]
    rfl
  have hb : s.promoteBoundary = s.promoteNow.atNext promoteRest := if_pos ⟨hm, by rw [hsys]⟩
  dsimp only
  rw [hb, sys_atNext_promoteRest, twn_atNext_promoteRest, hsys, hn, twn_atNext, twn_promoteDo]
  exact ⟨rfl, rfl, rfl, rfl, rfl, rfl, rfl, rfl⟩

/-! ## Planned role changes (R513) -/

theorem swapBoundary_none {s : State} (h : s.twn.swapAt = none) : s.swapBoundary = s := by
  unfold swapBoundary swapNow
  simp only [h, Bool.false_eq_true, if_false]
  split
  · rename_i hc
    exact absurd (hc.1.symm.trans hc.2) (by decide)
  · exact if_neg (fun hc => absurd (hc.1.symm.trans hc.2) (by decide))

theorem swapBoundary_early {s : State} {x : Nat × Nat × Nat × Nat} (h : s.twn.swapAt = some x) (he : s.sys.epoch + 1 < x.1) :
    s.swapBoundary = s := by
  obtain ⟨e, src, q, c⟩ := x
  unfold swapBoundary swapNow
  simp only [h, Nat.not_le.mpr he, decide_false, Bool.false_eq_true, if_false, if_pos (show s.sys.epoch + 1 < e from he)]
  split
  · rename_i hc
    exact absurd (hc.1.symm.trans hc.2) (by decide)
  · exact if_neg (fun hc => absurd (hc.1.symm.trans hc.2) (by decide))

/-- The record of the cycle that ends leaves the plan, SYNC and the mode. -/
theorem sendRecord_facts (s : State) : s.sendRecord.sys = s.sys ∧ s.sendRecord.twn.swapAt = s.twn.swapAt ∧
    s.sendRecord.twn.swapAck = s.twn.swapAck ∧ s.sendRecord.flag F.TWN_STAT_SYNC = s.flag F.TWN_STAT_SYNC := by
  unfold sendRecord
  split
  · exact ⟨rfl, rfl, rfl, rfl⟩
  split
  · split
    · exact ⟨rfl, rfl, rfl, rfl⟩
    · extract_lets first r l _ s1
      have hkeep := aksSend_replies (s1.incFld F.TWN_CNT_RECORDS) aksRecord r.epoch r.headBytes
      have hat := congrArg TwnState.swapAt hkeep.twn
      have hack := congrArg TwnState.swapAck hkeep.twn
      refine ⟨hkeep.sys, hat, hack, ?_⟩
      have hregs : (((s1.incFld F.TWN_CNT_RECORDS).aksSend aksRecord r.epoch r.headBytes).gatherClear).regs =
          (s1.incFld F.TWN_CNT_RECORDS).regs := regs_aksSend ..
      rw [flag, fld_of_regs _ _ hregs, incFld, addFld, fld_setFld_word _ F.TWN_CNT_RECORDS _ _ _ _ _ _ (by decide)]
      rfl
  · exact ⟨rfl, rfl, rfl, rfl⟩

/-- The other end of a planned change: the mode and the role entered. -/
def swapModeTo (m : Mode) : Mode × Role := if m = .hold then (.pour, .active) else (.hold, .standby)

/-- The mode and role that a planned change enters. -/
def swapEnter (t : State) (cause : Nat) : State :=
  match t.sys.mode with
  | .pour => { t.enterMode .hold cause with sys := { (t.enterMode .hold cause).sys with role := .standby } }
  | .hold => { t.enterMode .pour cause with sys := { (t.enterMode .pour cause).sys with role := .active } }
  | _ => t

/-- What a planned change does beside: a journal entry for a failover, and the partner's new mode. -/
def swapDo (t : State) (src cause : Nat) : State :=
  let t := t.swapEnter cause
  let t := if src = 0xFF then t.journalOwn 0x0 0x0C04 else t
  let p := if t.sys.mode = .hold then Mode.pour.code else Mode.hold.code
  { t with twn := { t.twn with partner := some (p, t.sys.epoch), retained := [] } }

theorem swapEnter_facts {t : State} (hm : t.sys.mode = .hold ∨ t.sys.mode = .pour) (c : Nat) :
    (t.swapEnter c).sys.mode = (swapModeTo t.sys.mode).1 ∧ (t.swapEnter c).sys.role = (swapModeTo t.sys.mode).2 ∧
      (t.swapEnter c).sys.lastCause = c ∧ (t.swapEnter c).twn = t.twn := by
  unfold swapEnter
  rcases hm with hm | hm <;> rw [hm] <;> exact ⟨rfl, rfl, rfl, rfl⟩

theorem sys_swapDo (t : State) (src c : Nat) : (t.swapDo src c).sys = (t.swapEnter c).sys := by
  unfold swapDo
  dsimp only
  split <;> rfl

theorem swapAt_swapDo (t : State) (src c : Nat) : (t.swapDo src c).twn.swapAt = (t.swapEnter c).twn.swapAt := by
  unfold swapDo
  dsimp only
  split <;> rfl

/-- A plan that is due, acknowledged and synchronised is carried out. -/
theorem swapNow_due {s : State} {src q c : Nat} (hs : s.twn.swapAt = some (s.sys.epoch + 1, src, q, c)) (ha : s.twn.swapAck = true)
    (hy : s.flag F.TWN_STAT_SYNC = true) : s.swapNow =
      (atNext { s with twn := { s.twn with swapAt := none, swapAck := false } } (fun t => t.swapDo src c), some (src, q, true)) := by
  have hok : (s.twn.swapAck && s.flag F.TWN_STAT_SYNC && s.sys.epoch + 1 == s.sys.epoch + 1) = true := by simp [ha, hy]
  unfold swapNow
  rw [hs]
  dsimp only
  rw [if_neg (Nat.lt_irrefl _), hok]
  rfl

/-- A device that changed from mode `m` by a plan of cause `c`. -/
def Swapped (m : Mode) (c : Nat) (t : State) : Prop :=
  t.sys.mode = (swapModeTo m).1 ∧ t.sys.role = (swapModeTo m).2 ∧ t.sys.lastCause = c ∧ t.twn.swapAt = none

theorem swapNow_facts {s : State} {src q c : Nat} (hs : s.twn.swapAt = some (s.sys.epoch + 1, src, q, c)) (ha : s.twn.swapAck = true)
    (hy : s.flag F.TWN_STAT_SYNC = true) (hm : s.sys.mode = .hold ∨ s.sys.mode = .pour) : ∃ t, s.swapNow = (t, some (src, q, true)) ∧
      t.Swapped s.sys.mode c := by
  refine ⟨_, swapNow_due hs ha hy, ?_⟩
  obtain ⟨h1, h2, h3, h4⟩ := swapEnter_facts (t := { s with
    sys := { s.sys with epoch := s.sys.epoch + 1 }, twn := { s.twn with swapAt := none, swapAck := false } }) hm c
  rw [Swapped, sys_atNext, twn_atNext, sys_swapDo, swapAt_swapDo]
  exact ⟨h1, h2, h3, congrArg TwnState.swapAt h4⟩

theorem sys_finishReply (s : State) (src q st : Nat) (p : Bytes) (e : Option Nat) : (s.finishReply src q st p e).sys = s.sys := by
  refine (release_replies _).sys.trans ?_
  split <;> rfl

theorem twn_finishReply (s : State) (src q st : Nat) (p : Bytes) (e : Option Nat) : (s.finishReply src q st p e).twn = s.twn := by
  refine (release_replies _).twn.trans ?_
  split <;> rfl

/-- The rest of a planned change leaves the mode, the role and the plan. -/
theorem swapBoundary_due {s : State} {src q c : Nat} (hs : s.twn.swapAt = some (s.sys.epoch + 1, src, q, c)) (ha : s.twn.swapAck = true)
    (hy : s.flag F.TWN_STAT_SYNC = true) (hm : s.sys.mode = .hold ∨ s.sys.mode = .pour) :
    s.swapBoundary.Swapped s.sys.mode c := by
  obtain ⟨hsys, hat, hack, hsync⟩ := sendRecord_facts s
  obtain ⟨v, hv, hfacts⟩ := swapNow_facts (s := s.sendRecord) (src := src) (q := q) (c := c) (by rw [hat, hsys]; exact hs)
    (hack.trans ha) (hsync.trans hy) (by rw [hsys]; exact hm)
  rw [hsys] at hfacts
  unfold swapBoundary
  rw [hs]
  extract_lets due s1
  have h1 : s1 = s.sendRecord := if_pos (decide_eq_true (Nat.le_refl _))
  rw [h1, hv, hsys]
  dsimp -zeta only
  extract_lets promoted _ demoted _ w
  rw [if_pos rfl]
  have hw : w.sys = v.sys ∧ w.twn.swapAt = v.twn.swapAt := by
    simp only [w]
    split
    · have hp : promoted.twn.swapAt = v.twn.swapAt := (congrArg TwnState.swapAt (twn_atNext_promoteRest v)).trans rfl
      exact ⟨sys_atNext_promoteRest v, hp⟩
    · split
      · exact ⟨rfl, rfl⟩
      · exact ⟨rfl, rfl⟩
  have hend : ∀ u : State, u = w ∨ u = w.atNext (fun t => t.finishReply src q 0 [] none) → u.sys = w.sys ∧ u.twn = w.twn := by
    rintro u (rfl | rfl)
    · exact ⟨rfl, rfl⟩
    · rw [sys_atNext, twn_atNext, sys_finishReply, twn_finishReply]
      exact ⟨rfl, rfl⟩
  obtain ⟨h1, h2⟩ := hend (if 0xF0 ≤ src then w else w.atNext (fun t => t.finishReply src q 0 [] none)) (by
    split
    · exact .inl rfl
    · exact .inr rfl)
  obtain ⟨hmode, hrole, hcause, hplan⟩ := hfacts
  refine ⟨?_, ?_, ?_, ?_⟩
  · rw [h1, hw.1, hmode]
  · rw [h1, hw.1, hrole]
  · rw [h1, hw.1, hcause]
  · rw [h2, hw.2, hplan]

/-! ## Resynchronisation (R515, R29) -/

/-- The state of a standby whose transfer is done: its cycle's number, and no capture left. -/
def Resynced (e : Nat) (s : State) : Prop := s.sys.epoch = e ∧ s.twn.full = none ∧ s.twn.buffered = []

theorem Resynced.of_kept {e : Nat} {s t : State} (hs : t.sys = s.sys) (ht : t.twn = s.twn) (h : s.Resynced e) : t.Resynced e := by
  unfold Resynced
  rw [hs, ht]
  exact h

theorem Resynced.aksSend {e : Nat} {s : State} (h : s.Resynced e) (k n : Nat) (b : Bytes) : (s.aksSend k n b).Resynced e :=
  h.of_kept (sys_aksSend s k n b) (twn_aksSend s k n b)

theorem Resynced.startResync {e : Nat} {s : State} (h : s.Resynced e) : s.startResync.Resynced e :=
  Resynced.aksSend (s := { (s.setFlag F.TWN_STAT_RESYNC_BUSY true).incFld F.TWN_CNT_RESYNCS with
    twn := { s.twn with buffered := [], full := none } }) ⟨h.1, rfl, rfl⟩ _ _ _

theorem Resynced.applyFailed {e : Nat} {s : State} (h : s.Resynced e) (src q st : Nat) : (s.applyFailed src q st).Resynced e := by
  have hk : ControlKept s ((s.event blkTwn 1 twnApplyFailed [src, q, st]).syncClear 0x4) :=
    ControlKept.syncClear (ControlKept.event (.refl s) _ _ _ _) 0x4
  unfold State.applyFailed
  dsimp only
  split
  · exact h.of_kept hk.sys hk.twn
  · exact (h.of_kept hk.sys hk.twn).startResync

theorem resyncDone_idle {s : State} (h : s.flag F.TWN_STAT_RESYNC_BUSY = false ∨ s.sys.mode ≠ .hold) (e : Nat) : s.resyncDone e = s :=
  if_pos (by rcases h with h | h <;> simp [h])

theorem resyncDone_resynced {s : State} {r : CastRec} {m : Mirror} (hb : s.flag F.TWN_STAT_RESYNC_BUSY = true) (hm : s.sys.mode = .hold)
    (hf : s.twn.full = some r) (hr : r.full = some m) (hl : s.twn.buffered = []) (e : Nat) : (s.resyncDone e).Resynced e := by
  unfold resyncDone
  rw [if_neg (by simp [hb, hm]), hf]
  rw [show (some r).bind (fun r => r.full.map (fun m => (r, m))) = some (r, m) from congrArg (Option.map _) hr, hl]
  extract_lets l old s1
  dsimp -zeta only
  extract_lets _ _ _ _ s7 s8 s9 s10 s11 s12
  have h7 : Resynced e s7 := ⟨rfl, rfl, rfl⟩
  have h10 : Resynced e s10 := h7
  have h12 : Resynced e s12 := by
    simp only [s12, s11, l, List.foldl_nil]
    split
    · exact h10
    · exact h10.applyFailed _ _ _
  split
  · exact h12.aksSend _ _ _
  · exact h12

/-! ## Egress loops (R518) -/

theorem loopDone_none {s : State} (h : s.twn.loop = none) : s.loopDone = s := by rw [loopDone, h]

theorem loopDone_all {s : State} {x : EgressLoop} (h : s.twn.loop = some x) (ha : s.loopOuts.all (fun o =>
    decide (s.fld F.TWN_CFG_LOOP_FRAMES ≤ ((x.sent.find? (fun p => p.1 == o.flow)).map (·.2)).getD 0)) = true) :
    s.loopDone =
      (let t := (s.setFlag F.TWN_LOOP_STAT_DONE true).setFlag F.TWN_LOOP_STAT_PASS (s.fld F.TWN_LOOP_STAT_MISMATCH == 0)
       { t with twn := { t.twn with loop := none } }) := by
  rw [loopDone, h]
  refine (if_pos ha).trans ?_
  rw [loopEnd, h]
  rfl

end State

/-- Settles O19: each row is the change of chapter 18, whose result the lemmas above give. -/
theorem rolesChangeAsPlanned : Obligations.RolesChangeAsPlanned := by
  unfold Obligations.RolesChangeAsPlanned
  refine ⟨?_, ?_, ?_, ?_, ?_, ?_, ?_, ?_, ?_, ?_, ?_, ?_⟩
  · exact fun s h => does_of (o := []) (exec_promotion s) (State.promoteBoundary_none (s := s.begin) h)
  · exact fun c s h hm => does_of (o := []) (exec_promotion s) (State.promoteBoundary_forget (s := s.begin) h hm)
  · intro c s h hm he
    obtain ⟨o, ho⟩ := does_self (exec_promotion s) rfl
    exact ⟨_, ho, State.promoteBoundary_facts (s := s.begin) h hm he⟩
  · exact fun s h => does_of (o := []) (exec_roleSwapExecute s) (State.swapBoundary_none (s := s.begin) h)
  · exact fun x s h he => does_of (o := []) (exec_roleSwapExecute s) (State.swapBoundary_early (s := s.begin) h he)
  · intro src q c s h ha hy hm
    obtain ⟨h1, h2, h3, h4⟩ := State.swapBoundary_due (s := s.begin) h ha hy (.inl hm)
    obtain ⟨o, ho⟩ := does_self (exec_roleSwapExecute s) rfl
    exact ⟨_, ho, h1.trans (congrArg (fun m => (State.swapModeTo m).1) hm), h2.trans (congrArg (fun m => (State.swapModeTo m).2) hm),
      h3, h4⟩
  · intro src q c s h ha hy hm
    obtain ⟨h1, h2, h3, h4⟩ := State.swapBoundary_due (s := s.begin) h ha hy (.inr hm)
    obtain ⟨o, ho⟩ := does_self (exec_roleSwapExecute s) rfl
    exact ⟨_, ho, h1.trans (congrArg (fun m => (State.swapModeTo m).1) hm), h2.trans (congrArg (fun m => (State.swapModeTo m).2) hm),
      h3, h4⟩
  · exact fun e s h => does_of (o := []) (exec_resyncComplete e s) (State.resyncDone_idle (s := s.begin) h e)
  · intro e r m s hb hm hf hr hl
    obtain ⟨o, ho⟩ := does_self (exec_resyncComplete e s) rfl
    exact ⟨_, ho, State.resyncDone_resynced (s := s.begin) hb hm hf hr hl e⟩
  · exact fun q g s ho hup hq hh => does_self (exec_loopSignatureReceive (q, g) s) (State.aksTake_due (s := s.begin) ho hup hq hh)
  · exact fun s h => does_of (o := []) (exec_egressLoopDone s) (State.loopDone_none (s := s.begin) h)
  · exact fun x s h ha => does_of (o := []) (exec_egressLoopDone s) (State.loopDone_all (s := s.begin) h ha)

end Sys2Proof.Machine
end

section
/-! PROOFS. The copy after a flip (R241 to R243): it also carries the format of the active bank to the other bank. -/

namespace Sys2Proof.Machine

/-- Domain 0 with a copy under way from bank A, of format 1, to bank B, of format 0, and no entry to copy. -/
def copyingFormats : State := (State.reset.setFlag F.PAT_BANK_COPY_BUSY true 0).setFld F.PAT_BANK_FMT_A 1 0

/-- What the last clause of O20 gives for it: the copy without the format. -/
def copiedEntries : State :=
  let s := copyingFormats
  let a := s.activeBank 0
  let k := 1 - s.activeNo 0
  let t := s.begin.setBank 0 k { s.bank 0 k with fwTmpl := a.fwTmpl, fwRuns := a.fwRuns, dirtyT := [], dirtyR := [], routes := a.routes }
  ((t.setBank 0 (t.activeNo 0) { a with dirtyT := [], dirtyR := [] }).setFlag F.PAT_BANK_COPY_BUSY false 0).patWaiting 0

theorem fmtB_bankCopyDone : (copyingFormats.commit (copyingFormats.begin.bankCopyDone 0)).fld F.PAT_BANK_FMT_B 0 = 1 := by
  decide +kernel

theorem fmtB_copiedEntries : copiedEntries.fld F.PAT_BANK_FMT_B 0 = 0 := by decide +kernel

/-- Refutes O20: BANK_COPY_DONE sets the other bank's format to the active bank's, which its last clause leaves out. -/
theorem not_rastersCountSlotsLinesAndFrames : ¬ Obligations.RastersCountSlotsLinesAndFrames := by
  unfold Obligations.RastersCountSlotsLinesAndFrames
  intro h
  obtain ⟨-, -, -, -, -, -, -, hcopy⟩ := h
  obtain ⟨o, ho⟩ := hcopy 0 copyingFormats (by decide) (by decide +kernel) (by decide +kernel) (by decide +kernel)
  rw [show exec (.bankCopyDone 0) copyingFormats = .next (copyingFormats.commit (copyingFormats.begin.bankCopyDone 0)) from rfl] at ho
  have hst := congrArg (fun t => State.fld t F.PAT_BANK_FMT_B 0) (Host.Outcome.next.inj ho)
  have h10 : (1 : Nat) = 0 := fmtB_bankCopyDone.symm.trans (hst.trans fmtB_copiedEntries)
  exact absurd h10 (by decide)

end Sys2Proof.Machine
end

section
/-! PROOFS. Pool reads (R200 to R207): their returns, their retries, their deadline, and repairs (R213). -/

namespace Sys2Proof.Machine

namespace State

/-! ## Returns (R205) -/

theorem setRead_setRead (s : State) (v : PoolRead) : (s.setRead v).setRead v = s.setRead v := by
  have hone : ∀ x : PoolRead, (if (if x.ident == v.ident then v else x).ident == v.ident then v
      else if x.ident == v.ident then v else x) = if x.ident == v.ident then v else x := by
    intro x
    split
    · exact if_pos (beq_self_eq_true _)
    · rfl
  unfold setRead
  simp only [List.map_map, Function.comp_def, hone]

theorem pool_readCorrected (s : State) (n w c : Nat) : (s.readCorrected n w c).pool = s.pool := by
  unfold readCorrected
  split
  · rfl
  · split
    · rfl
    · rfl

theorem tileBytes_readCorrected (s : State) (n w c t off k : Nat) : (s.readCorrected n w c).tileBytes t off k = s.tileBytes t off k := by
  rw [tileBytes, tileBytes, pool_readCorrected]

theorem tileCrcOk_readCorrected (s : State) (n w c t : Nat) : (s.readCorrected n w c).tileCrcOk t = s.tileCrcOk t := by
  simp only [tileCrcOk, tileBytes_readCorrected, pool_readCorrected]

theorem tileFlow_readCorrected (s : State) (n w c t : Nat) : (s.readCorrected n w c).tileFlow t = s.tileFlow t := by
  simp only [tileFlow, tileBytes_readCorrected]

theorem tileFlags_readCorrected (s : State) (n w c t : Nat) : (s.readCorrected n w c).tileFlags t = s.tileFlags t := by
  simp only [tileFlags, tileBytes_readCorrected]

theorem readReturn_none {s : State} {n : Nat} (h : s.pool.reads.find? (fun r => r.ident == n) = none) (w c : Nat) (ecc : Bool) :
    (s.readCorrected n w c).readReturn n w ecc = s := by
  have hc : s.readCorrected n w c = s := by rw [readCorrected, h]
  rw [hc, readReturn, h]

section
variable {s : State} {n : Nat} {r : PoolRead} (hr : s.pool.reads.find? (fun r => r.ident == n) = some r) (hfly : r.inFlight ≠ 0)
include hr hfly

theorem readReturn_late (hl : r.late = true) (h1 : 1 < r.inFlight) (ecc : Bool) : s.readReturn n 0 ecc =
    (s.incFld F.POOL_CH_CNT_LATE_DISC (tileChannel (r.tile.getD 0))).setRead { r with inFlight := r.inFlight - 1, noRetry := true } := by
  unfold readReturn
  rw [hr]
  dsimp only
  rw [if_neg hfly, if_pos hl, if_neg (Nat.ne_of_gt h1), if_pos rfl, if_pos rfl]

/-- A read in time that waits for its tile takes it. -/
theorem readReturn_tile {t : Nat} (hl : r.late = false) (hg : r.good = false) (hw : r.retryWait = false) (ho : r.concOut = false)
    (ht : r.tile = some t) (ecc : Bool) : s.readReturn n 0 ecc = s.readBack r t ecc := by
  unfold readReturn
  rw [hr]
  dsimp only
  rw [if_neg hfly, if_neg (by simp [hl]), if_pos rfl, if_neg (by simp [hg, hw, ho]), ht]

end

theorem readBack_good {s : State} {r : PoolRead} {t : Nat} (hc : s.tileCrcOk t = true) (hf : s.tileFlow t = r.flow)
    (hl : s.tileFlags t &&& flagLost = 0) (h0 : r.tries = 0) :
    s.readBack r t false = s.setRead { r with good := true, inFlight := r.inFlight - 1 } := by
  unfold readBack
  rw [if_neg (by simp [hc]), if_neg (by simp [hf]), if_neg (by simp [hl])]
  dsimp only
  rw [if_neg (by simp [h0])]

theorem readBack_otherFlow {s : State} {r : PoolRead} {t : Nat} (hc : s.tileCrcOk t = true) (hf : s.tileFlow t ≠ r.flow) :
    s.readBack r t false = (let u := s.incFld F.POOL_CH_CNT_FLOW_MISM (tileChannel t)
      u.setRead (u.concealStart { r with inFlight := r.inFlight - 1, noRetry := true, lost := true })) := by
  unfold readBack
  exact (if_neg (by simp [hc])).trans (if_pos hf)

/-- After its last try a read is retried no more. -/
theorem readBack_spent {s : State} {r : PoolRead} (h2 : 2 ≤ r.tries) (t : Nat) : s.readBack r t true =
    (let v := { r with inFlight := r.inFlight - 1, noRetry := true }
     ((s.suspectAdd t).setRead v).setRead v) := by
  have hretry : (decide (r.tries < 2)) = false := decide_eq_false (Nat.not_lt.mpr h2)
  unfold readBack
  simp only [Bool.true_or, if_true, hretry, Bool.false_and, Bool.false_eq_true, if_false, show ¬r.tries = 0 by omega, false_and,
    setRead_setRead]

theorem retryBudget_some {s : State} {n : Nat} {r : PoolRead} (hr : s.pool.reads.find? (fun r => r.ident == n) = some r) :
    s.retryBudget n = s.setRead { r with budgetOver := true, noRetry := r.noRetry || r.retryWait, retryWait := false } := by
  rw [retryBudget, hr]

/-! ## The deadline (R206) -/

/-- What stays of a read after the deadline of schedule entry `x`. -/
def afterDeadline (x : Nat) (r : PoolRead) : Option PoolRead :=
  if r.exec == x && !r.late then (if r.inFlight = 0 then none
    else some { r with late := true, noRetry := r.noRetry || r.retryWait, retryWait := false, concWait := false }) else some r

theorem filterMap_afterDeadline {x : Nat} {l : List PoolRead} (h : l.filter (fun r => r.exec == x && !r.late) = []) :
    l.filterMap (afterDeadline x) = l := by
  have hkeep : ∀ r ∈ l, afterDeadline x r = some r := fun r hr => if_neg (List.filter_eq_nil_iff.mp h r hr)
  rw [List.filterMap_congr hkeep, List.filterMap_some]

theorem readDeadline_none {s : State} {x : Nat} (h : s.pool.reads.filter (fun r => r.exec == x && !r.late) = []) :
    s.readDeadline x = s.serve := by
  unfold readDeadline
  dsimp only
  rw [h]
  exact congrArg (fun l => State.serve { s with pool := { s.pool with reads := l } }) (filterMap_afterDeadline h)

theorem readDeadline_good {s : State} {x : Nat} {r : PoolRead} (h : s.pool.reads = [r]) (hx : r.exec = x) (hl : r.late = false)
    (hg : readOutcome r = 0) : s.readDeadline x =
      (let t := s.deliverRead r
       serve { t with pool := { t.pool with reads := t.pool.reads.filterMap (afterDeadline x) } }) := by
  have hmine : s.pool.reads.filter (fun r => r.exec == x && !r.late) = [r] := by rw [h]; simp [hx, hl]
  unfold readDeadline
  rw [hmine]
  simp only [List.foldl_cons, List.foldl_nil, List.filter_cons, List.filter_nil, hg, bne_self_eq_false, Bool.false_and,
    Bool.and_false, Bool.false_eq_true, if_false, List.head?_nil]
  rfl

/-! ## Repairs (R213) -/

theorem pprDone_idle {s : State} (h : s.pool.pprRun = false) (ok : Bool) : s.pprDone ok = s := if_pos (by simp [h])

theorem pprDone_row {s : State} {r : PprRow} (h : s.pool.pprRun = true) (hr : s.pprNext = some r) :
    (s.pprDone true).pool.ppr = s.pool.ppr.erase r ∧ (s.pprDone true).pool.resBack = s.pool.resBack ++ r.tiles ∧
      (s.pprDone true).fld F.POOL_CH_CNT_RESERVE_FREE r.channel =
        reserveLeft { s with pool := { s.pool with resBack := s.pool.resBack ++ r.tiles } } r.channel % 2 ^ 16 := by
  unfold pprDone
  rw [if_neg (by simp [h]), hr]
  dsimp -zeta only
  rw [if_pos rfl]
  extract_lets _ s1 s2
  have h2 : s2.pool.ppr = s.pool.ppr.erase r ∧ s2.pool.resBack = s.pool.resBack ++ r.tiles ∧
      s2.fld F.POOL_CH_CNT_RESERVE_FREE r.channel =
        reserveLeft { s with pool := { s.pool with resBack := s.pool.resBack ++ r.tiles } } r.channel % 2 ^ 16 :=
    ⟨rfl, rfl, fld_setFld_same _ _ _ _ _ (by decide)⟩
  split
  · exact h2
  · exact h2

end State

/-- Settles O21: each return, deadline and repair is the case of its function that the lemmas above name. -/
theorem poolReadsReturnOrAreConcealed : Obligations.PoolReadsReturnOrAreConcealed := by
  unfold Obligations.PoolReadsReturnOrAreConcealed
  refine ⟨?_, ?_, ?_, ?_, ?_, ?_, ?_, ?_⟩
  · exact fun n w c ecc s h => does_self (exec_poolReadReturn n w (c, ecc) s)
      (congrArg State.serve (State.readReturn_none (s := s.begin) h w c ecc))
  · intro n w c ecc r s h hfly
    have hb : (s.begin.readCorrected n w c).pool.reads.find? (fun r => r.ident == n) = some r := by
      rw [State.pool_readCorrected]
      exact h
    refine ⟨?_, ?_⟩
    · rintro hl h1 rfl
      exact does_self (exec_poolReadReturn n 0 (c, ecc) s) (congrArg State.serve (State.readReturn_late hb hfly hl h1 ecc))
    · rintro t hl rfl hg hw ho ht
      have htile := State.readReturn_tile hb hfly hl hg hw ho ht ecc
      refine ⟨?_, ?_, ?_⟩
      · rintro rfl hc hf hlost h0
        exact does_self (exec_poolReadReturn n 0 (c, false) s)
          (congrArg State.serve (htile.trans (State.readBack_good ((State.tileCrcOk_readCorrected ..).trans hc)
            ((State.tileFlow_readCorrected ..).trans hf) ((congrArg (· &&& flagLost) (State.tileFlags_readCorrected ..)).trans hlost) h0)))
      · rintro rfl hc hf
        exact does_self (exec_poolReadReturn n 0 (c, false) s)
          (congrArg State.serve (htile.trans (State.readBack_otherFlow ((State.tileCrcOk_readCorrected ..).trans hc)
            (fun he => hf ((State.tileFlow_readCorrected s.begin n 0 c t).symm.trans he)))))
      · rintro rfl h2
        exact does_self (exec_poolReadReturn n 0 (c, true) s) (congrArg State.serve (htile.trans (State.readBack_spent h2 t)))
  · exact fun n r s h => does_self (exec_retryBudgetExpiry n s) (congrArg State.serve (State.retryBudget_some (s := s.begin) h))
  · exact fun x s h => does_self (exec_readDeadline x s) (State.readDeadline_none (s := s.begin) h)
  · exact fun x r s h hx hl _ hg => does_self (exec_readDeadline x s) (State.readDeadline_good (s := s.begin) h hx hl hg)
  · exact fun t s => does_of (o := []) (exec_suspectExpiry t s) rfl
  · exact fun ok s h => does_of (o := []) (exec_pprRowDone ok s) (State.pprDone_idle (s := s.begin) h ok)
  · intro r s h hr
    obtain ⟨hppr, hback, hfree⟩ := State.pprDone_row (s := s.begin) h hr
    obtain ⟨o, ho⟩ := does_self (exec_pprRowDone true s) rfl
    exact ⟨_, ho, hppr, hback, hfree⟩

end Sys2Proof.Machine
end

section
/-! PROOFS. Pool windows (R220 to R223), the default target's answer (R576) and the order of the classes (R204). -/

namespace Sys2Proof.Machine

/-- What a row hands out is among its outputs. -/
theorem next_of_hands {i : Instr} {s e : State} {o : List Output} (h : Hands i s e o) :
    ∃ o', exec i s = .next { e.kept with out := o', pending := s.pending } ∧ ∀ x ∈ o, x ∈ o' := by
  rcases h with h | h
  · exact ⟨_, h, fun _ hx => hx⟩
  · exact ⟨_, h, fun _ hx => List.mem_append_left _ hx⟩

namespace State

/-! ## Register writes before and after the outputs are dropped -/

theorem begin_setFld (s : State) (f : Fld) (v i j : Nat) : s.begin.setFld f v i j = (s.setFld f v i j).begin := rfl

theorem begin_setFlag (s : State) (f : Fld) (b : Bool) (i j : Nat) : s.begin.setFlag f b i j = (s.setFlag f b i j).begin := rfl

theorem begin_incFld (s : State) (f : Fld) (i j : Nat) : s.begin.incFld f i j = (s.incFld f i j).begin := rfl

/-! ## The default target (R576) -/

/-- The word or error that the default target answers. -/
def badData (s : State) (a : BusAccess) (write : Bool) : Output :=
  if a.master = 4 ∧ !write ∧ !s.flag F.BUS_CFG_HOST_CA then .busData 4 [0xFFFFFFFF#32] false
  else if a.master = 4 then .busData 4 [] true
  else .busData a.master [0] true

theorem badAnswer_eq (s : State) (a : BusAccess) (write : Bool) : s.badAnswer a write = s.emit (s.badData a write) := by
  unfold badAnswer badData
  split
  · rfl
  · split
    · rfl
    · rfl

theorem defaultHit_eq (s : State) (a : BusAccess) (write : Bool) :
    s.defaultHit a write = (s.defaultMark a write).emit ((s.defaultMark a write).badData a write) := badAnswer_eq ..

theorem hostCa_setFld {f : Fld} (h : f.addr 0 0 ≠ F.BUS_CFG_HOST_CA.addr 0 0) (s : State) (v : Nat) :
    (s.setFld f v).flag F.BUS_CFG_HOST_CA = s.flag F.BUS_CFG_HOST_CA := by
  rw [flag, flag, fld_setFld_word s f _ v _ _ _ _ h.symm]

theorem hostCa_defaultMark (s : State) (a : BusAccess) (write : Bool) :
    (s.defaultMark a write).flag F.BUS_CFG_HOST_CA = s.flag F.BUS_CFG_HOST_CA := by
  unfold defaultMark
  split
  · rfl
  · unfold busLog incFld addFld setFlag
    rw [hostCa_setFld (by decide), hostCa_setFld (by decide), hostCa_setFld (by decide), hostCa_setFld (by decide),
      hostCa_setFld (by decide), hostCa_setFld (by decide), hostCa_setFld (by decide), hostCa_setFld (by decide),
      hostCa_setFld (by decide)]

theorem badData_hostOnes {s : State} {a : BusAccess} (hm : a.master = 4) (h : s.flag F.BUS_CFG_HOST_CA = false) :
    s.badData a false = .busData 4 [0xFFFFFFFF#32] false := if_pos (by simp [hm, h])

theorem badData_hostError {s : State} {a : BusAccess} (hm : a.master = 4) (h : s.flag F.BUS_CFG_HOST_CA = true) :
    s.badData a false = .busData 4 [] true := (if_neg (by simp [h])).trans (if_pos hm)

/-! ## The classes (R204) -/

theorem winAsk_free {s : State} {op : WinOp} (h : s.winFree op) : s.winAsk op = s.winDo op := by
  obtain ⟨hw, hb⟩ := h
  exact if_pos (by simp [hw, hb])

theorem winAsk_waits {s : State} {op : WinOp} (h : ¬ s.winFree op) :
    s.winAsk op = { s with pool := { s.pool with winWait := s.pool.winWait ++ [op] } } := by
  refine if_neg fun hc => h ?_
  rw [Bool.and_eq_true, List.isEmpty_iff] at hc
  exact ⟨hc.1, by simpa using hc.2⟩

/-! ## Reads (R222) -/

theorem winDo_down {s : State} {m : Nat} (h : s.masterUp m = false) (w b n : Nat) (data : Bytes) :
    s.winDo (.read m w b n) = s ∧ s.winDo (.write m w b data) = s :=
  ⟨if_neg (by simp [h]), if_neg (by simp [h])⟩

theorem winRoom_outside {s : State} {w b : Nat} (h : s.flag F.POOL_WIN_CFG_EN w = false ∨ s.winSize w ≤ b) : s.winRoom w b = 0 := by
  unfold winRoom
  split
  · rfl
  · rename_i hc
    rcases h with h | h
    · exact absurd (by simp [h]) hc
    · omega

theorem winRead_outside {s : State} {w b n : Nat} (h : s.winRoom w b = 0) (hn : 0 < n) (m : Nat) :
    s.winRead m w b n = (let x := s.winAccess m w b; x.2.defaultHit x.1 false) := by
  unfold winRead
  dsimp only
  rw [h, if_pos hn, Nat.min_zero, if_pos rfl]

theorem winRead_inside {s : State} {w b n : Nat} (h : n ≤ s.winRoom w b) (h0 : n ≠ 0) (m : Nat) : s.winRead m w b n =
    (s.winCheck w (b - b % 4096) ((b % 4096 + n + 4095) / 4096)).emit
      (if (s.winTile w (b + n - 1)).isSome then .busData m (s.winWords w b n) false else .busData m [] true) := by
  unfold winRead
  dsimp only
  rw [Nat.min_eq_left h, if_neg h0, if_neg (Nat.not_lt.mpr h)]
  cases s.winTile w (b + n - 1) with
  | none => exact if_pos ⟨h0, rfl⟩
  | some t => exact if_neg (by simp)

/-! ## Writes (R223) -/

theorem winWrite_outside {s : State} {w b : Nat} {data : Bytes} (h : s.winRoom w b = 0) (hd : data ≠ []) (m : Nat) :
    s.winWrite m w b data = (let x := s.winAccess m w b; x.2.defaultHit x.1 true) := by
  unfold winWrite
  dsimp only
  rw [h, if_pos (List.length_pos_of_ne_nil hd), List.take_zero]
  rfl

theorem begin_winRefuse (s : State) (w : Nat) : s.begin.winRefuse w = (s.winRefuse w).begin := by
  rw [winRefuse, winRefuse, begin_setFlag, begin_incFld]

section
variable {s : State} {w b : Nat} {data : Bytes} (hd : data ≠ []) (hr : data.length ≤ s.winRoom w b)
include hd hr

theorem winWrite_refused (hw : s.winWritable w = false) (m : Nat) : s.winWrite m w b data = s.winRefuse w := by
  unfold winWrite
  dsimp only
  rw [List.take_of_length_le hr, if_neg (Nat.not_lt.mpr hr), if_neg (by simp [hw]), if_neg (by simp [hd]), if_pos (by simp [hw])]

theorem winWrite_inside (hw : s.winWritable w = true) (m : Nat) : s.winWrite m w b data =
    (let t := s.winPuts w b data (data.length / 4096 + 2)
     if (s.winTile w (b + data.length - 1)).isSome then t else t.emit (.busData m [] true)) := by
  unfold winWrite
  dsimp only
  rw [List.take_of_length_le hr, if_neg (Nat.not_lt.mpr hr), if_neg (c := data.isEmpty = true) (by simp [hd]),
    if_neg (c := (!s.winWritable w) = true) (by simp [hw])]
  cases s.winTile w (b + data.length - 1) with
  | none => exact if_pos (by simp [hd, hw])
  | some t => exact (if_neg (by simp)).trans (if_pos rfl).symm

end

theorem autoTrailer_frontWrite (s : State) (w b : Nat) :
    (s.frontWrite w b).flag F.POOL_WIN_CFG_AUTO_TRAILER w = s.flag F.POOL_WIN_CFG_AUTO_TRAILER w := by
  have hne : ∀ n, F.POOL_WIN_CFG_AUTO_TRAILER.addr w 0 ≠ F.CHM_SURF_CFG_FRONT_WRITES.addr n 0 := by
    intro n
    simp only [Fld.addr, F.POOL_WIN_CFG_AUTO_TRAILER, F.CHM_SURF_CFG_FRONT_WRITES]
    omega
  unfold frontWrite
  dsimp only
  split
  · split
    · rw [flag, flag, incFld, addFld, fld_setFld_word _ _ _ _ _ _ _ _ (hne _)]
    · rfl
  · rfl

theorem pool_frontWrite (s : State) (w b : Nat) : (s.frontWrite w b).pool = s.pool := by
  unfold frontWrite
  dsimp only
  split
  · split
    · exact incFld_pool ..
    · rfl
  · rfl

theorem pool_winPut {s : State} {w b t : Nat} (ht : s.winTile w b = some t) (ha : s.flag F.POOL_WIN_CFG_AUTO_TRAILER w = false)
    (data : Bytes) : (s.winPut w b data).pool =
      { s.pool with mem := ssetMany initByte s.pool.mem (t * 4096 + b % 4096) data } := by
  unfold winPut
  rw [ht]
  dsimp only
  rw [if_neg (by simp [autoTrailer_frontWrite, ha]), tileWrite, pool_frontWrite]

theorem winPuts_nil (s : State) (w b fuel : Nat) : s.winPuts w b [] fuel = s := by
  cases fuel with
  | zero => rfl
  | succ n => exact if_pos rfl

/-- A write within one tile stores it at once. -/
theorem winPuts_oneTile {data : Bytes} {b : Nat} (hd : data ≠ []) (hl : b % 4096 + data.length ≤ 4096) (s : State) (w fuel : Nat) :
    s.winPuts w b data (fuel + 1) = s.winPut w b data := by
  rw [winPuts, if_neg (by simp [hd])]
  dsimp only
  rw [List.take_of_length_le (by omega), List.drop_of_length_le (by omega), winPuts_nil]

/-! ## FLUSH (R223) -/

theorem winFlush_off {s : State} {w : Nat} (h : s.flag F.POOL_WIN_CFG_EN w = false ∨ s.flag F.POOL_WIN_CFG_AUTO_TRAILER w = false)
    (p : Nat) : s.winFlush w p = s := if_pos (by rcases h with h | h <;> simp [h])

theorem winFlush_refused {s : State} {w : Nat} (he : s.flag F.POOL_WIN_CFG_EN w = true)
    (ha : s.flag F.POOL_WIN_CFG_AUTO_TRAILER w = true) (hw : s.winWritable w = false) (p : Nat) : s.winFlush w p = s.winRefuse w :=
  (if_neg (by simp [he, ha])).trans (if_pos (by simp [hw]))

theorem winFlush_tile {s : State} {w p t : Nat} (he : s.flag F.POOL_WIN_CFG_EN w = true)
    (ha : s.flag F.POOL_WIN_CFG_AUTO_TRAILER w = true) (hw : s.winWritable w = true) (ht : s.winTile w (p * 4096) = some t) :
    s.winFlush w p = s.winTrailer w t := by
  refine (if_neg (by simp [he, ha])).trans ((if_neg (by simp [hw])).trans ?_)
  rw [ht]

end State

theorem exec_windowRead_free {s : State} {w b n : Nat} (hf : s.winFree (.read (winMaster w) w b n))
    (hu : s.masterUp (winMaster w) = true) :
    exec (.poolWindowRead w b n) s = runEff (fun s => s.winRead (winMaster w) w b n) s := by
  rw [exec_poolWindowRead, execPoolWindowRead, runEff, runEff, State.winAsk_free (s := s.begin) (op := .read (winMaster w) w b n) hf]
  exact congrArg (fun t => Host.Outcome.next (s.commit t)) (if_pos hu)

theorem exec_windowWrite_free {s : State} {w b : Nat} {data : Bytes} (hf : s.winFree (.write (winMaster w) w b data))
    (hu : s.masterUp (winMaster w) = true) :
    exec (.poolWindowWrite w b data) s = runEff (fun s => s.winWrite (winMaster w) w b data) s := by
  rw [exec_poolWindowWrite, execPoolWindowWrite, runEff, runEff, State.winAsk_free (s := s.begin) (op := .write (winMaster w) w b data) hf]
  exact congrArg (fun t => Host.Outcome.next (s.commit t)) (if_pos hu)

theorem exec_flush_free {s : State} {w p : Nat} (hf : s.winFree (.flush w p)) :
    exec (.flush w p) s = runEff (fun s => s.winFlush w p) s := by
  rw [exec_flush, execFlush, runEff, runEff, State.winAsk_free (s := s.begin) (op := .flush w p) hf]
  rfl

theorem winMaster_host {w : Nat} (h : w < 12) : winMaster w = 4 := if_pos h

/-- An access of the default target by a window row, with its answer. -/
theorem next_of_defaultHit {i : Instr} {f : State → State} {s : State} {x : BusAccess × State} {write : Bool}
    (hx : exec i s = runEff f s) (hf : f s.begin = x.2.defaultHit x.1 write) :
    ∃ o, exec i s = .next { (x.2.defaultMark x.1 write).kept with out := o, pending := s.pending } ∧
      (x.2.defaultMark x.1 write).badData x.1 write ∈ o := by
  obtain ⟨o, ho, hmem⟩ := next_of_hands (hands_of hx (hf.trans (State.defaultHit_eq ..)))
  exact ⟨o, ho, hmem _ (List.mem_append_right _ (List.mem_singleton.mpr rfl))⟩

theorem windowRead_outside {s : State} {w b n : Nat} (hf : s.winFree (.read (winMaster w) w b n))
    (hu : s.masterUp (winMaster w) = true) (h : s.flag F.POOL_WIN_CFG_EN w = false ∨ s.winSize w ≤ b) (hn : 0 < n) :
    let x := s.begin.winAccess (winMaster w) w b
    ∃ o, exec (.poolWindowRead w b n) s = .next { (x.2.defaultMark x.1 false).kept with out := o, pending := s.pending } ∧
      (w < 12 → s.flag F.BUS_CFG_HOST_CA = false → Output.busData 4 [0xFFFFFFFF#32] false ∈ o) ∧
      (w < 12 → s.flag F.BUS_CFG_HOST_CA = true → Output.busData 4 [] true ∈ o) := by
  obtain ⟨o, ho, hmem⟩ := next_of_defaultHit (exec_windowRead_free hf hu)
    (State.winRead_outside (s := s.begin) (State.winRoom_outside h) hn (winMaster w))
  refine ⟨o, ho, fun hw hca => ?_, fun hw hca => ?_⟩
  · rwa [State.badData_hostOnes (winMaster_host hw) (by rw [State.hostCa_defaultMark]; exact hca)] at hmem
  · rwa [State.badData_hostError (winMaster_host hw) (by rw [State.hostCa_defaultMark]; exact hca)] at hmem

theorem windowRead_inside {s : State} {w b n : Nat} (hf : s.winFree (.read (winMaster w) w b n))
    (hu : s.masterUp (winMaster w) = true) (h0 : n ≠ 0) (hr : n ≤ s.winRoom w b) :
    ∃ o, exec (.poolWindowRead w b n) s =
        .next { (s.begin.winCheck w (b - b % 4096) ((b % 4096 + n + 4095) / 4096)).kept with out := o, pending := s.pending } ∧
      ((s.winTile w (b + n - 1)).isSome = true → Output.busData (winMaster w) (s.winWords w b n) false ∈ o) ∧
      ((s.winTile w (b + n - 1)).isSome = false → Output.busData (winMaster w) [] true ∈ o) := by
  obtain ⟨o, ho, hmem⟩ := next_of_hands (hands_of (exec_windowRead_free hf hu) (State.winRead_inside (s := s.begin) hr h0 (winMaster w)))
  have hlast := hmem _ (List.mem_append_right _ (List.mem_singleton.mpr rfl))
  refine ⟨o, ho, fun ht => ?_, fun ht => ?_⟩
  · rwa [show s.begin.winTile w (b + n - 1) = s.winTile w (b + n - 1) from rfl, if_pos ht] at hlast
  · rwa [show s.begin.winTile w (b + n - 1) = s.winTile w (b + n - 1) from rfl, if_neg (by rw [ht]; decide)] at hlast

theorem windowWrite_inside {s : State} {w b : Nat} {data : Bytes} (hf : s.winFree (.write (winMaster w) w b data))
    (hu : s.masterUp (winMaster w) = true) (hd : data ≠ []) (hr : data.length ≤ s.winRoom w b) (hw : s.winWritable w = true) :
    ∃ o, exec (.poolWindowWrite w b data) s =
        .next { (s.begin.winPuts w b data (data.length / 4096 + 2)).kept with out := o, pending := s.pending } ∧
      ((s.winTile w (b + data.length - 1)).isSome = false → Output.busData (winMaster w) [] true ∈ o) := by
  have hx := exec_windowWrite_free hf hu
  have hin := State.winWrite_inside (s := s.begin) hd hr hw (winMaster w)
  cases ht : s.winTile w (b + data.length - 1) with
  | some t =>
    obtain ⟨o, ho⟩ := does_self hx (hin.trans (if_pos (congrArg Option.isSome ht)))
    exact ⟨o, ho, fun h => Bool.noConfusion h⟩
  | none =>
    obtain ⟨o, ho, hmem⟩ := next_of_hands (hands_of hx (hin.trans (if_neg (by
      rw [show s.begin.winTile w (b + data.length - 1) = s.winTile w (b + data.length - 1) from rfl, ht]
      decide))))
    exact ⟨o, ho, fun _ => hmem _ (List.mem_append_right _ (List.mem_singleton.mpr rfl))⟩

/-- Settles O22: each access is one case of the window functions, which the lemmas above name. -/
theorem poolWindowsReadAndWriteTiles : Obligations.PoolWindowsReadAndWriteTiles := by
  unfold Obligations.PoolWindowsReadAndWriteTiles
  refine ⟨?_, ?_, ?_, ?_, ?_, ?_⟩
  · intro w b n s hf
    refine ⟨fun hu => ?_, fun hu => ⟨fun h hn => windowRead_outside hf hu h hn, fun h0 hr => windowRead_inside hf hu h0 hr⟩⟩
    exact does_of (o := []) (exec_poolWindowRead w b n s)
      ((State.winAsk_free (s := s.begin) (op := .read (winMaster w) w b n) hf).trans (State.winDo_down (s := s.begin) hu w b n []).1)
  · exact fun w b n s hf => does_of (o := []) (exec_poolWindowRead w b n s) (State.winAsk_waits (s := s.begin) hf)
  · intro w b data s hf
    refine ⟨fun hu => ?_, fun hu => ⟨fun h hd => ?_, fun hd hr => ⟨fun hw => ?_, fun hw => ?_, fun t hw ha hl ht => ?_⟩⟩⟩
    · exact does_of (o := []) (exec_poolWindowWrite w b data s)
        ((State.winAsk_free (s := s.begin) (op := .write (winMaster w) w b data) hf).trans (State.winDo_down (s := s.begin) hu w b 0 data).2)
    · obtain ⟨o, ho, -⟩ := next_of_defaultHit (exec_windowWrite_free hf hu)
        (State.winWrite_outside (s := s.begin) (State.winRoom_outside h) hd (winMaster w))
      exact ⟨o, ho⟩
    · exact does_of (o := []) (exec_windowWrite_free hf hu) ((State.winWrite_refused (s := s.begin) hd hr hw (winMaster w)).trans
        (State.begin_winRefuse s w))
    · exact windowWrite_inside hf hu hd hr hw
    · obtain ⟨o, ho, -⟩ := windowWrite_inside hf hu hd hr hw
      refine ⟨_, ho, (congrArg State.pool (State.winPuts_oneTile hd hl s.begin w (data.length / 4096 + 1))).trans ?_⟩
      exact State.pool_winPut (s := s.begin) ht ha data
  · exact fun w b data s hf => does_of (o := []) (exec_poolWindowWrite w b data s) (State.winAsk_waits (s := s.begin) hf)
  · intro w p s hf
    refine ⟨fun h => ?_, fun he ha => ⟨fun hw => ?_, fun t hw ht => ?_⟩⟩
    · exact does_of (o := []) (exec_flush_free hf) (State.winFlush_off (s := s.begin) h p)
    · exact does_of (o := []) (exec_flush_free hf) ((State.winFlush_refused (s := s.begin) he ha hw p).trans (State.begin_winRefuse s w))
    · exact does_self (exec_flush_free hf) (State.winFlush_tile (s := s.begin) he ha hw ht)
  · exact fun w p s hf => does_of (o := []) (exec_flush w p s) (State.winAsk_waits (s := s.begin) hf)

end Sys2Proof.Machine
end

section
/-! PROOFS. Ingest: frames on a MAC (R136, R155), open frames (R165), idle paths (R166), loss (R179) and SDI frames (R158). -/

namespace Sys2Proof.Machine

namespace State

/-! ## Frames on a MAC -/

theorem macRx_closed {s : State} {m : Nat} (h : s.rst.pUp = false ∨ s.sys.mode = .cold ∨ s.flag F.MAC_CFG_EN m = false ∨
    s.flag F.MAC_LINK_STAT_LINK_UP m = false) (f : NetFrame) : s.macRx m f = s := by
  refine if_pos ?_
  rintro ⟨-, hp, hm, he, hl⟩
  rcases h with h | h | h | h
  · simp [h] at hp
  · exact hm h
  · simp [h] at he
  · simp [h] at hl

theorem macRx_whole {s : State} {m : Nat} {f : NetFrame} (hm : m < 32) (hp : s.rst.pUp = true) (hc : s.sys.mode ≠ .cold)
    (he : s.flag F.MAC_CFG_EN m = true) (hl : s.flag F.MAC_LINK_STAT_LINK_UP m = true) (hw : f.smd = .whole) :
    s.macRx m f = s.wholeRx m { f with stamp := s.rxStamp m f.stamp } := by
  unfold macRx
  rw [if_neg (by simp [hm, hp, hc, he, hl])]
  dsimp only
  rw [hw]

section
variable {s : State} {m : Nat} {f : NetFrame}

theorem wholeRx_pcs (h : ((s.macFec m).map (·.2)).getD 0 < f.symErrs) : s.wholeRx m f = s.macCount m 18 1 :=
  if_pos (decide_eq_true h)

variable (hfec : f.symErrs ≤ ((s.macFec m).map (·.2)).getD 0)
include hfec

theorem wholeRx_jabber (hj : f.jabber = true) : s.wholeRx m f = s.macCount m 17 1 :=
  (if_neg (by simpa using hfec)).trans (if_pos hj)

variable (hj : f.jabber = false)
include hj

theorem wholeRx_oversize (hl : s.fld F.MAC_CFG_MAX_FRAME m < f.len) : s.wholeRx m f = s.macCount m 16 1 :=
  (if_neg (by simpa using hfec)).trans ((if_neg (by simp [hj])).trans (if_pos hl))

variable (hmax : f.len ≤ s.fld F.MAC_CFG_MAX_FRAME m)
include hmax

theorem wholeRx_runt (hl : f.len < 64) : s.wholeRx m f = s.macCount m 15 1 :=
  (if_neg (by simpa using hfec)).trans ((if_neg (by simp [hj])).trans ((if_neg (Nat.not_lt.mpr hmax)).trans (if_pos hl)))

variable (hmin : 64 ≤ f.len)
include hmin

theorem wholeRx_badFcs (hf : f.fcsOk = false) : s.wholeRx m f = s.macCount m 14 1 :=
  (if_neg (by simpa using hfec)).trans ((if_neg (by simp [hj])).trans ((if_neg (Nat.not_lt.mpr hmax)).trans
    ((if_neg (Nat.not_lt.mpr hmin)).trans (if_pos (by simp [hf])))))

theorem wholeRx_good (hf : f.fcsOk = true) : s.wholeRx m f =
    (let t := (s.macCount m 0 f.len).macCount m 1 1
     let t := t.macCount m (if f.dst = 2 ^ 48 - 1 then 4 else if macGroup f.dst then 3 else 2) 1
     (t.macCount m (5 + sizeBin f.len) 1).classify m f) :=
  (if_neg (by simpa using hfec)).trans ((if_neg (by simp [hj])).trans ((if_neg (Nat.not_lt.mpr hmax)).trans
    ((if_neg (Nat.not_lt.mpr hmin)).trans (if_neg (by simp [hf])))))

end

/-! ## Open frames and idle paths -/

theorem frameTimeout_none {s : State} {f ix : Nat} (h : (s.inFlow f).bind (fun x => x.opens.find? (fun o => o.s == ix)) = none)
    (held : Bool) : s.frameTimeout f ix held = s := by
  unfold frameTimeout
  cases hx : s.inFlow f with
  | none => rfl
  | some x =>
    rw [hx, Option.bind_some] at h
    dsimp only
    rw [h]

theorem frameTimeout_open {s : State} {f ix : Nat} {x : InFlow} {o : OpenFrame} (hx : s.inFlow f = some x)
    (ho : x.opens.find? (fun o => o.s == ix) = some o) (hw : s.lad.writesStopped = false) {held : Bool}
    (hh : held = true → o.mSeen = true) :
    s.frameTimeout f ix held = if x.src = 3 then s.rawFrame x o else s.completeFrame f o := by
  have hkept : (held && !o.mSeen && !x.opens.any (fun y => decide (o.s < y.s))) = false := by
    cases held with
    | false => rfl
    | true => rw [hh rfl]; rfl
  unfold frameTimeout
  rw [hx]
  dsimp only
  rw [ho]
  dsimp only
  rw [if_neg (by rw [hkept]; decide), if_neg (by rw [hw]; decide)]

/-! ## Loss -/

theorem lad_setFltStatus (s : State) (n : Nat) : (s.setFltStatus n).lad = s.lad := by
  unfold setFltStatus
  split
  · rfl
  · rfl

theorem lad_fltFirst (s : State) (n : Nat) : (s.fltFirst n).lad = s.lad := by
  unfold fltFirst
  split
  · rfl
  · split
    · rfl
    · rfl

theorem lad_faultRecord (s : State) (n : Nat) (args : List Nat) : (s.faultRecord n args).lad = s.lad :=
  (lad_fltFirst _ n).trans (lad_setFltStatus s n)

theorem flowBit_faultRecord (s : State) {n : Nat} (hn : n < 48) (args : List Nat) (f i : Nat) :
    (s.faultRecord n args).flowBit f i = s.flowBit f i := by
  have ha : 0x300000 ≤ Fld.addr { F.LAD_FLOW_STAT_LOSS with hi := i, lo := i } f 0 := by
    simp only [Fld.addr, F.LAD_FLOW_STAT_LOSS]
    omega
  unfold flowBit flag fld inFlow
  rw [reg_faultRecord s args hn ha, lad_faultRecord]

theorem inFlow_modFlow {s : State} {f : Nat} {x : InFlow} (h : s.inFlow f = some x) {g : InFlow → InFlow}
    (hg : ∀ y, (g y).flow = y.flow) : (s.modFlow f g).inFlow f = some (g x) := by
  have hself : (x.flow == f) = true := List.find?_some (p := fun x : InFlow => x.flow == f) h
  have hmap : ∀ y : InFlow, (if y.flow == f then g y else y).flow = y.flow := by
    intro y
    split
    · exact hg y
    · rfl
  unfold inFlow modFlow
  simp only [List.find?_map, Function.comp_def, hmap]
  rw [show s.lad.flows.find? (fun y => y.flow == f) = some x from h, Option.map_some, if_pos hself]

/-- Bit `i` of LAD_FLOW_STAT word 0. -/
def statFld (i : Nat) : Fld := { F.LAD_FLOW_STAT_LOSS with hi := i, lo := i }

/-- A bit of a flow beyond the register file. -/
def statBit (i : Nat) (b : Bool) (x : InFlow) : InFlow :=
  { x with stat := if b then x.stat ||| 2 ^ i else x.stat - (if x.stat.testBit i then 2 ^ i else 0) }

theorem setFlowBit_beyond {s : State} {f : Nat} (hf : ¬f < 0x800) (i : Nat) (b : Bool) :
    s.setFlowBit f i b = s.modFlow f (statBit i b) := if_neg hf

theorem flowBit_beyond {s : State} {f : Nat} {x : InFlow} (hf : ¬f < 0x800) (hx : s.inFlow f = some x) (i : Nat) :
    s.flowBit f i = x.stat.testBit i := by
  rw [flowBit, if_neg hf, hx]

theorem inFlow_setFlowBit {s : State} {f : Nat} {x : InFlow} (h : s.inFlow f = some x) (i : Nat) (b : Bool) :
    ∃ y, (s.setFlowBit f i b).inFlow f = some y := by
  unfold setFlowBit
  split
  · exact ⟨x, h⟩
  · exact ⟨_, inFlow_modFlow h (fun _ => rfl)⟩

theorem flowBit_setFlowBit_same {s : State} {f i : Nat} {x : InFlow} (hx : s.inFlow f = some x) (hi : i < 32) :
    (s.setFlowBit f i true).flowBit f i = true := by
  by_cases hf : f < 0x800
  · rw [flowBit, if_pos hf, setFlowBit, if_pos hf]
    exact flag_setFlag_same _ _ _ _ _ hi rfl
  · rw [setFlowBit_beyond hf, flowBit_beyond hf (inFlow_modFlow hx (g := statBit i true) (fun _ => rfl))]
    simp [statBit]

/-- A bit that is set stays as another is. -/
theorem flowBit_setFlowBit_other {s : State} {f i k : Nat} {x : InFlow} (hx : s.inFlow f = some x) (hk : k < 32) (hne : k ≠ i)
    (h : s.flowBit f k = true) : (s.setFlowBit f i true).flowBit f k = true := by
  by_cases hf : f < 0x800
  · rw [flowBit, if_pos hf] at h
    rw [flowBit, if_pos hf, setFlowBit, if_pos hf]
    exact (flag_setFlag_bits s (statFld i) (statFld k) true f 0 f 0 rfl hk (Nat.lt_or_gt_of_ne hne)).trans h
  · rw [flowBit_beyond hf hx] at h
    rw [setFlowBit_beyond hf, flowBit_beyond hf (inFlow_modFlow hx (g := statBit i true) (fun _ => rfl))]
    simp [statBit, h]

theorem flowBit_modFlow {s : State} {f i : Nat} {x : InFlow} (hx : s.inFlow f = some x) {g : InFlow → InFlow}
    (hg : ∀ y, (g y).flow = y.flow) (hs : ∀ y, (g y).stat = y.stat) : (s.modFlow f g).flowBit f i = s.flowBit f i := by
  unfold flowBit
  split
  · rfl
  · rw [inFlow_modFlow hx hg, hx]
    dsimp only
    rw [hs]

theorem pathIdle_up {s : State} {f p : Nat} (h : s.flowBit f (bitCopeUp - p) = true) :
    s.pathIdle f p = (s.setFlowBit f (bitCopeUp - p) false).raise fltLadInput [f, 1 + p] := if_pos h

theorem inputLoss_none {s : State} {f : Nat} (h : s.inFlow f = none) : s.inputLoss f = s := by rw [inputLoss, h]

theorem inputLoss_lost {s : State} {f : Nat} {x : InFlow} (h : s.inFlow f = some x) (hl : s.flowBit f bitLoss = true) :
    s.inputLoss f = s := by
  rw [inputLoss, h]
  exact if_pos hl

/-- The generation and frame at which a flow falls silent. -/
def stampLoss (y : InFlow) : InFlow := { y with lossS := (y.gen, y.sNext) }

/-- What a flow that falls silent has in LAD_FLOW_STAT before its raise. -/
def lossMarked (s : State) (f : Nat) : State :=
  ((s.setFlowBit f bitLoss true).setFlowBit f bitLossSeen true).modFlow f stampLoss

/-- The words of a flow's status are not those of a reference input's flow. -/
theorem refFlow_setFlowBit (s : State) (f i : Nat) (b : Bool) {k : Nat} (hk : k ≤ 3) :
    (s.setFlowBit f i b).fld F.REF_IN_FLOW_FLOW k = s.fld F.REF_IN_FLOW_FLOW k := by
  unfold setFlowBit
  split
  · refine fld_setFld_word _ _ _ _ _ _ _ _ ?_
    simp only [Fld.addr, F.REF_IN_FLOW_FLOW, F.LAD_FLOW_STAT_LOSS]
    omega
  · rfl

theorem refsOf_lossMarked (s : State) (f : Nat) : (s.lossMarked f).refsOf f = s.refsOf f := by
  refine List.filter_congr fun i hi => ?_
  have hk : i - 5 ≤ 3 := by
    simp only [List.mem_cons, List.not_mem_nil, or_false] at hi
    omega
  have hfld : (s.lossMarked f).fld F.REF_IN_FLOW_FLOW (i - 5) = s.fld F.REF_IN_FLOW_FLOW (i - 5) :=
    (refFlow_setFlowBit _ f _ true hk).trans (refFlow_setFlowBit s f _ true hk)
  rw [hfld]

theorem inputLoss_marks {s : State} {f : Nat} {x : InFlow} (h : s.inFlow f = some x) (hl : s.flowBit f bitLoss = false)
    (hr : s.refsOf f = []) : (s.inputLoss f).flowBit f bitLoss = true ∧ (s.inputLoss f).flowBit f bitLossSeen = true := by
  have hin : s.inputLoss f = (s.lossMarked f).faultRecord fltLadInput [f, 0] := by
    rw [inputLoss, h]
    refine (if_neg (by simp [hl])).trans ?_
    have hrefs : (s.lossMarked f).refsLost f = s.lossMarked f := by rw [refsLost, refsOf_lossMarked, hr, List.foldl_nil]
    exact (congrArg (fun t => State.raise t fltLadInput [f, 0]) hrefs).trans (raise_of_notice rfl _ _)
  obtain ⟨y, hy⟩ := inFlow_setFlowBit h bitLoss true
  obtain ⟨z, hz⟩ := inFlow_setFlowBit hy bitLossSeen true
  have hbit : ∀ i, (s.inputLoss f).flowBit f i = ((s.setFlowBit f bitLoss true).setFlowBit f bitLossSeen true).flowBit f i := by
    intro i
    rw [hin, flowBit_faultRecord _ (by decide), lossMarked, flowBit_modFlow hz (g := stampLoss) (fun _ => rfl) (fun _ => rfl)]
  refine ⟨?_, ?_⟩
  · rw [hbit]
    exact flowBit_setFlowBit_other hy (by decide) (by decide) (flowBit_setFlowBit_same h (by decide))
  · rw [hbit]
    exact flowBit_setFlowBit_same hy (by decide)

/-! ## SDI frames -/

theorem sdiRx_off {s : State} (h : s.rst.pUp = false ∨ s.sys.mode = .cold) (k : Option Nat) (p : Nat) (f : SdiFrame) :
    s.sdiRx k p f = s := by
  unfold sdiRx
  split
  · rfl
  · exact if_pos (by rcases h with h | h <;> simp [h])

theorem sdiRx_down {s : State} {k : Option Nat} {p : Nat} (h : ∀ x, s.sdiFlow k p = some x → s.sdiUp x = false) (f : SdiFrame) :
    s.sdiRx k p f = s := by
  unfold sdiRx
  split
  · rfl
  · rename_i x hx
    exact if_pos (by simp [h x hx])

theorem sdiRx_taken {s : State} {k : Option Nat} {p : Nat} {x : InFlow} (hp : s.rst.pUp = true) (hm : s.sys.mode ≠ .cold)
    (hx : s.sdiFlow k p = some x) (hu : s.sdiUp x = true) (f : SdiFrame) :
    s.sdiRx k p f = (s.sdiVideo x.flow { f with missing := f.missing ++ s.tribMissing x }).tribTaken x := by
  unfold sdiRx
  rw [hx]
  exact if_neg (by simp [hu, hp, hm])

end State

/-- Settles O23: each row is one branch of its reception, as the lemmas above name them. -/
theorem inputFramesAndLossAreTracked : Obligations.InputFramesAndLossAreTracked := by
  unfold Obligations.InputFramesAndLossAreTracked
  refine ⟨?_, ?_, ?_, ?_, ?_, ?_, ?_, ?_, ?_, ?_, ?_, ?_, ?_⟩
  · exact fun m f s h => does_of (o := []) (exec_macFrameReceive m f s) (State.macRx_closed (s := s.begin) h f)
  · intro m f s hm hp hc he hl hw hfec
    exact does_self (exec_macFrameReceive m f s) ((State.macRx_whole (s := s.begin) hm hp hc he hl hw).trans (State.wholeRx_pcs hfec))
  · intro m f s hm hp hc he hl hw hfec
    have hx := exec_macFrameReceive m f s
    have hrx := State.macRx_whole (s := s.begin) hm hp hc he hl hw
    refine ⟨fun hj => ?_, fun hj hlen => ?_, fun hj hmax hlen => ?_, fun hj hmax hmin hf => ?_, fun hj hmax hmin hf => ?_⟩
    · exact does_self hx (hrx.trans (State.wholeRx_jabber hfec hj))
    · exact does_self hx (hrx.trans (State.wholeRx_oversize hfec hj hlen))
    · exact does_self hx (hrx.trans (State.wholeRx_runt hfec hj hmax hlen))
    · exact does_self hx (hrx.trans (State.wholeRx_badFcs hfec hj hmax hmin hf))
    · exact does_self hx (hrx.trans (State.wholeRx_good hfec hj hmax hmin hf))
  · intro f ix x o s hx ho hw
    exact ⟨does_self (exec_frameOpenTimeout f ix s) (State.frameTimeout_open (s := s.begin) hx ho hw (fun h => Bool.noConfusion h)),
      fun hm => does_self (exec_mergeHoldExpiry f ix s) (State.frameTimeout_open (s := s.begin) hx ho hw (fun _ => hm))⟩
  · intro f ix s h
    exact ⟨does_of (o := []) (exec_frameOpenTimeout f ix s) (State.frameTimeout_none (s := s.begin) h false),
      does_of (o := []) (exec_mergeHoldExpiry f ix s) (State.frameTimeout_none (s := s.begin) h true)⟩
  · exact fun f p s hp h => does_self (exec_pathIdleTimeout f p s) ((if_pos hp).trans (State.pathIdle_up (s := s.begin) h))
  · exact fun f p s hp => does_of (o := []) (exec_pathIdleTimeout f p s) (if_neg (Nat.not_lt.mpr hp))
  · exact fun f s h => does_of (o := []) (exec_inputLossTimeout f s) (State.inputLoss_none (s := s.begin) h)
  · exact fun f x s h hl => does_of (o := []) (exec_inputLossTimeout f s) (State.inputLoss_lost (s := s.begin) h hl)
  · intro f x s h hl hr
    obtain ⟨hloss, hseen⟩ := State.inputLoss_marks (s := s.begin) h hl hr
    obtain ⟨o, ho⟩ := does_self (exec_inputLossTimeout f s) rfl
    exact ⟨_, ho, hloss, hseen⟩
  · exact fun k p f s h => does_of (o := []) (exec_sdiFrameReceive k p f s) (State.sdiRx_off (s := s.begin) h k p f)
  · exact fun k p f s h => does_of (o := []) (exec_sdiFrameReceive k p f s) (State.sdiRx_down (s := s.begin) h f)
  · exact fun k p x f s hp hm hx hu => does_self (exec_sdiFrameReceive k p f s) (State.sdiRx_taken (s := s.begin) hp hm hx hu f)

end Sys2Proof.Machine
end

section
/-! PROOFS. Lanes and links: S-lanes (R101, R104, R179), H-lanes (R109, R124, R612), restoring (R128) and Sprue blocks (R113). -/

namespace Sys2Proof.Machine

/-! ## Replacing an element of a list -/

theorem find?_upsert {α : Type} {p : α → Bool} {a : α} (ha : p a = true) (l : List α) : (upsert p a l).find? p = some a := by
  induction l with
  | nil => exact List.find?_cons_of_pos ha
  | cons y ys ih =>
    rw [upsert]
    split
    · exact List.find?_cons_of_pos ha
    · rename_i hy
      rw [List.find?_cons_of_neg hy]
      exact ih

namespace State

/-! ## S-lanes -/

/-- An S-lane that receives SDI: what its rows ask for. -/
def sdiLane (s : State) (l : Nat) : Prop := l < 68 ∧ s.fld F.SLN_LANE_CFG_USE l = 1 ∧ s.flag F.SLN_LANE_CFG_RX_EN l = true

theorem not_sdiLane {s : State} {l : Nat} (h : s.fld F.SLN_LANE_CFG_USE l ≠ 1 ∨ s.flag F.SLN_LANE_CFG_RX_EN l = false) :
    ¬ s.sdiLane l := by
  rintro ⟨-, hu, he⟩
  rcases h with h | h
  · exact h hu
  · rw [h] at he
    cases he

theorem slaneLos_other {s : State} {l : Nat} (h : ¬ s.sdiLane l) : s.slaneLos l = s := if_pos h

theorem slaneRate_other {s : State} {l : Nat} (h : ¬ s.sdiLane l) (c : Nat) : s.slaneRate l c = s :=
  if_pos fun ⟨hl, hu, he, _⟩ => h ⟨hl, hu, he⟩

theorem slaneLock_other {s : State} {l : Nat} (h : ¬ s.sdiLane l) (c : Nat) : s.slaneLock l c = s :=
  if_pos (.inl fun ⟨hl, hu, he, _⟩ => h ⟨hl, hu, he⟩)

/-- An S-lane without a rate. -/
def rateLost (s : State) (l : Nat) : State := (s.setFlag F.SLN_LANE_STAT_TRS_LOCK false l).setFld F.SLN_LANE_STAT_DET_RATE 15 l

theorem slaneLos_sdi {s : State} {l : Nat} (h : s.sdiLane l) : s.slaneLos l =
    (let los := ((s.setFlag F.SLN_LANE_STAT_LOS_SEEN true l).setFlag F.SLN_LANE_STAT_CDR_LOCK false l).rateLost l
     ((slaneIns los l).map InFlow.flow).foldl (fun t f => t.inputLoss f) los) := if_neg (not_not_intro h)

section
variable {s : State} {l c : Nat} (h : s.sdiLane l) (hc : c < 8)
include h hc

theorem slaneRate_pinned (hr : s.fld F.SLN_LANE_CFG_RX_RATE l ≠ 14) : s.slaneRate l c = s.slaneLos l :=
  (if_neg (not_not_intro ⟨h.1, h.2.1, h.2.2, hc⟩)).trans (if_pos hr)

theorem slaneRate_free (hr : s.fld F.SLN_LANE_CFG_RX_RATE l = 14) : s.slaneRate l c =
    (let t := ((s.setFlag F.SLN_LANE_STAT_RATE_CHG true l).setFlag F.SLN_LANE_STAT_CDR_LOCK false l).rateLost l
     ((slaneIns t l).map InFlow.flow).foldl (fun t f =>
       t.clockChange f (rate1001 (s.fld F.SLN_LANE_STAT_DET_RATE l) == rate1001 c)) t) :=
  (if_neg (not_not_intro ⟨h.1, h.2.1, h.2.2, hc⟩)).trans (if_neg (not_not_intro hr))

theorem slaneLock_rate (hr : s.fld F.SLN_LANE_CFG_RX_RATE l = 14 ∨ s.fld F.SLN_LANE_CFG_RX_RATE l = c) : s.slaneLock l c =
    ((s.setFlag F.SLN_LANE_STAT_CDR_LOCK true l).setFlag F.SLN_LANE_STAT_TRS_LOCK true l).setFld F.SLN_LANE_STAT_DET_RATE c l := by
  refine if_neg ?_
  rintro (hn | ⟨h14, hne⟩)
  · exact hn ⟨h.1, h.2.1, h.2.2, hc⟩
  · rcases hr with hr | hr
    · exact h14 hr
    · exact hne hr

end

/-! ## H-lanes -/

theorem cdrLoss_off {s : State} {l : Nat} (h : 144 ≤ l ∨ s.flag F.HLN_LANE_CFG_EN l = false) : s.cdrLoss l = s := by
  refine if_pos ?_
  rintro ⟨hl, he⟩
  rcases h with h | h
  · omega
  · rw [h] at he
    cases he

/-- The settings and the status of an H-lane are two words. -/
theorem hlaneCfg_ne_stat (l : Nat) : F.HLN_LANE_CFG_USE.addr l 0 ≠ F.HLN_LANE_STAT_CDR_LOCK.addr l 0 := by
  simp only [Fld.addr, F.HLN_LANE_CFG_USE, F.HLN_LANE_STAT_CDR_LOCK]
  omega

theorem cdrLoss_single {s : State} {l : Nat} (hl : l < 144) (he : s.flag F.HLN_LANE_CFG_EN l = true)
    (h2 : s.fld F.HLN_LANE_CFG_USE l ≠ 2) (h3 : s.fld F.HLN_LANE_CFG_USE l ≠ 3) : s.cdrLoss l =
      (((s.setFlag F.HLN_LANE_STAT_CDR_LOCK false l).setFlag F.HLN_LANE_STAT_BLOCK_LOCK false l).setFlag
        F.HLN_LANE_STAT_FAIL_SEEN true l).setFlag F.HLN_LANE_STAT_DESKEWED false l := by
  have huse : ((s.setFlag F.HLN_LANE_STAT_CDR_LOCK false l).setFlag F.HLN_LANE_STAT_BLOCK_LOCK false l).fld F.HLN_LANE_CFG_USE l =
      s.fld F.HLN_LANE_CFG_USE l :=
    (fld_setFld_word _ F.HLN_LANE_STAT_BLOCK_LOCK F.HLN_LANE_CFG_USE _ l 0 l 0 (hlaneCfg_ne_stat l)).trans
      (fld_setFld_word s F.HLN_LANE_STAT_CDR_LOCK F.HLN_LANE_CFG_USE _ l 0 l 0 (hlaneCfg_ne_stat l))
  refine (if_neg (not_not_intro ⟨hl, he⟩)).trans (if_neg ?_)
  rw [huse]
  exact not_or_intro h2 h3

theorem marginMeasure_off {s : State} {l : Nat} (hl : l < 144) (he : s.flag F.HLN_LANE_CFG_EN l = false) (h v : List (Nat × Nat)) :
    s.marginMeasure l h v = (s.setFld F.HLN_LANE_STAT_H_MARGIN (min 255 (eyeMargin h)) l).setFld F.HLN_LANE_STAT_V_MARGIN
      (min 255 (eyeMargin v)) l := by
  have hen : ((s.setFld F.HLN_LANE_STAT_H_MARGIN (min 255 (eyeMargin h)) l).setFld F.HLN_LANE_STAT_V_MARGIN
      (min 255 (eyeMargin v)) l).flag F.HLN_LANE_CFG_EN l = false := by
    rw [flag, fld_setFld_word _ F.HLN_LANE_STAT_V_MARGIN F.HLN_LANE_CFG_EN _ l 0 l 0 (hlaneCfg_ne_stat l),
      fld_setFld_word s F.HLN_LANE_STAT_H_MARGIN F.HLN_LANE_CFG_EN _ l 0 l 0 (hlaneCfg_ne_stat l)]
    exact he
  refine (if_neg (Nat.not_le.mpr hl)).trans (if_pos ?_)
  rintro ⟨he', -⟩
  rw [hen] at he'
  cases he'

theorem marginMeasure_slane {l : Nat} (hl : l < 68) (s : State) (h v : List (Nat × Nat)) : s.marginMeasure (0x100 + l) h v =
    { s with lane := { s.lane with
        sMargins := upsert (fun x => x.1 == l) (l, eyeMargin h, eyeMargin v) s.lane.sMargins } } := by
  have hsub : 0x100 + l - 0x100 = l := Nat.add_sub_cancel_left ..
  unfold marginMeasure
  dsimp only
  rw [if_pos (by omega), if_pos (by omega), hsub]

theorem foldl_min_le (l : List Nat) (a : Nat) : l.foldl min a ≤ a ∧ ∀ x ∈ l, l.foldl min a ≤ x := by
  induction l generalizing a with
  | nil => exact ⟨Nat.le_refl _, fun _ hx => absurd hx (List.not_mem_nil)⟩
  | cons y ys ih =>
    obtain ⟨hacc, hall⟩ := ih (min a y)
    refine ⟨Nat.le_trans hacc (Nat.min_le_left ..), fun x hx => ?_⟩
    rcases List.mem_cons.mp hx with rfl | hx
    · exact Nat.le_trans hacc (Nat.min_le_right ..)
    · exact hall x hx

theorem eyeMargin_le {eyes : List (Nat × Nat)} {a b : Nat} (h : (a, b) ∈ eyes) : eyeMargin eyes ≤ min a b :=
  (foldl_min_le _ _).2 _ (List.mem_map_of_mem (f := fun e : Nat × Nat => min e.1 e.2) h)

theorem wtrExpiry_kept {s : State} {k : Nat} (h : s.flag F.SPR_LINK_CFG_REVERT k = false) : s.wtrExpiry k = s := by
  unfold wtrExpiry
  dsimp only
  split
  · exact if_neg (by simp [h])
  · rfl

theorem wtrExpiry_reverts {s : State} {k l : Nat} (h : s.flag F.SPR_LINK_CFG_REVERT k = true)
    (hl : s.laneAt k (s.fld F.SPR_LINK_STAT_RX_SEL k) = some l) (hc : (s.laneRec l).clean = true) (hf : (s.laneRec l).failed = false) :
    s.wtrExpiry k = (let t := s.selectSpare k 31
      (t.setLink { t.linkRec k with reqLane := 31 }).linkRefresh k) := by
  unfold wtrExpiry
  dsimp only
  rw [hl]
  exact if_pos (by simp [h, hc, hf])

/-! ## Sprue blocks (R112, R113) -/

theorem sprueBlock_bad {s : State} {k : Nat} {b : BitVec 256} (hk : k < 16) (he : s.flag F.SPR_LINK_CFG_EN k = true)
    (hb : blockType b = 3 ∨ 24 < blockCount b ∨ (blockType b = 1 ∧ blockCount b = 0)) (c : Nat) : s.sprueBlock k c b =
      { s with lane := { s.lane with
          badBlocks := sset (fun _ => 0) s.lane.badBlocks k (sget (fun _ => 0) s.lane.badBlocks k + 1) } } :=
  (if_neg (not_not_intro ⟨hk, he⟩)).trans (if_pos hb)

theorem tribRx_key (s : State) (k t : Nat) : ((s.tribRx k t).link == k && (s.tribRx k t).trib == t) = true := by
  unfold tribRx
  cases h : s.lane.rx.find? (fun x => x.link == k && x.trib == t) with
  | none => exact Bool.and_eq_true_iff.mpr ⟨beq_self_eq_true k, beq_self_eq_true t⟩
  | some x => exact List.find?_some (p := fun x : TribRx => x.link == k && x.trib == t) h

/-- The sequence number of a container's last block. -/
def blockTaken (s : State) (k c : Nat) (b : BitVec 256) : State :=
  { s with lane := { s.lane with contSeq := sins s.lane.contSeq (k * 2048 + c) (blockSeq b) } }

/-- A tributary's `n` words of a block, after a gap where one is due. -/
def tribFed (s : State) (k t n : Nat) (b : BitVec 256) (gap : Bool) : State :=
  let old := (s.lane.rates.find? (fun x => x.link == k && x.trib == t)).getD ⟨k, t, 0, 0⟩
  let x := s.tribRx k t
  let x := { x with words := x.words ++ blockWords b n,
                    gaps := if gap then upsert (· == x.words.length) x.words.length x.gaps else x.gaps }
  { s with lane := { s.lane with
      rates := upsert (fun (x : TribRate) => x.link == k && x.trib == t) { old with words := old.words + n } s.lane.rates,
      rx := upsert (fun (y : TribRx) => y.link == k && y.trib == t) x s.lane.rx } }

/-- Whether a block's number does not follow that of the container's last one. -/
def blockGap (s : State) (k c : Nat) (b : BitVec 256) : Bool :=
  match sfind s.lane.contSeq (k * 2048 + c) with
  | some q => (q + 1) % 512 != blockSeq b
  | none => false

theorem tribRx_tribFed (s : State) (k t n : Nat) (b : BitVec 256) :
    (s.tribFed k t n b false).tribRx k t = { s.tribRx k t with words := (s.tribRx k t).words ++ blockWords b n } := by
  exact congrArg (fun o : Option TribRx => o.getD ⟨k, t, [], []⟩)
    (find?_upsert (p := fun x : TribRx => x.link == k && x.trib == t)
      (a := { s.tribRx k t with words := (s.tribRx k t).words ++ blockWords b n }) (tribRx_key s k t) s.lane.rx)

section
variable {s : State} {k c : Nat} {b : BitVec 256} (hk : k < 16) (he : s.flag F.SPR_LINK_CFG_EN k = true) (h3 : blockType b ≠ 3)
  (h24 : blockCount b ≤ 24) (h1 : blockType b = 1 → blockCount b ≠ 0)
include hk he h3 h24 h1

theorem sprueBlock_none (ht : s.tribOf k c = none) : s.sprueBlock k c b = s.blockTaken k c b := by
  refine (if_neg (not_not_intro ⟨hk, he⟩)).trans ((if_neg ?_).trans ?_)
  · rintro (h | h | ⟨h, h0⟩)
    · exact h3 h
    · omega
    · exact h1 h h0
  · have ht' : (s.blockTaken k c b).tribOf k c = none := ht
    dsimp only
    split
    · rfl
    · rename_i h
      exact absurd (ht'.symm.trans h) (Option.some_ne_none _).symm

theorem sprueBlock_some {t : Nat} (ht : s.tribOf k c = some t) : s.sprueBlock k c b =
    (s.blockTaken k c b).tribFed k t (if blockType b = 1 then blockCount b else 0) b (s.blockGap k c b) := by
  refine (if_neg (not_not_intro ⟨hk, he⟩)).trans ((if_neg ?_).trans ?_)
  · rintro (h | h | ⟨h, h0⟩)
    · exact h3 h
    · omega
    · exact h1 h h0
  · have ht' : (s.blockTaken k c b).tribOf k c = some t := ht
    dsimp only
    split
    · rename_i h
      exact absurd (ht'.symm.trans h) (Option.some_ne_none t)
    · rename_i h
      obtain rfl := Option.some.inj (ht'.symm.trans h)
      rfl

theorem sprueBlock_counts : (s.sprueBlock k c b).lane.contSeq = sins s.lane.contSeq (k * 2048 + c) (blockSeq b) ∧
    (s.sprueBlock k c b).lane.badBlocks = s.lane.badBlocks := by
  cases ht : s.tribOf k c with
  | none =>
    rw [sprueBlock_none hk he h3 h24 h1 ht]
    exact ⟨rfl, rfl⟩
  | some t =>
    rw [sprueBlock_some hk he h3 h24 h1 ht]
    exact ⟨rfl, rfl⟩

/-- The words of a tributary's block follow those that it has. -/
theorem tribRx_sprueBlock {t : Nat} (ht : s.tribOf k c = some t) (hty : blockType b = 1)
    (hnew : sfind s.lane.contSeq (k * 2048 + c) = none) :
    (s.sprueBlock k c b).tribRx k t = { s.tribRx k t with words := (s.tribRx k t).words ++ blockWords b (blockCount b) } := by
  have hgap : s.blockGap k c b = false := by rw [blockGap, hnew]
  rw [sprueBlock_some hk he h3 h24 h1 ht, hgap, if_pos hty]
  exact tribRx_tribFed (s.blockTaken k c b) k t _ b

end

/-! ## Markers and rates -/

theorem laneMarker_off {s : State} (h : s.rst.pUp = false ∨ s.sys.mode = .cold) (l : Nat) (m : Marker) : s.laneMarker l m = s :=
  if_pos (by rcases h with h | h <;> simp [h])

theorem laneMarker_up {s : State} (hp : s.rst.pUp = true) (hm : s.sys.mode ≠ .cold) (l : Nat) (m : Marker) : s.laneMarker l m =
    (let t := s.markerRx l m
     let k := s.fld F.HLN_LANE_CFG_OWNER l
     if l < 144 ∧ t.flag F.HLN_LANE_CFG_EN l = true ∧ m.crcOk = true ∧ t.aksUp = true ∧ t.fld F.TWN_CFG_LINK = k ∧
       m.linkId = t.fld F.SPR_LINK_CFG_LINK_ID k then t.twinMarker m.stby m.quench m.timeNs m.rtt else t) := by
  unfold laneMarker
  rw [if_neg (by simp [hp, hm])]
  simp only [Bool.and_eq_true, decide_eq_true_eq, beq_iff_eq, and_assoc]

theorem tribGate_first {s : State} {k t : Nat} (h : s.lane.rates.find? (fun x => x.link == k && x.trib == t) = none) (g : Int) :
    s.tribGate k t g = { s with lane := { s.lane with
      rates := upsert (fun x => x.link == k && x.trib == t) ⟨k, t, g, 0⟩ s.lane.rates } } := by
  unfold tribGate
  rw [h]

theorem tribGate_near {s : State} {k t : Nat} {g : Int} {o : TribRate}
    (h : s.lane.rates.find? (fun x => x.link == k && x.trib == t) = some o) (hn : (o.ppb - g).natAbs ≤ 50000) :
    s.tribGate k t g = { s with lane := { s.lane with
      rates := upsert (fun x => x.link == k && x.trib == t) ⟨k, t, g, 0⟩ s.lane.rates } } := by
  unfold tribGate
  rw [h]
  exact if_pos hn

end State

/-- Settles O24: each row is a branch of its lane's or link's function, as the lemmas above name them. -/
theorem lanesLockFailAndTrain : Obligations.LanesLockFailAndTrain := by
  unfold Obligations.LanesLockFailAndTrain
  refine ⟨?_, ?_, ?_, ?_, ?_, ?_, ?_, ?_, ?_, ?_, ?_, ?_, ?_, ?_, ?_, ?_, ?_, ?_, ?_⟩
  · intro l c s h
    have hno := State.not_sdiLane (s := s.begin) h
    exact ⟨does_of (o := []) (exec_slaneLos l s) (State.slaneLos_other hno),
      does_of (o := []) (exec_slaneRateChange l c s) (State.slaneRate_other hno c),
      does_of (o := []) (exec_slaneLock l c s) (State.slaneLock_other hno c)⟩
  · intro l c s hl hu he hc
    have hsdi : s.begin.sdiLane l := ⟨hl, hu, he⟩
    exact ⟨does_self (exec_slaneLos l s) (State.slaneLos_sdi hsdi),
      fun hr => does_self (exec_slaneRateChange l c s) ((State.slaneRate_pinned hsdi hc hr).trans (State.slaneLos_sdi hsdi)),
      fun hr => does_self (exec_slaneRateChange l c s) (State.slaneRate_free hsdi hc hr),
      fun hr => does_of (o := []) (exec_slaneLock l c s) (State.slaneLock_rate hsdi hc hr)⟩
  · exact fun l s h => does_of (o := []) (exec_laneCdrLoss l s) (State.cdrLoss_off (s := s.begin) h)
  · exact fun l s hl he h2 h3 => does_of (o := []) (exec_laneCdrLoss l s) (State.cdrLoss_single (s := s.begin) hl he h2 h3)
  · exact fun l h v s hl he => does_of (o := []) (exec_marginMeasure l h v s) (State.marginMeasure_off (s := s.begin) hl he h v)
  · exact fun l h v s hl => does_of (o := []) (exec_marginMeasure (0x100 + l) h v s) (State.marginMeasure_slane hl s.begin h v)
  · exact fun eyes a b h => State.eyeMargin_le h
  · exact fun l s hl he => does_of (o := []) (exec_laneTxTrained true l s) ((if_pos rfl).trans (if_pos ⟨hl, he⟩))
  · exact fun l s hl he => does_of (o := []) (exec_laneTxTrained false l s) ((if_neg Bool.false_ne_true).trans (if_pos ⟨hl, he⟩))
  · exact fun k s h => does_of (o := []) (exec_laneWtrExpiry k s) (State.wtrExpiry_kept (s := s.begin) h)
  · exact fun k l s h hl hc hf => does_self (exec_laneWtrExpiry k s) (State.wtrExpiry_reverts (s := s.begin) h hl hc hf)
  · exact fun l b s h => does_of (o := []) (exec_eyeMapDone l b s) (if_pos h)
  · exact fun l b s h => does_of (o := []) (exec_eyeMapDone l b s) (if_neg (by rw [State.begin_lane, h]; exact Bool.false_ne_true))
  · rintro k c h x y b s rfl hk he hb
    exact does_of (o := []) (exec_sprueBlockReceive k c h x y s) (State.sprueBlock_bad (s := s.begin) hk he hb c)
  · rintro k c h x y b s rfl hk he h3 h24 h1
    have hx := exec_sprueBlockReceive k c h x y s
    obtain ⟨o, ho⟩ := does_self hx rfl
    obtain ⟨hseq, hbad⟩ := State.sprueBlock_counts (s := s.begin) (c := c) hk he h3 h24 h1
    refine ⟨⟨_, ho, hseq, hbad⟩, fun ht => does_of (o := []) hx (State.sprueBlock_none (s := s.begin) hk he h3 h24 h1 ht),
      fun t ht hty hnew => ?_⟩
    have hrx := State.tribRx_sprueBlock (s := s.begin) hk he h3 h24 h1 ht hty hnew
    have hwords := congrArg TribRx.words hrx
    have hgaps := congrArg TribRx.gaps hrx
    exact ⟨_, ho, hwords, hgaps⟩
  · exact fun l m s h => does_of (o := []) (exec_linkMarkerReceive l m s) (State.laneMarker_off (s := s.begin) h l m)
  · exact fun l m s hp hm => does_self (exec_linkMarkerReceive l m s) (State.laneMarker_up (s := s.begin) hp hm l m)
  · exact fun k t g s h => does_of (o := []) (exec_tribRateGate k t g s) (State.tribGate_first (s := s.begin) h g)
  · exact fun k t g o s h hn => does_of (o := []) (exec_tribRateGate k t g s) (State.tribGate_near (s := s.begin) h hn)

end Sys2Proof.Machine
end

section
/-! PROOFS. Resets and start-up (R521 to R536, R550), Cold and the wake (R22), the watchdog (R529 to R531). -/

namespace Sys2Proof.Machine

namespace State

/-! ## Sources (R521 to R524) -/

theorem not_held {s : State} {x : ResetSrc} (h : s.rst.asserted.contains x = false) : s.releaseSrc x = s := if_pos (by rw [h]; rfl)

theorem powerGood_held {s : State} (h : s.rst.asserted.contains .powerOn = true) :
    s.powerGood = (s.resetCount .powerOn).releaseSrc .powerOn := if_pos h

theorem powerGood_free {s : State} (h : s.rst.asserted.contains .powerOn = false) : s.powerGood = s :=
  if_neg (by rw [h]; exact Bool.false_ne_true)

theorem chipWrite_asserts {s : State} (ha : s.rst.aUp = true) (hm : s.sys.mode = .quench ∨ s.sys.mode = .melt) :
    s.chipWrite = s.assertSrc .chipCmd := if_pos ⟨ha, hm⟩

theorem chipWrite_ignored {s : State} (h : s.rst.aUp = false ∨ (s.sys.mode ≠ .quench ∧ s.sys.mode ≠ .melt)) : s.chipWrite = s := by
  refine if_neg ?_
  rintro ⟨ha, hm⟩
  rcases h with h | ⟨hq, hmelt⟩
  · rw [h] at ha
    cases ha
  · rcases hm with hm | hm
    · exact hq hm
    · exact hmelt hm

theorem quenchExitWrite_asserts {s : State} (ha : s.rst.aUp = true) (hm : s.sys.mode = .quench) :
    s.quenchExitWrite = (s.setFlag F.RST_CAUSE_QUENCH_EXIT true).assertSrc .data := if_pos ⟨ha, hm⟩

theorem quenchExitWrite_ignored {s : State} (h : s.rst.aUp = false ∨ s.sys.mode ≠ .quench) : s.quenchExitWrite = s := by
  refine if_neg ?_
  rintro ⟨ha, hm⟩
  rcases h with h | h
  · rw [h] at ha
    cases ha
  · exact h hm

theorem rst_settle (s : State) : s.settle.rst = { s.rst with
    aUp := s.rst.aStep && !s.chipHeld, cUp := s.rst.cStep && !s.cHeld, pUp := s.rst.pStep && !s.pHeld, hUp := s.rst.hStep && !s.hHeld,
    bar2 := if (s.rst.hStep && !s.hHeld) && !s.rst.hUp then s.fld F.BUS_PCIE_CFG_BAR2_SIZE else s.rst.bar2 } := rfl

/-- While a source holds a domain it stays in reset. -/
theorem settle_down {s : State} : (s.chipHeld = true → s.settle.rst.aUp = false) ∧ (s.cHeld = true → s.settle.rst.cUp = false) ∧
    (s.pHeld = true → s.settle.rst.pUp = false) ∧ (s.hHeld = true → s.settle.rst.hUp = false) := by
  rw [rst_settle]
  refine ⟨fun h => ?_, fun h => ?_, fun h => ?_, fun h => ?_⟩
  · simp [h]
  · simp [h]
  · simp [h]
  · simp [h]

theorem cHeld_of_onlyC {s : State} {x : ResetSrc} (h : s.rst.asserted.contains x = true) (hx : x.onlyC = true) : s.cHeld = true := by
  have hany : s.rst.asserted.any ResetSrc.onlyC = true := List.any_eq_true.mpr ⟨x, List.contains_iff_mem.mp h, hx⟩
  rw [cHeld, hany, Bool.or_true, Bool.true_or]

end State

/-- Settles O25: each row asserts or releases its source, and a source that stands keeps its domains in reset. -/
theorem resetSourcesHoldAndRelease : Obligations.ResetSourcesHoldAndRelease := by
  unfold Obligations.ResetSourcesHoldAndRelease
  refine ⟨?_, ?_, ?_, ?_, ?_, ?_, ?_, ?_, ?_, ?_, ?_, ?_, ?_, ?_, ?_⟩
  · exact fun s h => does_self (exec_powerGood s) (State.powerGood_held (s := s.begin) h)
  · exact fun s h => does_of (o := []) (exec_powerGood s) (State.powerGood_free (s := s.begin) h)
  · exact fun s => does_self (exec_powerSag s) rfl
  · exact fun s => ⟨does_self (exec_resetNChange true s) (if_pos rfl), does_self (exec_resetNChange false s) (if_neg Bool.false_ne_true)⟩
  · exact fun s => ⟨does_self (exec_perstNChange true s) (if_pos rfl), does_self (exec_perstNChange false s) (if_neg Bool.false_ne_true)⟩
  · intro x s hx
    refine does_self (exec_resetPulseEnd x s) (if_neg ?_)
    rcases hx with rfl | rfl | rfl | rfl | rfl | rfl <;> decide
  · intro x s h
    refine does_of (o := []) (exec_resetPulseEnd x s) ?_
    split
    · rfl
    · exact State.not_held (s := s.begin) h
  · exact fun s ha hm => does_self (exec_chip s) (State.chipWrite_asserts (s := s.begin) ha hm)
  · exact fun s h => does_of (o := []) (exec_chip s) (State.chipWrite_ignored (s := s.begin) h)
  · exact fun s ha hm => does_self (exec_quenchExit s) (State.quenchExitWrite_asserts (s := s.begin) ha hm)
  · exact fun s h => does_of (o := []) (exec_quenchExit s) (State.quenchExitWrite_ignored (s := s.begin) h)
  · intro s h
    obtain ⟨ha, hc, hp, hh⟩ := State.settle_down (s := s)
    exact ⟨ha h, hc (by simp [State.cHeld, h]), hp (by simp [State.pHeld, h]), hh (by simp [State.hHeld, h])⟩
  · intro s h
    obtain ⟨-, -, hp, -⟩ := State.settle_down (s := s)
    exact hp (by rw [State.pHeld, h, Bool.or_true])
  · intro s h
    obtain ⟨-, -, -, hh⟩ := State.settle_down (s := s)
    exact hh (by rw [State.hHeld, h, Bool.or_true])
  · intro s h
    obtain ⟨-, hc, -, -⟩ := State.settle_down (s := s)
    rcases h with h | h
    · exact hc (State.cHeld_of_onlyC h rfl)
    · exact hc (State.cHeld_of_onlyC h rfl)

end Sys2Proof.Machine
end

section
/-! PROOFS. What the records of a fault touch (R542, R543), and start-up (R526, R527, R533 to R536). -/

namespace Sys2Proof.Machine

/-- A step that changes register words and adds events alone. -/
def RegsOnly (s t : State) : Prop := t = { s with regs := t.regs, events := t.events }

namespace RegsOnly

theorem refl (s : State) : RegsOnly s s := rfl

theorem trans {s t u : State} (hst : RegsOnly s t) (htu : RegsOnly t u) : RegsOnly s u :=
  Eq.trans htu (congrArg (fun x : State => { x with regs := u.regs, events := u.events }) hst)

theorem ite {c : Prop} [Decidable c] {s t u : State} (ht : RegsOnly s t) (hu : RegsOnly s u) : RegsOnly s (if c then t else u) := by
  split
  · exact ht
  · exact hu

theorem setFld (s : State) (f : Fld) (v i j : Nat) : RegsOnly s (s.setFld f v i j) := rfl
theorem event (s : State) (b v c : Nat) (l : List Nat) : RegsOnly s (s.event b v c l) := rfl
theorem setPair (s : State) (f g : Fld) (v i : Nat) : RegsOnly s (s.setPair f g v i) :=
  (setFld s f _ i 0).trans (setFld ..)

theorem fltFirst (s : State) (n : Nat) : RegsOnly s (s.fltFirst n) :=
  .ite (.refl s) (.ite (setFld ..) (((setFld s F.FLT_FIRST_VALID 1 0 0).trans (setFld ..)).trans
    ((setFld ..).trans ((setPair ..).trans (setPair ..)))))

theorem setFltStatus (s : State) (n : Nat) : RegsOnly s (s.setFltStatus n) := .ite (setFld ..) (setFld ..)

theorem faultRecord (s : State) (n : Nat) (l : List Nat) : RegsOnly s (s.faultRecord n l) :=
  (setFltStatus s n).trans ((setFld _ F.FLT_CNT_COUNT _ n 0).trans ((event ..).trans (fltFirst ..)))

variable {s t : State} (h : RegsOnly s t)
include h

/-- A part of the state other than the registers and events stays. -/
theorem part {α : Type} (v : State → α) (hv : ∀ r e, v { s with regs := r, events := e } = v s) : v t = v s := by
  have hpart := congrArg v h
  rwa [hv] at hpart

theorem rst : t.rst = s.rst := h.part State.rst (fun _ _ => rfl)
theorem sys : t.sys = s.sys := h.part State.sys (fun _ _ => rfl)
theorem otp : t.otp = s.otp := h.part State.otp (fun _ _ => rfl)
theorem cmd : t.cmd = s.cmd := h.part State.cmd (fun _ _ => rfl)
theorem twn : t.twn = s.twn := h.part State.twn (fun _ _ => rfl)
theorem axl : t.axl = s.axl := h.part State.axl (fun _ _ => rfl)
theorem key : t.key = s.key := h.part State.key (fun _ _ => rfl)
theorem out : t.out = s.out := h.part State.out (fun _ _ => rfl)
theorem meas : t.meas = s.meas := h.part State.meas (fun _ _ => rfl)
theorem gpio : t.gpio = s.gpio := h.part State.gpio (fun _ _ => rfl)
theorem apt : t.apt = s.apt := h.part State.apt (fun _ _ => rfl)
theorem mac : t.mac = s.mac := h.part State.mac (fun _ _ => rfl)
theorem ref : t.ref = s.ref := h.part State.ref (fun _ _ => rfl)
theorem tick : t.tick = s.tick := h.part State.tick (fun _ _ => rfl)

end RegsOnly

namespace State

/-- A write of the fault block leaves the words outside it. -/
theorem reg_setFld_fault {f : Fld} {i j : Nat} (hf : 0x200000 ≤ f.addr i j ∧ f.addr i j < 0x300000) {a : Nat}
    (ha : a < 0x200000 ∨ 0x300000 ≤ a) (s : State) (v : Nat) : (s.setFld f v i j).reg a = s.reg a :=
  reg_setReg_other s _ a _ (by omega)

section
variable {a : Nat} (ha : a < 0x200000 ∨ 0x300000 ≤ a)
include ha

theorem reg_setFltStatus_outside (s : State) (n : Nat) : (s.setFltStatus n).reg a = s.reg a := by
  unfold setFltStatus
  split
  · exact reg_setFld_fault (by decide) ha s _
  · exact reg_setFld_fault (by decide) ha s _

theorem reg_fltFirst_outside (s : State) (n : Nat) : (s.fltFirst n).reg a = s.reg a := by
  unfold fltFirst setPair setFlag
  split
  · rfl
  · split
    · exact reg_setFld_fault (by decide) ha s _
    · rw [reg_setFld_fault (by decide) ha, reg_setFld_fault (by decide) ha, reg_setFld_fault (by decide) ha,
        reg_setFld_fault (by decide) ha, reg_setFld_fault (by decide) ha, reg_setFld_fault (by decide) ha,
        reg_setFld_fault (by decide) ha]

/-- The records of a fault leave every word outside its block. -/
theorem reg_faultRecord_outside (s : State) {n : Nat} (hn : n < 48) (args : List Nat) : (s.faultRecord n args).reg a = s.reg a := by
  have hcnt : 0x200000 ≤ F.FLT_CNT_COUNT.addr n 0 ∧ F.FLT_CNT_COUNT.addr n 0 < 0x300000 := by
    simp only [Fld.addr, F.FLT_CNT_COUNT]
    omega
  unfold faultRecord
  rw [reg_fltFirst_outside ha]
  exact (reg_setFld_fault hcnt ha _ _).trans (reg_setFltStatus_outside ha s n)

end

theorem fld_faultRecord_outside (s : State) {n : Nat} (hn : n < 48) (args : List Nat) {f : Fld} {i j : Nat}
    (ha : f.addr i j < 0x200000 ∨ 0x300000 ≤ f.addr i j) : (s.faultRecord n args).fld f i j = s.fld f i j :=
  fld_of_reg (reg_faultRecord_outside ha s hn args)

/-! ## The backup supply (R521, R539) -/

theorem backupReset_free {s : State} (h : s.rst.asserted.filter (fun x => x == .resetN || x == .perst) = []) :
    s.backupReset = { State.reset with pending := s.pending, out := s.out, free := s.free, otp := ⟨s.otp.copies, []⟩ } := by
  unfold backupReset
  rw [h]
  rfl

end State

/-- A row whose effect is `e` up to outputs and the queue, which it leaves. -/
theorem does_of_queue {i : Instr} {f : State → State} {s e : State} {o : List Output} {q : List Instr} (hx : exec i s = runEff f s)
    (hf : f s.begin = { e with out := o, pending := q }) : Does i s e := by
  rw [Does, hx, runEff, hf, State.commit]
  split
  · refine ⟨o ++ [.msix (e.word0 F.SYS_INT_VEC_VEC.off).toNat], ?_⟩
    simp only [State.sendVec_jnl, State.sendVec_cmd]
    rfl
  · exact ⟨o, rfl⟩

namespace State

/-! ## The option load (R533 to R536) -/

/-- What the loader applies. -/
def loadedOptions (s : State) : Bytes :=
  match copyChosen s.otp.copies with
  | some c => (s.otp.copies.getD c []).take 512
  | none => factoryOptions

theorem optionsDone_idle {s : State} (h : s.chipHeld = true ∨ s.rst.aStep = true) : s.optionsDone = s :=
  if_pos (by rcases h with h | h <;> simp [h])

/-- Domain A and the options once the load is done, the flags it sets and the step it enters. -/
def OptionsLoaded (s t : State) : Prop :=
  t.rst.aStep = true ∧ t.rst.aUp = true ∧ t.otp.applied = s.loadedOptions ∧ t.flag F.OTP_STAT_LOAD_DONE = true ∧
    t.flag F.OTP_STAT_FALLBACK = (copyChosen s.otp.copies).isNone ∧ t.fld F.RST_STAT_STEP = 2

theorem OptionsLoaded.of_kept {s t u : State} (h : s.OptionsLoaded t) (hr : u.rst = t.rst) (ho : u.otp = t.otp)
    (hs : u.reg 0x1700000 = t.reg 0x1700000) (hstep : u.reg 0x100004 = t.reg 0x100004) : s.OptionsLoaded u := by
  obtain ⟨hastep, haup, happ, hdone, hfb, h2⟩ := h
  refine ⟨?_, ?_, ?_, ?_, ?_, ?_⟩
  · rw [hr, hastep]
  · rw [hr, haup]
  · rw [ho, happ]
  · exact (congrArg (· != 0) (fld_of_reg (f := F.OTP_STAT_LOAD_DONE) (i := 0) (j := 0) hs)).trans hdone
  · exact (congrArg (· != 0) (fld_of_reg (f := F.OTP_STAT_FALLBACK) (i := 0) (j := 0) hs)).trans hfb
  · exact (fld_of_reg (f := F.RST_STAT_STEP) (i := 0) (j := 0) hstep).trans h2

/-- The load's own words: done, its fallback, the copies and the generation. -/
def otpStat (s : State) (pick : Option Nat) (ok gen : Nat) : State :=
  ((((s.setFlag F.OTP_STAT_LOAD_DONE true).setFlag F.OTP_STAT_FALLBACK pick.isNone).setFld F.OTP_STAT_COPY_OK ok).setFld
    F.OTP_STAT_COPY_USED (pick.getD 0)).setFld F.OTP_STAT_GEN gen

theorem flags_otpStat (s : State) (pick : Option Nat) (ok gen : Nat) :
    (s.otpStat pick ok gen).flag F.OTP_STAT_LOAD_DONE = true ∧ (s.otpStat pick ok gen).flag F.OTP_STAT_FALLBACK = pick.isNone := by
  have hrest (f : Fld) (ha : f.addr 0 0 = 0x1700000) (hf : f.hi < 32) (hlo : 29 < f.lo) :
      (s.otpStat pick ok gen).flag f =
        ((s.setFlag F.OTP_STAT_LOAD_DONE true).setFlag F.OTP_STAT_FALLBACK pick.isNone).flag f := by
    have h29 : F.OTP_STAT_COPY_OK.hi < f.lo := hlo
    have h25 : F.OTP_STAT_COPY_USED.hi < f.lo := Nat.lt_trans (by decide) hlo
    have h23 : F.OTP_STAT_GEN.hi < f.lo := Nat.lt_trans (by decide) hlo
    unfold flag otpStat
    rw [fld_setFld_bits _ F.OTP_STAT_GEN f _ 0 0 0 0 ha hf (.inr h23), fld_setFld_bits _ F.OTP_STAT_COPY_USED f _ 0 0 0 0 ha hf (.inr h25),
      fld_setFld_bits _ F.OTP_STAT_COPY_OK f _ 0 0 0 0 ha hf (.inr h29)]
  rw [hrest F.OTP_STAT_LOAD_DONE rfl (by decide) (by decide), hrest F.OTP_STAT_FALLBACK rfl (by decide) (by decide)]
  exact ⟨(flag_setFlag_bits _ F.OTP_STAT_FALLBACK F.OTP_STAT_LOAD_DONE _ 0 0 0 0 rfl (by decide) (by decide)).trans
    (flag_setFlag_same s F.OTP_STAT_LOAD_DONE true 0 0 (by decide) rfl),
    flag_setFlag_same _ F.OTP_STAT_FALLBACK _ 0 0 (by decide) rfl⟩

/-- The sessions of the local sources begin anew. -/
def localSessions (s : State) : State :=
  [12, 13].foldl (fun (s : State) k => (s.setFld F.CMD_SRC_SEQ_SESSION 1 k).setFld F.CMD_SRC_SEQ_NEXT_SEQ 0 k) s

end State

namespace RegsOnly

theorem otpStat (s : State) (pick : Option Nat) (ok gen : Nat) : RegsOnly s (s.otpStat pick ok gen) :=
  (setFld s F.OTP_STAT_LOAD_DONE 1 0 0).trans ((setFld ..).trans ((setFld ..).trans ((setFld ..).trans (setFld ..))))

theorem localSessions (s : State) : RegsOnly s s.localSessions :=
  (setFld s F.CMD_SRC_SEQ_SESSION 1 12 0).trans ((setFld ..).trans ((setFld ..).trans (setFld ..)))

end RegsOnly

namespace State

theorem reg_localSessions (s : State) {a : Nat} (ha : 0x400D18 ≤ a) : s.localSessions.reg a = s.reg a := by
  have hne (f : Fld) (k v : Nat) (hf : f.addr k 0 < 0x400D18) (t : State) : (t.setFld f v k).reg a = t.reg a :=
    reg_setReg_other _ _ _ _ (by omega)
  simp only [localSessions, List.foldl_cons, List.foldl_nil]
  rw [hne F.CMD_SRC_SEQ_NEXT_SEQ 13 0 (by decide), hne F.CMD_SRC_SEQ_SESSION 13 1 (by decide),
    hne F.CMD_SRC_SEQ_NEXT_SEQ 12 0 (by decide), hne F.CMD_SRC_SEQ_SESSION 12 1 (by decide)]

theorem optionsDone_loaded {s : State} (hc : s.chipHeld = false) (ha : s.rst.aStep = false) : s.OptionsLoaded s.optionsDone := by
  unfold optionsDone
  rw [if_neg (by simp [hc, ha])]
  extract_lets pick blk ok _ _ _ _ s1 s2 s3 s4 s5 s6 s7
  have hpart : RegsOnly s2 s7 := (RegsOnly.otpStat s2 pick ok (byteAt blk 3)).trans ((RegsOnly.setFld s4 F.RST_WDT_TIMEOUT _ 0 0).trans
    ((RegsOnly.localSessions s5).trans (RegsOnly.setFld s6 F.RST_STAT_STEP 2 0 0)))
  have hrst : s7.rst = s1.settle.rst := hpart.rst
  have hotp : s7.otp = s1.otp := hpart.otp
  have hword : s7.reg 0x1700000 = s4.reg 0x1700000 := by
    have h5 : s5.reg 0x1700000 = s4.reg 0x1700000 := reg_setReg_other _ _ _ _ (by decide)
    have h6 : s6.reg 0x1700000 = s5.reg 0x1700000 := reg_localSessions s5 (by decide)
    have h7 : s7.reg 0x1700000 = s6.reg 0x1700000 := reg_setReg_other _ _ _ _ (by decide)
    rw [h7, h6, h5]
  have h4 : s4 = s2.otpStat pick ok (byteAt blk 3) := rfl
  obtain ⟨hdone, hfb⟩ := flags_otpStat s2 pick ok (byteAt blk 3)
  have hfree : s1.chipHeld = false := hc
  have h7 : s.OptionsLoaded s7 := by
    refine ⟨?_, ?_, ?_, ?_, ?_, ?_⟩
    · rw [hrst, rst_settle]
    · rw [hrst, rst_settle, hfree]
      rfl
    · rw [hotp]
      rfl
    · exact (congrArg (· != 0) (fld_of_reg (f := F.OTP_STAT_LOAD_DONE) (i := 0) (j := 0) hword)).trans hdone
    · exact (congrArg (· != 0) (fld_of_reg (f := F.OTP_STAT_FALLBACK) (i := 0) (j := 0) hword)).trans hfb
    · exact fld_setFld_same s6 F.RST_STAT_STEP 2 0 0 (by decide)
  split
  · rw [raise_of_notice rfl]
    have hrec := RegsOnly.faultRecord s7 fltOptFallback []
    exact h7.of_kept hrec.rst hrec.otp (reg_faultRecord_outside (.inr (by decide)) s7 (by decide) _)
      (reg_faultRecord_outside (.inl (by decide)) s7 (by decide) _)
  · exact h7

/-! ## Clocks, pool training and images (R526, R527) -/

theorem clocksLocked_idle {s : State} (h : s.rst.aUp = false ∨ s.fld F.RST_STAT_STEP ≠ 2) : s.clocksLocked = s :=
  if_pos (by rcases h with h | h <;> simp [h])

theorem clocksLocked_step {s : State} (ha : s.rst.aUp = true) (h2 : s.fld F.RST_STAT_STEP = 2) :
    s.clocksLocked = (settle { s with rst := { s.rst with hStep := true, pStep := true } }).setStep 3 := if_neg (by simp [ha, h2])

theorem poolTrained_idle {s : State} (h : s.rst.aUp = false ∨ s.fld F.RST_STAT_STEP ≠ 3) (ok : Bool) : s.poolTrained ok = s :=
  if_pos (by rcases h with h | h <;> simp [h])

theorem poolTrained_failed {s : State} (ha : s.rst.aUp = true) (h3 : s.fld F.RST_STAT_STEP = 3) :
    s.poolTrained false = (s.setPresent 5 true).raise fltPoolTrain [] := (if_neg (by simp [ha, h3])).trans (if_pos rfl)

/-- A settled reset leaves the words above its own. -/
theorem reg_settle (s : State) {a : Nat} (ha : a ≠ 0x100004) : s.settle.reg a = s.reg a := by
  unfold settle setFlag setFld
  exact (reg_setReg_other _ _ _ _ ha).trans ((reg_setReg_other _ _ _ _ ha).trans (reg_setReg_other _ _ _ _ ha))

theorem pool_settle_setStep (s : State) (n : Nat) : (s.settle.setStep n).pool = s.pool := rfl

theorem rst_setStep (s : State) (n : Nat) : (s.setStep n).rst = s.rst := rfl

/-- What a successful training leaves before its step ends: domain C may start, and every tile is initialised. -/
def trained (s : State) : State :=
  State.setFlag { s with rst := { s.rst with cStep := true }, pool := { s.pool with mem := [] } } F.POOL_STAT_INIT_DONE true

theorem trained_facts (s : State) : (s.trained.settle.setStep 4).rst.cStep = true ∧ (s.trained.settle.setStep 4).pool.mem = [] ∧
    (s.trained.settle.setStep 4).fld F.RST_STAT_STEP = 4 ∧ (s.trained.settle.setStep 4).flag F.POOL_STAT_INIT_DONE = true := by
  have hword : (s.trained.settle.setStep 4).reg 0xC00004 = s.trained.reg 0xC00004 :=
    (reg_setReg_other _ _ _ _ (by decide)).trans (reg_settle _ (by decide))
  refine ⟨?_, ?_, fld_setFld_same _ F.RST_STAT_STEP 4 0 0 (by decide), ?_⟩
  · rw [rst_setStep, rst_settle]
    rfl
  · rw [pool_settle_setStep]
    rfl
  · exact (congrArg (· != 0) (fld_of_reg (f := F.POOL_STAT_INIT_DONE) (i := 0) (j := 0) hword)).trans
      (flag_setFlag_same _ F.POOL_STAT_INIT_DONE true 0 0 (by decide) rfl)

theorem poolTrained_eq {s : State} (ha : s.rst.aUp = true) (h3 : s.fld F.RST_STAT_STEP = 3) (hw : s.rst.waking = false) :
    s.poolTrained true = if (s.trained.settle.setStep 4).flag F.KEY_TAMPER_LATCH then (s.trained.settle.setStep 4).blankAll
      else s.trained.settle.setStep 4 := by
  unfold poolTrained
  rw [if_neg (by simp [ha, h3]), if_neg (by decide)]
  dsimp only
  rw [if_neg (c := (s.rst.waking && s.rst.dramHeld) = true) (by simp [hw])]
  rfl

/-- What a successful training has done. -/
def Trained (t : State) : Prop :=
  t.rst.cStep = true ∧ t.pool.mem = [] ∧ t.fld F.RST_STAT_STEP = 4 ∧ t.flag F.POOL_STAT_INIT_DONE = true

theorem Trained.blankAll {t : State} (h : t.Trained) : t.blankAll.Trained := by
  obtain ⟨hc, hmem, hstep, hinit⟩ := h
  have hregs : t.blankAll.regs = t.regs := rfl
  have hrst : t.blankAll.rst = t.rst := rfl
  have hpool : t.blankAll.pool = t.pool := rfl
  refine ⟨?_, ?_, ?_, ?_⟩
  · rw [hrst, hc]
  · rw [hpool, hmem]
  · rw [fld_of_regs _ _ hregs, hstep]
  · rw [flag, fld_of_regs _ _ hregs, ← flag, hinit]

theorem poolTrained_ok {s : State} (ha : s.rst.aUp = true) (h3 : s.fld F.RST_STAT_STEP = 3) (hw : s.rst.waking = false) :
    (s.poolTrained true).Trained := by
  have hfacts : (s.trained.settle.setStep 4).Trained := s.trained_facts
  rw [poolTrained_eq ha h3 hw]
  split
  · exact hfacts.blankAll
  · exact hfacts

theorem imageVerified_idle {s : State} (h : s.rst.cUp = false ∨ s.fld F.RST_STAT_STEP ≠ 4) (a b : Bool) : s.imageVerified a b = s :=
  if_pos (by rcases h with h | h <;> simp [h])

section
variable {s : State} (hc : s.rst.cUp = true) (h4 : s.fld F.RST_STAT_STEP = 4)
include hc h4

theorem imageVerified_neither : s.imageVerified false false = (s.setFld F.RST_STAT_BOOT 3).setStep 5 := by
  unfold imageVerified
  rw [if_neg (by simp [hc, h4])]
  cases h : bitOf (optBoot s.otp.applied) 0 with
  | false => rfl
  | true => rfl

/-- The image that the options prefer starts where it is good. -/
theorem imageVerified_first {a b : Bool} (hok : (if b2n (bitOf (optBoot s.otp.applied) 0) = 0 then a else b) = true) :
    s.imageVerified a b = (let t : State := { s with key := { s.key with bootEpoch := s.sys.epoch } }
      (t.setFld F.RST_STAT_BOOT (b2n (bitOf (optBoot s.otp.applied) 0))).setStep 6) := by
  unfold imageVerified
  rw [if_neg (by simp [hc, h4])]
  cases h : bitOf (optBoot s.otp.applied) 0 with
  | false =>
    rw [h] at hok
    rw [show a = true from hok]
    rfl
  | true =>
    rw [h] at hok
    rw [show b = true from hok]
    rfl

/-- The other one starts where it is not. -/
theorem imageVerified_second {a b : Bool} (hbad : (if b2n (bitOf (optBoot s.otp.applied) 0) = 0 then a else b) = false)
    (hok : (if b2n (bitOf (optBoot s.otp.applied) 0) = 0 then b else a) = true) :
    s.imageVerified a b = (let t : State := { s with key := { s.key with bootEpoch := s.sys.epoch } }
      ((t.setFld F.RST_STAT_BOOT (1 - b2n (bitOf (optBoot s.otp.applied) 0))).setStep 6).raise fltFwImageB []) := by
  unfold imageVerified
  rw [if_neg (by simp [hc, h4])]
  cases h : bitOf (optBoot s.otp.applied) 0 with
  | false =>
    rw [h] at hok hbad
    rw [show b = true from hok, show a = false from hbad]
    rfl
  | true =>
    rw [h] at hok hbad
    rw [show a = true from hok, show b = false from hbad]
    rfl

end

theorem meltReadyNow_idle {s : State} (hw : s.rst.waking = false) (h : s.rst.cUp = false ∨ s.fld F.RST_STAT_STEP ≠ 6) :
    s.meltReadyNow = s :=
  (if_neg (by simp [hw])).trans (if_neg (by rcases h with h | h <;> simp [h]))

theorem meltReadyNow_step {s : State} (hw : s.rst.waking = false) (hc : s.rst.cUp = true) (h6 : s.fld F.RST_STAT_STEP = 6) :
    s.meltReadyNow = (s.setStep 7).fwStart := (if_neg (by simp [hw])).trans (if_pos (by simp [hc, h6]))

end State

/-- Settles O26: each step is taken only in its own, and the lemmas above say what it leaves. -/
theorem startUpRunsFromBackupReset : Obligations.StartUpRunsFromBackupReset := by
  unfold Obligations.StartUpRunsFromBackupReset
  refine ⟨⟨?_, ?_, ?_⟩, ?_, ?_, ?_, ?_, ?_, ?_, ?_, ?_, ?_, ?_⟩
  · exact fun s h => does_of_queue (exec_backupSupplyRise s) (State.backupReset_free (s := s.begin) h)
  · exact fun s h => does_of (o := []) (exec_optionLoadDone s) (State.optionsDone_idle (s := s.begin) h)
  · intro s hc ha
    obtain ⟨o, ho⟩ := does_self (exec_optionLoadDone s) rfl
    exact ⟨_, ho, State.optionsDone_loaded (s := s.begin) hc ha⟩
  · exact fun s h => does_of (o := []) (exec_clocksLocked s) (State.clocksLocked_idle (s := s.begin) h)
  · exact fun s ha h2 => does_of (o := []) (exec_clocksLocked s) (State.clocksLocked_step (s := s.begin) ha h2)
  · exact fun ok s h => does_of (o := []) (exec_poolTrainingDone ok s) (State.poolTrained_idle (s := s.begin) h ok)
  · exact fun s ha h3 => does_self (exec_poolTrainingDone false s) (State.poolTrained_failed (s := s.begin) ha h3)
  · intro s ha h3 hw
    obtain ⟨o, ho⟩ := does_self (exec_poolTrainingDone true s) rfl
    exact ⟨_, ho, State.poolTrained_ok (s := s.begin) ha h3 hw⟩
  · exact fun a b s h => does_of (o := []) (exec_firmwareVerified a b s) (State.imageVerified_idle (s := s.begin) h a b)
  · exact fun s hc h4 => does_of (o := []) (exec_firmwareVerified false false s) (State.imageVerified_neither (s := s.begin) hc h4)
  · intro a b s hc h4
    exact ⟨fun hok => does_of (o := []) (exec_firmwareVerified a b s) (State.imageVerified_first (s := s.begin) hc h4 hok),
      fun hbad hok => does_self (exec_firmwareVerified a b s) (State.imageVerified_second (s := s.begin) hc h4 hbad hok)⟩
  · exact fun s hw h => does_of (o := []) (exec_meltReady s) (State.meltReadyNow_idle (s := s.begin) hw h)
  · exact fun s hw hc h6 => does_of (o := []) (exec_meltReady s) (State.meltReadyNow_step (s := s.begin) hw hc h6)

end Sys2Proof.Machine
end

section
/-! PROOFS. Cold and the wake (R22, R590), and the firmware watchdog (R529 to R531). -/

namespace Sys2Proof.Machine

/-- What a wake sets: the mode, its cause, the request, and the state and step of the start-up. -/
def State.wake (s : State) : (Mode × Nat × Bool × RstState) × Word :=
  ((s.sys.mode, s.sys.lastCause, s.sys.wakePend, s.rst), s.reg 0x100004)

/-- A wake's state stays. -/
abbrev WakeKept (s t : State) : Prop := Kept State.wake s t

namespace WakeKept

variable {s t : State}

/-- Words above RST_STAT are no part of it. -/
theorem setFld {f : Fld} {v i j : Nat} (hf : Nat.blt 0x100004 f.off = true) (h : WakeKept s t) : WakeKept s (t.setFld f v i j) := by
  rw [Nat.blt_eq] at hf
  exact h.other (congrArg (Prod.mk (t.sys.mode, t.sys.lastCause, t.sys.wakePend, t.rst))
    (State.reg_setReg_other t _ _ _ (by simp only [Fld.addr]; omega)))

theorem setFlag {f : Fld} {b : Bool} {i j : Nat} (hf : Nat.blt 0x100004 f.off = true) (h : WakeKept s t) :
    WakeKept s (t.setFlag f b i j) := h.setFld hf

theorem aksSend {k e : Nat} {b : Bytes} (h : WakeKept s t) : WakeKept s (t.aksSend k e b) := .ite h h

theorem sendFull (h : WakeKept s t) : WakeKept s t.sendFull := .ite h (.ite h (aksSend h))

theorem aptFormat (h : WakeKept s t) : WakeKept s t.aptFormat :=
  .foldl (fun _ _ hu => .ite hu (setFld rfl (setFlag rfl (setFlag rfl (setFld rfl hu))))) h

theorem mode (h : WakeKept s t) : t.sys.mode = s.sys.mode := congrArg (fun c => c.1.1) h
theorem rst (h : WakeKept s t) : t.rst = s.rst := congrArg (fun c => c.1.2.2.2) h

end WakeKept

namespace State

/-! ## The wake's boundary -/

theorem fwServes_off {s : State} (h : s.rst.fwUp = false) : s.fwServes = false := by rw [fwServes, h, Bool.false_and]

/-- With nothing of a twin pending and no firmware, a boundary changes nothing of the twin but its record. -/
theorem twinBoundary_idle {s : State} (hf : s.rst.fwUp = false) (hr : s.rst.rstPend = none) (hp : s.twn.promote = none)
    (hw : s.twn.swapAt = none) (hl : s.twn.leave = false) : s.twinBoundary = s := by
  have hleave : s.leaveNow = s := if_pos (by rw [hl]; rfl)
  unfold twinBoundary resetDue
  rw [if_neg (by simp [fwServes_off hf]), if_neg (by simp [hr]), hleave, promoteBoundary_none hp, swapBoundary_none hw]

theorem cycleEnd_cold {s : State} (hm : s.sys.mode = .cold) (hu : s.rst.pUp = false) (hf : s.rst.fwUp = false)
    (hr : s.rst.rstPend = none) (hp : s.twn.promote = none) (hw : s.twn.swapAt = none) (hl : s.twn.leave = false) :
    ∃ x, s.cycleEnd = { s with twn := x } := by
  have hlog : s.logSeqs = s := if_neg (by simp [hm])
  unfold cycleEnd
  rw [if_neg (by simp [hu]), twinBoundary_idle hf hr hp hw hl, hlog, sendRecord]
  split
  · exact ⟨s.twn, rfl⟩
  · rw [if_neg (by simp [hm])]
    exact ⟨_, rfl⟩

/-- The device awakes: its mode, the request it meets and the step it begins with. -/
def Awake (s : State) : Prop :=
  s.sys.mode = .melt ∧ s.sys.lastCause = 0x5 ∧ s.rst.waking = true ∧ s.sys.wakePend = false ∧ s.fld F.RST_STAT_STEP = 2

theorem Awake.of_kept {s t : State} (hs : s.Awake) (h : WakeKept s t) : t.Awake := by
  obtain ⟨hm, hc, hw, hp, h2⟩ := hs
  refine ⟨h.mode.trans hm, ?_, ?_, ?_, ?_⟩
  · exact (congrArg (fun c : (Mode × Nat × Bool × RstState) × Word => c.1.2.1) h).trans hc
  · rw [h.rst, hw]
  · exact (congrArg (fun c : (Mode × Nat × Bool × RstState) × Word => c.1.2.2.1) h).trans hp
  · exact (fld_of_reg (f := F.RST_STAT_STEP) (i := 0) (j := 0) (congrArg Prod.snd h)).trans h2

theorem wakeNow_awake {s : State} (hm : s.sys.mode = .cold) (hw : s.sys.wakePend = true) (hu : s.rst.pUp = false) :
    s.wakeNow.Awake ∧ s.wakeNow.rst.fwUp = s.rst.fwUp ∧ s.wakeNow.axl.failover = s.axl.failover := by
  have hgo : s.wakeNow = State.setStep { s.enterMode .melt 0x5 with
      sys := { (s.enterMode .melt 0x5).sys with wakePend := false, meltReady := false },
      rst := { (s.enterMode .melt 0x5).rst with waking := true } } 2 := if_neg (by simp [hm, hw, hu])
  rw [hgo]
  exact ⟨⟨rfl, rfl, rfl, rfl, fld_setFld_same _ F.RST_STAT_STEP 2 0 0 (by decide)⟩, rfl, rfl⟩

theorem drainTriggers_off {s : State} (h : s.rst.fwUp = false) : s.drainTriggers = s := if_pos (by rw [fwServes_off h]; rfl)

theorem release_off {s : State} (h : s.rst.fwUp = false) : s.release = s := if_pos (by rw [fwServes_off h]; rfl)

/-- What follows the commands of a boundary while no firmware serves. -/
theorem castAfter_kept {s : State} (h : s.rst.fwUp = false) (before : Mode) : WakeKept s (s.castAfter before) := by
  have hrole : WakeKept s s.roleNow := rfl
  have hsent : WakeKept s (if s.roleNow.sys.mode = before then s.roleNow
      else s.roleNow.aksSend aksReport s.roleNow.sys.epoch (leBytes 4 s.roleNow.sys.mode.code ++ leBytes 8 s.roleNow.sys.modeEpoch)) :=
    .ite hrole (WakeKept.aksSend hrole)
  have hfull := (WakeKept.aptFormat hsent).sendFull
  unfold castAfter
  dsimp only
  rw [drainTriggers_off (by rw [hfull.rst, h]), release_off (by rw [show State.rst (readChanges _) = _ from hfull.rst, h])]
  exact hfull

theorem cycleBegin_awake {s : State} (hm : s.sys.mode = .cold) (hw : s.sys.wakePend = true) (hu : s.rst.pUp = false)
    (hf : s.rst.fwUp = false) (ho : s.axl.failover = false) (order : List Nat) (before : Mode) : (s.cycleBegin order before).Awake := by
  obtain ⟨hawake, hfw, hfail⟩ := wakeNow_awake hm hw hu
  have hrole : WakeKept s.wakeNow s.wakeNow.roleNow := rfl
  have hfo : s.wakeNow.roleNow.failoverNow = s.wakeNow.roleNow :=
    if_pos (by rw [show s.wakeNow.roleNow.axl.failover = false from hfail.trans ho]; rfl)
  have hoff : s.wakeNow.roleNow.rst.fwUp = false := hfw.trans hf
  have hcmd : s.wakeNow.roleNow.boundaryCommands order false = s.wakeNow.roleNow := if_pos (.inl (by rw [fwServes_off hoff]; rfl))
  unfold cycleBegin
  rw [hfo, hcmd]
  exact (hawake.of_kept hrole).of_kept (castAfter_kept hoff before)

theorem castTimer_awake {s : State} (hm : s.sys.mode = .cold) (hw : s.sys.wakePend = true) (hu : s.rst.pUp = false)
    (ha : s.rst.aUp = true) (hr : s.rst.rstPend = none) (hc : s.chipHeld = false) (h0 : s.running 0 = false) (hp : s.twn.promote = none)
    (hs : s.twn.swapAt = none) (hl : s.twn.leave = false) (ho : s.axl.failover = false) (hf : s.rst.fwUp = false) (order : List Nat) :
    (s.castTimer order).Awake := by
  obtain ⟨x, hx⟩ := cycleEnd_cold hm hu hf hr hp hs hl
  rw [castTimer_eq hc h0, boundary_eq ha hr, hx]
  exact cycleBegin_awake (s := castCount { s with twn := x } false 64000) hm hw hu hf ho order s.sys.mode

/-! ## The entry into Cold and the end of the wake -/

theorem coldEntry_idle {s : State} (h : s.sys.mode ≠ .cold ∨ s.rst.pUp = false) : s.coldEntry = s :=
  if_pos (by rcases h with h | h <;> simp [h])

theorem coldEntry_dark {s : State} (hm : s.sys.mode = .cold) (hu : s.rst.pUp = true) (hd : s.sys.targetDramOff = true) :
    s.coldEntry =
      (((s.setFlag F.SYS_RESUME_VALID false).setFld F.SYS_RESUME_FIRST_TILE 0).setFld F.SYS_RESUME_LEN_TILES 0).powerOff false :=
  (if_neg (by simp [hm, hu])).trans (if_pos (by simp [hd]))

theorem powerOff_dark (s : State) : (s.powerOff false).rst.pUp = false ∧ (s.powerOff false).rst.cUp = false ∧
    (s.powerOff false).rst.hUp = false ∧ (s.powerOff false).pool.mem = [] := by
  unfold powerOff
  exact ⟨rfl, rfl, rfl, rfl⟩

theorem wakeComplete_idle {s : State} (h : s.rst.waking = false ∨ s.rst.cUp = false ∨ s.fld F.RST_STAT_STEP ≠ 6) :
    s.wakeComplete = s := if_pos (by rcases h with h | h | h <;> simp [h])

/-- The resume image is used up. -/
def resumeGone (s : State) : State :=
  ((s.setFlag F.SYS_RESUME_VALID false).setFld F.SYS_RESUME_FIRST_TILE 0).setFld F.SYS_RESUME_LEN_TILES 0

section
variable {s : State} (hw : s.rst.waking = true) (hc : s.rst.cUp = true) (h6 : s.fld F.RST_STAT_STEP = 6)
include hw hc h6

theorem wakeComplete_none (hr : s.rst.resume = none) : s.wakeComplete =
    (s.resumeGone.setStep 7).fwStart := by
  have hkeep : ({ s.resumeGone with rst := { s.resumeGone.rst with resume := none } } : State) = s.resumeGone := by
    rw [show s.resumeGone.rst = s.rst from rfl, ← hr]
    rfl
  unfold wakeComplete
  rw [if_neg (by simp [hw, hc, h6]), hr]
  exact congrArg (fun t => (State.setStep t 7).fwStart) hkeep

theorem wakeComplete_some {r : Resume} (hr : s.rst.resume = some r) : s.wakeComplete =
    (let t := (s.restore r).resumeGone
     (State.setStep { t with rst := { t.rst with resume := none } } 7).fwStart) := by
  unfold wakeComplete
  rw [if_neg (by simp [hw, hc, h6]), hr]
  rfl

end

/-! ## The watchdog -/

theorem watchdog_off {s : State} (h : s.flag F.RST_WDT_EN = false ∨ s.rst.cUp = false ∨ s.rst.fwUp = false ∨ s.sys.mode = .cold) :
    s.watchdog = s := if_pos (by rcases h with h | h | h | h <;> simp [h])

/-- A watchdog reset, with the time until which another makes domain C faulty. -/
def watchdogReset (s : State) : State :=
  let t := (s.raise fltCtlWdt []).assertSrc .watchdog
  { t with rst := { t.rst with wdtLast := some (t.tick + 10000000000) } }

theorem watchdog_resets {s : State} (he : s.flag F.RST_WDT_EN = true) (hc : s.rst.cUp = true) (hf : s.rst.fwUp = true)
    (hm : s.sys.mode ≠ .cold) : s.watchdog =
      if s.rst.wdtLast.any (fun n => decide (s.tick ≤ n)) then s.watchdogReset.ctlFaulty else s.watchdogReset :=
  if_neg (by simp [he, hc, hf, hm])

theorem firmwareReturn_idle {s : State} (h : s.rst.cUp = false ∨ s.rst.restarting = false ∨ s.sys.meltReady = false) :
    s.firmwareReturn = s := if_pos (by rcases h with h | h | h <;> simp [h])

theorem firmwareReturn_serves {s : State} (hc : s.rst.cUp = true) (hr : s.rst.restarting = true) (hm : s.sys.meltReady = true) :
    s.firmwareReturn = State.release (drainTriggers (txqRead
      { s with rst := { s.rst with fwUp := true, restarting := false, wdtStart := s.tick } })) := if_neg (by simp [hc, hr, hm])

end State

/-- Settles O27: a wake's phases in order, and the two ends of Cold. -/
theorem coldAndWake : Obligations.ColdAndWake := by
  unfold Obligations.ColdAndWake
  refine ⟨?_, ?_, ?_, ?_, ?_, ?_, ?_, ?_, ?_⟩
  · exact fun s h => does_of (o := []) (exec_go s) (if_pos h)
  · exact fun s h => does_of (o := []) (exec_go s) (if_neg h)
  · intro order s hm hw hu ha hr hc h0 hp hs hl ho hf
    obtain ⟨o, he⟩ := does_self (exec_castTimerExpiry order s) rfl
    exact ⟨_, he, State.castTimer_awake (s := s.begin) hm hw hu ha hr hc h0 hp hs hl ho hf order⟩
  · exact fun s h => does_of (o := []) (exec_coldEntry s) (State.coldEntry_idle (s := s.begin) h)
  · exact fun s hm hu hd => does_self (exec_coldEntry s) (State.coldEntry_dark (s := s.begin) hm hu hd)
  · exact State.powerOff_dark
  · exact fun s h => does_of (o := []) (exec_wakeComplete s) (State.wakeComplete_idle (s := s.begin) h)
  · exact fun s hw hc h6 hr => does_of (o := []) (exec_wakeComplete s) (State.wakeComplete_none (s := s.begin) hw hc h6 hr)
  · intro r s hw hc h6 hr
    obtain ⟨o, ho⟩ := does_self (exec_wakeComplete s) (State.wakeComplete_some (s := s.begin) hw hc h6 hr)
    exact ⟨_, ho, rfl, rfl, rfl⟩

/-- Settles O28: a watchdog's reset, its kick, and firmware that comes back. -/
theorem watchdogAndFirmware : Obligations.WatchdogAndFirmware := by
  unfold Obligations.WatchdogAndFirmware
  refine ⟨?_, ?_, ?_, ?_, ?_, ?_⟩
  · exact fun s h => does_of (o := []) (exec_watchdogExpiry s) (State.watchdog_off (s := s.begin) h)
  · intro s he hc hf hm
    have hw := State.watchdog_resets (s := s.begin) he hc hf hm
    exact ⟨fun h => does_self (exec_watchdogExpiry s) (hw.trans (if_neg (by
        rw [show s.begin.rst.wdtLast.any (fun n => decide (s.begin.tick ≤ n)) = false from h]; exact Bool.false_ne_true))),
      fun h => does_self (exec_watchdogExpiry s) (hw.trans (if_pos h))⟩
  · exact fun s h => does_of (o := []) (exec_kick s) (if_pos h)
  · exact fun s h => does_of (o := []) (exec_kick s) (if_neg (by rw [State.begin_rst, h]; exact Bool.false_ne_true))
  · exact fun s h => does_of (o := []) (exec_firmwareReturn s) (State.firmwareReturn_idle (s := s.begin) h)
  · exact fun s hc hr hm => does_self (exec_firmwareReturn s) (State.firmwareReturn_serves (s := s.begin) hc hr hm)

end Sys2Proof.Machine
end

section
/-! PROOFS. Raised faults (R540 to R546), the crystal and the PLLs (R44), substitutions (R546), and the monitors (R439 to R441). -/

namespace Sys2Proof.Machine

namespace State

theorem faultRow_off {s : State} {n : Nat} (h : 47 < n ∨ s.rst.aUp = false) (u : Option (UnitKind × Nat)) : s.faultRow n u = s :=
  if_pos (by rcases h with h | h <;> simp [h])

section
variable {s : State} {n : Nat} (hn : n < 48) (ha : s.rst.aUp = true)
include hn ha

theorem faultRow_raise (h9 : n ≠ 9) (h3 : n ≠ 3) (h5 : n ≠ 5) (u : Option (UnitKind × Nat)) : s.faultRow n u = s.raiseFault n u [] := by
  unfold faultRow
  rw [if_neg (by simp [ha]; omega), if_neg h9, if_neg (by simp [h3, h5])]

theorem faultRow_persists (h : n = 3 ∨ n = 5) (u : Option (UnitKind × Nat)) :
    s.faultRow n u = (s.setPresent n true).raiseFault n u [] := by
  unfold faultRow
  rw [if_neg (by simp [ha]; omega), if_neg (by omega), if_pos h]

end

theorem faultRow_sram {s : State} (ha : s.rst.aUp = true) (u : Option (UnitKind × Nat)) :
    s.faultRow 9 u = (s.assertSrc .control).ctlFaulty := (if_neg (by simp [ha])).trans (if_pos rfl)

/-! ## The reactions of the classes (R545) -/

theorem raiseFault_recorded {n : Nat} (h : faultClass n = 1 ∨ faultClass n = 2) (s : State) (u : Option (UnitKind × Nat)) (l : List Nat) :
    s.raiseFault n u l = s.faultRecord n l := by
  unfold raiseFault
  rcases h with h | h
  · rw [h]
    rfl
  · rw [h]
    rfl

theorem raiseFault_quench {n : Nat} (h : faultClass n = 4) (s : State) (u : Option (UnitKind × Nat)) (l : List Nat) :
    s.raiseFault n u l = (s.faultRecord n l).enterQuench n := by
  unfold raiseFault
  rw [h]
  rfl

theorem raiseFault_unit {n : Nat} (h : faultClass n = 3) (s : State) (k : UnitKind) (u : Nat) (l : List Nat) :
    s.raiseFault n (some (k, u)) l = (s.faultRecord n l).degradeUnit k u := by
  unfold raiseFault
  rw [h]
  rfl

theorem raiseFault_device {n : Nat} (h : faultClass n = 3) (s : State) (l : List Nat) :
    s.raiseFault n none l = if n = 44 then s.faultRecord n l else (s.faultRecord n l).failoverRequest := by
  unfold raiseFault
  rw [h]
  rfl

theorem xtalLoss_first {s : State} (h : s.rst.xtalLost = false) : s.xtalLoss =
    (let t : State := { s with rst := { s.rst with xtalLost := true } }
     (t.setFlag F.TIM_STATUS_TICK_BACKUP true).raise fltXtalLoss []) := if_neg (by simp [h])

theorem substDone_none {s : State} {k : UnitKind} {u : Nat} (h : s.axl.running.find? (fun x => x.kind == k && x.unit == u) = none)
    (l : List (Nat × Nat)) : s.substDone k u l = s := by rw [substDone, h]

end State

/-- Settles O29: a raise is its record and the reaction of its class. -/
theorem faultsAreRecordedAndReact : Obligations.FaultsAreRecordedAndReact := by
  unfold Obligations.FaultsAreRecordedAndReact
  refine ⟨?_, ?_, ?_, ?_, ?_, ?_, ?_, ?_, ?_, ?_⟩
  · exact fun n u s h => does_of (o := []) (exec_faultRaise n u s) (State.faultRow_off (s := s.begin) h u)
  · intro n s hn ha h9 h3 h5
    have hrow := State.faultRow_raise (s := s.begin) hn ha h9 h3 h5
    refine ⟨fun u hc => ?_, fun u hc => ?_, fun k u hc => ?_, fun hc => ?_⟩
    · exact does_self (exec_faultRaise n u s) ((hrow u).trans (State.raiseFault_recorded hc s.begin u []))
    · exact does_self (exec_faultRaise n u s) ((hrow u).trans (State.raiseFault_quench hc s.begin u []))
    · exact does_self (exec_faultRaise n (some (k, u)) s) ((hrow _).trans (State.raiseFault_unit hc s.begin k u []))
    · exact does_self (exec_faultRaise n none s) ((hrow none).trans (State.raiseFault_device hc s.begin []))
  · exact fun u s ha => does_self (exec_faultRaise 9 u s) (State.faultRow_sram (s := s.begin) ha u)
  · exact fun n u s h ha => does_self (exec_faultRaise n u s) (State.faultRow_persists (s := s.begin) (by omega) ha h u)
  · exact fun s ha hx => does_self (exec_xtalLoss s) ((if_pos ha).trans (State.xtalLoss_first (s := s.begin) hx))
  · intro s h
    refine does_of (o := []) (exec_xtalLoss s) ?_
    rcases h with h | h
    · exact if_neg (by rw [State.begin_rst, h]; exact Bool.false_ne_true)
    · have hlost : s.begin.xtalLoss = s.begin := if_pos h
      rw [hlost]
      exact ite_self _
  · exact fun b s ha => does_self (exec_pllUnlock b s) (if_pos ha)
  · exact fun b s ha => does_of (o := []) (exec_pllUnlock b s) (if_neg (by rw [State.begin_rst, ha]; exact Bool.false_ne_true))
  · exact fun k u l s h => does_of (o := []) (exec_substComplete k u l s) (State.substDone_none (s := s.begin) h l)
  · intro k u l x s h
    refine does_self (exec_substComplete k u l s) ?_
    rw [State.substDone, State.begin_axl, h] <;> rfl

/-! ## A reading at the critical threshold -/

namespace State

theorem reg_axlRefresh (s : State) (k : UnitKind) {a : Nat} (ha : a < 0x1600000) : (s.axlRefresh k).reg a = s.reg a := by
  have hfree : (axlFree k).addr 0 0 = 0x1600000 := by cases k <;> rfl
  refine (reg_setReg_other _ _ _ _ (Nat.ne_of_lt ha)).trans (reg_setReg_other _ _ _ _ ?_)
  rw [hfree]
  exact Nat.ne_of_lt ha

/-- The spares of the running substitutions are given back. -/
def sparesBack (s : State) : State :=
  s.axl.running.foldl (fun t x =>
    ((t.setFld (axlState x.kind) 1 x.spare).setShadow x.kind x.spare false).axlEvent 0x0003 x.kind.num x.unit x.spare) s

theorem reg_substAbandonAll (s : State) {a : Nat} (ha : a < 0x1600000) : s.substAbandonAll.reg a = s.sparesBack.reg a := by
  unfold substAbandonAll
  rw [reg_axlRefresh _ _ ha, reg_axlRefresh _ _ ha, reg_axlRefresh _ _ ha, reg_axlRefresh _ _ ha]
  rfl

theorem mac_axlRefresh (s : State) (k : UnitKind) : (s.axlRefresh k).mac = s.mac := rfl

theorem mac_substAbandonAll {s : State} {x : Subst} (hr : s.axl.running = [x]) (hk : x.kind = .ladle) :
    s.substAbandonAll.mac = s.mac := by
  have hback : s.sparesBack.mac = s.mac := by
    rw [sparesBack, hr, List.foldl_cons, List.foldl_nil, hk]
    rfl
  unfold substAbandonAll
  rw [mac_axlRefresh, mac_axlRefresh, mac_axlRefresh, mac_axlRefresh]
  exact hback

theorem regs_discardTimed (s : State) : s.discardTimed.regs = s.regs ∧ s.discardTimed.mac = s.mac := by
  have hfold (l : List Timed) (t : State) :
      (l.foldl (fun t x => t.event blkPat 0 0x0102 [x.cmd.src.val, x.cmd.seq.toNat]) t).regs = t.regs ∧
        (l.foldl (fun t x => t.event blkPat 0 0x0102 [x.cmd.src.val, x.cmd.seq.toNat]) t).mac = t.mac := by
    induction l generalizing t with
    | nil => exact ⟨rfl, rfl⟩
    | cons x l ih => exact ih _
  exact hfold _ _

theorem reg_quenchUnits {s : State} (h : s.mac.held = []) (a : Nat) : s.quenchUnits.reg a = s.reg a := by
  obtain ⟨hregs, hmac⟩ := regs_discardTimed { s with lad := { s.lad with writesStopped := true } }
  unfold quenchUnits
  dsimp only
  rw [hmac, h, List.foldl_nil]
  exact reg_of_regs _ _ hregs a

/-- The mode and the record of an entry into Quench by source `n`. -/
def quenchMarked (s : State) (n : Nat) : State :=
  ((s.enterMode .quench (if n = 2 then 0x7 else 0x2)).setFlag F.FLT_QUENCH_VALID true).setFld F.FLT_QUENCH_SOURCE n

theorem axl_quenchMarked (s : State) (n : Nat) : (s.quenchMarked n).axl = s.axl := rfl

theorem mac_quenchMarked (s : State) (n : Nat) : (s.quenchMarked n).mac = s.mac := rfl

theorem reg_enterQuench {s : State} (hm : s.sys.mode = .melt) {a : Nat} (n : Nat) :
    (s.enterQuench n).reg a = (s.quenchMarked n).substAbandonAll.quenchUnits.reg a := by
  unfold enterQuench
  rw [if_neg (by simp [hm])]
  rfl

theorem shadow_sparesBack {s : State} {u v : Nat} {b : Bool} (hr : s.axl.running = [⟨.ladle, v, u, b⟩]) :
    s.sparesBack.flag F.LAD_UNIT_STAT_SHADOW u = false := by
  rw [sparesBack, hr, List.foldl_cons, List.foldl_nil]
  exact flag_setFlag_same (s.setFld (axlState .ladle) 1 u) F.LAD_UNIT_STAT_SHADOW false u 0 (by decide) rfl

/-- The entry into Quench gives back a Ladle spare, and with it clears SHADOW of its number. -/
theorem shadow_enterQuench {s : State} (hm : s.sys.mode = .melt) (hh : s.mac.held = []) {u v : Nat} {b : Bool}
    (hr : s.axl.running = [⟨.ladle, v, u, b⟩]) (hu : F.LAD_UNIT_STAT_SHADOW.addr u 0 < 0x1600000) (n : Nat) :
    (s.enterQuench n).flag F.LAD_UNIT_STAT_SHADOW u = false := by
  have hr2 : (s.quenchMarked n).axl.running = [⟨.ladle, v, u, b⟩] := (congrArg AxlState.running (axl_quenchMarked s n)).trans hr
  have hheld : (s.quenchMarked n).substAbandonAll.mac.held = [] := by
    rw [mac_substAbandonAll hr2 rfl, mac_quenchMarked, hh]
  have hword : (s.enterQuench n).reg (F.LAD_UNIT_STAT_SHADOW.addr u 0) =
      (s.quenchMarked n).sparesBack.reg (F.LAD_UNIT_STAT_SHADOW.addr u 0) := by
    rw [reg_enterQuench hm, reg_quenchUnits hheld, reg_substAbandonAll _ hu]
  rw [flag, fld_of_reg hword, ← flag]
  exact shadow_sparesBack hr2

end State

/-- Sensor 0 after two critical readings, with a substitution running on a Ladle number whose status word is that of the sensor's
readings. -/
def criticalSensor : State :=
  { State.reset with
    meas := { MeasState.reset with tempRun := [(0, 2, 2)] }
    axl := { State.reset.axl with running := [⟨.ladle, 0, 0x8200, false⟩] } }

/-- The third critical reading enters Quench. -/
theorem shadow_criticalSensor : (criticalSensor.begin.tempSample 0 (some 8192)).flag F.LAD_UNIT_STAT_SHADOW 0x8200 = false := by
  unfold State.tempSample
  rw [if_neg (by decide)]
  dsimp -zeta only
  extract_lets s1 s2 warn crit was _ s3 s4
  have hrun : s2.meas.tempRun = [(0, 2, 2)] := rfl
  have hwarn : warn ≤ 1020 := by
    have h := State.fld_lt s2 F.MEAS_THR_TEMP_WARN 0 0
    simp only [F.MEAS_THR_TEMP_WARN] at h
    simp only [warn, F.MEAS_THR_TEMP_WARN]
    omega
  have hcrit : crit ≤ 1020 := by
    have h := State.fld_lt s2 F.MEAS_THR_TEMP_CRIT 0 0
    simp only [F.MEAS_THR_TEMP_CRIT] at h
    simp only [crit, F.MEAS_THR_TEMP_CRIT]
    omega
  have hhot : decide (warn ≤ 8192) = true := decide_eq_true (by omega)
  have hcool : decide (8192 ≤ warn - 12) = false := decide_eq_false (by omega)
  have hburn : decide (crit ≤ 8192) = true := decide_eq_true (by omega)
  have h4 : s4 = s3 := by
    simp only [s4]
    rw [hrun, hhot, hcool]
    rfl
  have hmode : s3.sys.mode = .melt := rfl
  have hheld : s3.mac.held = [] := rfl
  have hrunning : s3.axl.running = [⟨.ladle, 0, 0x8200, false⟩] := rfl
  rw [hrun, hhot, hcool, hburn, h4, if_pos (by simp only [was, hrun]; decide)]
  clear_value s3
  have hrec := RegsOnly.faultRecord s3 fltTempCrit [0]
  have hcritical : s3.envCrit fltTempCrit 0 = (s3.faultRecord fltTempCrit [0]).enterQuench fltTempCrit :=
    (if_neg (by rw [hmode]; decide)).trans (State.raiseFault_quench rfl s3 none [0])
  rw [hcritical]
  exact State.shadow_enterQuench (by rw [hrec.sys, hmode]) (by rw [hrec.mac, hheld]) (by rw [hrec.axl, hrunning]) (by decide) _

theorem eq_of_sext_eq {y : Nat} (h : sext 16 y = 8192) : y % 65536 = 8192 := by
  unfold sext at h
  by_cases hy : y % 2 ^ 16 < 2 ^ (16 - 1)
  · rw [if_pos hy] at h
    omega
  · rw [if_neg hy] at h
    omega

/-- A reading of 2,048 °C has the bit set that is SHADOW of Ladle 0x8200. -/
theorem shadow_of_tempCur {s : State} (h : s.sfld F.MEAS_ENV_TEMP_CUR 0 = 8192) : s.flag F.LAD_UNIT_STAT_SHADOW 0x8200 = true := by
  have hcur : (s.reg 0x1320000).toNat / 65536 % 65536 % 65536 = 8192 := by
    rw [← Nat.shiftRight_eq_div_pow (n := 16)]
    exact eq_of_sext_eq h
  have hbit : s.fld F.LAD_UNIT_STAT_SHADOW 0x8200 = (s.reg 0x1320000).toNat / 2 ^ 29 % 2 := by
    rw [← Nat.shiftRight_eq_div_pow]
    rfl
  rw [State.flag, hbit, show (s.reg 0x1320000).toNat / 2 ^ 29 % 2 = 1 by omega]
  rfl

/-- Refutes O30: the Quench that a third critical reading enters writes the status of the spares of running substitutions, and a spare
past the last unit of its kind has its word among the readings. -/
theorem not_sensorsAndSuppliesAreMonitored : ¬ Obligations.SensorsAndSuppliesAreMonitored := by
  unfold Obligations.SensorsAndSuppliesAreMonitored
  intro h
  obtain ⟨-, -, -, htemp, -⟩ := h
  obtain ⟨t, ht, hcur, -⟩ := htemp 0 8192 criticalSensor (by decide) (by decide) (by decide)
  obtain rfl := Host.Outcome.next.inj (ht.symm.trans (exec_tempSample 0 (some 8192) criticalSensor))
  rw [State.sfld, commit_fld, ← State.sfld] at hcur
  have hset := (shadow_of_tempCur hcur).symm.trans shadow_criticalSensor
  exact absurd hset (by decide)

end Sys2Proof.Machine
end

section
/-! PROOFS. Keys (R557 to R559), attestation (R564), snapshots (R413), image checks (R486) and tamper (R568). -/

namespace Sys2Proof.Machine

namespace State

/-! ## Key operations and attestation -/

theorem keyCommit_none {s : State} (h : s.key.ops = []) : s.keyCommit = s := by rw [keyCommit, h]

theorem keyCommit_cons {s : State} {o : KeyOp} {rest : List KeyOp} (h : s.key.ops = o :: rest) : s.keyCommit =
    (let x := s.keySlot o.slot
     let y : KeySlot := { x with commit := s.sys.epoch }
     let w : KeySlot × Bytes := match o.write with
       | some (bits, key) => (y.put (x.target o.slot) (mkCopy o.slot bits (x.newGen o.slot) key), leBytes 4 (x.newGen o.slot))
       | none => ((y.put (x.target o.slot) (mkCopy o.slot 0 (x.newGen o.slot) [])).put (!(x.target o.slot)) [], [])
     let t : State := { s with key := { s.key with ops := rest } }
     ((t.setKeySlot o.slot w.1).keyStep1).finishReply o.src o.seq 0 w.2 none) := by
  unfold keyCommit
  rw [h] <;> rfl

theorem attestDone_none {s : State} (h : s.key.attest = none) : s.attestDone = s := by rw [attestDone, h]

/-! ## Image checks -/

theorem imageCheck_none {s : State} {k : Nat} (h : s.cmd.staging.find? (fun x => x.slot == k && x.last.isSome) = none) :
    s.imageCheck k = none := by rw [imageCheck, h]

section
variable {s : State} {k src q : Nat} {raw : Bytes}
  (h : s.cmd.staging.find? (fun x => x.slot == k && x.last.isSome) = some ⟨k, raw, some (src, q)⟩)
include h

/-- An image whose bytes check is loaded. -/
theorem imageCheck_good (hl : raw.length ≤ imageBytes raw + 3) (hz : (raw.drop (imageBytes raw)).all (· == 0) = true)
    (ho : imageOk (raw.take (imageBytes raw)) = true) : s.imageCheck k =
      (let t : State := { s with cmd := { s.cmd with staging := s.cmd.staging.erase ⟨k, raw, some (src, q)⟩ } }
       let im : NwtImage := ⟨k, raw.take (imageBytes raw), sha384 (raw.take (imageBytes raw)), s.sys.epoch⟩
       some ({ t with nwt := { s.nwt with images := upsert (fun x => x.slot == k) im s.nwt.images } }, src, q, 0,
         sha384 (raw.take (imageBytes raw)))) := by
  have htail : (raw.drop (imageBytes raw)).length ≤ 3 := by rw [List.length_drop]; omega
  unfold imageCheck
  rw [h]
  exact if_pos (by rw [decide_eq_true htail, hz, ho]; rfl)

/-- One with more than the padding behind its bytes is refused. -/
theorem imageCheck_long (hl : imageBytes raw + 3 < raw.length) : s.imageCheck k =
    some ({ s with cmd := { s.cmd with staging := s.cmd.staging.erase ⟨k, raw, some (src, q)⟩ } }, src, q, 0x0108,
      (rej 0x0108 8).bytes) := by
  have htail : ¬(raw.drop (imageBytes raw)).length ≤ 3 := by rw [List.length_drop]; omega
  unfold imageCheck
  rw [h]
  exact if_neg (by rw [decide_eq_false htail]; exact Bool.false_ne_true)

end

end State

/-- The row's effect on the state and answer that the check gives. -/
def imageAnswered (c : Nat) (x : State × Nat × Nat × Nat × Bytes) : State :=
  (if c = 0 then x.1 else x.1.addFld F.BUS_CNT_SRAM_CORR c).finishReply x.2.1 x.2.2.1 x.2.2.2.1 x.2.2.2.2 (some x.1.sys.epoch)

theorem exec_imageCheckDone_eq (k c : Nat) (s : State) : exec (.imageCheckDone (k, c)) s =
    runEff (fun s => ((s.imageCheck k).map (imageAnswered c)).getD s) s := by
  rw [exec_imageCheckDone, execImageCheckDone, runEff, runEff]
  dsimp only
  cases s.begin.imageCheck k with
  | none => rfl
  | some x => rfl

namespace State

/-! ## Tamper -/

theorem tamperOn_again {s : State} {i : Nat} (h : 3 < i ∨ (s.fld F.KEY_TAMPER_ACTIVE).testBit i = true) : s.tamperOn i = s := if_pos h

theorem tamperOff_source {s : State} {i : Nat} (h : i ≤ 3) :
    s.tamperOff i = s.setFld F.KEY_TAMPER_ACTIVE (s.fld F.KEY_TAMPER_ACTIVE &&& (15 - 2 ^ i)) := if_neg (Nat.not_lt.mpr h)

/-- Every key is blank, none is queued, debug is locked and the tamper latch is set. -/
def Blanked (s : State) : Prop :=
  s.flag F.KEY_TAMPER_LATCH = true ∧ s.sys.unlock = false ∧ s.key.ops = [] ∧ s.key.slots.all (fun x => copyBlank x.a && copyBlank x.b) = true

theorem Blanked.of_kept {s t : State} (h : s.Blanked) (hs : t.sys = s.sys) (hk : t.key = s.key)
    (hw : t.reg 0x1500010 = s.reg 0x1500010) : t.Blanked := by
  obtain ⟨hlatch, hlock, hops, hslots⟩ := h
  refine ⟨?_, ?_, ?_, ?_⟩
  · exact (congrArg (· != 0) (fld_of_reg (f := F.KEY_TAMPER_LATCH) (i := 0) (j := 0) hw)).trans hlatch
  · rw [hs, hlock]
  · rw [hk, hops]
  · rw [hk, hslots]

theorem Blanked.event {s : State} (h : s.Blanked) {b v c : Nat} {l : List Nat} : (s.event b v c l).Blanked :=
  h.of_kept rfl rfl (reg_of_regs _ _ rfl _)

theorem key_finishReply (s : State) (src q st : Nat) (p : Bytes) (e : Option Nat) : (s.finishReply src q st p e).key = s.key := by
  refine (release_replies _).key.trans ?_
  split
  · rfl
  · rfl

/-- No key operation is left once all are abandoned, and the slots stay. -/
theorem key_abortKeys (s : State) : s.abortKeys.key = { s.key with ops := [], attest := none } := by
  have hfold (l : List (Nat × Nat)) (t : State) :
      (l.foldl (fun (t : State) p => t.finishReply p.1 p.2 0x0410 (rejAll 0x0410).bytes (some t.sys.epoch)) t).key = t.key := by
    induction l generalizing t with
    | nil => rfl
    | cons p l ih => exact (ih _).trans (key_finishReply ..)
  exact hfold _ _

/-- The latch, the source seen and the count of a tamper. -/
def tamperLatched (s : State) (i : Nat) : State :=
  ((s.setFlag F.KEY_TAMPER_LATCH true).setFld F.KEY_TAMPER_SEEN (s.fld F.KEY_TAMPER_SEEN ||| 2 ^ i)).incFld F.KEY_TAMPER_CNT

/-- The log of a tamper: its source, EPOCH and tick. -/
def tamperLogged (s : State) (i e n : Nat) : State :=
  ((s.setFld F.KEY_TAMPER_LOG_SRC (2 ^ i)).setPair F.KEY_TAMPER_LOG_EPOCH_W1 F.KEY_TAMPER_LOG_EPOCH_W2 e).setPair
    F.KEY_TAMPER_LOG_TICK_W3 F.KEY_TAMPER_LOG_TICK_W4 n

theorem regsOnly_tamperLatched (s : State) (i : Nat) : RegsOnly s (s.tamperLatched i) :=
  (RegsOnly.setFld s F.KEY_TAMPER_LATCH 1 0 0).trans ((RegsOnly.setFld ..).trans (RegsOnly.setFld ..))

theorem regsOnly_tamperLogged (s : State) (i e n : Nat) : RegsOnly s (s.tamperLogged i e n) :=
  (RegsOnly.setFld s F.KEY_TAMPER_LOG_SRC _ 0 0).trans ((RegsOnly.setPair ..).trans (RegsOnly.setPair ..))

theorem latch_tamperLatched (s : State) (i : Nat) : (s.tamperLatched i).flag F.KEY_TAMPER_LATCH = true := by
  unfold flag tamperLatched incFld addFld
  rw [fld_setFld_bits _ F.KEY_TAMPER_CNT F.KEY_TAMPER_LATCH _ 0 0 0 0 rfl (by decide) (by decide),
    fld_setFld_bits _ F.KEY_TAMPER_SEEN F.KEY_TAMPER_LATCH _ 0 0 0 0 rfl (by decide) (by decide)]
  exact flag_setFlag_same s F.KEY_TAMPER_LATCH true 0 0 (by decide) rfl

theorem latch_tamperLogged (s : State) (i e n : Nat) : (s.tamperLogged i e n).flag F.KEY_TAMPER_LATCH = s.flag F.KEY_TAMPER_LATCH := by
  have hne (f : Fld) (hf : F.KEY_TAMPER_LATCH.addr 0 0 ≠ f.addr 0 0) (t : State) (v : Nat) :
      (t.setFld f v).fld F.KEY_TAMPER_LATCH = t.fld F.KEY_TAMPER_LATCH := fld_setFld_word t f _ v 0 0 0 0 hf
  unfold flag tamperLogged setPair
  rw [hne F.KEY_TAMPER_LOG_TICK_W4 (by decide), hne F.KEY_TAMPER_LOG_TICK_W3 (by decide), hne F.KEY_TAMPER_LOG_EPOCH_W2 (by decide),
    hne F.KEY_TAMPER_LOG_EPOCH_W1 (by decide), hne F.KEY_TAMPER_LOG_SRC (by decide)]

theorem slots_blankAll (s : State) : s.blankAll.key.slots.all (fun x => copyBlank x.a && copyBlank x.b) = true := by
  refine List.all_eq_true.mpr fun x hx => ?_
  obtain ⟨y, -, rfl⟩ := List.mem_map.mp hx
  rfl

/-- Debug access is locked. -/
def debugLocked (s : State) : State := { s with sys := { s.sys with unlock := false } }

theorem key_debugLocked (s : State) : s.debugLocked.key = s.key := rfl

/-- The marks of a tamper on a state whose keys are gone: latch, log and debug lock. -/
def tampered (s : State) (i : Nat) : State :=
  (((s.tamperLatched i).tamperLogged i (if (s.tamperLatched i).mainPower then (s.tamperLatched i).sys.epoch else 2 ^ 64 - 1)
    (if (s.tamperLatched i).mainPower then (s.tamperLatched i).tick else 2 ^ 64 - 1))).debugLocked

theorem tampered_blanked {s : State} (ho : s.key.ops = []) (hs : s.key.slots.all (fun x => copyBlank x.a && copyBlank x.b) = true)
    (i : Nat) : (s.tampered i).Blanked := by
  have hlatched := regsOnly_tamperLatched s i
  have hlatch := latch_tamperLatched s i
  unfold tampered
  generalize s.tamperLatched i = t at hlatched hlatch
  generalize (if t.mainPower then t.sys.epoch else 2 ^ 64 - 1) = e
  generalize (if t.mainPower then t.tick else 2 ^ 64 - 1) = n
  have hlogged := regsOnly_tamperLogged t i e n
  have hlog := latch_tamperLogged t i e n
  generalize t.tamperLogged i e n = u at hlogged hlog
  have hkey : u.debugLocked.key = s.key := (key_debugLocked u).trans (hlogged.key.trans hlatched.key)
  have hregs : u.debugLocked.regs = u.regs := rfl
  refine ⟨?_, rfl, ?_, ?_⟩
  · rw [flag, fld_of_regs _ _ hregs, ← flag, hlog, hlatch]
  · rw [hkey, ho]
  · rw [hkey, hs]

/-- What a tamper does to the keys. -/
def keysGone (s : State) (i : Nat) : State :=
  (s.setFld F.KEY_TAMPER_ACTIVE (s.fld F.KEY_TAMPER_ACTIVE ||| 2 ^ i)).blankAll.abortKeys

theorem tamperOn_enabled {s : State} {i : Nat} (hi : i ≤ 3) (ha : (s.fld F.KEY_TAMPER_ACTIVE).testBit i = false)
    (he : (s.fld F.KEY_TAMPER_CFG_EN).testBit i = true) : s.tamperOn i =
      if ((s.keysGone i).tampered i).rst.aUp then (((s.keysGone i).tampered i).raise fltTamper [i]).event blkKey 0 0x0001 [i]
      else (s.keysGone i).tampered i := by
  have hen : ((s.setFld F.KEY_TAMPER_ACTIVE (s.fld F.KEY_TAMPER_ACTIVE ||| 2 ^ i)).fld F.KEY_TAMPER_CFG_EN).testBit i = true := by
    rw [fld_setFld_word s F.KEY_TAMPER_ACTIVE F.KEY_TAMPER_CFG_EN _ _ _ _ _ (by decide), he]
  exact (if_neg (by simp [ha]; omega)).trans (if_neg (by rw [hen]; decide))

theorem tamperOn_blanked {s : State} {i : Nat} (hi : i ≤ 3) (ha : (s.fld F.KEY_TAMPER_ACTIVE).testBit i = false)
    (he : (s.fld F.KEY_TAMPER_CFG_EN).testBit i = true) : (s.tamperOn i).Blanked := by
  have hkey : (s.keysGone i).key = { (State.blankAll _).key with ops := [], attest := none } := key_abortKeys _
  have hgone : ((s.keysGone i).tampered i).Blanked := by
    refine tampered_blanked ?_ ?_ i
    · rw [hkey]
    · rw [hkey]
      exact slots_blankAll _
  rw [tamperOn_enabled hi ha he]
  generalize (s.keysGone i).tampered i = t at hgone
  split
  · rw [raise_of_notice rfl]
    have hrec := RegsOnly.faultRecord t fltTamper [i]
    exact (hgone.of_kept hrec.sys hrec.key (reg_faultRecord_outside (.inr (by decide)) t (by decide) _)).event
  · exact hgone

end State

/-- Settles O31: each completion answers the first that waits, and a tamper blanks the keys before it is recorded. -/
theorem keysTamperAndJobsComplete : Obligations.KeysTamperAndJobsComplete := by
  unfold Obligations.KeysTamperAndJobsComplete
  refine ⟨?_, ?_, ?_, ?_, ?_, ?_, ?_, ?_, ?_, ?_, ?_, ?_⟩
  · exact fun s h => does_of (o := []) (exec_keyCommitDone s) (State.keyCommit_none (s := s.begin) h)
  · exact fun o rest s h => does_self (exec_keyCommitDone s) (State.keyCommit_cons (s := s.begin) h)
  · exact fun s h => does_of (o := []) (exec_attestSigned s) (State.attestDone_none (s := s.begin) h)
  · intro st k q s h
    have hdone : s.begin.attestDone = State.finishReply { (s.begin.freshBytes 96).2 with key := { s.key with attest := none } } k q 0
        (st ++ (s.begin.freshBytes 96).1) none := by
      rw [State.attestDone, State.begin_key, h]
      rfl
    obtain ⟨o, ho⟩ := does_self (exec_attestSigned s) hdone
    refine ⟨(s.begin.freshBytes 96).1, _, ho, ?_, ?_, ?_, ⟨o, rfl⟩⟩
    · exact congrArg KeyState.attest (State.key_finishReply ..)
    · rw [after, ho]
    · rw [State.freshBytes, List.length_map, List.length_range]
  · intro s h
    refine does_of (o := []) (exec_snapshotCopyDone s) ?_
    have hnone : s.begin.snapDone = none := by
      unfold State.snapDone at h ⊢
      split at h
      · rename_i hf
        rw [State.begin_nwt, hf]
      · cases h
    rw [hnone]
    rfl
  · intro x s h
    refine does_self (exec_snapshotCopyDone s) ?_
    rw [h]
  · intro k c s h
    refine does_of (o := []) (exec_imageCheckDone_eq k c s) ?_
    rw [State.imageCheck_none (s := s.begin) h]
    rfl
  · intro k c src q raw s h
    refine ⟨fun hl hz ho => ?_, fun hl => ?_⟩
    · refine does_self (exec_imageCheckDone_eq k c s) ?_
      rw [State.imageCheck_good (s := s.begin) h hl hz ho]
      rfl
    · refine does_self (exec_imageCheckDone_eq k c s) ?_
      rw [State.imageCheck_long (s := s.begin) h hl]
      rfl
  · exact fun i s h => ⟨does_of (o := []) (exec_tamperOnset i s) (State.tamperOn_again (s := s.begin) (.inl h)),
      does_of (o := []) (exec_tamperInactive i s) (if_pos h)⟩
  · exact fun i s _ h => does_of (o := []) (exec_tamperOnset i s) (State.tamperOn_again (s := s.begin) (.inr h))
  · exact fun i s h => does_of (o := []) (exec_tamperInactive i s) (State.tamperOff_source (s := s.begin) h)
  · intro i s h3 ha he
    obtain ⟨o, ho⟩ := does_self (exec_tamperOnset i s) rfl
    exact ⟨_, ho, State.tamperOn_blanked (s := s.begin) h3 ha he⟩

end Sys2Proof.Machine
end

section
/-! PROOFS. Register reads of each master (R575 to R585): the words a read latches, the peak it restarts, the default target. -/

namespace Sys2Proof.Machine

namespace State

/-! ## What dropping the outputs leaves -/

theorem begin_liveLow (s : State) (a : Nat) (w : Word) : s.begin.liveLow a w = s.liveLow a w := by
  unfold liveLow
  rw [begin_sysModeWord, begin_sysCastWord, begin_sys, begin_intLines, begin_outstanding, begin_jnlHead, begin_jnlWord,
    begin_tick, begin_nowWord, begin_rateNow, fld_begin]

theorem begin_liveHigh (s : State) (a : Nat) (w : Word) : s.begin.liveHigh a w = s.liveHigh a w := by
  unfold liveHigh
  rw [begin_familyBad, begin_rasPosWord, begin_laneIdle, begin_macIdle, begin_poolFreeWord, begin_pprWord, begin_sequencing,
    begin_slipsInWin, begin_pat, begin_sys, begin_outSending, begin_keyStat, begin_keySlotStat, begin_otp]
  rfl

theorem begin_liveWord (s : State) (a : Nat) : s.begin.liveWord a = s.liveWord a := by
  simp only [liveWord, begin_liveLow, begin_liveHigh, reg_begin]

theorem begin_restartPeak (s : State) (a : Nat) : s.begin.restartPeak a = (s.restartPeak a).begin := by
  unfold restartPeak
  split
  · rfl
  · split
    · rfl
    · split
      · rfl
      · split <;> rfl

theorem begin_latchLive (s : State) (m : Nat) (l : List Nat) (t : State) :
    s.begin.latchLive m l t.begin = (s.latchLive m l t).begin := by
  induction l generalizing t with
  | nil => rfl
  | cons a l ih =>
    have h : t.begin.setLatch m a (s.begin.liveWord a) = (t.setLatch m a (s.liveWord a)).begin := by
      rw [begin_liveWord]
      rfl
    exact (congrArg (s.begin.latchLive m l) h).trans (ih _)

/-! ## The two words of EPOCH (R30) -/

theorem liveWord_epochLo (s : State) : s.liveWord 0x10 = BitVec.ofNat 32 s.sys.epoch := by simp [liveWord, liveLow]

theorem liveWord_epochHi (s : State) : s.liveWord 0x14 = BitVec.ofNat 32 (s.sys.epoch / 4294967296) := by
  simp [liveWord, liveLow]

/-! ## Reads -/

/-- The word a read of a register hands out: the master's latch where a lower word's read latches it, else the live word. -/
def readWord (s : State) (m off : Nat) : Word := if isLatched off then s.latchOf m off else s.liveWord off

theorem begin_readWord (s : State) (m off : Nat) : s.begin.readWord m off = s.readWord m off := by
  unfold readWord
  rw [begin_liveWord, begin_latchOf]

/-- A read outside the stamp queues fills the latches, restarts the peak, and hands out the word. -/
theorem readReg_eq {s : State} {off : Nat} (m : Nat) (hq : ¬(0x501000 ≤ off ∧ off < 0x501400 ∧ off % 0x20 = 0)) :
    s.readReg m off = ((s.latchLive m (latchesOf off) s).restartPeak off).emit (.busData m [s.readWord m off] false) :=
  if_neg hq

theorem busRead_down {s : State} {a : BusAccess} (h : s.masterUp a.master = false) : s.busRead a = s := if_pos (by simp [h])

theorem busRead_refused {s : State} {a : BusAccess} (hm : s.masterUp a.master = true) (ha : s.accessOk a false = false) :
    s.busRead a = s.defaultHit a false :=
  (if_neg (by simp [hm])).trans (if_pos (by simp [ha]))

end State

/-- A served read of a register outside the Newt window and the stamp queues, whole. -/
theorem hands_busRead {i : Instr} {s : State} {a : BusAccess} {off : Nat} (hx : exec i s = runEff (fun s => s.busRead a) s)
    (hm : s.masterUp a.master = true) (ha : s.accessOk a false = true) (ht : targetOf a.addr = .reg off) (hw : isNwtWin off = false)
    (hq : ¬(0x501000 ≤ off ∧ off < 0x501400 ∧ off % 0x20 = 0)) :
    Hands i s ((s.latchLive a.master (latchesOf off) s).restartPeak off) [.busData a.master [s.readWord a.master off] false] := by
  refine hands_of hx ?_
  rw [State.busRead_eq_readReg (s := s.begin) hm ha ht hw, State.readReg_eq a.master hq, State.begin_latchLive, State.begin_restartPeak,
    State.begin_readWord]
  rfl

/-! ## The words of REF_RAS_POS (R65) -/

theorem latchesOf_rasPos {d : Nat} (h : d < 4) :
    latchesOf (0x680010 + 0x100 * d) = [0x680014 + 0x100 * d, 0x680018 + 0x100 * d, 0x68001C + 0x100 * d] := by
  interval_cases d <;> decide

theorem isLatched_rasPos {d : Nat} (h : d < 4) : isLatched (0x680010 + 0x100 * d) = false := by
  interval_cases d <;> decide +kernel

/-- The words of a domain's position are computed. -/
theorem liveWord_position (s : State) {a : Nat} (h : 0x680010 ≤ a ∧ a < 0x680420 ∧ 0x10 ≤ a % 0x100 ∧ a % 0x100 < 0x20) :
    s.liveWord a = s.rasPosWord ((a - 0x680000) / 0x100) ((a % 0x100 - 0x10) / 4) := by
  have hhi : ¬ a < 0x600000 := by omega
  have hcand : ¬ (0x640010 ≤ a ∧ a < 0x640800 ∧ 0x10 ≤ a % 0x200 ∧ a % 0x200 < 0x34) := by omega
  unfold State.liveWord
  extract_lets w
  rw [if_neg hhi, State.liveHigh, if_neg hcand, if_pos h]

theorem liveWord_rasPos (s : State) {a d i : Nat} (ha : a = 0x680010 + 0x100 * d + 4 * i) (hd : d < 4) (hi : i < 4) :
    s.liveWord a = s.rasPosWord d i := by
  have hdom : (a - 0x680000) / 0x100 = d := by omega
  have hword : (a % 0x100 - 0x10) / 4 = i := by omega
  rw [liveWord_position s (by omega), hdom, hword]

/-- From a start or a frame boundary on, line 1 and slot 0. -/
theorem rasPosWord_zero (s : State) (d : Nat) : s.rasPosWord d 0 =
    BitVec.ofNat 32 (if s.running d = true ∧ (s.rasOf d).line = 0 then 65536 else (s.rasOf d).line * 65536 + (s.rasOf d).slot) := by
  simp only [State.rasPosWord, Bool.and_eq_true, beq_iff_eq]

/-! ## The other rows -/

/-- An access that times out is counted, logged and answered as the default target does (R578). -/
theorem does_busAccessTimeout {s : State} {a : BusAccess} (write : Bool) (hm : s.masterUp a.master = true) (hc : s.rst.cUp = true) :
    Does (.busAccessTimeout a write) s
      ((((((s.begin.setFlag F.BUS_STAT_TIMEOUT true).incFld F.BUS_CNT_TIMEOUTS).busLog a write 1).raise fltBusTimeout
        [a.master])).badAnswer a write) :=
  does_self (exec_busAccessTimeout a write s) (if_neg (by simp [hm, hc]))

theorem does_busAccessTimeout_unserved {s : State} {a : BusAccess} (write : Bool)
    (h : s.masterUp a.master = false ∨ s.rst.cUp = false) : Does (.busAccessTimeout a write) s s :=
  does_of (o := []) (exec_busAccessTimeout a write s) (if_pos (by simpa using h))

/-- Settles O34: a read latches what its word carries, restarts its peak and hands out its word; the rest is the default target. -/
theorem registerReadsAnswerTheirMaster : Obligations.RegisterReadsAnswerTheirMaster := by
  unfold Obligations.RegisterReadsAnswerTheirMaster
  refine ⟨fun m s hm ha => ?epoch, fun m d s hd hm ha => ?position, fun a off s hm ha ht hw hq => ?low, fun i s hi => ?peak,
    fun a s hm ha => ?refused, fun a s hm => ?down, fun a w s hm hc => does_busAccessTimeout w hm hc,
    fun a w s h => does_busAccessTimeout_unserved w h⟩
  case epoch =>
    have hands := hands_busRead (off := 0x10) (exec_epochLoRead m s) hm ha (targetOf_reg (by decide)) (by decide) (by decide)
    have hlo : s.readWord m 0x10 = BitVec.ofNat 32 s.sys.epoch := by
      unfold State.readWord
      rw [if_neg (by decide), State.liveWord_epochLo]
    rw [hlo] at hands
    rw [← State.liveWord_epochHi]
    exact hands
  case position =>
    have haddr : regBase + 0x680010 + 0x100 * d = regBase + (0x680010 + 0x100 * d) := Nat.add_assoc ..
    have hx : exec (.rasPosRead m d) s =
        runEff (fun s => s.busRead { master := m, addr := regBase + (0x680010 + 0x100 * d) }) s := by
      rw [exec_rasPosRead, execRasPosRead, haddr]
    have hpeak (t : State) : t.restartPeak (0x680010 + 0x100 * d) = t := by
      unfold State.restartPeak
      rw [if_neg (by omega), if_neg (by omega), if_neg (by omega), if_neg (by omega)]
    have hands := hands_busRead hx hm ha (targetOf_reg (by omega)) (by simp [isNwtWin]; omega) (by omega)
    have hword : s.readWord m (0x680010 + 0x100 * d) = s.rasPosWord d 0 := by
      unfold State.readWord
      rw [isLatched_rasPos hd]
      exact liveWord_rasPos s (i := 0) rfl hd (by decide)
    rw [hpeak, latchesOf_rasPos hd, hword] at hands
    have h1 := liveWord_rasPos s (a := 0x680014 + 0x100 * d) (i := 1) (by omega) hd (by decide)
    have h2 := liveWord_rasPos s (a := 0x680018 + 0x100 * d) (i := 2) (by omega) hd (by decide)
    have h3 := liveWord_rasPos s (a := 0x68001C + 0x100 * d) (i := 3) (by omega) hd (by decide)
    rw [← rasPosWord_zero, ← h1, ← h2, ← h3]
    exact hands
  case low => exact ⟨hands_busRead (exec_latchedLowRead a s) hm ha ht hw (by omega),
    hands_busRead (exec_peakRead a s) hm ha ht hw (by omega)⟩
  case peak => 
    unfold State.restartPeak
    rw [if_neg (by omega), if_neg (by omega), if_pos (by omega), Nat.add_sub_cancel_left, Nat.mul_div_cancel_left i (by decide)]
    exact State.fld_setFld_same s _ _ _ _ (by decide)
  case refused => exact ⟨does_self (exec_latchedLowRead a s) (State.busRead_refused (s := s.begin) hm ha),
    does_self (exec_peakRead a s) (State.busRead_refused (s := s.begin) hm ha)⟩
  case down => exact ⟨does_of (o := []) (exec_latchedLowRead a s) (State.busRead_down (s := s.begin) hm),
    does_of (o := []) (exec_peakRead a s) (State.busRead_down (s := s.begin) hm)⟩

end Sys2Proof.Machine
end

section
/-! PROOFS. Register writes by their access codes (R6, R7, R9, R589) and the windows onto the pattern banks and the Newt memories
(R226, R241, R414, R591). -/

namespace Sys2Proof.Machine

namespace State

/-! ## A register write, whole (R589) -/

theorem busWrite_down {s : State} {a : BusAccess} (v : Nat) (h : s.masterUp a.master = false) : s.busWrite a v = s :=
  if_pos (by simp [h])

theorem busWrite_refused {s : State} {a : BusAccess} (v : Nat) (hm : s.masterUp a.master = true) (ha : s.accessOk a true = false) :
    s.busWrite a v = s.defaultHit a true :=
  (if_neg (by simp [hm])).trans (if_pos (by simp [ha]))

/-- A served write that leads to a register outside the window onto the Newt memories is a write of that register. -/
theorem busWrite_eq_writeReg {s : State} {a : BusAccess} {off : Nat} (v : Nat) (hm : s.masterUp a.master = true)
    (ha : s.accessOk a true = true) (ht : targetOf a.addr = .reg off) (hw : isNwtWin off = false) :
    s.busWrite a v = s.writeReg a off v := by
  simp [busWrite, hm, ha, ht, hw]

/-- The word after its fields took the write, each by its access code. -/
def fieldsWritten (s : State) (a : BusAccess) (r : RegRow) (off v : Nat) : State :=
  r.fields.foldl (writeField a off v (s.ownedNow a.master off)) s

/-- Whether a word holds a field that software may set. -/
def hasRw (r : RegRow) : Bool := r.fields.any (fun f => f.acc == .rw || f.acc == .rws)

theorem writeReg_own {s t : State} {a : BusAccess} {off v : Nat} (ho : s.ownWrite off v = some t) : s.writeReg a off v = t := by
  simp only [writeReg, ho]

/-- The word after its fields took the write, but APT_TDM_CFG as it was where the clock it asks for is too fast (R423). -/
def wordWritten (s : State) (a : BusAccess) (r : RegRow) (off v : Nat) : State :=
  if off = 0x1200000 ∧ !s.ownedNow a.master off ∧ 49152 < tdmClock v then
    (let u := (s.fieldsWritten a r off v).setReg off (s.reg off)
     if u.rst.cUp then (u.setFlag F.BUS_STAT_BAD_VALUE true).busLog a true 3 else u)
  else s.fieldsWritten a r off v

theorem writeReg_fields {s : State} {a : BusAccess} {off v : Nat} {r : RegRow} (ho : s.ownWrite off v = none)
    (hr : regRow off = some r) : s.writeReg a off v =
      if s.ownedNow a.master off && hasRw r then
        (let t := s.wordWritten a r off v
         if t.rst.cUp && (a.master == 4 || a.master == 5) then
          ((t.setFlag F.BUS_STAT_WR_OWNED true).incFld F.BUS_CNT_WR_OWNED).busLog a true 2 else t)
      else s.afterWrite (s.wordWritten a r off v) off v := by
  simp only [writeReg, ho, hr]
  rfl

/-- What R589 or a Melt rule does not protect takes the write, and what belongs to it follows. -/
theorem writeReg_taken {s : State} {a : BusAccess} {off v : Nat} {r : RegRow} (ho : s.ownWrite off v = none)
    (hr : regRow off = some r) (hc : off ≠ 0x1200000 ∨ tdmClock v ≤ 49152)
    (hw : s.ownedNow a.master off = false ∨ hasRw r = false) :
    s.writeReg a off v = s.afterWrite (s.fieldsWritten a r off v) off v := by
  have hguard : ¬ (off = 0x1200000 ∧ (!s.ownedNow a.master off) = true ∧ 49152 < tdmClock v) := by
    rintro ⟨ho, -, hv⟩
    omega
  have howned : ¬ ((s.ownedNow a.master off && hasRw r) = true) := by
    rcases hw with h | h
    · simp [h]
    · simp [h]
  rw [writeReg_fields ho hr, if_neg howned, wordWritten, if_neg hguard]

/-- Fields that software sets, or that it cannot, keep under R589. -/
theorem writeField_owned {a : BusAccess} {off v : Nat} {f : FieldRow} (s : State)
    (h : (f.acc == .rw || f.acc == .rws || f.acc == .ro) = true) : writeField a off v true s f = s := by
  unfold writeField
  cases hf : f.acc <;> simp_all

theorem foldl_writeField_owned {a : BusAccess} {off v : Nat} {l : List FieldRow} (s : State)
    (h : l.all (fun f => f.acc == .rw || f.acc == .rws || f.acc == .ro) = true) : l.foldl (writeField a off v true) s = s := by
  induction l with
  | nil => rfl
  | cons f l ih =>
    rw [List.all_cons, Bool.and_eq_true] at h
    rw [List.foldl_cons, writeField_owned s h.1, ih h.2]

/-- What R589 protects stays, and the host or the debug port finds WR_OWNED. -/
def ownedRefused (s : State) (a : BusAccess) : State :=
  if s.rst.cUp ∧ (a.master = 4 ∨ a.master = 5) then ((s.setFlag F.BUS_STAT_WR_OWNED true).incFld F.BUS_CNT_WR_OWNED).busLog a true 2 else s

/-- BUS_ERR_LOG is written field by field (R573). -/
theorem busLog_eq (s : State) (a : BusAccess) (write : Bool) (kind : Nat) : s.busLog a write kind =
    (((((((s.setFlag F.BUS_ERR_LOG_VALID true).setFlag F.BUS_ERR_LOG_WRITE write).setFld F.BUS_ERR_LOG_KIND kind).setFld
      F.BUS_ERR_LOG_MASTER a.master).setFld F.BUS_ERR_LOG_ID a.id).setFld F.BUS_ERR_LOG_ADDR_LO (a.addr % 4294967296)).setFld
      F.BUS_ERR_LOG_ADDR_HI (a.addr / 4294967296)) := rfl

theorem begin_busLog (s : State) (a : BusAccess) (write : Bool) (kind : Nat) :
    s.begin.busLog a write kind = (s.busLog a write kind).begin := by
  rw [busLog_eq, busLog_eq, begin_setFlag, begin_setFlag, begin_setFld, begin_setFld, begin_setFld, begin_setFld, begin_setFld]

theorem begin_ownedRefused (s : State) (a : BusAccess) : s.begin.ownedRefused a = (s.ownedRefused a).begin := by
  by_cases h : s.rst.cUp = true ∧ (a.master = 4 ∨ a.master = 5)
  · rw [ownedRefused, ownedRefused, if_pos h, if_pos (show s.begin.rst.cUp = true ∧ (a.master = 4 ∨ a.master = 5) from h),
      begin_setFlag, begin_incFld, begin_busLog]
  · rw [ownedRefused, ownedRefused, if_neg h, if_neg (show ¬ (s.begin.rst.cUp = true ∧ (a.master = 4 ∨ a.master = 5)) from h)]

theorem writeReg_owned {s : State} {a : BusAccess} {off v : Nat} {r : RegRow} (ho : s.ownWrite off v = none)
    (hr : regRow off = some r) (hown : s.ownedNow a.master off = true)
    (hall : r.fields.all (fun f => f.acc == .rw || f.acc == .rws || f.acc == .ro) = true) (hany : hasRw r = true) :
    s.writeReg a off v = s.ownedRefused a := by
  have hword : s.wordWritten a r off v = s := by
    unfold wordWritten fieldsWritten
    rw [hown, foldl_writeField_owned s hall]
    exact if_neg (by simp)
  rw [writeReg_fields ho hr, hword, hown, Bool.true_and, if_pos hany]
  simp only [ownedRefused, Bool.and_eq_true, Bool.or_eq_true, beq_iff_eq]

/-! ## The bus log and the TDM clock (R423, R573) -/

theorem reg_busLog (s : State) (a : BusAccess) (write : Bool) (kind : Nat) {x : Nat} (h : x < 0x300010 ∨ 0x300018 < x) :
    (s.busLog a write kind).reg x = s.reg x := by
  have out (f : Fld) (hf : 0x300010 ≤ f.addr 0 0 ∧ f.addr 0 0 ≤ 0x300018) (t : State) (v : Nat) :
      (t.setFld f v).reg x = t.reg x := reg_setReg_other t _ _ _ (by omega)
  unfold busLog setFlag
  rw [out F.BUS_ERR_LOG_ADDR_HI (by decide), out F.BUS_ERR_LOG_ADDR_LO (by decide), out F.BUS_ERR_LOG_ID (by decide),
    out F.BUS_ERR_LOG_MASTER (by decide), out F.BUS_ERR_LOG_KIND (by decide), out F.BUS_ERR_LOG_WRITE (by decide),
    out F.BUS_ERR_LOG_VALID (by decide)]

theorem rst_busLog (s : State) (a : BusAccess) (write : Bool) (kind : Nat) : (s.busLog a write kind).rst = s.rst := by
  rw [busLog_eq, setFld_rst, setFld_rst, setFld_rst, setFld_rst, setFld_rst, setFlag_rst, setFlag_rst]

theorem rst_writeField (a : BusAccess) (off v : Nat) (owned : Bool) (s : State) (f : FieldRow) :
    (writeField a off v owned s f).rst = s.rst := by
  unfold writeField
  cases f.acc <;> simp only [apply_ite State.rst, rst_busLog, setFlag, setFld, setReg, ite_self]

theorem rst_foldl_writeField (a : BusAccess) (off v : Nat) (owned : Bool) (l : List FieldRow) (s : State) :
    (l.foldl (writeField a off v owned) s).rst = s.rst := by
  induction l generalizing s with
  | nil => rfl
  | cons f l ih => rw [List.foldl_cons, ih, rst_writeField]

/-- A bit clock above 49.152 MHz leaves APT_TDM_CFG as it was and sets BAD_VALUE. -/
theorem writeReg_tdmClock {s : State} {a : BusAccess} {v : Nat} {r : RegRow} (ho : s.ownWrite 0x1200000 v = none)
    (hr : regRow 0x1200000 = some r) (hv : 49152 < tdmClock v) (hown : s.ownedNow a.master 0x1200000 = false)
    (hc : s.rst.cUp = true) (hafter : ∀ t : State, s.afterWrite t 0x1200000 v = t) :
    s.writeReg a 0x1200000 v =
      ((((s.fieldsWritten a r 0x1200000 v).setReg 0x1200000 (s.reg 0x1200000)).setFlag F.BUS_STAT_BAD_VALUE true).busLog a true 3) := by
  have howned : ¬ ((s.ownedNow a.master 0x1200000 && hasRw r) = true) := by simp [hown]
  have hguard : 0x1200000 = 0x1200000 ∧ (!s.ownedNow a.master 0x1200000) = true ∧ 49152 < tdmClock v := ⟨rfl, by simp [hown], hv⟩
  have hcup : ((s.fieldsWritten a r 0x1200000 v).setReg 0x1200000 (s.reg 0x1200000)).rst.cUp = true :=
    (congrArg RstState.cUp (rst_foldl_writeField a _ v _ r.fields s)).trans hc
  rw [writeReg_fields ho hr, if_neg howned, hafter]
  exact (if_pos hguard).trans (if_pos hcup)

theorem afterWrite_tdmCfg (s t : State) (v : Nat) : s.afterWrite t 0x1200000 v = t := by
  simp [afterWrite]

theorem ownWrite_tdmCfg (s : State) (v : Nat) : s.ownWrite 0x1200000 v = none := by
  simp [ownWrite]

end State

/-- Settles O35: a write goes through its row's fields, which R589 may protect; the TDM clock has a rule of its own. -/
theorem registerWritesFollowTheirAccessCode : Obligations.RegisterWritesFollowTheirAccessCode := by
  unfold Obligations.RegisterWritesFollowTheirAccessCode
  refine ⟨fun a off v r s hm ha ht hw ho hr hc => ⟨fun hown => ?taken, fun hown hall hany => ?owned⟩,
    fun a v s hm ha ht hv hown hc => ?tdm, fun a off v f s => ?fields,
    fun a v s hm ha => does_self (exec_registerWrite a v s) (State.busWrite_refused (s := s.begin) v hm ha),
    fun a v s hm => does_of (o := []) (exec_registerWrite a v s) (State.busWrite_down (s := s.begin) v hm)⟩
  case taken =>
    refine does_self (exec_registerWrite a v s) ((State.busWrite_eq_writeReg (s := s.begin) v hm ha ht hw).trans ?_)
    exact State.writeReg_taken (s := s.begin) ho hr hc hown
  case owned =>
    refine does_of (o := []) (exec_registerWrite a v s) ((State.busWrite_eq_writeReg (s := s.begin) v hm ha ht hw).trans ?_)
    exact (State.writeReg_owned (s := s.begin) ho hr hown hall hany).trans (State.begin_ownedRefused s a)
  case tdm =>
    obtain ⟨r, hr⟩ : ∃ r, regRow 0x1200000 = some r := Option.isSome_iff_exists.mp (by decide +kernel)
    have hwrite := (State.busWrite_eq_writeReg (s := s.begin) v hm ha ht (by decide)).trans
      (State.writeReg_tdmClock (s := s.begin) (State.ownWrite_tdmCfg _ v) hr hv hown hc (fun t => State.afterWrite_tdmCfg _ t v))
    refine ⟨_, (exec_registerWrite a v s).trans (runEff_next _ s), ?word, ?bad⟩
    case word =>
      rw [commit_reg, hwrite, State.reg_busLog _ _ _ _ (.inr (by decide))]
      rw [State.setFlag, State.setFld, State.reg_setReg_other _ _ _ _ (by decide), State.reg_setReg_same]
      rfl
    case bad =>
      rw [State.flag, commit_fld, hwrite, State.fld_of_reg (State.reg_busLog _ _ _ _ (.inl (by decide)))]
      exact State.flag_setFlag_same _ F.BUS_STAT_BAD_VALUE true 0 0 (by decide) rfl
  case fields =>
    refine ⟨?keeps, fun h => ?clears, fun h => ?sets, fun h hl => ?takes, fun h hl hi hc => ?refuses⟩
    case keeps => rintro (h | h) <;> simp only [State.writeField, h]
    case clears => simp only [State.writeField, h]
    case sets => simp only [State.writeField, h]
    case takes =>
      have hlegal : (f.legal.isEmpty || inRanges f.legal ((v >>> f.lo) % 2 ^ (f.hi + 1 - f.lo))) = true := by
        rcases hl with hl | hl
        · simp [hl]
        · simp [hl]
      rcases h with h | h <;> simp only [State.writeField, h, hlegal, if_true, Bool.false_eq_true, if_false]
    case refuses =>
      have hlegal : (f.legal.isEmpty || inRanges f.legal ((v >>> f.lo) % 2 ^ (f.hi + 1 - f.lo))) = false := by
        simp [hl, hi]
      rcases h with h | h <;> simp only [State.writeField, h, hlegal, hc, if_true, Bool.false_eq_true, if_false]

end Sys2Proof.Machine
end

section
/-! PROOFS. The windows onto the pattern banks and the Newt memories (R226, R241, R414), and SYS_INT_VEC (R591). -/

namespace Sys2Proof.Machine

theorem targetOf_pattern {off : Nat} (h : off < 0x400000) : targetOf (patBase + off) = .pattern off := by
  have hreg : ¬ (regBase ≤ patBase + off ∧ patBase + off < regBase + 0x10000000) := by
    simp only [regBase, patBase]
    omega
  have hpat : patBase ≤ patBase + off ∧ patBase + off < patBase + 0x400000 := by omega
  rw [targetOf, if_neg hreg, if_pos hpat, Nat.add_sub_cancel_left]

namespace State

/-! ## The pattern window -/

theorem busWrite_pattern {s : State} {a : BusAccess} {off : Nat} (v : Nat) (hm : s.masterUp a.master = true)
    (ha : s.accessOk a true = true) (ht : targetOf a.addr = .pattern off) : s.busWrite a v = s.patWinWrite a.master off v := by
  simp [busWrite, hm, ha, ht]

/-- The entry with the written word in its place. -/
def patWord (off v : Nat) (e : BitVec 128) : BitVec 128 :=
  BitVec.ofNat 128 (e.toNat - ((e.toNat >>> (8 * (off % 16 / 4 * 4))) % 4294967296) <<< (8 * (off % 16 / 4 * 4)) +
    (v % 4294967296) <<< (8 * (off % 16 / 4 * 4)))

/-- A write that lands in an entry of a bank that is not in force. -/
def patEntryWritten (s : State) (off v : Nat) : State :=
  let k := s.bank (off / 0x100000) (off / 0x80000 % 2)
  let i := off % 0x80000 / 16
  s.setBank (off / 0x100000) (off / 0x80000 % 2)
    { k with tmpl := sset emptyEntry k.tmpl i (patWord off v (k.ent i)), dirtyT := ascending (k.dirtyT ++ [i]) }

section
variable {s : State} {m off v : Nat}

/-- A write that the window takes (R9, R226). -/
theorem patWin_open (ho : off < 0x400000) (hx : off % 0x80000 < 0x50000) (hd : s.directOk m = true) :
    ¬ (4 ≤ off / 0x100000 ∨ 0x50000 ≤ off % 0x80000 ∨ (!s.directOk m) = true) := by
  rintro (h | h | h)
  · omega
  · omega
  · simp [hd] at h

/-- The bank in force keeps its entry. -/
theorem patWinWrite_active (ho : off < 0x400000) (hx : off % 0x80000 < 0x50000) (hd : s.directOk m = true)
    (hb : off / 0x80000 % 2 = s.activeNo (off / 0x100000)) : s.patWinWrite m off v = s.setFlag F.PAT_STAT_WR_ACTIVE true :=
  (if_neg (patWin_open ho hx hd)).trans (if_pos hb)

theorem patWinWrite_entry (ho : off < 0x400000) (hx : off % 0x80000 < 0x40000) (hd : s.directOk m = true)
    (hb : off / 0x80000 % 2 ≠ s.activeNo (off / 0x100000)) : s.patWinWrite m off v = s.patEntryWritten off v :=
  (if_neg (patWin_open ho (by omega) hd)).trans ((if_neg hb).trans (if_pos hx))

end

/-! ## The window onto the Newt memories -/

theorem busWrite_nwtWin {s : State} {a : BusAccess} {off : Nat} (v : Nat) (hm : s.masterUp a.master = true)
    (ha : s.accessOk a true = true) (ht : targetOf a.addr = .reg off) (hw : isNwtWin off = true) :
    s.busWrite a v = s.nwtWinWrite (s.directOk a.master) (off - 0x1190000) (BitVec.ofNat 32 v) := by
  simp [busWrite, hm, ha, ht, hw]

theorem nwtWinWrite_refused {s : State} {allowed : Bool} (off : Nat) (v : Word)
    (h : allowed = false ∨ (s.core (s.fld F.NWT_MEM_WIN_SEL_CORE)).tasks ≠ []) :
    s.nwtWinWrite allowed off v = s.setFlag F.NWT_MEM_WIN_SEL_WR_REFUSED true := by
  refine if_pos ?_
  rcases h with h | h
  · simp [h]
  · simp [h]

/-- The word of data memory that the window selects takes the value. -/
def nwtWordWritten (s : State) (off v : Nat) : State :=
  let c := s.fld F.NWT_MEM_WIN_SEL_CORE
  let x := s.core c
  s.setCore c { x with dmem := ssetMany zeroByte x.dmem (s.nwtWinAddr off / 4 * 4) (leBytes 4 (v % 4294967296)) }

theorem nwtWinWrite_data {s : State} (off v : Nat) (hc : s.fld F.NWT_MEM_WIN_SEL_CORE < 68)
    (ht : (s.core (s.fld F.NWT_MEM_WIN_SEL_CORE)).tasks = []) (hs : s.flag F.NWT_MEM_WIN_SEL_SPACE = false) :
    s.nwtWinWrite true off (BitVec.ofNat 32 v) = s.nwtWordWritten off v := by
  have hok : ¬ ((!true || decide (68 ≤ s.fld F.NWT_MEM_WIN_SEL_CORE) ||
      !(s.core (s.fld F.NWT_MEM_WIN_SEL_CORE)).tasks.isEmpty) = true) := by
    simp [ht, hc]
  exact (if_neg hok).trans (if_neg (by simp [hs]))

/-! ## SYS_INT_VEC (R591) -/

theorem fld_vecAgain (s : State) (f : Fld) (i j : Nat) : s.vecAgain.fld f i j = s.fld f i j := by
  unfold vecAgain
  split <;> rfl

/-- The one row of SYS_INT_VEC. -/
def vecRow : RegRow := ⟨0x48, 0x0, 1, 0x0, 1, .a, false, [⟨10, 0, .rw, 0, []⟩]⟩

theorem regRow_vec : regRow 0x48 = some vecRow := by decide +kernel

theorem ownedNow_vec {s : State} {m : Nat} (h : m < 4 ∨ s.sys.mode = .melt) : s.ownedNow m 0x48 = false := by
  unfold ownedNow
  rw [regRow_vec]
  rcases h with h | h
  · have h4 : (m == 4) = false := by simp; omega
    have h5 : (m == 5) = false := by simp; omega
    simp [vecRow, h4, h5]
  · simp [vecRow, h]

/-- The vector takes the written value, and goes out again where a line is up. -/
theorem writeReg_vec {s : State} {a : BusAccess} (v : Nat) (h : a.master < 4 ∨ s.sys.mode = .melt) :
    s.writeReg a 0x48 v = (s.setReg 0x48 (putBits (s.reg 0x48) 10 0 ((v >>> 0) % 2 ^ 11))).vecAgain := by
  have hfields : s.fieldsWritten a vecRow 0x48 v = s.setReg 0x48 (putBits (s.reg 0x48) 10 0 ((v >>> 0) % 2 ^ 11)) := by
    unfold fieldsWritten
    rw [ownedNow_vec h]
    rfl
  rw [writeReg_taken (by simp [ownWrite]) regRow_vec (.inl (by decide)) (.inl (ownedNow_vec h)), hfields]
  simp [afterWrite]

end State

/-- Settles O36: each window write is what its window does with an access that is served. -/
theorem windowWritesReachTheirStore : Obligations.WindowWritesReachTheirStore := by
  unfold Obligations.WindowWritesReachTheirStore
  refine ⟨fun m off v s ho hm ha hx hd => ?pattern, fun m off v s ho hm ha => ?newt, fun m v s hm => ⟨?_, ?_, ?_⟩,
    fun m v s h hm ha => ?vec⟩
  case pattern =>
    have hwrite := State.busWrite_pattern (s := s.begin) (a := { master := m, addr := patBase + off }) v hm ha (targetOf_pattern ho)
    exact ⟨fun hb => does_of (o := []) (exec_patternWindowWrite m off v s)
        (hwrite.trans ((State.patWinWrite_active (s := s.begin) ho hx hd hb).trans (State.begin_setFlag ..))),
      fun hb hx => does_self (exec_patternWindowWrite m off v s)
        (hwrite.trans (State.patWinWrite_entry (s := s.begin) ho hx hd hb))⟩
  case newt =>
    have haddr : regBase + 0x1190000 + off = regBase + (0x1190000 + off) := Nat.add_assoc ..
    have hx : exec (.nwtMemWindowWrite m off v) s =
        runEff (fun s => s.busWrite { master := m, addr := regBase + 0x1190000 + off } v) s := exec_nwtMemWindowWrite m off v s
    have hwin : isNwtWin (0x1190000 + off) = true := by
      simp only [isNwtWin, Bool.and_eq_true, decide_eq_true_eq]
      omega
    have hwrite := State.busWrite_nwtWin (s := s.begin) (a := { master := m, addr := regBase + 0x1190000 + off }) (off := 0x1190000 + off) v hm ha
      (by rw [haddr]; exact targetOf_reg (by omega)) hwin
    rw [Nat.add_sub_cancel_left] at hwrite
    refine ⟨fun h => ?refused, fun hd hc ht hs => ?data⟩
    case refused =>
      exact does_of (o := []) hx (hwrite.trans ((State.nwtWinWrite_refused (s := s.begin) off _ h).trans (State.begin_setFlag ..)))
    case data =>
      have hdir : s.begin.directOk m = true := hd
      rw [show (BusAccess.mk m 0 (regBase + 0x1190000 + off) 15).master = m from rfl, hdir] at hwrite
      exact does_self hx (hwrite.trans (State.nwtWinWrite_data (s := s.begin) off v hc ht hs))
  case vec =>
    have hwrite := (State.busWrite_eq_writeReg (s := s.begin) (a := { master := m, addr := regBase + 0x48 }) v hm ha
      (targetOf_reg (by decide)) (by decide)).trans
      (State.writeReg_vec (s := s.begin) v h)
    refine ⟨_, (exec_vec m v s).trans (runEff_next _ s), ?_⟩
    rw [commit_fld, hwrite, State.fld_vecAgain]
    refine (State.fld_setFld_same s.begin F.SYS_INT_VEC_VEC ((v >>> 0) % 2 ^ 11) 0 0 (by decide)).trans ?_
    rw [Nat.shiftRight_zero]
    exact Nat.mod_mod ..
  · exact does_of (o := []) (exec_vec m v s) (State.busWrite_down (s := s.begin) v hm)
  · exact does_of (o := []) (exec_patternWindowWrite m 0 v s) (State.busWrite_down (s := s.begin) v hm)
  · exact does_of (o := []) (exec_nwtMemWindowWrite m 0 v s) (State.busWrite_down (s := s.begin) v hm)

end Sys2Proof.Machine
end

section
/-! PROOFS. Registers whose writes act: FLT_STATUS and FLT_FIRST (R542, R543), tamper (R572), the counters of a MAC (R157), ports
(R429), pins (R609) and fences (R344). -/

namespace Sys2Proof.Machine

namespace State

/-! ## FLT_STATUS and FLT_FIRST -/

/-- The set bits whose condition is gone, as a sum, are none where every condition is. -/
theorem foldl_keep_eq_zero (l : List Nat) {p : Nat → Bool} (h : ∀ n, p n = false) :
    l.foldl (fun m n => if p n then m + 2 ^ n else m) 0 = 0 := by
  induction l with
  | nil => rfl
  | cons n l ih => rw [List.foldl_cons, h n, if_neg Bool.false_ne_true, ih]

/-- Both words of FLT_STATUS with the bits of a mask cleared. -/
def fltCleared (s : State) (mask : Nat) : State :=
  (s.setFld F.FLT_STATUS_LO_STATUS (s.fld F.FLT_STATUS_LO_STATUS - (s.fld F.FLT_STATUS_LO_STATUS &&& (mask % 4294967296)))).setFld
    F.FLT_STATUS_HI_STATUS (s.fld F.FLT_STATUS_HI_STATUS - (s.fld F.FLT_STATUS_HI_STATUS &&& (mask / 4294967296 % 65536)))

/-- A write of ones clears them where no condition persists. -/
theorem fltClear_gone {s : State} {mask : Nat} (h : ∀ n, mask.testBit n = true → s.condPresent n = false) :
    s.fltClear mask = s.fltCleared mask := by
  have hkeep := foldl_keep_eq_zero (List.range 48) (p := fun n => mask.testBit n && s.condPresent n) fun n => by
    cases hn : mask.testBit n with
    | false => rfl
    | true => exact h n hn
  have hlo : mask % 2 ^ 48 % 4294967296 = mask % 4294967296 := by omega
  have hhi : mask % 2 ^ 48 / 4294967296 = mask / 4294967296 % 65536 := by omega
  unfold fltClear fltCleared
  simp only [hkeep, hlo, hhi, Nat.zero_mod, Nat.zero_div, Nat.zero_and, Nat.or_zero]

theorem fld_fltCleared_lo (s : State) (mask : Nat) : (s.fltCleared mask).fld F.FLT_STATUS_LO_STATUS =
    s.fld F.FLT_STATUS_LO_STATUS - (s.fld F.FLT_STATUS_LO_STATUS &&& (mask % 4294967296)) := by
  have hlt := fld_lt s F.FLT_STATUS_LO_STATUS 0 0
  rw [fltCleared, fld_setFld_word _ _ _ _ _ _ _ _ (by decide), fld_setFld_same _ _ _ _ _ (by decide), Nat.mod_eq_of_lt (by omega)]

theorem fld_fltCleared_hi (s : State) (mask : Nat) : (s.fltCleared mask).fld F.FLT_STATUS_HI_STATUS =
    s.fld F.FLT_STATUS_HI_STATUS - (s.fld F.FLT_STATUS_HI_STATUS &&& (mask / 4294967296 % 65536)) := by
  have hlt := fld_lt s F.FLT_STATUS_HI_STATUS 0 0
  rw [fltCleared, fld_setFld_same _ _ _ _ _ (by decide), Nat.mod_eq_of_lt (by omega)]

theorem onlyWords_fltCleared (s : State) (mask : Nat) :
    s.onlyWords (s.fltCleared mask) [F.FLT_STATUS_LO_STATUS.addr 0 0, F.FLT_STATUS_HI_STATUS.addr 0 0] := by
  intro a ha
  obtain ⟨hlo, hhi⟩ : a ≠ F.FLT_STATUS_LO_STATUS.addr 0 0 ∧ a ≠ F.FLT_STATUS_HI_STATUS.addr 0 0 := by simpa using ha
  rw [fltCleared, setFld, setFld, reg_setReg_other _ _ _ _ hhi, reg_setReg_other _ _ _ _ hlo]

/-- The four fields of FLT_FIRST's first word are zero once it is emptied. -/
theorem fltFirstClear_fields (s : State) :
    s.fltFirstClear.flag F.FLT_FIRST_VALID = false ∧ s.fltFirstClear.flag F.FLT_FIRST_OVERFLOW = false ∧
      s.fltFirstClear.fld F.FLT_FIRST_SOURCE = 0 ∧ s.fltFirstClear.fld F.FLT_FIRST_CLASS = 0 := by
  let t := (((s.setFlag F.FLT_FIRST_VALID false).setFlag F.FLT_FIRST_OVERFLOW false).setFld F.FLT_FIRST_CLASS 0).setFld F.FLT_FIRST_SOURCE 0
  have hword (f : Fld) (hf : f.addr 0 0 = 0x200010) : s.fltFirstClear.fld f = t.fld f := by
    refine fld_of_reg ?_
    rw [hf]
    unfold fltFirstClear setPair
    rw [setFld, reg_setReg_other _ _ _ _ (by decide), setFld, reg_setReg_other _ _ _ _ (by decide),
      setFld, reg_setReg_other _ _ _ _ (by decide), setFld, reg_setReg_other _ _ _ _ (by decide)]
  have hsource : t.fld F.FLT_FIRST_SOURCE = 0 := fld_setFld_same _ _ _ _ _ (by decide)
  have hclass : t.fld F.FLT_FIRST_CLASS = 0 :=
    (fld_setFld_bits _ F.FLT_FIRST_SOURCE F.FLT_FIRST_CLASS _ _ _ _ _ rfl (by decide) (.inr (by decide))).trans
      (fld_setFld_same _ _ _ _ _ (by decide))
  have hoverflow : t.fld F.FLT_FIRST_OVERFLOW = 0 :=
    (fld_setFld_bits _ F.FLT_FIRST_SOURCE F.FLT_FIRST_OVERFLOW _ _ _ _ _ rfl (by decide) (.inr (by decide))).trans
      ((fld_setFld_bits _ F.FLT_FIRST_CLASS F.FLT_FIRST_OVERFLOW _ _ _ _ _ rfl (by decide) (.inr (by decide))).trans
        (fld_setFld_same _ _ _ _ _ (by decide)))
  have hvalid : t.fld F.FLT_FIRST_VALID = 0 :=
    (fld_setFld_bits _ F.FLT_FIRST_SOURCE F.FLT_FIRST_VALID _ _ _ _ _ rfl (by decide) (.inr (by decide))).trans
      ((fld_setFld_bits _ F.FLT_FIRST_CLASS F.FLT_FIRST_VALID _ _ _ _ _ rfl (by decide) (.inr (by decide))).trans
        ((fld_setFld_bits _ F.FLT_FIRST_OVERFLOW F.FLT_FIRST_VALID _ _ _ _ _ rfl (by decide) (.inr (by decide))).trans
          (fld_setFld_same _ _ _ _ _ (by decide))))
  refine ⟨?_, ?_, (hword _ rfl).trans hsource, (hword _ rfl).trans hclass⟩
  · rw [flag, hword _ rfl, hvalid]
    rfl
  · rw [flag, hword _ rfl, hoverflow]
    rfl

/-! ## The counters of a MAC (R157) -/

/-- One counter into its snapshot. -/
def snapCount (m : Nat) (s : State) (i : Nat) : State :=
  (s.setFld F.MAC_STAT_CNT_CNT_LO (s.liveCount m i % 4294967296) m i).setFld F.MAC_STAT_CNT_CNT_HI (s.liveCount m i / 4294967296) m i

theorem macSnap_eq (s : State) (m : Nat) : s.macSnap m = (List.range 64).foldl (snapCount m) s := rfl

/-- Whether a counter's snapshot shows what it counts. -/
def Snapped (s : State) (m i : Nat) : Prop :=
  s.fld F.MAC_STAT_CNT_CNT_LO m i = s.liveCount m i % 4294967296 ∧
    s.fld F.MAC_STAT_CNT_CNT_HI m i = s.liveCount m i / 4294967296 % 65536

theorem cntLo_ne_cntHi (m i k : Nat) : F.MAC_STAT_CNT_CNT_LO.addr m i ≠ F.MAC_STAT_CNT_CNT_HI.addr m k := by
  simp only [Fld.addr, F.MAC_STAT_CNT_CNT_LO, F.MAC_STAT_CNT_CNT_HI]; omega

theorem snapped_snapCount_same (m : Nat) (s : State) (i : Nat) : (snapCount m s i).Snapped m i := by
  constructor
  · rw [snapCount, fld_setFld_word _ _ _ _ _ _ _ _ (cntLo_ne_cntHi m i i), fld_setFld_same _ _ _ _ _ (by decide)]
    exact Nat.mod_mod ..
  · rw [snapCount, fld_setFld_same _ _ _ _ _ (by decide)]
    rfl

theorem snapped_snapCount_other {m i k : Nat} {s : State} (h : i ≠ k) (hs : s.Snapped m k) : (snapCount m s i).Snapped m k := by
  obtain ⟨hlo, hhi⟩ := hs
  have hlow : F.MAC_STAT_CNT_CNT_LO.addr m k ≠ F.MAC_STAT_CNT_CNT_LO.addr m i := by simp only [Fld.addr, F.MAC_STAT_CNT_CNT_LO]; omega
  have hhigh : F.MAC_STAT_CNT_CNT_HI.addr m k ≠ F.MAC_STAT_CNT_CNT_HI.addr m i := by simp only [Fld.addr, F.MAC_STAT_CNT_CNT_HI]; omega
  constructor
  · rw [snapCount, fld_setFld_word _ _ _ _ _ _ _ _ (cntLo_ne_cntHi m k i), fld_setFld_word _ _ _ _ _ _ _ _ hlow]
    exact hlo
  · rw [snapCount, fld_setFld_word _ _ _ _ _ _ _ _ hhigh, fld_setFld_word _ _ _ _ _ _ _ _ (cntLo_ne_cntHi m i k).symm]
    exact hhi

/-- Every counter of the list shows what it counts once the list is taken. -/
theorem snapped_foldl {m k : Nat} (l : List Nat) (s : State) (h : k ∈ l ∨ s.Snapped m k) : (l.foldl (snapCount m) s).Snapped m k := by
  induction l generalizing s with
  | nil => exact h.resolve_left (List.not_mem_nil)
  | cons i l ih =>
    refine ih _ ?_
    by_cases hi : i = k
    · exact .inr (hi ▸ snapped_snapCount_same m s i)
    · refine h.imp (fun hk => ?_) (snapped_snapCount_other hi)
      exact (List.mem_cons.mp hk).resolve_left (Ne.symm hi)

theorem mac_foldl_snapCount (m : Nat) (l : List Nat) (s : State) : (l.foldl (snapCount m) s).mac = s.mac := by
  induction l generalizing s with
  | nil => rfl
  | cons i l ih => rw [List.foldl_cons, ih, snapCount, setFld_mac, setFld_mac]

/-! ## Fences (R344) -/

theorem ownWrite_fence {s : State} {off : Nat} (v : Nat) (h : 0xFE0000 ≤ off ∧ off < 0xFE0800 ∧ off % 8 = 0) :
    s.ownWrite off v =
      some (if s.sys.mode = .cold ∨ s.sys.mode = .quench then s else s.fencePost ((off - 0xFE0000) / 8) v) := by
  unfold ownWrite
  iterate 11 rw [if_neg (by omega)]
  rw [if_pos h]

theorem fencePost_forward {s : State} {n v : Nat}
    (h : 1 ≤ (v % 4294967296 + 4294967296 - s.fld F.CHM_FENCE_VALUE n) % 4294967296 ∧
      (v % 4294967296 + 4294967296 - s.fld F.CHM_FENCE_VALUE n) % 4294967296 < 2147483648) :
    s.fencePost n v = s.setFld F.CHM_FENCE_VALUE (v % 4294967296) n := if_pos h

theorem fencePost_stale {s : State} {n v : Nat}
    (h : ¬ (1 ≤ (v % 4294967296 + 4294967296 - s.fld F.CHM_FENCE_VALUE n) % 4294967296 ∧
      (v % 4294967296 + 4294967296 - s.fld F.CHM_FENCE_VALUE n) % 4294967296 < 2147483648)) :
    s.fencePost n v = s.incFld F.CHM_FENCE_STALE_CNT n := if_neg h

end State

/-- A served write of a fence posts it. -/
theorem chmFenceWrite_served {m n v : Nat} {s : State} (hn : n < 256) (hm : s.masterUp m = true)
    (ha : s.accessOk { master := m, addr := regBase + 0xFE0000 + 8 * n } true = true) :
    s.busWrite { master := m, addr := regBase + 0xFE0000 + 8 * n } v =
      if s.sys.mode = .cold ∨ s.sys.mode = .quench then s else s.fencePost n v := by
  have haddr : regBase + 0xFE0000 + 8 * n = regBase + (0xFE0000 + 8 * n) := Nat.add_assoc ..
  have hwin : isNwtWin (0xFE0000 + 8 * n) = false := by
    simp only [isNwtWin, Bool.and_eq_false_iff, decide_eq_false_iff_not]
    omega
  have hdiv : (0xFE0000 + 8 * n - 0xFE0000) / 8 = n := by omega
  rw [State.busWrite_eq_writeReg (off := 0xFE0000 + 8 * n) v hm ha (by rw [haddr]; exact targetOf_reg (by omega)) hwin,
    State.writeReg_own (State.ownWrite_fence v ⟨by omega, by omega, by omega⟩), hdiv]

/-- Settles O37: each row's own effect, whose fields are read off the words it writes. -/
theorem commandRegistersAct : Obligations.CommandRegistersAct := by
  unfold Obligations.CommandRegistersAct
  refine ⟨fun mask s ha h => ?status, fun mask s ha => ⟨?noStatus, ?noValid⟩, fun s ha => ?valid, fun s hm ht => ?latch,
    fun s h => ?noLatch, fun m i s hm hi => ?snap, fun m s => ?clr, fun p s hp hc hq => ?restart, fun p s h => ?noRestart,
    fun p s hp ha => ?quarantine, fun p s h => ?noQuarantine, fun m n v s hn hm ha => ?fence, fun m n v s hn => ?noFence⟩
  case status =>
    have hrow : (if s.begin.rst.aUp then s.begin.fltClear mask else s.begin) = s.begin.fltCleared mask :=
      (if_pos ha).trans (State.fltClear_gone (s := s.begin) h)
    refine ⟨_, (exec_status mask s).trans (runEff_next _ s), ?lo, ?hi, ?only⟩
    case lo => rw [commit_fld, hrow, State.fld_fltCleared_lo]; rfl
    case hi => rw [commit_fld, hrow, State.fld_fltCleared_hi]; rfl
    case only =>
      rw [hrow]
      exact State.onlyWords.commit (State.onlyWords_fltCleared s.begin mask) s
  case noStatus => exact does_of (o := []) (exec_status mask s) (if_neg (by simp [ha]))
  case noValid => exact does_of (o := []) (exec_valid s) (if_neg (by simp [ha]))
  case valid =>
    have hrow : (if s.begin.rst.aUp then s.begin.fltFirstClear else s.begin) = s.begin.fltFirstClear := if_pos ha
    obtain ⟨hv, ho, hs, hc⟩ := State.fltFirstClear_fields s.begin
    refine ⟨_, (exec_valid s).trans (runEff_next _ s), ?_, ?_, ?_, ?_⟩
    · rw [State.flag, commit_fld, hrow]; exact hv
    · rw [State.flag, commit_fld, hrow]; exact ho
    · rw [commit_fld, hrow, hs]
    · rw [commit_fld, hrow, hc]
  case latch => exact does_of (o := []) (exec_latch s) (if_pos ⟨hm, by simp [ht]⟩)
  case noLatch =>
    refine does_of (o := []) (exec_latch s) (if_neg ?_)
    rintro ⟨hm, ht⟩
    rcases h with h | h
    · exact h hm
    · simp [h] at ht
  case snap =>
    have hsnap := State.snapped_foldl (m := m) (List.range 64) s.begin (.inl (List.mem_range.mpr hi))
    obtain ⟨hlo, hhi⟩ := hsnap
    have hmac := State.mac_foldl_snapCount m (List.range 64) s.begin
    refine ⟨_, (exec_snap m s).trans (runEff_next _ s), ?_, ?_, ?_⟩
    · rw [State.commit_mac, State.macSnap_eq, hmac, State.begin_mac]
    · rw [commit_fld, State.macSnap_eq, hlo, State.liveCount, hmac, State.begin_mac]
    · rw [commit_fld, State.macSnap_eq, hhi, State.liveCount, hmac, State.begin_mac]
  case clr => exact does_of (o := []) (exec_clr m s) rfl
  case restart =>
    refine does_of (o := []) (exec_restart p s) ((if_neg ?_).trans rfl)
    rintro (h | h | h)
    · exact hc h
    · exact hq h
    · omega
  case noRestart =>
    refine does_of (o := []) (exec_restart p s) (if_pos ?_)
    rcases h with h | h | h
    · exact .inr (.inr h)
    · exact .inl h
    · exact .inr (.inl h)
  case quarantine => exact does_of (o := []) (exec_quarantine p s) (if_neg (by simp [ha]; omega))
  case noQuarantine => exact does_of (o := []) (exec_quarantine p s) (if_pos (by simpa using h))
  case fence =>
    have hrow : (if 256 ≤ n then s.begin else s.begin.busWrite { master := m, addr := regBase + 0xFE0000 + 8 * n } v) =
        if s.begin.sys.mode = .cold ∨ s.begin.sys.mode = .quench then s.begin else s.begin.fencePost n v :=
      (if_neg (by omega)).trans (chmFenceWrite_served (s := s.begin) hn hm ha)
    have hposts (hc : s.sys.mode ≠ .cold) (hq : s.sys.mode ≠ .quench) :
        (if 256 ≤ n then s.begin else s.begin.busWrite { master := m, addr := regBase + 0xFE0000 + 8 * n } v) =
          s.begin.fencePost n v := hrow.trans (if_neg (not_or.mpr ⟨hc, hq⟩))
    refine ⟨fun h => ?stopped, fun hc hq h1 h2 => ?forward, fun hc hq h => ?stale⟩
    case stopped => exact does_of (o := []) (exec_chmFenceWrite m n v s) (hrow.trans (if_pos h))
    case forward =>
      exact does_of (o := []) (exec_chmFenceWrite m n v s)
        ((hposts hc hq).trans ((State.fencePost_forward (s := s.begin) ⟨h1, h2⟩).trans (State.begin_setFld ..)))
    case stale =>
      exact does_of (o := []) (exec_chmFenceWrite m n v s)
        ((hposts hc hq).trans ((State.fencePost_stale (s := s.begin) (fun hd => by rw [State.fld_begin] at hd; omega)).trans
          (State.begin_incFld ..)))
  case noFence => exact does_of (o := []) (exec_chmFenceWrite m n v s) (if_pos hn)

end Sys2Proof.Machine
end

section
/-! PROOFS. The servo (R50, R51, R53, R611) and PTP messages (R55, R58 to R60). -/

namespace Sys2Proof.Machine

namespace State

/-! ## Measurements leave PTP time alone -/

theorem measMin_tim (s : State) (ty sub key : Nat) (v : Int) : (s.measMin ty sub key v).tim = s.tim := by
  unfold measMin
  split <;> rfl

theorem measMax_tim (s : State) (ty sub key : Nat) (v : Int) : (s.measMax ty sub key v).tim = s.tim := by
  unfold measMax
  split <;> rfl

theorem measBoth_tim (s : State) (ty sub lo hi : Nat) (v : Int) : (s.measBoth ty sub lo hi v).tim = s.tim := by
  rw [measBoth, measMax_tim, measMin_tim]

theorem measMean_tim (s : State) (ty sub sum cnt : Nat) (v : Int) : (s.measMean ty sub sum cnt v).tim = s.tim := by
  unfold measMean
  split
  · exact measAdd_tim ..
  · rfl

/-! ## A servo update (R50, R51, R53) -/

/-- The update in the measurements of its port, and among those the lock test looks at. -/
def servoMeasured (s : State) (port : Nat) (o f d : Int) : State :=
  let m := ((s.measBoth 6 port 4 5 o).measMean 6 port 20 21 o).measMean 6 port 22 23 d
  { m with tim := { m.tim with recent := m.recentUpdates ++ [(m.tick, o, rateClamp f)] } }

/-- A correction within the threshold, slewed. -/
def servoSlewed (m : State) (o f : Int) : State :=
  ((m.ptpSet f (if o < 0 then -slewMax else slewMax) (m.tick + slewTicks o.natAbs) 0).ptpAbsorb (o - m.slewLeft)).setFlag
    F.TIM_STATUS_STEP_PEND false

/-- A correction beyond the threshold, refused. -/
def servoRefused (m : State) (o f : Int) : State :=
  (((((m.ptpSet f 0 0 0).ptpAbsorb (-m.slewLeft)).setPair F.TIM_STEP_PEND_LO_PEND F.TIM_STEP_PEND_HI_PEND (toField 64 o)).setFlag
    F.TIM_STATUS_STEP_PEND true).setFlag F.TIM_STATUS_STEP_REFUSED true).raise fltTimStep [toField 64 o]

/-- The first correction, a step. -/
def servoStepped (m : State) (o f : Int) : State :=
  let first := (m.ptpSet f 0 0 o).setFlag F.TIM_STATUS_TIME_VALID true
  stepEffects { first with tim := { first.tim with corrected := true } } (o - m.slewLeft)

theorem servoMeasured_corrected (s : State) (port : Nat) (o f d : Int) :
    (s.servoMeasured port o f d).tim.corrected = s.tim.corrected := by
  have h : (((s.measBoth 6 port 4 5 o).measMean 6 port 20 21 o).measMean 6 port 22 23 d).tim = s.tim := by
    rw [measMean_tim, measMean_tim, measBoth_tim]
  have hc := congrArg TimState.corrected h
  exact hc

theorem servoCorrect_first {m : State} (o f : Int) (h : m.tim.corrected = false) : m.servoCorrect o f = m.servoStepped o f :=
  if_pos (by simp [h])

theorem servoCorrect_within {m : State} {o : Int} (f : Int) (h : m.tim.corrected = true)
    (ho : o.natAbs ≤ m.fld F.TIM_STEP_THR_THR) : m.servoCorrect o f = m.servoSlewed o f :=
  (if_neg (by simp [h])).trans (if_pos ho)

theorem servoCorrect_beyond {m : State} {o : Int} (f : Int) (h : m.tim.corrected = true)
    (ho : m.fld F.TIM_STEP_THR_THR < o.natAbs) : m.servoCorrect o f = m.servoRefused o f :=
  (if_neg (by simp [h])).trans (if_neg (Nat.not_le.mpr ho))

/-- The lock state after a correction that is not the first (R611). -/
def servoJudged (t : State) (o : Int) : State :=
  if t.fld F.TIM_STATUS_SERVO = servoLocked ∧ (1000 < o.natAbs ∨ t.flag F.TIM_STATUS_STEP_PEND) then
    ({ t with tim := { t.tim with recent := [] } }).setServo servoAcq
  else if t.fld F.TIM_STATUS_SERVO = servoAcq ∧ t.servoMayLock then t.setServo servoLocked
  else t

section
variable {s : State} {o f d : Int} {p : PtpPort}

theorem servoUpdate_none (h : s.slavePort = none) : s.servoUpdate o f d = s := by
  simp only [servoUpdate, h]

/-- An update that the servo does not take. -/
theorem servoUpdate_off (h : s.slavePort = some p) (hoff : s.tim.ptpEn = false ∨ s.rst.pUp = false ∨ s.sys.mode = .quench ∨
    s.sys.mode = .cold ∨ s.lastReqLost p = true) : s.servoUpdate o f d = s := by
  simp only [servoUpdate, h]
  exact if_pos (by simpa using hoff)

/-- An update that the servo takes: measured, corrected, and judged unless it was the first. -/
theorem servoUpdate_on (h : s.slavePort = some p) (hen : s.tim.ptpEn = true) (hp : s.rst.pUp = true) (hq : s.sys.mode ≠ .quench)
    (hc : s.sys.mode ≠ .cold) (hl : s.lastReqLost p = false) : s.servoUpdate o f d =
      if !s.tim.corrected then (s.servoMeasured p.port o f d).servoCorrect o (rateClamp f)
      else ((s.servoMeasured p.port o f d).servoCorrect o (rateClamp f)).servoJudged o := by
  simp only [servoUpdate, h]
  exact if_neg (by simp [hen, hp, hq, hc, hl])

theorem servoJudged_unlocks {t : State} (hv : t.fld F.TIM_STATUS_SERVO = servoLocked)
    (h : 1000 < o.natAbs ∨ t.flag F.TIM_STATUS_STEP_PEND = true) :
    t.servoJudged o = State.setServo { t with tim := { t.tim with recent := [] } } servoAcq := if_pos ⟨hv, h⟩

theorem servoJudged_stays {t : State} (hv : t.fld F.TIM_STATUS_SERVO = servoLocked) (ho : o.natAbs ≤ 1000)
    (hf : t.flag F.TIM_STATUS_STEP_PEND = false) : t.servoJudged o = t :=
  (if_neg (by rw [hf]; simp only [Bool.false_eq_true, or_false]; omega)).trans (if_neg (by rw [hv]; exact fun h => absurd h.1 (by decide)))

theorem servoAcq_not_locked {t : State} (hv : t.fld F.TIM_STATUS_SERVO = servoAcq) :
    ¬ (t.fld F.TIM_STATUS_SERVO = servoLocked ∧ (1000 < o.natAbs ∨ t.flag F.TIM_STATUS_STEP_PEND = true)) := by
  rw [hv]
  exact fun h => absurd h.1 (by decide)

theorem servoJudged_locks {t : State} (hv : t.fld F.TIM_STATUS_SERVO = servoAcq) (hm : t.servoMayLock = true) :
    t.servoJudged o = t.setServo servoLocked := (if_neg (servoAcq_not_locked hv)).trans (if_pos ⟨hv, hm⟩)

theorem servoJudged_acquires {t : State} (hv : t.fld F.TIM_STATUS_SERVO = servoAcq) (hm : t.servoMayLock = false) :
    t.servoJudged o = t := (if_neg (servoAcq_not_locked hv)).trans (if_neg (by simp [hm]))

end

end State

/-- An update that is not taken changes nothing. -/
theorem does_servoUpdate_off {o f d : Int} {s : State} (h : ∀ p, s.slavePort = some p → s.tim.ptpEn = false ∨ s.rst.pUp = false ∨
    s.sys.mode = .quench ∨ s.sys.mode = .cold ∨ s.lastReqLost p = true) : Does (.servoUpdate o f d) s s := by
  refine does_of (o := []) (exec_servoUpdate o f d s) ?_
  cases hp : s.slavePort with
  | none => exact State.servoUpdate_none (s := s.begin) hp
  | some p => exact State.servoUpdate_off (s := s.begin) hp (h p hp)

/-- Settles O38: which of the three corrections is made follows from the threshold, and the lock state from what it leaves. -/
theorem servoStepsSlewsOrRefuses : Obligations.ServoStepsSlewsOrRefuses := by
  unfold Obligations.ServoStepsSlewsOrRefuses
  refine ⟨fun o f d s h => ?none, fun o f d s h => ?off, fun o f d p s h hl => ?lost, fun o f d p s h hl hen hp hq hc => ?taken⟩
  case none => exact does_servoUpdate_off fun p hp => by simp [h] at hp
  case off =>
    refine does_servoUpdate_off fun p _ => ?_
    rcases h with h | h | h | h <;> simp [h]
  case lost =>
    refine does_servoUpdate_off fun q hq => ?_
    obtain rfl : p = q := Option.some.inj (h.symm.trans hq)
    simp [hl]
  case taken =>
    have hcor := State.servoMeasured_corrected s.begin p.port o f d
    have hon := State.servoUpdate_on (s := s.begin) (o := o) (f := f) (d := d) h hen hp hq hc hl
    refine ⟨fun hfirst => ?first, fun hlater ho => ?within, fun hlater ho => ?beyond⟩
    case first =>
      exact does_self (exec_servoUpdate o f d s)
        (hon.trans ((if_pos (by simp [hfirst])).trans (State.servoCorrect_first _ _ (hcor.trans hfirst))))
    case within =>
      have hslew : s.begin.servoUpdate o f d =
          ((s.begin.servoMeasured p.port o f d).servoSlewed o (rateClamp f)).servoJudged o := by
        rw [hon, if_neg (by simp [hlater]), State.servoCorrect_within _ (hcor.trans hlater) ho]
      exact ⟨fun hv hf h1 => does_self (exec_servoUpdate o f d s) (hslew.trans (State.servoJudged_stays hv h1 hf)),
        fun hv hm => does_self (exec_servoUpdate o f d s) (hslew.trans (State.servoJudged_locks hv hm)),
        fun hv hm => does_self (exec_servoUpdate o f d s) (hslew.trans (State.servoJudged_acquires hv hm))⟩
    case beyond =>
      have hrefuse : s.begin.servoUpdate o f d =
          ((s.begin.servoMeasured p.port o f d).servoRefused o (rateClamp f)).servoJudged o := by
        rw [hon, if_neg (by simp [hlater]), State.servoCorrect_beyond _ (hcor.trans hlater) ho]
      exact ⟨fun hv hm => does_self (exec_servoUpdate o f d s) (hrefuse.trans (State.servoJudged_acquires hv hm)),
        fun hv hf => does_self (exec_servoUpdate o f d s) (hrefuse.trans (State.servoJudged_unlocks hv (.inr hf)))⟩

end Sys2Proof.Machine
end

section
/-! PROOFS. PTP messages of master and slave ports, and the loss of a foreign master (R55, R58 to R60, R611). -/

namespace Sys2Proof.Machine

namespace State

theorem ptpSends_iff (s : State) : s.ptpSends = true ↔ s.tim.ptpEn = true ∧ s.sys.mode ≠ .quench ∧ s.sys.mode ≠ .cold := by
  simp [ptpSends, and_assoc]

theorem ptpSends_of {s : State} (hen : s.tim.ptpEn = true) (hq : s.sys.mode ≠ .quench) (hc : s.sys.mode ≠ .cold) :
    s.ptpSends = true := s.ptpSends_iff.mpr ⟨hen, hq, hc⟩

theorem not_ptpSends {s : State} (h : s.tim.ptpEn = false ∨ s.sys.mode = .quench ∨ s.sys.mode = .cold) : s.ptpSends = false := by
  rcases h with h | h | h <;> simp [ptpSends, h]

/-! ## Sync and Announce of a master port -/

/-- The port a master row speaks of. -/
def masterPort (s : State) (n : Nat) : Option PtpPort := s.tim.ports.find? (fun p => p.port == n && p.en && p.st == .master)

/-- The port a slave row speaks of. -/
def slaveRow (s : State) (n : Nat) : Option PtpPort := s.tim.ports.find? (fun p => p.port == n && p.en && p.st == .slave)

/-- The body of an Announce. -/
def announceBody (s : State) (p : PtpPort) : Bytes :=
  s.ptpHeader p 11 64 p.seqAnnounce false p.logAnnounce ++ List.replicate 10 0 ++ be 2 37 ++ [0] ++
    be 1 s.announced.priority1 ++ be 1 s.announced.clockClass ++ be 1 s.announced.accuracy ++ be 2 s.announced.variance ++
    be 1 s.announced.priority2 ++ be 8 s.announced.identity ++ be 2 s.announced.steps ++ [0xA0]

/-- A Sync offered, and the port's number moved on. -/
def syncSent (s : State) (n : Nat) (p : PtpPort) : State :=
  (s.ptpOffer p 0x40 (some (p.seqSync % 0x4000)) (s.ptpHeader p 0 44 p.seqSync true p.logSync ++ List.replicate 10 0)).modPort n
    (fun p => { p with seqSync := (p.seqSync + 1) % 65536 })

/-- An Announce offered, and the port's number moved on. -/
def announceSent (s : State) (n : Nat) (p : PtpPort) : State :=
  (s.ptpOffer p 0x42 none (s.announceBody p)).modPort n (fun p => { p with seqAnnounce := (p.seqAnnounce + 1) % 65536 })

/-- The synchronization metadata that the broadcast profile sends with an Announce (R55). -/
def metaSent (t : State) (p : PtpPort) : State :=
  match t.tim.profile, t.metaFmt with
  | 0, some f => t.ptpOffer p 0x45 none (be 4 f.num ++ be 4 f.den)
  | _, _ => t

/-- A Delay_Req offered, and the port's number moved on. -/
def delayReqSent (s : State) (n : Nat) (p : PtpPort) : State :=
  (s.ptpOffer p 0x43 (some (0x4000 + p.seqDelay % 0x4000)) (s.ptpHeader p 1 44 p.seqDelay false p.logDelayReq ++ List.replicate 10 0)
    (if p.hybrid = true ∧ p.peerIp ≠ 0 then ethDst p.peerIp else 0x01005E000181)).modPort n
    (fun p => { p with seqDelay := (p.seqDelay + 1) % 65536 })

section
variable {s : State} {n : Nat} {p : PtpPort}

theorem master_quiet (h : s.masterPort n = none ∨ s.ptpSends = false ∨ s.sys.mode = .hold) : s.syncTx n = s ∧ s.announceTx n = s := by
  cases hp : s.masterPort n with
  | none =>
    unfold masterPort at hp
    constructor
    · simp only [syncTx, hp]
    · simp only [announceTx, hp]
  | some p =>
    have hoff : (!s.ptpSends) = true ∨ s.sys.mode = .hold := by simpa [hp] using h
    unfold masterPort at hp
    constructor
    · simp only [syncTx, hp]
      exact if_pos hoff
    · simp only [announceTx, hp]
      exact if_pos hoff

/-- The guard of a master port that may send. -/
theorem master_sends (hs : s.ptpSends = true) (hh : s.sys.mode ≠ .hold) : ¬ ((!s.ptpSends) = true ∨ s.sys.mode = .hold) := by
  simp [hs, hh]

theorem syncTx_sends (hp : s.masterPort n = some p) (hs : s.ptpSends = true) (hh : s.sys.mode ≠ .hold) :
    s.syncTx n = s.syncSent n p := by
  unfold masterPort at hp
  simp only [syncTx, hp]
  exact if_neg (master_sends hs hh)

theorem announceTx_sends (hp : s.masterPort n = some p) (hs : s.ptpSends = true) (hh : s.sys.mode ≠ .hold) :
    s.announceTx n = (s.announceSent n p).metaSent p := by
  unfold masterPort at hp
  simp only [announceTx, hp]
  exact if_neg (master_sends hs hh)

theorem metaSent_none {t : State} (h : t.tim.profile ≠ 0 ∨ t.metaFmt = none) : t.metaSent p = t := by
  unfold metaSent
  split
  case h_1 f hprof hfmt => exact absurd h (by simp [hprof, hfmt])
  case h_2 => rfl

theorem metaSent_some {t : State} {g : Fmt} (hprof : t.tim.profile = 0) (hfmt : t.metaFmt = some g) :
    t.metaSent p = t.ptpOffer p 0x45 none (be 4 g.num ++ be 4 g.den) := by
  simp only [metaSent, hprof, hfmt]

/-! ## Delay_Req of a slave port -/

theorem delayReqTx_quiet (h : s.slaveRow n = none ∨ s.ptpSends = false) : s.delayReqTx n = s := by
  cases hp : s.slaveRow n with
  | none =>
    unfold slaveRow at hp
    simp only [delayReqTx, hp]
  | some p =>
    have hoff : (!s.ptpSends) = true := by simpa [hp] using h
    unfold slaveRow at hp
    simp only [delayReqTx, hp]
    exact if_pos hoff

theorem delayReqTx_sends (hp : s.slaveRow n = some p) (hs : s.ptpSends = true) : s.delayReqTx n = s.delayReqSent n p := by
  unfold slaveRow at hp
  simp only [delayReqTx, hp, delayReqSent, Bool.and_eq_true, bne_iff_ne]
  exact if_neg (by simp [hs])

/-! ## A silent master (R55, R611) -/

theorem announceLost_off (h : s.tim.ports.any (fun p => p.port == n && p.en && p.st != .master) = false ∨ s.sys.mode = .quench ∨
    s.sys.mode = .cold) : s.announceLost n = s := by
  refine if_neg ?_
  rintro ⟨hq, hc, hany⟩
  rcases h with h | h | h
  · exact absurd (h.symm.trans hany) Bool.false_ne_true
  · exact hq h
  · exact hc h

end

end State

/-- Settles O39: each row finds its port, and sends where its mode and role let it. -/
theorem ptpPortsSendAndLoseTheirMaster : Obligations.PtpPortsSendAndLoseTheirMaster := by
  unfold Obligations.PtpPortsSendAndLoseTheirMaster
  have quiet (n : Nat) (s : State) (h : s.masterPort n = none ∨ s.ptpSends = false ∨ s.sys.mode = .hold) :
      Does (.ptpSyncTx n) s s ∧ Does (.ptpAnnounceTx n) s s :=
    ⟨does_of (o := []) (exec_ptpSyncTx n s) (State.master_quiet (s := s.begin) h).1,
      does_of (o := []) (exec_ptpAnnounceTx n s) (State.master_quiet (s := s.begin) h).2⟩
  have noRequest (n : Nat) (s : State) (h : s.slaveRow n = none ∨ s.ptpSends = false) : Does (.ptpDelayReqTx n) s s :=
    does_of (o := []) (exec_ptpDelayReqTx n s) (State.delayReqTx_quiet (s := s.begin) h)
  refine ⟨fun n s hp => quiet n s (.inl hp), fun n s h => ?off, fun n s h => quiet n s (.inr (.inr h)),
    fun n p s hp hen hq hc hh => ⟨?sync, fun h => ?plain, fun g hprof hfmt => ?metadata⟩, fun n s hp => noRequest n s (.inl hp),
    fun n p s hp hen hq hc => ?request, fun n s h => ?kept, fun n s h hq hc => ?lost⟩
  case off =>
    obtain ⟨hsync, hann⟩ := quiet n s (.inr (.inl (State.not_ptpSends h)))
    exact ⟨hsync, hann, noRequest n s (.inr (State.not_ptpSends h))⟩
  case sync =>
    exact does_self (exec_ptpSyncTx n s) (State.syncTx_sends (s := s.begin) hp (State.ptpSends_of hen hq hc) hh)
  case plain =>
    exact does_self (exec_ptpAnnounceTx n s)
      ((State.announceTx_sends (s := s.begin) hp (State.ptpSends_of hen hq hc) hh).trans (State.metaSent_none h))
  case metadata =>
    exact does_self (exec_ptpAnnounceTx n s)
      ((State.announceTx_sends (s := s.begin) hp (State.ptpSends_of hen hq hc) hh).trans (State.metaSent_some hprof hfmt))
  case request =>
    exact does_self (exec_ptpDelayReqTx n s) (State.delayReqTx_sends (s := s.begin) hp (State.ptpSends_of hen hq hc))
  case kept => exact does_of (o := []) (exec_announceReceiptTimeout n s) (State.announceLost_off (s := s.begin) h)
  case lost => exact does_self (exec_announceReceiptTimeout n s) (if_pos ⟨hq, hc, h⟩)

end Sys2Proof.Machine
end

section
/-! PROOFS. MAC links, verification, and what leaves a MAC (R136 to R142, R150), with the stamp queues (R60, R61). -/

namespace Sys2Proof.Machine

namespace State

/-! ## Links (R140) -/

section
variable {s : State} {m : Nat}

theorem linkUp_off (h : 32 ≤ m ∨ s.flag F.MAC_CFG_EN m = false) : s.linkUp m = s := by
  refine if_pos ?_
  rintro ⟨hm, he⟩
  rcases h with h | h
  · omega
  · exact absurd (h.symm.trans he) Bool.false_ne_true

/-- A MAC whose link is up, with no verify frame sent yet. -/
def linkRisen (s : State) (m : Nat) : State :=
  let t := s.setFlag F.MAC_LINK_STAT_LINK_UP true m
  { t with mac := { t.mac with verify := sdel t.mac.verify m } }

/-- The link word is not the configuration's. -/
theorem macCfg_linkRisen (f : Fld) (hf : f.addr m 0 = F.MAC_CFG_EN.addr m 0) : (s.linkRisen m).flag f m = s.flag f m := by
  have hne : f.addr m 0 ≠ F.MAC_LINK_STAT_LINK_UP.addr m 0 := by
    rw [hf]
    simp only [Fld.addr, F.MAC_CFG_EN, F.MAC_LINK_STAT_LINK_UP]
    omega
  have hfld := fld_setFld_word s F.MAC_LINK_STAT_LINK_UP f (b2n true) m 0 m 0 hne
  exact congrArg (· != 0) hfld

theorem linkUp_on (hm : m < 32) (he : s.flag F.MAC_CFG_EN m = true) :
    s.linkUp m =
      if !s.flag F.MAC_CFG_PREEMPT_EN m then
        ((s.linkRisen m).setFld F.MAC_LINK_STAT_VERIFY 0 m).setFlag F.MAC_LINK_STAT_MERGE_ACTIVE false m
      else if s.flag F.MAC_CFG_VERIFY_DIS m then
        ((s.linkRisen m).setFld F.MAC_LINK_STAT_VERIFY 0 m).setFlag F.MAC_LINK_STAT_MERGE_ACTIVE true m
      else (((s.linkRisen m).setFld F.MAC_LINK_STAT_VERIFY 1 m).setFlag F.MAC_LINK_STAT_MERGE_ACTIVE false m).sendVerify m := by
  rw [← macCfg_linkRisen F.MAC_CFG_PREEMPT_EN rfl, ← macCfg_linkRisen F.MAC_CFG_VERIFY_DIS rfl]
  exact if_neg (not_not.mpr ⟨hm, he⟩)

/-- Without preemption, or without verification, preemption is in force as configured. -/
theorem linkUp_unverified (hm : m < 32) (he : s.flag F.MAC_CFG_EN m = true)
    (h : s.flag F.MAC_CFG_PREEMPT_EN m = false ∨ s.flag F.MAC_CFG_VERIFY_DIS m = true) :
    s.linkUp m = ((s.linkRisen m).setFld F.MAC_LINK_STAT_VERIFY 0 m).setFlag F.MAC_LINK_STAT_MERGE_ACTIVE
      (s.flag F.MAC_CFG_PREEMPT_EN m) m := by
  rw [linkUp_on hm he]
  cases hp : s.flag F.MAC_CFG_PREEMPT_EN m with
  | false => exact if_pos rfl
  | true =>
    have hv : s.flag F.MAC_CFG_VERIFY_DIS m = true := h.resolve_left (by simp [hp])
    exact (if_neg (by decide)).trans (if_pos hv)

theorem linkUp_verifies (hm : m < 32) (he : s.flag F.MAC_CFG_EN m = true) (hp : s.flag F.MAC_CFG_PREEMPT_EN m = true)
    (hv : s.flag F.MAC_CFG_VERIFY_DIS m = false) : s.linkUp m =
      (((s.linkRisen m).setFld F.MAC_LINK_STAT_VERIFY 1 m).setFlag F.MAC_LINK_STAT_MERGE_ACTIVE false m).sendVerify m := by
  rw [linkUp_on hm he, hp, hv]
  rfl

theorem linkDown_off (h : 32 ≤ m ∨ s.flag F.MAC_LINK_STAT_LINK_UP m = false) : s.linkDown m = s := by
  refine if_pos ?_
  rintro ⟨hm, hl⟩
  rcases h with h | h
  · omega
  · exact absurd (h.symm.trans hl) Bool.false_ne_true

/-! ## The line is free (R139, R150) -/

theorem macTx_off (h : 32 ≤ m ∨ s.rst.pUp = false ∨ s.flag F.MAC_CFG_EN m = false ∨ s.flag F.MAC_LINK_STAT_LINK_UP m = false) :
    s.macTx m = s := by
  refine if_pos ?_
  rintro ⟨hm, hp, he, hl⟩
  rcases h with h | h | h | h
  · omega
  · exact absurd (h.symm.trans hp) Bool.false_ne_true
  · exact absurd (h.symm.trans he) Bool.false_ne_true
  · exact absurd (h.symm.trans hl) Bool.false_ne_true

/-- Whether a MAC's line takes frames. -/
def lineUp (s : State) (m : Nat) : Prop :=
  m < 32 ∧ s.rst.pUp = true ∧ s.flag F.MAC_CFG_EN m = true ∧ s.flag F.MAC_LINK_STAT_LINK_UP m = true

theorem macTx_empty (h : s.lineUp m) (hn : (s.lateDrop m).nextFrame m = none) : s.macTx m = s.lateDrop m := by
  obtain ⟨hm, hp, he, hl⟩ := h
  simp only [macTx, hm, hp, he, hl, hn, and_self, not_true, if_false]

/-- The frame that is next starts, or goes where its MAC may not send it. -/
theorem macTx_frame {f : TxFrame} (h : s.lineUp m) (hn : (s.lateDrop m).nextFrame m = some f) : s.macTx m =
    if !(s.lateDrop m).maySend f then
      (if f.kind = 1 then ((s.lateDrop m).unqueue f).macCount m 48 1 else (s.lateDrop m).unqueue f)
    else if f.done = 0 then ((s.lateDrop m).startFrame f).txStamp f else (s.lateDrop m).startFrame f := by
  obtain ⟨hm, hp, he, hl⟩ := h
  simp only [macTx, hm, hp, he, hl, hn, and_self, not_true, if_false]

/-! ## Packets and reports (R138, R310) -/

theorem packetTime_off {f : Nat} (h : s.rst.pUp = false ∨ s.sys.mode = .cold ∨ s.sys.mode = .quench) : s.packetTime f = s :=
  if_pos (by simpa using h)

theorem packetTime_on {f : Nat} (hp : s.rst.pUp = true) (hc : s.sys.mode ≠ .cold) (hq : s.sys.mode ≠ .quench) :
    s.packetTime f = if (s.vout f).isSome then s.videoPacket f else s.ancPacket f :=
  if_neg (by simp [hp, hc, hq])

end

/-! ## The stamp queues (R61) -/

/-- A served read of word 0 of TIM_TXQ takes from the MAC's queue. -/
theorem busRead_txq {s : State} {a : BusAccess} {m : Nat} (hm : s.masterUp a.master = true) (ha : s.accessOk a false = true)
    (ht : targetOf a.addr = .reg (0x501000 + 0x20 * m)) (h : m < 32) : s.busRead a = s.txqPop a.master m := by
  have hwin : isNwtWin (0x501000 + 0x20 * m) = false := by
    simp only [isNwtWin, Bool.and_eq_false_iff, decide_eq_false_iff_not]
    omega
  have hmac : (0x501000 + 0x20 * m - 0x501000) / 0x20 = m := by omega
  rw [busRead_eq_readReg hm ha ht hwin, readReg, if_pos (by omega), hmac]

theorem txqPop_empty {s : State} {k m : Nat} (h : s.tim.txq.find? (fun x => x.mac == m) = none) :
    s.txqPop k m = s.emit (.busData k [0] false) := by
  simp only [txqPop, h]

/-- The queue without the entry read, recounted. -/
def stampTaken (s : State) (m : Nat) (x : TxStamp) : State :=
  State.txqDepth { s with tim := { s.tim with txq := s.tim.txq.erase x } } m

/-- The entry's words in the reading master's latches. -/
def stampLatched (s : State) (k m : Nat) (x : TxStamp) : State :=
  let a := F.TIM_TXQ_NS.addr m 0
  ((s.setLatch k a (BitVec.ofNat 32 (x.ns % 1000000000))).setLatch k (a + 4)
    (BitVec.ofNat 32 (x.ns / 1000000000 % 4294967296))).setLatch k (a + 8) (BitVec.ofNat 32 (x.ns / 1000000000 / 4294967296 % 65536))

theorem txqPop_entry {s : State} {k m : Nat} {x : TxStamp} (h : s.tim.txq.find? (fun x => x.mac == m) = some x) :
    s.txqPop k m =
      ((s.stampTaken m x).stampLatched k m x).emit (.busData k [BitVec.ofNat 32 (2147483648 + x.ident % 65536)] false) := by
  simp only [txqPop, h]
  rfl

theorem stampLatched_ns (s : State) (k m : Nat) (x : TxStamp) :
    (s.stampLatched k m x).latchOf k (0x501004 + 0x20 * m) = BitVec.ofNat 32 (x.ns % 1000000000) := by
  have haddr : F.TIM_TXQ_NS.addr m 0 = 0x501004 + 0x20 * m := by simp only [Fld.addr, F.TIM_TXQ_NS]; omega
  unfold stampLatched
  rw [haddr, latchOf_setLatch_other _ _ _ _ _ (by omega), latchOf_setLatch_other _ _ _ _ _ (by omega), latchOf_setLatch_same]

end State

/-- Settles O40: each row is its guard and its operation, whose cases are the statement's. -/
theorem macLinksAndTransmitQueues : Obligations.MacLinksAndTransmitQueues := by
  unfold Obligations.MacLinksAndTransmitQueues
  refine ⟨fun m s h => does_of (o := []) (exec_macLinkUp m s) (State.linkUp_off (s := s.begin) h),
    fun m s hm he h => does_self (exec_macLinkUp m s) (State.linkUp_unverified (s := s.begin) hm he h),
    fun m s hm he hp hv => does_self (exec_macLinkUp m s) (State.linkUp_verifies (s := s.begin) hm he hp hv),
    fun m s h => does_of (o := []) (exec_macVerifyTimer m s) (if_pos h), fun m s h => ⟨fun hn => ?again, fun hn => ?fails⟩,
    fun m s h => does_of (o := []) (exec_macLinkDown m s) (State.linkDown_off (s := s.begin) h),
    fun m s hm hl => does_self (exec_macLinkDown m s) (if_neg (not_not.mpr ⟨hm, hl⟩)),
    fun m s h => does_of (o := []) (exec_macFrameTransmit m s) (State.macTx_off (s := s.begin) h),
    fun m s hm hp he hl => ?transmit,
    fun f s h => does_of (o := []) (exec_packetSendTime f s) (State.packetTime_off (s := s.begin) h),
    fun f s hp hc hq => does_self (exec_packetSendTime f s) (State.packetTime_on (s := s.begin) hp hc hq),
    fun m g s hd hr => does_self (exec_igmpReportSend m g s) (if_pos (Bool.and_eq_true_iff.mpr ⟨hd, hr⟩)),
    fun m g s h => ?quiet, fun k m s hm hk ha => ?stamps⟩
  case again => exact does_self (exec_macVerifyTimer m s) ((if_neg (not_not.mpr h)).trans (if_pos hn))
  case fails => exact does_of (o := []) (exec_macVerifyTimer m s) ((if_neg (not_not.mpr h)).trans (if_neg (Nat.not_lt.mpr hn)))
  case transmit =>
    have hline : s.begin.lineUp m := ⟨hm, hp, he, hl⟩
    refine ⟨fun hn => does_self (exec_macFrameTransmit m s) (State.macTx_empty hline hn), fun f hn => ?_⟩
    have hframe := State.macTx_frame hline hn
    exact ⟨fun hs hd => does_self (exec_macFrameTransmit m s) (hframe.trans ((if_neg (by simp [hs])).trans (if_pos hd))),
      fun hs hd => does_self (exec_macFrameTransmit m s) (hframe.trans ((if_neg (by simp [hs])).trans (if_neg hd))),
      fun hs => does_self (exec_macFrameTransmit m s) (hframe.trans (if_pos (by simp [hs])))⟩
  case quiet =>
    refine does_of (o := []) (exec_igmpReportSend m g s) (if_neg (fun hc => ?_))
    obtain ⟨hd, hr⟩ := Bool.and_eq_true_iff.mp hc
    rcases h with h | h
    · exact absurd (h.symm.trans hd) Bool.false_ne_true
    · exact absurd (h.symm.trans hr) Bool.false_ne_true
  case stamps =>
    have haddr : regBase + 0x501000 + 0x20 * m = regBase + (0x501000 + 0x20 * m) := Nat.add_assoc ..
    have hread : s.begin.busRead { master := k, addr := regBase + 0x501000 + 0x20 * m } = s.begin.txqPop k m :=
      State.busRead_txq (s := s.begin) (a := { master := k, addr := regBase + 0x501000 + 0x20 * m }) hk ha
        (by rw [haddr]; exact targetOf_reg (by omega)) hm
    refine ⟨fun hn => hands_of (exec_txqRead k m s) (hread.trans (State.txqPop_empty (s := s.begin) hn)), fun x hx => ?_⟩
    have hpop := hread.trans (State.txqPop_entry (s := s.begin) (k := k) hx)
    refine ⟨_, (exec_txqRead k m s).trans (runEff_next _ s), ?_, ?_, ?_⟩
    · rw [State.commit_tim, hpop]
      rfl
    · refine mem_out_commit ?_
      rw [hpop]
      exact List.mem_append_right _ (List.mem_singleton.mpr rfl)
    · rw [State.latchOf_of_latches (State.commit_latches _ _), hpop, State.latchOf_of_latches (State.emit_latches _ _),
        State.stampLatched_ns]

end Sys2Proof.Machine
end

section
/-! PROOFS. Reference inputs and DPLLs (R74 to R77, R82, R85, R88, R89): what the selectors write lies above the inputs' words. -/

namespace Sys2Proof.Machine

/-- The words of the reference inputs are as they were. -/
def InputsKept (s t : State) : Prop := ∀ a, 0x600000 ≤ a → a < 0x640000 → t.reg a = s.reg a

namespace InputsKept

variable {s t u : State}

theorem refl (s : State) : InputsKept s s := fun _ _ _ => rfl

theorem trans (h : InputsKept s t) (g : InputsKept t u) : InputsKept s u := fun a lo hi => (g a lo hi).trans (h a lo hi)

theorem of_regs (h : t.regs = s.regs) : InputsKept s t := fun a _ _ => State.reg_of_regs t s h a

/-- A write above the inputs' words. -/
theorem setFld {f : Fld} {i v : Nat} (hf : Nat.ble 0x640000 f.off = true) (h : InputsKept s t) : InputsKept s (t.setFld f v i) :=
  h.trans fun a _ hi => State.reg_setReg_other t _ a _ (by
    have := Nat.le_of_ble_eq_true hf
    simp only [Fld.addr]
    omega)

theorem setFlag {f : Fld} {i : Nat} {b : Bool} (hf : Nat.ble 0x640000 f.off = true) (h : InputsKept s t) :
    InputsKept s (t.setFlag f b i) := setFld hf h

theorem setDpll {x : DpllState} (h : InputsKept s t) (d : Nat) : InputsKept s (t.setDpll d x) := h.trans (of_regs rfl)

theorem ite {c : Prop} [Decidable c] (ht : InputsKept s t) (hu : InputsKept s u) : InputsKept s (if c then t else u) := by
  split
  · exact ht
  · exact hu

/-- A notice is recorded in the fault block. -/
theorem raise {n : Nat} (h : InputsKept s t) (hn : n < 48) (hc : faultClass n = 1) (args : List Nat) :
    InputsKept s (t.raise n args) := by
  rw [State.raise_of_notice hc]
  exact h.trans fun a lo _ => State.reg_faultRecord t args hn (by omega)

theorem foldl {α : Type} {f : State → α → State} {l : List α} (hf : ∀ t x, InputsKept t (f t x)) (h : InputsKept s t) :
    InputsKept s (l.foldl f t) := by
  induction l generalizing t with
  | nil => exact h
  | cons x l ih => exact ih (h.trans (hf t x))

theorem fld {i : Nat} (h : InputsKept s t) (f : Fld) (hf : f.addr i 0 = F.REF_IN_STAT_FREQ.addr i 0) (hi : i < 9) :
    t.fld f i = s.fld f i := by
  have ha : F.REF_IN_STAT_FREQ.addr i 0 = 0x600004 + 0x40 * i := by simp only [Fld.addr, F.REF_IN_STAT_FREQ]; omega
  refine State.fld_of_reg ?_
  rw [hf, ha]
  exact h _ (by omega) (by omega)

theorem flag {i : Nat} (h : InputsKept s t) (f : Fld) (hf : f.addr i 0 = F.REF_IN_STAT_FREQ.addr i 0) (hi : i < 9) :
    t.flag f i = s.flag f i := congrArg (· != 0) (h.fld f hf hi)

end InputsKept

namespace State

theorem refTime_regs (s : State) (d i : Nat) : (s.refTime d i).2.regs = s.regs := by
  unfold refTime
  split
  · rfl
  · split
    · rfl
    · dsimp only
      split
      · rfl
      · split <;> rfl

end State

/-! ## The selectors (R80 to R90) -/

namespace InputsKept

variable {s t : State}

theorem followInput (h : InputsKept s t) (d i : Nat) : InputsKept s (t.followInput d i) := by
  unfold State.followInput
  extract_lets old first
  generalize ht : t.refTime d i = p
  obtain ⟨time, v⟩ := p
  have hv : InputsKept s v := by
    have hr := h.trans (of_regs (State.refTime_regs t d i))
    rwa [ht] at hr
  have hset (x : DpllState) : InputsKept s ((v.setFld F.REF_DPLL_STAT_CUR_IN i d).setDpll d x) :=
    setDpll (setFld rfl hv) d
  have hsw (c : Prop) [Decidable c] (x : DpllState) : InputsKept s
      (if c then (v.setFld F.REF_DPLL_STAT_CUR_IN i d).setDpll d x
        else ((v.setFld F.REF_DPLL_STAT_CUR_IN i d).setDpll d x).hist F.REF_HIST_SWITCH d) :=
    .ite (hset x) (setFlag rfl (hset x))
  exact .ite (setFlag rfl (setFld rfl (setFld rfl (hsw _ _))))
    (setFld rfl (hsw _ _))

theorem enterHoldover {l : List Nat} (h : InputsKept s t) (d : Nat) : InputsKept s (t.enterHoldover d l) :=
  raise (setFlag rfl (setFld rfl (setFld rfl (setFld rfl
    (setFld rfl (h.setDpll d)))))) (by decide) (by decide) [d]

theorem switchTo (h : InputsKept s t) (d b : Nat) : InputsKept s (t.switchTo d b) :=
  .ite (followInput (h.enterHoldover d) d b) (h.followInput d b)

theorem currentLost (h : InputsKept s t) (d i : Nat) (loss : Bool) : InputsKept s (t.currentLost d i loss) := by
  unfold State.currentLost
  refine .ite (.ite (setFlag rfl (h.enterHoldover d)) (h.enterHoldover d)) ?_
  split
  · exact h.enterHoldover d
  · refine .ite ?_ (h.switchTo d _)
    dsimp only
    split
    · exact h.switchTo d _
    · exact h.enterHoldover d

theorem review (h : InputsKept s t) (d : Nat) : InputsKept s (t.review d) := by
  refine .ite h (.ite (.ite (.ite h (h.followInput d _)) (.ite h (h.currentLost d _ false)))
    (.ite ?_ (.ite h (h.currentLost d _ false))))
  split
  · exact h.followInput d _
  · exact h

theorem reviewAll (h : InputsKept s t) : InputsKept s t.reviewAll := foldl (fun u d => (refl u).review d) h

end InputsKept

namespace State

/-! ## An input disqualifies (R76) -/

/-- The input's own bits when it disqualifies. -/
def disqualified (s : State) (i : Nat) (loss : Bool) : State :=
  let t := if loss then (s.setFlag F.REF_IN_STAT_PRESENT false i).setFlag F.REF_IN_STAT_LOS_SEEN true i else s
  if s.flag F.REF_IN_STAT_QUALIFIED i then (t.setFlag F.REF_IN_STAT_QUALIFIED false i).setFlag F.REF_IN_STAT_DISQ_SEEN true i else t

/-- What a domain does about it. -/
def disqualifiedFor (i : Nat) (loss was : Bool) (s : State) (d : Nat) : State :=
  let follows := s.fld F.REF_DPLL_STAT_CUR_IN d == i && s.fld F.REF_DPLL_STAT_STATE d != dpllOff
  if !s.flag F.REF_DPLL_CAND_EN d i && !follows then s
  else
    let s := if loss then s.hist F.REF_HIST_LOS d else s
    let s := if was then s.hist F.REF_HIST_DISQ d else s
    let s := s.setDpll d { s.dpllOf d with wtrMet := (s.dpllOf d).wtrMet.filter (· != i) }
    if follows then s.currentLost d i loss else s

theorem disqualify_eq (s : State) (i : Nat) (loss : Bool) : s.disqualify i loss =
    (List.range 4).foldl (disqualifiedFor i loss (s.flag F.REF_IN_STAT_QUALIFIED i)) (s.disqualified i loss) := rfl

theorem disqualifiedFor_inputs (i : Nat) (loss was : Bool) (s : State) (d : Nat) : InputsKept s (disqualifiedFor i loss was s d) := by
  refine .ite (.refl s) ?_
  have hlos : InputsKept s (if loss then s.hist F.REF_HIST_LOS d else s) :=
    .ite (InputsKept.setFlag rfl (.refl s)) (.refl s)
  have hdis (c : Prop) [Decidable c] : InputsKept s (if c then (if loss then s.hist F.REF_HIST_LOS d else s).hist F.REF_HIST_DISQ d
      else (if loss then s.hist F.REF_HIST_LOS d else s)) := .ite (InputsKept.setFlag rfl hlos) hlos
  exact .ite (((hdis _).setDpll d).currentLost d i loss) ((hdis _).setDpll d)

theorem disqualify_inputs (s : State) (i : Nat) (loss : Bool) : InputsKept (s.disqualified i loss) (s.disqualify i loss) := by
  rw [disqualify_eq]
  exact .foldl (disqualifiedFor_inputs i loss _) (.refl _)

theorem qualified_disqualified (s : State) (i : Nat) (loss : Bool) : (s.disqualified i loss).flag F.REF_IN_STAT_QUALIFIED i = false := by
  unfold disqualified
  extract_lets t
  split
  case isTrue =>
    rw [flag_setFlag_bits _ F.REF_IN_STAT_DISQ_SEEN F.REF_IN_STAT_QUALIFIED _ i 0 i 0 rfl (by decide) (by decide)]
    exact flag_setFlag_same _ _ _ _ _ (by decide) rfl
  case isFalse h =>
    have hq : t.flag F.REF_IN_STAT_QUALIFIED i = s.flag F.REF_IN_STAT_QUALIFIED i := by
      cases loss with
      | false => rfl
      | true =>
        exact (flag_setFlag_bits _ F.REF_IN_STAT_LOS_SEEN F.REF_IN_STAT_QUALIFIED _ i 0 i 0 rfl (by decide) (by decide)).trans
          (flag_setFlag_bits s F.REF_IN_STAT_PRESENT F.REF_IN_STAT_QUALIFIED _ i 0 i 0 rfl (by decide) (by decide))
    rw [hq]
    exact Bool.eq_false_iff.mpr h

/-- A disqualification leaves the bits that are neither its own nor the loss's. -/
theorem flag_disqualified_other {f : Fld} (s : State) (i : Nat) (loss : Bool) (ha : f.addr i 0 = F.REF_IN_STAT_QUALIFIED.addr i 0)
    (hf : f.hi < 32) (hq : f.hi < 0 ∨ 0 < f.lo) (hd : f.hi < 7 ∨ 7 < f.lo)
    (hl : loss = true → (f.hi < 2 ∨ 2 < f.lo) ∧ (f.hi < 6 ∨ 6 < f.lo)) : (s.disqualified i loss).flag f i = s.flag f i := by
  have ht : (if loss then (s.setFlag F.REF_IN_STAT_PRESENT false i).setFlag F.REF_IN_STAT_LOS_SEEN true i else s).flag f i = s.flag f i := by
    cases loss with
    | false => rfl
    | true =>
      obtain ⟨h2, h6⟩ := hl rfl
      exact (flag_setFlag_bits _ F.REF_IN_STAT_LOS_SEEN f _ i 0 i 0 ha hf h6).trans
        (flag_setFlag_bits s F.REF_IN_STAT_PRESENT f _ i 0 i 0 ha hf h2)
  unfold disqualified
  extract_lets t
  split
  · exact (flag_setFlag_bits _ F.REF_IN_STAT_DISQ_SEEN f _ i 0 i 0 ha hf hd).trans
      ((flag_setFlag_bits _ F.REF_IN_STAT_QUALIFIED f _ i 0 i 0 ha hf hq).trans ht)
  · exact ht

/-- A loss clears PRESENT and sets LOS_SEEN. -/
theorem loss_disqualified (s : State) (i : Nat) :
    (s.disqualified i true).flag F.REF_IN_STAT_PRESENT i = false ∧ (s.disqualified i true).flag F.REF_IN_STAT_LOS_SEEN i = true := by
  let t := (s.setFlag F.REF_IN_STAT_PRESENT false i).setFlag F.REF_IN_STAT_LOS_SEEN true i
  have hp : t.flag F.REF_IN_STAT_PRESENT i = false :=
    (flag_setFlag_bits _ F.REF_IN_STAT_LOS_SEEN F.REF_IN_STAT_PRESENT _ i 0 i 0 rfl (by decide) (by decide)).trans
      (flag_setFlag_same _ _ _ _ _ (by decide) rfl)
  have hl : t.flag F.REF_IN_STAT_LOS_SEEN i = true := flag_setFlag_same _ _ _ _ _ (by decide) rfl
  have hd : s.disqualified i true =
      if s.flag F.REF_IN_STAT_QUALIFIED i then (t.setFlag F.REF_IN_STAT_QUALIFIED false i).setFlag F.REF_IN_STAT_DISQ_SEEN true i
      else t := rfl
  rw [hd]
  split
  · exact ⟨(flag_setFlag_bits _ F.REF_IN_STAT_DISQ_SEEN F.REF_IN_STAT_PRESENT _ i 0 i 0 rfl (by decide) (by decide)).trans
        ((flag_setFlag_bits t F.REF_IN_STAT_QUALIFIED F.REF_IN_STAT_PRESENT _ i 0 i 0 rfl (by decide) (by decide)).trans hp),
      (flag_setFlag_bits _ F.REF_IN_STAT_DISQ_SEEN F.REF_IN_STAT_LOS_SEEN _ i 0 i 0 rfl (by decide) (by decide)).trans
        ((flag_setFlag_bits t F.REF_IN_STAT_QUALIFIED F.REF_IN_STAT_LOS_SEEN _ i 0 i 0 rfl (by decide) (by decide)).trans hl)⟩
  · exact ⟨hp, hl⟩

end State

end Sys2Proof.Machine
end

section
/-! PROOFS. Frequency gates, qualification, and the DPLLs' states (R74 to R77, R82, R85, R89). -/

namespace Sys2Proof.Machine

/-- A two's complement field reads back a value of its range. -/
theorem sext_toField {f : Int} (hlo : -32768 ≤ f) (hhi : f < 32768) : sext 16 (toField 16 f % 2 ^ 16) = f := by
  simp only [sext, toField]
  omega

namespace State

/-! ## A frequency gate (R74, R76) -/

/-- The word of an input after a gate that lies inside its window or not, but for what a disqualification does. -/
def gateSampled (s : State) (i : Nat) (f : Int) (inW : Bool) : State :=
  ((s.setFld F.REF_IN_STAT_FREQ (toField 16 f) i).setFlag F.REF_IN_STAT_PRESENT true i).setFlag F.REF_IN_STAT_IN_WIN inW i

/-- Gates in a row outside the window. -/
def gateRun (s : State) (i : Nat) (inW : Bool) : Nat := if inW then 0 else s.ref.outGates.getD i 0 + 1

/-- The sample with the gates in a row outside the window counted. -/
def gateCounted (s : State) (i : Nat) (f : Int) (inW : Bool) : State :=
  let t := s.gateSampled i f inW
  { t with ref := { t.ref with outGates := t.ref.outGates.set i (s.gateRun i inW) } }

/-- The second gate in a row outside the window disqualifies. -/
def gateJudged (s : State) (i : Nat) (f : Int) (inW : Bool) : State :=
  if 2 ≤ s.gateRun i inW ∧ (s.gateCounted i f inW).flag F.REF_IN_STAT_QUALIFIED i then (s.gateCounted i f inW).disqualify i false
  else s.gateCounted i f inW

/-- What a gate does in a domain: the scale of the followed input, and a disagreement of peers. -/
def gateFor (i : Nat) (f : Int) (s : State) (d : Nat) : State :=
  let s := if s.fld F.REF_DPLL_STAT_CUR_IN d = i then
      let s := s.alignRebase d (freqRate f)
      if s.fld F.REF_DPLL_STAT_STATE d = dpllLocked then
        s.setDpll d { s.dpllOf d with lockLog := lastN (s.avgGates d) ((s.dpllOf d).lockLog ++ [freqRate f]) }
      else s
    else s
  let dis := (List.range 9).any (fun j => j != i && s.candidate d i && s.candidate d j &&
    s.rankOf d i == s.rankOf d j &&
    decide (s.fld F.REF_DPLL_CFG_PEER_THR d * 10 <
      (s.sfld F.REF_IN_STAT_FREQ i - s.sfld F.REF_IN_STAT_FREQ j).natAbs))
  if dis then s.hist F.REF_HIST_PEER_DISAGREE d else s

theorem gateFor_inputs (i : Nat) (f : Int) (s : State) (d : Nat) : InputsKept s (gateFor i f s d) := by
  have hscale : InputsKept s (if s.fld F.REF_DPLL_STAT_CUR_IN d = i then
      (if (s.alignRebase d (freqRate f)).fld F.REF_DPLL_STAT_STATE d = dpllLocked then
        (s.alignRebase d (freqRate f)).setDpll d { (s.alignRebase d (freqRate f)).dpllOf d with
          lockLog := lastN ((s.alignRebase d (freqRate f)).avgGates d)
            (((s.alignRebase d (freqRate f)).dpllOf d).lockLog ++ [freqRate f]) }
      else s.alignRebase d (freqRate f)) else s) :=
    .ite (.ite (((InputsKept.refl s).setDpll d).setDpll d) ((InputsKept.refl s).setDpll d)) (.refl s)
  exact .ite (InputsKept.setFlag rfl hscale) hscale

theorem refGate_off {s : State} {i : Nat} (f : Int) (h : s.flag F.REF_IN_CFG_EN i = false ∨ 9 ≤ i) : s.refGate i f = s :=
  if_pos (by simpa using h)

theorem refGate_ptp {s : State} (f : Int) (he : s.flag F.REF_IN_CFG_EN 3 = true) :
    InputsKept (s.setFld F.REF_IN_STAT_FREQ (toField 16 f) 3) (s.refGate 3 f) := by
  have h : s.refGate 3 f = (List.range 4).foldl (gateFor 3 f) (s.setFld F.REF_IN_STAT_FREQ (toField 16 f) 3) :=
    if_neg (by simp [he])
  rw [h]
  exact .foldl (gateFor_inputs 3 f) (.refl _)

/-- The configuration word is not the status word. -/
theorem inCfg_ne_inStat (i : Nat) : F.REF_IN_CFG_WIN.addr i 0 ≠ F.REF_IN_STAT_FREQ.addr i 0 := by
  simp only [Fld.addr, F.REF_IN_CFG_WIN, F.REF_IN_STAT_FREQ]; omega

theorem win_sampled (s : State) (i : Nat) (v : Nat) (b : Bool) :
    ((s.setFld F.REF_IN_STAT_FREQ v i).setFlag F.REF_IN_STAT_PRESENT b i).fld F.REF_IN_CFG_WIN i = s.fld F.REF_IN_CFG_WIN i :=
  (fld_setFld_word _ F.REF_IN_STAT_PRESENT F.REF_IN_CFG_WIN _ i 0 i 0 (inCfg_ne_inStat i)).trans
    (fld_setFld_word s F.REF_IN_STAT_FREQ F.REF_IN_CFG_WIN v i 0 i 0 (inCfg_ne_inStat i))

/-- A gate of another input: sampled, counted and judged, before the domains look at it. -/
theorem refGate_other {s : State} {i : Nat} (f : Int) (he : s.flag F.REF_IN_CFG_EN i = true) (h3 : i ≠ 3) (h9 : i < 9) :
    InputsKept (s.gateJudged i f (decide (f.natAbs ≤ s.fld F.REF_IN_CFG_WIN i * 100))) (s.refGate i f) := by
  have hon : ¬ ((!s.flag F.REF_IN_CFG_EN i) = true ∨ 9 ≤ i) := by simp [he, h9]
  have h : s.refGate i f = (List.range 4).foldl (gateFor i f)
      (s.gateJudged i f (decide (f.natAbs ≤ s.fld F.REF_IN_CFG_WIN i * 100))) := by
    rw [← win_sampled s i (toField 16 f) true]
    exact (if_neg hon).trans (congrArg (List.foldl (gateFor i f) · (List.range 4)) (if_neg h3))
  rw [h]
  exact .foldl (gateFor_inputs i f) (.refl _)

/-- What a sample shows: the frequency, PRESENT and IN_WIN, with QUALIFIED as it was. -/
theorem gateCounted_fields (s : State) (i : Nat) {f : Int} (inW : Bool) (hlo : -32768 ≤ f) (hhi : f < 32768) :
    (s.gateCounted i f inW).flag F.REF_IN_STAT_PRESENT i = true ∧ (s.gateCounted i f inW).sfld F.REF_IN_STAT_FREQ i = f ∧
      (s.gateCounted i f inW).flag F.REF_IN_STAT_IN_WIN i = inW ∧
      (s.gateCounted i f inW).flag F.REF_IN_STAT_QUALIFIED i = s.flag F.REF_IN_STAT_QUALIFIED i := by
  let t := s.setFld F.REF_IN_STAT_FREQ (toField 16 f) i
  let u := t.setFlag F.REF_IN_STAT_PRESENT true i
  let v := u.setFlag F.REF_IN_STAT_IN_WIN inW i
  have hpresent : v.flag F.REF_IN_STAT_PRESENT i = true :=
    (flag_setFlag_bits u F.REF_IN_STAT_IN_WIN F.REF_IN_STAT_PRESENT _ i 0 i 0 rfl (by decide) (by decide)).trans
      (flag_setFlag_same t _ _ _ _ (by decide) rfl)
  have hfreq : v.fld F.REF_IN_STAT_FREQ i = toField 16 f % 2 ^ 16 :=
    (fld_setFld_bits u F.REF_IN_STAT_IN_WIN F.REF_IN_STAT_FREQ _ i 0 i 0 rfl (by decide) (by decide)).trans
      ((fld_setFld_bits t F.REF_IN_STAT_PRESENT F.REF_IN_STAT_FREQ _ i 0 i 0 rfl (by decide) (by decide)).trans
        (fld_setFld_same s _ _ _ _ (by decide)))
  have hqual : v.fld F.REF_IN_STAT_QUALIFIED i = s.fld F.REF_IN_STAT_QUALIFIED i :=
    (fld_setFld_bits u F.REF_IN_STAT_IN_WIN F.REF_IN_STAT_QUALIFIED _ i 0 i 0 rfl (by decide) (by decide)).trans
      ((fld_setFld_bits t F.REF_IN_STAT_PRESENT F.REF_IN_STAT_QUALIFIED _ i 0 i 0 rfl (by decide) (by decide)).trans
        (fld_setFld_bits s F.REF_IN_STAT_FREQ F.REF_IN_STAT_QUALIFIED _ i 0 i 0 rfl (by decide) (by decide)))
  exact ⟨hpresent, (congrArg (sext 16) hfreq).trans (sext_toField hlo hhi), flag_setFlag_same u _ _ _ _ (by decide) rfl,
    congrArg (· != 0) hqual⟩

theorem gateJudged_inside (s : State) (i : Nat) (f : Int) : s.gateJudged i f true = s.gateCounted i f true :=
  if_neg fun h => absurd (show 2 ≤ 0 from h.1) (by decide)

/-- The second gate in a row outside the window leaves the input unqualified. -/
theorem gateJudged_outside {s : State} {i : Nat} {f : Int} (hlo : -32768 ≤ f) (hhi : f < 32768) (hi : i < 9)
    (h : 1 ≤ s.ref.outGates.getD i 0) :
    (s.gateJudged i f false).flag F.REF_IN_STAT_IN_WIN i = false ∧ (s.gateJudged i f false).flag F.REF_IN_STAT_QUALIFIED i = false := by
  obtain ⟨-, -, hwin, -⟩ := gateCounted_fields s i false hlo hhi
  have hrun : 2 ≤ s.gateRun i false := by
    simp only [gateRun, Bool.false_eq_true, if_false]
    omega
  unfold gateJudged
  split
  case isTrue =>
    have hkept := disqualify_inputs (s.gateCounted i f false) i false
    rw [hkept.flag F.REF_IN_STAT_IN_WIN rfl hi, hkept.flag F.REF_IN_STAT_QUALIFIED rfl hi, qualified_disqualified,
      flag_disqualified_other (f := F.REF_IN_STAT_IN_WIN) _ i false rfl (by decide) (by decide) (by decide) (fun hl => absurd hl Bool.false_ne_true)]
    exact ⟨hwin, rfl⟩
  case isFalse hq =>
    exact ⟨hwin, Bool.eq_false_iff.mpr fun h => hq ⟨hrun, h⟩⟩

/-! ## Loss and qualification (R75, R76) -/

theorem refLoss_on {s : State} {i : Nat} (he : s.flag F.REF_IN_CFG_EN i = true) : s.refLoss i = s.disqualify i true := if_pos he

theorem refQualified_on {s : State} {i : Nat} (he : s.flag F.REF_IN_CFG_EN i = true) (hp : s.flag F.REF_IN_STAT_PRESENT i = true)
    (hw : s.flag F.REF_IN_STAT_IN_WIN i = true) : InputsKept (s.setFlag F.REF_IN_STAT_QUALIFIED true i) (s.refQualified i) := by
  have hon : (s.flag F.REF_IN_CFG_EN i && s.flag F.REF_IN_STAT_PRESENT i && s.flag F.REF_IN_STAT_IN_WIN i) = true := by
    simp [he, hp, hw]
  unfold refQualified
  rw [if_pos hon]
  exact .reviewAll (.foldl (fun t d => .ite ((InputsKept.refl t).setDpll d) (.refl t)) (.refl _))

theorem refQualified_off {s : State} {i : Nat} (h : s.flag F.REF_IN_CFG_EN i = false ∨ s.flag F.REF_IN_STAT_PRESENT i = false ∨
    s.flag F.REF_IN_STAT_IN_WIN i = false) : s.refQualified i = s := by
  refine if_neg ?_
  rcases h with h | h | h <;> simp [h]

/-! ## Wait to restore (R82, R85) -/

theorem refWtr_off {s : State} {d i : Nat} (h : s.flag F.REF_DPLL_CFG_REVERTIVE d = false ∨ s.flag F.REF_DPLL_CFG_FORCE_EN d = true ∨
    s.candidate d i = false ∨ s.fld F.REF_DPLL_STAT_STATE d = dpllOff ∨ s.fld F.REF_DPLL_STAT_CUR_IN d = i) : s.refWtr d i = s := by
  refine if_neg ?_
  rcases h with h | h | h | h | h <;> simp [h]

theorem refWtr_on {s : State} {d i : Nat} (hr : s.flag F.REF_DPLL_CFG_REVERTIVE d = true) (hf : s.flag F.REF_DPLL_CFG_FORCE_EN d = false)
    (hc : s.candidate d i = true) (ho : s.fld F.REF_DPLL_STAT_STATE d ≠ dpllOff) (hi : s.fld F.REF_DPLL_STAT_CUR_IN d ≠ i)
    (hb : s.fld F.REF_DPLL_STAT_CUR_IN d = noInput ∨ s.rankOf d i < s.rankOf d (s.fld F.REF_DPLL_STAT_CUR_IN d)) :
    s.refWtr d i = if s.fld F.REF_DPLL_STAT_STATE d = dpllAbs then
      s.setDpll d { s.dpllOf d with wtrMet := (s.dpllOf d).wtrMet ++ [i] } else s.followInput d i :=
  if_pos (by simp [hr, hf, hc, ho, hi, hb])

/-! ## States of a DPLL (R84, R85, R89) -/

theorem absorbDone_off {s : State} {d : Nat} (hs : s.fld F.REF_DPLL_STAT_STATE d ≠ dpllAbs)
    (ha : s.flag F.REF_RAS_STAT_ALIGNED d = true) : s.absorbDone d = s := if_pos ⟨hs, ha⟩

/-- The end of an absorption: locked, and noted. -/
def absorbed (s : State) (d : Nat) : State :=
  ((s.setFld F.REF_DPLL_STAT_ABS_REM 0 d).setFld F.REF_DPLL_STAT_STATE dpllLocked d).setFlag F.REF_HIST_ABS_DONE true d

/-- The end of an absorption of a generator that stands still, with no input waiting. -/
theorem absorbDone_locks {s : State} {d : Nat} (hs : s.fld F.REF_DPLL_STAT_STATE d = dpllAbs) (hr : s.running d = false)
    (hw : (s.dpllOf d).wtrMet = []) : s.absorbDone d = (s.absorbed d).review d := by
  have hstate : (s.setFld F.REF_DPLL_STAT_ABS_REM 0 d).fld F.REF_DPLL_STAT_STATE d = dpllAbs := by
    rw [fld_setFld_word _ _ _ _ _ _ _ _ (by simp only [Fld.addr, F.REF_DPLL_STAT_ABS_REM, F.REF_DPLL_STAT_STATE]; omega), hs]
  have hstill : ((s.setFld F.REF_DPLL_STAT_ABS_REM 0 d).setFld F.REF_DPLL_STAT_STATE dpllLocked d).running d = false := by
    rw [running, flag,
      fld_setFld_word _ _ _ _ _ _ _ _ (by simp only [Fld.addr, F.REF_RAS_STAT_RUN, F.REF_DPLL_STAT_STATE]; omega),
      fld_setFld_word _ _ _ _ _ _ _ _ (by simp only [Fld.addr, F.REF_RAS_STAT_RUN, F.REF_DPLL_STAT_ABS_REM]; omega)]
    exact hr
  have hwait : ((s.absorbed d).dpllOf d).wtrMet = [] := hw
  unfold absorbDone
  rw [if_neg fun h => h.1 hs]
  extract_lets t u v w revert
  have hu : u = t.setFld F.REF_DPLL_STAT_STATE dpllLocked d := if_pos hstate
  have hv : v = u := if_neg (by rw [hu]; exact hstill ▸ Bool.false_ne_true)
  have hw' : w = s.absorbed d := by
    change v.hist F.REF_HIST_ABS_DONE d = _
    rw [hv, hu]
    rfl
  rw [hw', hwait, List.filter_nil, List.foldl_nil, ite_self]

/-! ## Outliers (R77) -/

/-- An outlier in the history of a domain that follows the input. -/
def outlierFor (i : Nat) (s : State) (d : Nat) : State :=
  if s.fld F.REF_DPLL_STAT_CUR_IN d = i then s.hist F.REF_HIST_OUTLIER d else s

theorem refOutlier_on {s : State} {i : Nat} (he : s.flag F.REF_IN_CFG_EN i = true) :
    s.refOutlier i = (List.range 4).foldl (outlierFor i) (s.incFld F.REF_IN_STAT_OUTLIER i) := if_neg (by simp [he])

theorem outlierFor_inputs (i : Nat) (s : State) (d : Nat) : InputsKept s (outlierFor i s d) :=
  .ite (InputsKept.setFlag rfl (.refl s)) (.refl s)

theorem curIn_outlierFor (i : Nat) (s : State) (d k : Nat) :
    (outlierFor i s d).fld F.REF_DPLL_STAT_CUR_IN k = s.fld F.REF_DPLL_STAT_CUR_IN k := by
  unfold outlierFor
  split
  · exact fld_setFld_word _ _ _ _ _ _ _ _ (by simp only [Fld.addr, F.REF_DPLL_STAT_CUR_IN, F.REF_HIST_OUTLIER]; omega)
  · rfl

theorem outlier_outlierFor (i : Nat) {s : State} (d : Nat) {k : Nat} (h : s.flag F.REF_HIST_OUTLIER k = true) :
    (outlierFor i s d).flag F.REF_HIST_OUTLIER k = true := by
  unfold outlierFor
  split
  · by_cases hk : k = d
    · subst hk
      exact flag_setFlag_same _ _ _ _ _ (by decide) rfl
    · have hword := fld_setFld_word s F.REF_HIST_OUTLIER F.REF_HIST_OUTLIER (b2n true) d 0 k 0
        (by simp only [Fld.addr, F.REF_HIST_OUTLIER]; omega)
      exact (congrArg (· != 0) hword).trans h
  · exact h

/-- Every domain of the list that follows the input has the outlier in its history. -/
theorem outlier_foldl {i k : Nat} (l : List Nat) (s : State) (hc : s.fld F.REF_DPLL_STAT_CUR_IN k = i)
    (h : k ∈ l ∨ s.flag F.REF_HIST_OUTLIER k = true) : (l.foldl (outlierFor i) s).flag F.REF_HIST_OUTLIER k = true := by
  induction l generalizing s with
  | nil => exact h.resolve_left List.not_mem_nil
  | cons d l ih =>
    refine ih _ ((curIn_outlierFor i s d k).trans hc) ?_
    by_cases hk : k = d
    · subst hk
      refine .inr ?_
      rw [outlierFor, if_pos hc]
      exact flag_setFlag_same _ _ _ _ _ (by decide) rfl
    · exact h.imp (fun hm => (List.mem_cons.mp hm).resolve_left hk) (outlier_outlierFor i d)

end State

/-- A row that leaves the inputs' words of a state reads their fields off that state. -/
theorem next_inputs {row : Instr} {f : State → State} {s t u : State} {n : Nat} (hx : exec row s = runEff f s) (hf : f s.begin = t)
    (hk : InputsKept u t) (hn : n < 9) :
    ∃ t', exec row s = .next t' ∧ ∀ g : Fld, g.addr n 0 = F.REF_IN_STAT_FREQ.addr n 0 →
      t'.fld g n = u.fld g n ∧ t'.flag g n = u.flag g n := by
  subst hf
  refine ⟨_, hx.trans (runEff_next f s), fun g hg => ?_⟩
  have hfld := (commit_fld s (f s.begin) g n 0).trans (hk.fld g hg hn)
  exact ⟨hfld, congrArg (· != 0) hfld⟩

/-- Settles O43: the input's own word says what a gate, a loss or a qualification makes of it; the selectors write above it. -/
theorem referencesQualifyAndDplls : Obligations.ReferencesQualifyAndDplls := by
  unfold Obligations.ReferencesQualifyAndDplls
  refine ⟨fun i d f s hp => ?down, fun i f s h => ?gateOff, fun f s hp he hlo hhi => ?gatePtp,
    fun i f s hp he h3 h9 hlo hhi => ⟨fun hw => ?inside, fun hw hg => ?outside⟩, fun i s hp h9 he => ?loss,
    fun i s hp h9 he hpr hw => ?qualified, fun i s h => ?unqualified, fun d i s h => ?wtrOff,
    fun d i s hp hd hi hr hf hc ho hn hb => ?wtr, fun d s hs ha => ?absorbOff, fun d s hp hd hs hr hw => ?absorbed,
    fun d s hp hd => ⟨?locked, ?unlocked⟩, fun i s he => ?outlierOff, fun i s hp h9 he => ?outlier⟩
  case down =>
    exact ⟨does_of (o := []) (exec_refFreqGate i f s) (if_neg (by simp [hp])),
      does_of (o := []) (exec_refInputLoss i s) (if_neg (by simp [hp])),
      does_of (o := []) (exec_refQualified i s) (if_neg (by simp [hp])),
      does_of (o := []) (exec_refWtrExpiry d i s) (if_neg (by simp [hp])),
      does_of (o := []) (exec_dpllAbsorbDone d s) (if_neg (by simp [hp])),
      does_of (o := []) (exec_dpllLocked d s) (if_neg (by simp [hp])),
      does_of (o := []) (exec_dpllLockLost d s) (if_neg (by simp [hp])),
      does_of (o := []) (exec_refPhaseOutlier i s) (if_neg (by simp [hp]))⟩
  case gateOff =>
    refine does_of (o := []) (exec_refFreqGate i f s) ?_
    rw [State.refGate_off (s := s.begin) f h]
    exact ite_self _
  case gatePtp =>
    obtain ⟨t, hx, ht⟩ := next_inputs (n := 3) (exec_refFreqGate 3 f s) (if_pos hp) (State.refGate_ptp (s := s.begin) f he) (by decide)
    have hbit (g : Fld) (ha : g.addr 3 0 = F.REF_IN_STAT_FREQ.addr 3 0) (hg : g.hi < 16) : t.flag g 3 = s.flag g 3 :=
      congrArg (· != 0) ((ht g ha).1.trans
        (State.fld_setFld_bits s.begin F.REF_IN_STAT_FREQ g _ 3 0 3 0 ha (by omega) (.inl hg)))
    have hfreq : t.fld F.REF_IN_STAT_FREQ 3 = toField 16 f % 2 ^ 16 :=
      (ht _ rfl).1.trans (State.fld_setFld_same _ _ _ _ _ (by decide))
    exact ⟨t, hx, (congrArg (sext 16) hfreq).trans (sext_toField hlo hhi), hbit F.REF_IN_STAT_PRESENT rfl (by decide),
      hbit F.REF_IN_STAT_IN_WIN rfl (by decide), hbit F.REF_IN_STAT_QUALIFIED rfl (by decide)⟩
  case inside =>
    have hkept := State.refGate_other (s := s.begin) f he h3 h9
    rw [State.fld_begin, decide_eq_true hw, State.gateJudged_inside] at hkept
    obtain ⟨hpr, hfreq, hwin, hqual⟩ := State.gateCounted_fields s.begin i true hlo hhi
    obtain ⟨t, hx, ht⟩ := next_inputs (exec_refFreqGate i f s) (if_pos hp) hkept h9
    exact ⟨t, hx, (ht F.REF_IN_STAT_PRESENT rfl).2.trans hpr, (congrArg (sext 16) (ht F.REF_IN_STAT_FREQ rfl).1).trans hfreq,
      (ht F.REF_IN_STAT_IN_WIN rfl).2.trans hwin, (ht F.REF_IN_STAT_QUALIFIED rfl).2.trans hqual⟩
  case outside =>
    have hkept := State.refGate_other (s := s.begin) f he h3 h9
    rw [State.fld_begin, decide_eq_false (Nat.not_le.mpr hw)] at hkept
    obtain ⟨hwin, hqual⟩ := State.gateJudged_outside (s := s.begin) hlo hhi h9 hg
    obtain ⟨t, hx, ht⟩ := next_inputs (exec_refFreqGate i f s) (if_pos hp) hkept h9
    exact ⟨t, hx, (ht F.REF_IN_STAT_IN_WIN rfl).2.trans hwin, (ht F.REF_IN_STAT_QUALIFIED rfl).2.trans hqual⟩
  case loss =>
    have hrow : (if s.begin.rst.pUp && decide (i < 9) then s.begin.refLoss i else s.begin) = s.begin.disqualify i true :=
      (if_pos (by simp [hp, h9])).trans (State.refLoss_on (s := s.begin) he)
    obtain ⟨hpr, hseen⟩ := State.loss_disqualified s.begin i
    obtain ⟨t, hx, ht⟩ := next_inputs (exec_refInputLoss i s) hrow (State.disqualify_inputs s.begin i true) h9
    exact ⟨t, hx, (ht F.REF_IN_STAT_PRESENT rfl).2.trans hpr, (ht F.REF_IN_STAT_LOS_SEEN rfl).2.trans hseen,
      (ht F.REF_IN_STAT_QUALIFIED rfl).2.trans (State.qualified_disqualified _ i true)⟩
  case qualified =>
    obtain ⟨t, hx, ht⟩ := next_inputs (exec_refQualified i s) (if_pos (by simp [hp, h9]))
      (State.refQualified_on (s := s.begin) he hpr hw) h9
    exact ⟨t, hx, (ht F.REF_IN_STAT_QUALIFIED rfl).2.trans (State.flag_setFlag_same _ _ _ _ _ (by decide) rfl)⟩
  case unqualified =>
    refine does_of (o := []) (exec_refQualified i s) ?_
    rw [State.refQualified_off (s := s.begin) h]
    exact ite_self _
  case wtrOff =>
    refine does_of (o := []) (exec_refWtrExpiry d i s) ?_
    rw [State.refWtr_off (s := s.begin) h]
    exact ite_self _
  case wtr =>
    exact does_self (exec_refWtrExpiry d i s)
      ((if_pos (by simp [hp, hd, hi])).trans (State.refWtr_on (s := s.begin) hr hf hc ho hn hb))
  case absorbOff =>
    refine does_of (o := []) (exec_dpllAbsorbDone d s) ?_
    rw [State.absorbDone_off (s := s.begin) hs ha]
    exact ite_self _
  case absorbed =>
    exact does_self (exec_dpllAbsorbDone d s)
      ((if_pos (by simp [hp, hd])).trans (State.absorbDone_locks (s := s.begin) hs hr hw))
  case locked =>
    refine does_of (o := []) (exec_dpllLocked d s) ((if_pos (by simp [hp, hd])).trans ?_)
    by_cases h : s.fld F.REF_DPLL_STAT_STATE d = dpllAcq
    · rw [if_pos h]
      exact if_pos h
    · rw [if_neg h]
      exact if_neg h
  case unlocked =>
    refine does_of (o := []) (exec_dpllLockLost d s) ((if_pos (by simp [hp, hd])).trans ?_)
    by_cases h : s.fld F.REF_DPLL_STAT_STATE d = dpllLocked
    · rw [if_pos h]
      refine (if_pos h).trans ?_
      rw [State.hist, State.begin_setFld, State.begin_setFlag]
      rfl
    · rw [if_neg h]
      exact if_neg h
  case outlierOff =>
    refine does_of (o := []) (exec_refPhaseOutlier i s) ?_
    have hoff : s.begin.refOutlier i = s.begin := if_pos (by simp [he])
    rw [hoff]
    exact ite_self _
  case outlier =>
    have hrow : (if s.begin.rst.pUp && decide (i < 9) then s.begin.refOutlier i else s.begin) =
        (List.range 4).foldl (State.outlierFor i) (s.begin.incFld F.REF_IN_STAT_OUTLIER i) :=
      (if_pos (by simp [hp, h9])).trans (State.refOutlier_on (s := s.begin) he)
    have hkept : InputsKept (s.begin.incFld F.REF_IN_STAT_OUTLIER i) (s.begin.refOutlier i) := by
      rw [State.refOutlier_on (s := s.begin) he]
      exact .foldl (State.outlierFor_inputs i) (.refl _)
    refine ⟨_, (exec_refPhaseOutlier i s).trans (runEff_next _ s), ?count, fun d hd hc => ?history⟩
    case count =>
      rw [commit_fld, if_pos (by simp [hp, h9]), hkept.fld F.REF_IN_STAT_OUTLIER rfl h9]
      rfl
    case history =>
      have hcur : (s.begin.incFld F.REF_IN_STAT_OUTLIER i).fld F.REF_DPLL_STAT_CUR_IN d = i := by
        rw [State.incFld, State.addFld, State.fld_setFld_word _ _ _ _ _ _ _ _
          (by simp only [Fld.addr, F.REF_DPLL_STAT_CUR_IN, F.REF_IN_STAT_OUTLIER]; omega)]
        exact hc
      rw [State.flag, commit_fld, hrow]
      exact State.outlier_foldl (List.range 4) _ hcur (.inl (List.mem_range.mpr hd))

end Sys2Proof.Machine
end

section
/-! PROOFS. The audio plane's block boundary, silent streams and meters (R359, R365, R380), and the audio ports (R417 to R429). -/

namespace Sys2Proof.Machine

namespace State

/-! ## Block boundaries (R359) -/

theorem blockBoundary_off {s : State} (h : s.sys.mode = .cold ∨ s.sys.mode = .quench ∨ s.rst.pUp = false) : s.blockBoundary = s :=
  if_pos (by simpa using h)

/-- The guard of a block that begins. -/
theorem block_begins {s : State} (hc : s.sys.mode ≠ .cold) (hq : s.sys.mode ≠ .quench) (hp : s.rst.pUp = true) :
    ¬ (s.sys.mode = .cold ∨ s.sys.mode = .quench ∨ (!s.rst.pUp) = true) := by
  simp [hc, hq, hp]

/-- The number of the block that begins. -/
def blockNext (s : State) : Nat := if s.tim.stepped.isSome then s.gridNow else max s.gridNow (s.aud.block + 1)

/-- The results of the cores' tasks for the block that ends. -/
def blockResults (s : State) : State × List ChanBlock :=
  (List.range 68).foldl coreEnd (s.setFlag F.AUD_STAT_TIME_WAIT (!s.flag F.TIM_STATUS_TIME_VALID), [])

/-- The grid realigned, the results and returns for the block taken, and the crosspoint run unless time was stepped. -/
def blockAdvanced (w : State) (stepped : Bool) (n : Nat) (res rets : List ChanBlock) : State :=
  let c := w.realign n
  let c : State := { c with aud := { c.aud with
    intl := res.filter (fun (k : ChanBlock) => decide (0x8000 ≤ k.ref)) ++ rets, block := n, delays := c.aud.delays.map (lineTrim n) } }
  if stepped then c else c.runXp n

/-- The senders, embedders and meters take the block that ended; inputs are read for the one that begins. -/
def blockSent (c : State) (prev n : Nat) : State :=
  ((((c.lineSend prev).embedCollect prev).meterBlock prev).sendStreams n).readInputs n

/-- Snapshots are taken, new tables come into force, and the cores start. -/
def blockStarted (c : State) (n : Nat) (res : List ChanBlock) : State :=
  let c : State := { c with aud := { c.aud with read := c.aud.read ++ res.filter (fun (k : ChanBlock) => decide (k.ref < 0x8000)) } }
  let c := c.snapCapture.newtInstall n
  let c := (List.range 68).foldl (fun (t : State) k => t.coreTable k) c
  (List.range 68).foldl (fun (t : State) k => t.coreStart k) c

/-- The phases of a block boundary after the cores' results `a` and the delay lines' returns `b`. -/
def blockPhases (stepped : Bool) (n : Nat) (a b : State × List ChanBlock) : State :=
  ((b.1.blockAdvanced stepped n a.2 b.2).blockSent b.1.aud.block n).blockStarted n a.2

theorem blockBoundary_on {s : State} (hc : s.sys.mode ≠ .cold) (hq : s.sys.mode ≠ .quench) (hp : s.rst.pUp = true) :
    s.blockBoundary = blockPhases s.tim.stepped.isSome s.blockNext s.blockResults
      (s.blockResults.1.deliverAll (s.blockResults.1.lineReturns s.blockNext)) := by
  unfold blockBoundary
  rw [if_neg (block_begins hc hq hp)]
  extract_lets stepped n u
  have ha : List.foldl coreEnd (u, []) (List.range 68) = s.blockResults := rfl
  have hn : n = s.blockNext := rfl
  rw [ha]
  clear_value n
  subst hn
  generalize s.blockResults = a
  obtain ⟨v, res⟩ := a
  dsimp -zeta only
  generalize v.deliverAll (v.lineReturns s.blockNext) = b
  obtain ⟨w, rets⟩ := b
  dsimp -zeta only
  extract_lets prev s1 _ s2 s3 s4 s5
  have h3 : s3 = w.blockAdvanced stepped s.blockNext res rets := rfl
  have h5 : s5 = s3.blockSent prev s.blockNext := rfl
  clear_value s5
  change s5.blockStarted s.blockNext res = _
  rw [h5, h3]
  rfl

/-! ## Streams and meters (R365, R380) -/

theorem streamLoss_none {s : State} {n : Nat} (h : s.astream n = none) : s.streamLoss n = s := by
  simp only [streamLoss, h]

theorem streamLoss_kept {s : State} {n : Nat} {x : AStream} (h : s.astream n = some x) (hx : x.isIn = false ∨ x.loss = true) :
    s.streamLoss n = s := by
  simp only [streamLoss, h]
  exact if_neg (by rcases hx with hx | hx <;> simp [hx])

theorem streamLoss_lost {s : State} {n : Nat} {x : AStream} (h : s.astream n = some x) (hi : x.isIn = true) (hl : x.loss = false) :
    s.streamLoss n = (s.setAstream { x with loss := true }).raise fltAudStreamLoss [n] := by
  simp only [streamLoss, h]
  exact if_pos (by simp [hi, hl])

theorem meterWindow_of_filter {s : State} {l : List MeterAcc} (h : s.aud.meters.filter (fun m => decide (0 < m.n)) = l) :
    s.meterWindow = l.foldl (fun (s : State) m => s.meterPublish m) s := by
  rw [meterWindow, h]

end State

/-- Settles O45: past its guard the boundary is the phases in the statement's order. -/
theorem audioBlocksStreamsAndMeters : Obligations.AudioBlocksStreamsAndMeters := by
  unfold Obligations.AudioBlocksStreamsAndMeters
  refine ⟨fun s h => does_of (o := []) (exec_blockBoundary s) (State.blockBoundary_off (s := s.begin) h),
    fun s hc hq hp => ?block,
    fun n s h => does_of (o := []) (exec_audioStreamLoss n s) (State.streamLoss_none (s := s.begin) h),
    fun n x s h hx => does_of (o := []) (exec_audioStreamLoss n s) (State.streamLoss_kept (s := s.begin) h hx),
    fun n x s h hi hl => does_self (exec_audioStreamLoss n s) (State.streamLoss_lost (s := s.begin) h hi hl),
    fun s h => does_of (o := []) (exec_meterWindowEnd s) (State.meterWindow_of_filter (s := s.begin) h),
    fun m s h => does_self (exec_meterWindowEnd s) (State.meterWindow_of_filter (s := s.begin) h)⟩
  case block =>
    have hdoes := does_self (exec_blockBoundary s) (State.blockBoundary_on (s := s.begin) hc hq hp)
    extract_lets stepped n a b c1 _ c2 c3 c4
    have ha : a = s.begin.blockResults := rfl
    have hn : n = s.begin.blockNext := rfl
    have hb : b = a.1.deliverAll (a.1.lineReturns n) := rfl
    clear_value b a n
    have h3 : c3 = b.1.blockAdvanced stepped n a.2 b.2 := rfl
    have h4 : c4 = c3.blockSent b.1.aud.block n := rfl
    clear_value c4
    change Does .blockBoundary s (c4.blockStarted n a.2)
    rw [h4, h3, hb, ha, hn]
    exact hdoes

end Sys2Proof.Machine
end

section
/-! PROOFS. Audio ports (R417 to R429): TDM frames and AES3 stretches. -/

namespace Sys2Proof.Machine

namespace State

/-! ## TDM frames (R423) -/

theorem tdmPort_off {s : State} {f : TdmPort} (h : 16 ≤ f.port ∨ s.fld F.APT_PORT_STAT_FORMAT f.port ≠ 2 ∨ s.sys.mode = .quench ∨
    s.sys.mode = .cold) : s.tdmPort f = s := by
  refine if_pos ?_
  rcases h with h | h | h | h
  · exact .inl fun hc => by omega
  · exact .inl fun hc => h hc.2
  · exact .inr (.inl h)
  · exact .inr (.inr h)

/-- A TDM port at a frame: locked, restarted where it waits for it, with the masks that are due. -/
def tdmFramed (s : State) (p : Nat) : State :=
  (((s.setAptPort p { s.aptPort p with waitIn := false, waitOut := false }).setFlag F.APT_PORT_STAT_LOCK true p).portRestart
    p).portMasks p true true

/-- The samples of the enabled slots of a frame. -/
def tdmSamples (t : State) (f : TdmPort) : List (BitVec 32 × Bool) :=
  (maskSlots false (t.fld F.APT_TDM_CFG_SLOTS + 1) (t.fld F.APT_MASK_ACTIVE_IN_MASK f.port)).map
    (fun i => (slotSample (tdmWidth (t.fld F.APT_TDM_CFG_WIDTH)) (f.words.getD i 0), f.lost.contains i))

/-- The samples of a frame passed on at the next position. -/
def tdmTaken (t : State) (f : TdmPort) (n : Nat) : State :=
  (t.setAptPort f.port { t.aptPort f.port with inNext := some (n + 1) }).portFrameIn f.port n (t.portMul f.port) (t.tdmSamples f)

/-- The input side of a frame. -/
def tdmIn (t : State) (f : TdmPort) : State :=
  if t.flag F.APT_PORT_CFG_IN_EN f.port then
    let r := t.portNext (t.portMul f.port) (t.aptPort f.port).inNext
    let u := t.tdmTaken f r.1
    if r.2 && !u.flag F.APT_PORT_CFG_SRC_EN f.port then u.portSlip f.port false else u
  else t

theorem tdmIn_disabled {t : State} {f : TdmPort} (h : t.flag F.APT_PORT_CFG_IN_EN f.port = false) : t.tdmIn f = t :=
  if_neg (by simp [h])

theorem tdmIn_steady {t : State} {f : TdmPort} (h : t.flag F.APT_PORT_CFG_IN_EN f.port = true)
    (hr : (t.portNext (t.portMul f.port) (t.aptPort f.port).inNext).2 = false) :
    t.tdmIn f = t.tdmTaken f (t.portNext (t.portMul f.port) (t.aptPort f.port).inNext).1 :=
  (if_pos h).trans (if_neg (by simp [hr]))

/-- A frame of a port whose output is disabled. -/
theorem tdmPort_input {s : State} {f : TdmPort} (hp : f.port < 16) (hf : s.fld F.APT_PORT_STAT_FORMAT f.port = 2)
    (hq : s.sys.mode ≠ .quench) (hc : s.sys.mode ≠ .cold)
    (ho : ((s.tdmFramed f.port).tdmIn f).flag F.APT_PORT_CFG_OUT_EN f.port = false) :
    s.tdmPort f = (s.tdmFramed f.port).tdmIn f := by
  have hon : ¬ (¬ (f.port < 16 ∧ s.fld F.APT_PORT_STAT_FORMAT f.port = 2) ∨ s.sys.mode = .quench ∨ s.sys.mode = .cold) := by
    simp [hp, hf, hq, hc]
  refine (if_neg hon).trans (if_neg ?_)
  exact Bool.eq_false_iff.mp ho

/-! ## AES3 (R418 to R422) -/

section
variable {s : State} {p : Nat} (rx : AesRx)

theorem aesZ_off (h : s.isAes p = false ∨ s.flag F.APT_PORT_STAT_BLOCK_LOCK p = true) : s.aesZ p rx = s :=
  if_pos (by rcases h with h | h <;> simp [h])

theorem aesZ_on (ha : s.isAes p = true) (hl : s.flag F.APT_PORT_STAT_BLOCK_LOCK p = false) : s.aesZ p rx =
    ((((((s.setAptPort p { s.aptPort p with waitIn := false }).setFlag F.APT_PORT_STAT_LOCK true p).setFlag
      F.APT_PORT_STAT_BLOCK_LOCK true p).portRestart p).portMasks p true false).aesFrames p rx) :=
  if_neg (by simp [ha, hl])

/-- The guard of the rows of a port in block sync. -/
theorem not_inSync (h : s.isAes p = false ∨ s.flag F.APT_PORT_STAT_BLOCK_LOCK p = false) :
    (!s.isAes p || !s.flag F.APT_PORT_STAT_BLOCK_LOCK p) = true := by
  rcases h with h | h <;> simp [h]

theorem inSync (ha : s.isAes p = true) (hl : s.flag F.APT_PORT_STAT_BLOCK_LOCK p = true) :
    ¬ (!s.isAes p || !s.flag F.APT_PORT_STAT_BLOCK_LOCK p) = true := by
  simp [ha, hl]

theorem aesTxBlock_off (l : List Nat) (h : s.isAes p = false ∨ s.flag F.APT_PORT_CFG_OUT_EN p = false) : s.aesTxBlock p l = s :=
  if_pos (by rcases h with h | h <;> simp [h])

/-- What is pending for a block start: channel status with its check, masks and a restart. -/
def aesBlockDue (s : State) (p : Nat) : State :=
  let t := (s.aptPort p).csPend.foldl (fun (t : State) c => t.csStore F.APT_CS_TX_BYTES_W0 p c.1 c.2) s
  let t := t.setAptPort p { t.aptPort p with csPend := [], waitOut := false }
  let t := (List.range 2).foldl (fun (t : State) k =>
    let b := t.csLoad F.APT_CS_TX_BYTES_W0 p k
    t.csStore F.APT_CS_TX_BYTES_W0 p k (b.take 23 ++ [BitVec.ofNat 8 (crcc b)])) t
  (t.portRestart p).portMasks p false true

/-- A port that waits for its first block start takes what is pending, and sends nothing yet. -/
theorem aesTxBlock_first (l : List Nat) (ha : s.isAes p = true) (ho : s.flag F.APT_PORT_CFG_OUT_EN p = true)
    (hw : (s.aptPort p).waitOut = true) : s.aesTxBlock p l = s.aesBlockDue p := by
  have hon : ¬ (!s.isAes p || !s.flag F.APT_PORT_CFG_OUT_EN p) = true := by simp [ha, ho]
  unfold aesTxBlock
  rw [if_neg hon]
  extract_lets mul x u
  have hu : u = s := if_pos hw
  clear_value u
  subst hu
  rfl

end

end State

/-- Settles O46: each row is its guard and its operation. -/
theorem audioPortsFollowTheirFrames : Obligations.AudioPortsFollowTheirFrames := by
  unfold Obligations.AudioPortsFollowTheirFrames
  refine ⟨fun s => does_of (o := []) (exec_tdmFrameSync [] s) rfl,
    fun f s h => does_of (o := []) (exec_tdmFrameSync [f] s) (State.tdmPort_off (s := s.begin) h),
    fun f s hp hf hq hc => ⟨fun hi ho => ?still, fun hi hr ho => ?taken⟩,
    fun p rx s h => does_of (o := []) (exec_aes3ZPreambleReceive p rx s) (State.aesZ_off (s := s.begin) rx h),
    fun p rx s ha hl => does_self (exec_aes3ZPreambleReceive p rx s) (State.aesZ_on (s := s.begin) rx ha hl),
    fun p b rx s h => ⟨does_of (o := []) (exec_aes3BlockEnd p b rx s) (if_pos (State.not_inSync (s := s.begin) h)),
      does_of (o := []) (exec_aes3BlockSyncLoss p rx s) (if_pos (State.not_inSync (s := s.begin) h))⟩,
    fun p b rx s ha hl => ⟨does_self (exec_aes3BlockEnd p b rx s) (if_neg (State.inSync (s := s.begin) ha hl)),
      does_self (exec_aes3BlockSyncLoss p rx s) (if_neg (State.inSync (s := s.begin) ha hl))⟩,
    fun p l s h => does_of (o := []) (exec_aes3TxBlockStart p l s) (State.aesTxBlock_off (s := s.begin) l h),
    fun p l s ha ho hw => does_self (exec_aes3TxBlockStart p l s) (State.aesTxBlock_first (s := s.begin) l ha ho hw)⟩
  case still =>
    have hin := State.tdmIn_disabled (t := s.begin.tdmFramed f.port) hi
    refine does_self (exec_tdmFrameSync [f] s) ((State.tdmPort_input (s := s.begin) hp hf hq hc ?_).trans hin)
    rw [hin]
    exact ho
  case taken =>
    have hin := State.tdmIn_steady (t := s.begin.tdmFramed f.port) hi hr
    refine does_self (exec_tdmFrameSync [f] s) ((State.tdmPort_input (s := s.begin) hp hf hq hc ?_).trans hin)
    rw [hin]
    exact ho

end Sys2Proof.Machine
end

section
/-! PROOFS. Report intervals and datagrams (R433, R436, R446, R447), and GPIO events (R608, R609). -/

namespace Sys2Proof.Machine

namespace State

/-! ## Report intervals (R436) -/

theorem measInterval_off {s : State} (h : s.sys.mode = .cold ∨ s.rst.pUp = false) (b : Bool) : s.measInterval b = s :=
  if_pos (by simpa using h)

/-- A new interval begins empty, with its number from the present media time. -/
def IntervalBegun (t : State) : Prop :=
  t.meas.stats = [] ∧ t.meas.deleted = [] ∧ t.meas.cfgPend = [] ∧
    t.meas.k = t.mediaNs / (100000000 * max 1 (t.fld F.MEAS_CFG_RPT_INT))

theorem intervalBegun_commit (s : State) {t : State} (h : IntervalBegun t) : IntervalBegun (s.commit t) := by
  unfold IntervalBegun at h ⊢
  rw [commit_meas, commit_fld]
  have hmedia : (s.commit t).mediaNs = t.mediaNs := by
    unfold mediaNs ptpNs flag
    rw [ptpNow_of_tim (commit_tim s t) (commit_tick s t), commit_fld, commit_tick]
  rw [hmedia]
  exact h

/-- The last act of an interval's end. -/
def intervalEnded (t : State) (known : List (Nat × Nat)) : State :=
  { t with meas := { t.meas with
    stats := [], deleted := [], known := known, cfgPend := [], k := t.mediaNs / (100000000 * max 1 (t.fld F.MEAS_CFG_RPT_INT)) } }

theorem intervalBegun_ended (t : State) (known : List (Nat × Nat)) : IntervalBegun (t.intervalEnded known) := ⟨rfl, rfl, rfl, rfl⟩

theorem measInterval_eq {s : State} (hc : s.sys.mode ≠ .cold) (hp : s.rst.pUp = true) (b : Bool) :
    ∃ t known, s.measInterval b = intervalEnded t known := by
  have hon : ¬ (s.sys.mode = .cold ∨ (!s.rst.pUp) = true) := by simp [hc, hp]
  unfold measInterval
  rw [if_neg hon]
  extract_lets u v
  generalize v.measRecords b = r
  obtain ⟨w, recs⟩ := r
  dsimp -zeta only
  extract_lets x live one y z known
  exact ⟨z, known, rfl⟩

theorem measInterval_begun {s : State} (hc : s.sys.mode ≠ .cold) (hp : s.rst.pUp = true) (b : Bool) :
    IntervalBegun (s.measInterval b) := by
  obtain ⟨t, known, h⟩ := measInterval_eq hc hp b
  rw [h]
  exact intervalBegun_ended t known

/-! ## Datagrams (R433, R446, R447) -/

section
variable {s : State} {d : Nat}

theorem measSend_off (h : 4 ≤ d ∨ s.measSends d = false ∨ s.nextDgram d = none) : s.measSend d = s := by
  by_cases hg : ¬ (d < 4) ∨ (!s.measSends d) = true
  · exact if_pos hg
  · have hn : s.nextDgram d = none := by
      obtain ⟨hd, hs⟩ := not_or.mp hg
      rcases h with h | h | h
      · omega
      · simp [h] at hs
      · exact h
    unfold measSend
    rw [if_neg hg, hn]

/-- The datagram taken from its queue. -/
def dgramTaken (s : State) (d : Nat) (alarm : Bool) : State :=
  { s with meas := { s.meas with
    alarmQ := if alarm then popDgram d s.meas.alarmQ else s.meas.alarmQ,
    queues := if alarm then s.meas.queues else popDgram d s.meas.queues } }

/-- The bytes of a datagram as they leave. -/
def dgramBody (s : State) (d : Nat) (b : Bytes) : Bytes :=
  be 4 (s.fld F.MEAS_STREAM_CFG_DST_IP d) ++ be 2 (s.fld F.MEAS_STREAM_CFG_SRC_PORT d) ++ be 2 (s.fld F.MEAS_STREAM_CFG_DST_PORT d) ++
    b.take 4 ++ leBytes 4 (s.fld F.MEAS_STREAM_CFG_SEQ d) ++ b.drop 8

/-- The taken datagram with the destination's number moved on. -/
def dgramNumbered (s : State) (d : Nat) (alarm : Bool) : State :=
  (s.dgramTaken d alarm).setFld F.MEAS_STREAM_CFG_SEQ ((s.fld F.MEAS_STREAM_CFG_SEQ d + 1) % 4294967296) d

theorem measSend_on {alarm : Bool} {b : Bytes} (hd : d < 4) (hs : s.measSends d = true) (hn : s.nextDgram d = some (alarm, b)) :
    s.measSend d =
      if s.fld F.MEAS_STREAM_CFG_PORT d < 32 ∧ !s.flag F.MAC_LINK_STAT_LINK_UP (s.fld F.MEAS_STREAM_CFG_PORT d) then
        (s.dgramTaken d alarm).dgramDrop d
      else if s.fld F.MEAS_STREAM_CFG_PORT d < 32 then
        (s.dgramNumbered d alarm).offer ⟨s.fld F.MEAS_STREAM_CFG_PORT d, 3, 0x30, 0, 0, none, b.length + 46,
          ethDst (s.fld F.MEAS_STREAM_CFG_DST_IP d), s.dgramBody d b, 0⟩ false
      else (s.dgramNumbered d alarm).emit (.frame (s.fld F.MEAS_STREAM_CFG_PORT d) 0x30 (s.dgramBody d b)) := by
  have hon : ¬ (¬ (d < 4) ∨ (!s.measSends d) = true) := by simp [hd, hs]
  unfold measSend
  rw [if_neg hon, hn]
  rfl

end

/-! ## GPIO (R608, R609) -/

section
variable {s : State} {p : Nat} {l : Bool}

theorem gpioEvent_off (h : 64 ≤ p ∨ s.rst.aUp = false ∨ s.flag F.GPIO_PIN_STAT_IN p = l) : s.gpioEvent p l = s :=
  if_pos (by simpa using h)

theorem gpioEvent_on (hp : p < 64) (ha : s.rst.aUp = true) (hl : s.flag F.GPIO_PIN_STAT_IN p ≠ l) : s.gpioEvent p l =
    if (s.setFlag F.GPIO_PIN_STAT_IN l p).flag F.GPIO_PIN_STAT_QUARANTINE p then s.setFlag F.GPIO_PIN_STAT_IN l p
    else (s.setFlag F.GPIO_PIN_STAT_IN l p).gpioAccepted p l :=
  if_neg (by simp [hl, ha]; omega)

/-- An accepted change, counted in its window. -/
def gpioCounted (q : State) (p : Nat) : State :=
  let t := q.incFld F.GPIO_PIN_STAT_EVT_CNT p
  { t with gpio := { t.gpio with window := sset (fun _ => 0) t.gpio.window p (sget (fun _ => 0) q.gpio.window p + 1) } }

theorem gpioAccepted_eq (q : State) (p : Nat) (l : Bool) : q.gpioAccepted p l =
    if (q.gpioCounted p).fld F.GPIO_PIN_LIM_EVT_LIMIT p < sget (fun _ => 0) q.gpio.window p + 1 then
      (q.gpioCounted p).setFlag F.GPIO_PIN_STAT_QUARANTINE true p
    else if q.sys.mode = .cold then
      (if (q.gpioCounted p).wakeMask p then { q.gpioCounted p with sys := { (q.gpioCounted p).sys with wakePend := true } }
       else q.gpioCounted p)
    else (q.gpioCounted p).trigger p l := rfl

end

end State

/-- Settles O47: the rows past their guards, whose cases are the statement's. -/
theorem intervalsDatagramsAndGpio : Obligations.IntervalsDatagramsAndGpio := by
  unfold Obligations.IntervalsDatagramsAndGpio
  refine ⟨fun s h => does_of (o := []) (exec_reportIntervalEnd s) (State.measInterval_off (s := s.begin) h false),
    fun s hc hp => ⟨_, (exec_reportIntervalEnd s).trans (runEff_next _ s),
      State.intervalBegun_commit s (State.measInterval_begun (s := s.begin) hc hp false)⟩,
    fun d s h => does_of (o := []) (exec_measDatagramSend d s) (State.measSend_off (s := s.begin) h),
    fun d alarm b s hd hs hn => ?datagram,
    fun p l s h => does_of (o := []) (exec_gpioEvent p l s) (State.gpioEvent_off (s := s.begin) h),
    fun p l s hp ha hl => ?gpio, fun s => does_of (o := []) (exec_gpioWindowEnd s) rfl⟩
  case datagram =>
    have hsend := State.measSend_on (s := s.begin) hd hs hn
    refine ⟨fun hp => ?management, fun hp hl => ?noLink, fun hp hl => ?offered⟩
    case management =>
      exact hands_of (exec_measDatagramSend d s) (hsend.trans ((if_neg fun h => absurd h.1 (Nat.not_lt.mpr hp)).trans
        (if_neg (Nat.not_lt.mpr hp))))
    case noLink =>
      exact does_self (exec_measDatagramSend d s) (hsend.trans (if_pos ⟨hp, by simp [hl]⟩))
    case offered =>
      exact does_self (exec_measDatagramSend d s) (hsend.trans ((if_neg fun h => by simp [hl] at h).trans (if_pos hp)))
  case gpio =>
    have hevent := State.gpioEvent_on (s := s.begin) hp ha hl
    refine ⟨fun hq => does_self (exec_gpioEvent p l s) (hevent.trans (if_pos hq)), fun hq => ?_⟩
    have hcount := hevent.trans ((if_neg (Bool.eq_false_iff.mp hq)).trans (State.gpioAccepted_eq _ p l))
    exact ⟨fun hn => does_self (exec_gpioEvent p l s) (hcount.trans (if_pos hn)),
      fun hn hc hw => does_self (exec_gpioEvent p l s)
        (hcount.trans ((if_neg (Nat.not_lt.mpr hn)).trans ((if_pos hc).trans (if_pos hw)))),
      fun hn hc hw => does_self (exec_gpioEvent p l s)
        (hcount.trans ((if_neg (Nat.not_lt.mpr hn)).trans ((if_pos hc).trans (if_neg (Bool.eq_false_iff.mp hw))))),
      fun hn hc => does_self (exec_gpioEvent p l s) (hcount.trans ((if_neg (Nat.not_lt.mpr hn)).trans (if_neg hc)))⟩

end Sys2Proof.Machine
end
